-- ==== Sys2Proof/Word.lean ====
section
/-! DEFINITION. The word types of the A256 (R1, R7, R8) and the plain table type that sparse state is kept in. -/

namespace Sys2Proof

/-- A host register: 32 bits (R8). -/
abbrev Word := BitVec 32

/-- The native word: 36 bits, bit 35 most significant (R1). -/
abbrev Native := BitVec 36

/-- A byte of a byte-addressed store. -/
abbrev Byte := BitVec 8

/-- The 72-bit Epoch count of ticks (R7). -/
abbrev Epoch := BitVec 72

/-- Sparse data by key: pairs in strictly rising key order, none of them equal to what an unlisted key reads as. -/
abbrev Tbl (β : Type) := List (Nat × β)

end Sys2Proof
end

