-- ==== Sys2Proof/Syntax.lean ====
section
/-! DEFINITION. The commands of the A256: one constructor for each row of the opcode table, with the operands the rule
of the row speaks of. The table gives its rows no fields, so the operands are the model's (log entry 2). Every command
first carries `dt`, the ticks (R7) that have passed since the command before it (log entry 1). -/

namespace Sys2Proof

/-- Who accesses registers (R394): the two PCIe functions, the SMBus target, the Ethernet management port of each
octet, and each ring position that sends CTL requests. -/
inductive Requester where
  | pf0
  | pf1
  | smbus
  | eth (octet : Fin 4)
  | ring (pos : Fin 64)
  deriving DecidableEq, Repr

/-- A ring direction (R276). -/
inductive Dir where
  | east
  | west
  deriving DecidableEq, Repr

/-- What the row of a training attempt, a check or a device-side test answers. -/
inductive Verdict where
  | pass
  | fail
  deriving DecidableEq, Repr

/-- The outcome that a scrub or a use finds at a protected SRAM word (R351). -/
inductive SramFind where
  /-- A single-bit error, corrected in place. -/
  | corrected
  /-- An uncorrectable word of the Eve slice of a bank, holding a sample of channel `chan` taken at `instant`. -/
  | eve (bank chan : Fin 16) (instant : Nat)
  /-- An uncorrectable word of a Tally-held sum of a group. -/
  | tally (group : Fin 32)
  /-- An uncorrectable word of a histogram grid of a group. -/
  | grid (group : Fin 32)
  /-- An uncorrectable word of a Harvest local memory. -/
  | lmem (engine : Fin 5) (word : Fin 4096)
  /-- An uncorrectable copy in the AON ledger SRAM, restored from the other copy. -/
  | ledger
  deriving DecidableEq, Repr

/-- What the patrol scrub or a read finds at one granule of a row (R211). -/
inductive GranuleFind where
  | clean
  | corrected (multiBit : Bool)
  | uncorrectable
  deriving DecidableEq, Repr

/-- A read of a slot of a stack (R195), for a requesting port (R201). -/
structure SlotRead where
  slot : Nat
  port : Fin 25
  deriving DecidableEq, Repr

/-- The bytes a view is asked for: from an address on, so many. -/
structure Span where
  addr : Nat
  len : Nat
  deriving DecidableEq, Repr

/-- How a capture granule is refused (R203): for a full queue or for want of a token, and whether the granule is one of the
pre-trigger ring (R140) or of a record. -/
structure RefusedAs where
  queueFull : Bool
  ring : Bool
  deriving DecidableEq, Repr

/-- What training finds at the far end of a ring segment (R277): the highest generation of its unit, and whether it is an A064. -/
structure FarEnd where
  genMax : Nat
  a064 : Bool
  deriving DecidableEq, Repr

/-- A ring link frame that fails its CRC (R276): of class TRIG or another, and the later bad frames of its replay. -/
structure BadFrame where
  trig : Bool
  later : Nat
  deriving DecidableEq, Repr

/-- What an ALIGN frame reports of the neighbour that sent it (R279, R287 to R289, R306): its position where one is set,
whether it is an A064, the Epoch source it follows and its hop distance to it, the stamp of the frame's departure, the stamp
at which it took our latest ALIGN frame, and the ticks that an Epoch load on the source has just added. The spec gives the
frame no layout. -/
structure AlignBody where
  pos : Option (Fin 64)
  a064 : Bool
  source : Option (Fin 64)
  hops : Nat
  departed : Nat
  took : Option Nat
  load : Int
  deriving DecidableEq, Repr

/-- One command. -/
inductive Instr where
  /-- REGISTER_WRITE (R10). A host or ring write to a register that has no row of its own is judged for width, alignment and class; if allowed it is applied, with split quantities held until their low part is written. -/
  | registerWrite (dt : Nat) (rq : Requester) (off width value : Nat)
  /-- SPLIT_LOW_READ (R9). A read of the _LO or _0 part of a split quantity latches its upper parts for that requester. -/
  | splitLowRead (dt : Nat) (rq : Requester) (off width : Nat)
  /-- COLD_RESET (R324). VDD_AON enters tolerance and the whole device is reset, with the ledger restored from the journal. -/
  | coldReset (dt : Nat)
  /-- RST_N_ASSERT (R324). RST_N is held low for 1 µs and requests a warm reset. -/
  | rstNAssert (dt : Nat)
  /-- GLB_RESET_WRITE (R324). Writing 0xA256_0001 to GLB_RESET requests a warm reset; any other value is ignored. -/
  | glbResetWrite (dt : Nat) (rq : Requester) (value : Word)
  /-- WATCHDOG_EXPIRY (R327). The service cores have not signalled progress for 2 s, and the AON domain causes a warm reset with cause WATCHDOG. -/
  | watchdogExpiry (dt : Nat)
  /-- FUNDAMENTAL_RESET (R324). PERST_N is asserted, which resets the PCIe link and functions; the rest acts as a warm reset. -/
  | fundamentalReset (dt : Nat)
  /-- WARM_RESET_ASSERT (R325). Once the stacks are in self-refresh, the internal reset is asserted and BAR0 reads return all ones outside GLB and PWR. -/
  | warmResetAssert (dt : Nat)
  /-- RESET_RELEASE (R325). The internal reset is released at B, and the clocks, stacks and Almanac loading follow. -/
  | resetRelease (dt : Nat)
  /-- DEFAULT_ALMANAC_LOAD (R49). After a reset with ALM_BOOT.SRC 0, the device starts by itself to check and load the ALMD of the active bank. -/
  | defaultAlmanacLoad (dt : Nat)
  /-- ALMANAC_LOAD (R49). ALM_CTL.LOAD starts checking and loading the staged host image in EMPTY or FAILED; in any other state it is refused with STATE. -/
  | almanacLoad (dt : Nat)
  /-- ALMANAC_CHECK_END (R47). Checking of an image ends; the image fails with a code, is loaded, or has its reload scheduled. -/
  | almanacCheckEnd (dt : Nat)
  /-- ALMANAC_RELOAD (R54). ALM_CTL.RELOAD starts checking a staged image for a bank-by-bank reload, and in Fast or Fallow it first demands an exit. -/
  | almanacReload (dt : Nat)
  /-- RELOAD_ASLEEP_TIMEOUT (R47). A RELOAD whose demanded exit has not completed within 20 ms fails with code 0x16 ASLEEP. -/
  | reloadAsleepTimeout (dt : Nat)
  /-- RELOAD_CANCEL (R54). ALM_CTL.CANCEL withdraws a scheduled reload, or is refused when STATE is not SCHEDULED. -/
  | reloadCancel (dt : Nat)
  /-- RELOAD_COMMIT (R54). At the commit instant T, the groups covering affected banks stop and those banks enter a Bank reset. -/
  | reloadCommit (dt : Nat)
  /-- RELOAD_BANK_RESET_END (R54). The Bank reset of the affected banks ends, and the new structure and reset values are applied. -/
  | reloadBankResetEnd (dt : Nat)
  /-- OVR_CLEAR (R62). BNK_CONV_CTL.OVR_CLEAR clears the cumulative overrange counts of the bank. -/
  | ovrClear (dt : Nat) (b : Fin 16)
  /-- CONVERTER_READY (R73). The converter start-up of a bank completes and READY becomes 1. -/
  | converterReady (dt : Nat) (b : Fin 16)
  /-- CONVERTER_START_TIMEOUT (R73). A bank has not started 2 ms after LOADED; it sets START_FAIL and counts the failure. -/
  | converterStartTimeout (dt : Nat) (b : Fin 16)
  /-- CONVERTER_START_RETRY (R73). Every 10 ms a bank that failed to start retries its start-up from step 1. -/
  | converterStartRetry (dt : Nat) (b : Fin 16)
  /-- SETTLING_END (R71). The settling time of a channel after a change to its front end ends, and the Eve fill restarts. -/
  | settlingEnd (dt : Nat) (b c : Fin 16)
  /-- SAMPLE_PLL_LOSS (R76). The sample PLL loses lock; every bank clears READY and records in progress are abandoned. -/
  | samplePllLoss (dt : Nat)
  /-- SAMPLE_PLL_RELOCK (R76). The sample PLL relocks, the banks restart, and the groups write SAMPLE_CLOCK records and resume. -/
  | samplePllRelock (dt : Nat)
  /-- REF_QUALIFIED (R78). REF_IN has been continuous and within frequency for 10 ms, and the always-on clock moves to it. -/
  | refQualified (dt : Nat) (hundred : Bool)
  /-- CORE_PLL_LOCK (R80). The core PLL locks to the qualified reference and the Epoch starts counting or is reloaded. -/
  | corePllLock (dt : Nat)
  /-- SAMPLE_PLL_LOCK (R80). The sample PLL locks, phase-aligned to the core clock. -/
  | samplePllLock (dt : Nat)
  /-- REF_LOST_BEFORE_LOCK (R81). A reference that loses qualification before the first core PLL lock returns the always-on clock to the RC oscillator, and no holdover is entered. -/
  | refLostBeforeLock (dt : Nat)
  /-- REF_LOSS (R83). Loss of the locked reference is detected; the PLLs freeze in holdover and REF_LOSS is raised. -/
  | refLoss (dt : Nat)
  /-- REF_RELOCK (R84). The reference returns, and the PLLs relock without a glitch, ending holdover. -/
  | refRelock (dt : Nat)
  /-- UNSETTLED_CLEAR (R84). Ten milliseconds after a relock, UNSETTLED clears when no other cause holds. -/
  | unsettledClear (dt : Nat)
  /-- OVEN_READY_CHANGE (R82). A change of level on OVEN_READY sets or clears the unsettled state. -/
  | ovenReadyChange (dt : Nat) (level : Bool)
  /-- CORE_PLL_LOSS (R352). The core PLL loses lock; PLL_CORE becomes severe and Safe Hold follows, with the core running from the free-running path. -/
  | corePllLoss (dt : Nat)
  /-- LOAD_NOW (R87). EPC_CTL.LOAD_NOW sets the Epoch to EPC_SET at the next frame boundary, or is refused with CMD_ERR. -/
  | loadNow (dt : Nat)
  /-- LOAD_PPS (R88). EPC_CTL.LOAD_PPS schedules an Epoch load at the next accepted PPS edge, or is refused. -/
  | loadPps (dt : Nat)
  /-- PPS_LOAD_CANCEL (R88). EPC_CTL.CANCEL withdraws a pending PPS load. -/
  | ppsLoadCancel (dt : Nat)
  /-- PPS_EDGE (R89). A PPS_IN edge is stamped and accepted or rejected, and it drives the discipline loop or a pending PPS load. -/
  | ppsEdge (dt : Nat) (ago : Nat)
  /-- PPS_MISSING (R89). No PPS edge has been accepted for 1.5 s; PPS_MISSING sets and FOFFSET is held. -/
  | ppsMissing (dt : Nat)
  /-- IV_RUN (R94). EPC_IV_CTL.RUN starts a run of an interval unit, abandoning any run in progress. -/
  | ivRun (dt : Nat) (u : Fin 16)
  /-- IV_STOP (R94). EPC_IV_CTL.STOP ends a run early and copies the partial results. -/
  | ivStop (dt : Nat) (u : Fin 16)
  /-- IV_START_EVENT (R91). A start-source event opens a measurement, or is ignored and counted. -/
  | ivStartEvent (dt : Nat) (u : Fin 16)
  /-- IV_STOP_EVENT (R91). A stop-source event is collected into the open measurement and may close it and contribute statistics. -/
  | ivStopEvent (dt : Nat) (u : Fin 16)
  /-- IV_TIMEOUT (R92). EPC_IV_TIMEOUT passes on an open measurement, which is closed in WINDOW mode or discarded. -/
  | ivTimeout (dt : Nat) (u : Fin 16)
  /-- IV_PRESCALE_COUNT_END (R96). With PRESCALE.AUTO set, the 1250-cycle event count ends, K is set and the regression gate opens. -/
  | ivPrescaleCountEnd (dt : Nat) (u : Fin 16)
  /-- IV_GATE_CLOSE (R96). The regression gate closes or 4096 stamps are held, and the period fit is computed. -/
  | ivGateClose (dt : Nat) (u : Fin 16)
  /-- TRIGGER_UNIT_FIRE (R104). A trigger unit detects its condition in the stream, and holdoff and merging decide whether it puts out an event. -/
  | triggerUnitFire (dt : Nat) (b : Fin 16) (k : Fin 8) (first : Nat) (vins : List (List Int))
  /-- TRIGGER_UNIT_STUCK (R111). The condition of a trigger unit has stayed active beyond the stuck limit, and the unit is masked. -/
  | triggerUnitStuck (dt : Nat) (b : Fin 16) (unit : Fin 8)
  /-- TRG_UNMASK (R111). BNK_TRG_CTL.UNMASK ends the masking of a unit when its condition is no longer active. -/
  | trgUnmask (dt : Nat) (b : Fin 16) (unit : Fin 8)
  /-- TRG_CLR (R121). BNK_TRG_CTL.CLR clears FIRED, HELD, MERGED and STUCK_COUNT of a unit. -/
  | trgClr (dt : Nat) (b : Fin 16) (unit : Fin 8)
  /-- EXT_PIN_EDGE (R112). An edge into the active level on TRIG_IN or EVT_IN is stamped and delivered as an EXT event. -/
  | extPinEdge (dt : Nat) (pin : Fin 12) (level : Bool) (ago : Nat) (short : Bool)
  /-- PIN_STUCK (R114). A pin has stayed at its active level beyond the stuck limit, and it is masked. -/
  | pinStuck (dt : Nat) (pin : Fin 12)
  /-- PIN_UNMASK (R114). EPC_PIN_CTL.UNMASK ends the masking of a pin that is at its inactive level. -/
  | pinUnmask (dt : Nat) (pin : Fin 12)
  /-- PIN_CLR (R114). EPC_PIN_CTL.CLR clears the counters of a pin. -/
  | pinClr (dt : Nat) (pin : Fin 12)
  /-- SOFT_FIRE (R115). EPC_SOFT.FIRE produces one SOFT event with the current Epoch as its instant. -/
  | softFire (dt : Nat)
  /-- WAKE_PIN_EDGE (R129). An edge on a wake pin in Fast or Fallow demands an exit and is kept as an EXT event. -/
  | wakePinEdge (dt : Nat) (pin : Fin 12) (ago : Nat)
  /-- CONJUNCTION_EVENT (R119). A source event arrives at a Conjunction, which is held or fires by its operation. -/
  | conjunctionEvent (dt : Nat) (j : Fin 16)
  /-- CONJUNCTION_EXPIRY (R118). A held Conjunction event outlives WINDOW plus SLACK and is discarded. -/
  | conjunctionExpiry (dt : Nat) (j : Fin 16)
  /-- CJ_CLR (R119). EPC_CJ_CTL.CLR clears the counters of a Conjunction. -/
  | cjClr (dt : Nat) (j : Fin 16)
  /-- TRIG_OUT_PULSE_START (R125). A TRIG_OUT leading edge leaves at its ALIGNED time or after the required inactive gap. -/
  | trigOutPulseStart (dt : Nat) (o : Fin 4)
  /-- TRIG_OUT_PULSE_END (R126). A TRIG_OUT pulse reaches its width and the output returns to its inactive level. -/
  | trigOutPulseEnd (dt : Nat) (o : Fin 4)
  /-- HANDOVER (R153). The shadows of a group and its attached trigger, front-end and filter registers are copied to the active values, and SHADOW_GEN increments. -/
  | handover (dt : Nat) (g : Fin 32)
  /-- ARM (R133). AQG_CTL.ARM arms an IDLE group, or is refused with an ARM_ERR code. -/
  | arm (dt : Nat) (g : Fin 32)
  /-- DISARM (R134). AQG_CTL.DISARM finishes the record or segment in progress and then returns the group to IDLE. -/
  | disarm (dt : Nat) (g : Fin 32)
  /-- ABORT (R134). AQG_CTL.ABORT returns the group to IDLE at once, abandoning any record with an ABORT record. -/
  | abort (dt : Nat) (g : Fin 32)
  /-- EVE_FILLED (R143). The Eve valid count reaches EVE_REQ, and a FILLING group becomes ARMED. -/
  | eveFilled (dt : Nat) (g : Fin 32)
  /-- GROUP_TRIGGER (R143). A trigger reaches a group and is accepted, refused for Eve, refused as full, or counted as dead time. -/
  | groupTrigger (dt : Nat) (g : Fin 32)
  /-- PARTITION_FULL_END (R139). A largest record fits again, and the group writes a PARTITION_FULL record and resumes. -/
  | partitionFullEnd (dt : Nat) (g : Fin 32)
  /-- SEGMENT_BOUNDARY (R131). A Stream segment ends and the next starts, is refused as full, or is delayed by a gap. -/
  | segmentBoundary (dt : Nat) (g : Fin 32) (samples : List (List Int))
  /-- RECORD_CAPTURE_END (R145). The last sample of a record enters the capture port, and re-arm starts. -/
  | recordCaptureEnd (dt : Nat) (g : Fin 32) (samples : List (List Int))
  /-- REARM_END (R145). Re-arm ends after 40 core cycles, and the group can take a trigger or hand over. -/
  | rearmEnd (dt : Nat) (g : Fin 32)
  /-- RECORD_COMMIT (R137). The last granule and parity of a record are written; it takes its sequence and the commit pointers advance. -/
  | recordCommit (dt : Nat) (g : Fin 32)
  /-- AQG_IRQ_GAP_EXPIRY (R163). The AQG_IRQ_GAP spacing passes, and a held group message is sent. -/
  | aqgIrqGapExpiry (dt : Nat) (g : Fin 32)
  /-- STEWARD_RELEASE (R138). AQG_REL_CTL.GO releases a sequence range from STEWARD, or is refused with ERR. -/
  | stewardRelease (dt : Nat) (g : Fin 32)
  /-- CAPTURE_GRANULE_REFUSED (R203). A capture port refuses a granule for lack of tokens or queue room, and abandons the record or restarts the Eve count. -/
  | captureGranuleRefused (dt : Nat) (g : Fin 32) (port : Fin 16) (how : RefusedAs)
  /-- BANDWIDTH_GAP_END (R149). A group that lost a record to bandwidth can start again, and it writes its BANDWIDTH record. -/
  | bandwidthGapEnd (dt : Nat) (g : Fin 32)
  /-- PAUSE_END (R150). The cause of a group pause ends, and the group writes the pause record and resumes. -/
  | pauseEnd (dt : Nat) (g : Fin 32)
  /-- BNK_FLT_WRITE (R166). A write to BNK_FLT_c is stored as a shadow, or is refused for set, M or multiply budget. -/
  | bnkFltWrite (dt : Nat) (rq : Requester) (b c : Fin 16) (value : Word)
  /-- FILTER_PRIMED (R175). The first valid output after a filter restart is produced, and capture and triggers resume on it. -/
  | filterPrimed (dt : Nat) (b c : Fin 16)
  /-- CLR_SAT (R177). BNK_FLT_STATUS.CLR_SAT clears the saturation counts of the bank. -/
  | clrSat (dt : Nat) (b : Fin 16)
  /-- FOLD_START (R184). A staged DRAM-held record is served by the fold engine in staging order. -/
  | foldStart (dt : Nat)
  /-- FOLD_END (R184). A fold ends, the sums are written back, and re-arm starts. -/
  | foldEnd (dt : Nat)
  /-- EMISSION_TOKENS_READY (R188). A waiting emission obtains tokens or space and its records are written. -/
  | emissionTokensReady (dt : Nat) (g : Fin 32)
  /-- ACC_FLUSH (R185). AQG_ACC_CTL.FLUSH emits the current sum at the next boundary it can reach. -/
  | accFlush (dt : Nat) (g : Fin 32)
  /-- HIST_EMIT (R191). AQG_HIST_CTL.HIST_EMIT emits the persistence histogram as a KIND 3 record and applies DECAY. -/
  | histEmit (dt : Nat) (g : Fin 32)
  /-- STACK_TRAINED (R209). Initial training of a stack completes, or fails and is retried up to three times. -/
  | stackTrained (dt : Nat) (k : Fin 4) (v : Verdict)
  /-- STACK_TEMP_READ (R193). The temperature of a stack is read every 1 ms, updating HOT and the refresh rate. -/
  | stackTempRead (dt : Nat) (k : Fin 4) (celsius : Int)
  /-- RETRAIN_START (R210). A stack temperature change of 4 °C starts the retraining of one pseudo-channel. -/
  | retrainStart (dt : Nat) (k : Fin 4) (pc : Fin 32)
  /-- RETRAIN_END (R210). Retraining of a pseudo-channel ends and is accepted, or is repeated and may fail the stack. -/
  | retrainEnd (dt : Nat) (k : Fin 4) (v : Verdict)
  /-- SCRUB_ROW (R211). Patrol scrub reads the next record row and corrects, rebuilds or freezes as its results require. -/
  | scrubRow (dt : Nat) (finds : List GranuleFind)
  /-- SELF_REFRESH_ENTRY (R212). The power-state controller requests self-refresh; queued writes drain and entry is issued at S. -/
  | selfRefreshEntry (dt : Nat)
  /-- SELF_REFRESH_EXIT (R212). A memory request or an exit ends self-refresh, and the PHY relocks and restores training. -/
  | selfRefreshExit (dt : Nat)
  /-- CA_PARITY_ALERT (R214). A command/address or write-data parity alert replays the command, and may fail the stack. -/
  | caParityAlert (dt : Nat) (k : Fin 4) (failures : Nat)
  /-- READ_PARITY_ERROR (R214). A read-data parity error rereads the granule up to four times. -/
  | readParityError (dt : Nat) (k : Fin 4) (rd : SlotRead) (failures : Nat)
  /-- UNCORRECTABLE_READ (R215). An uncorrectable read is rebuilt from the stripe, or leads to a freeze. -/
  | uncorrectableRead (dt : Nat) (k : Fin 4) (rd : SlotRead) (others : List (Fin 4))
  /-- MEM_FAIL (R216). MEM_CTL.FAIL fails the stack on command, or is refused with CMD_ERR. -/
  | memFail (dt : Nat) (k : Fin 4)
  /-- MEM_CLR (R216). MEM_CTL.CLR clears the counters of the stack. -/
  | memClr (dt : Nat) (k : Fin 4)
  /-- REGULATOR_WRITE (R202). A write to MEM_REG_RATE or MEM_REG_BURST takes effect at the next edge, and a lower BURST truncates TOKENS. -/
  | regulatorWrite (dt : Nat) (rq : Requester) (port : Fin 25) (burst : Bool) (value : Word)
  /-- BAR2_READ (R219). A read of BAR2 returns record-space bytes through the management port. -/
  | bar2Read (dt : Nat) (rq : Requester) (at_ : Span) (finds : List GranuleFind)
  /-- BAR2_WRITE (R219). A write to BAR2 is discarded, counted and raises PORT_REFUSED. -/
  | bar2Write (dt : Nat) (rq : Requester) (addr len : Nat)
  /-- HARVEST_DOORBELL (R226). A write to HRV_CH_DOORBELL counts a doorbell and queues an IDLE or WAITING channel. -/
  | harvestDoorbell (dt : Nat) (e : Fin 5) (c : Fin 64)
  /-- ENGINE_TAKE_CHANNEL (R227). A free engine takes the next QUEUED channel in round-robin order. -/
  | engineTakeChannel (dt : Nat) (e : Fin 5) (next : Nat)
  /-- DESCRIPTOR_FETCH (R430). A fetched descriptor is judged for faults, and its transfer begins or the channel halts. -/
  | descriptorFetch (dt : Nat) (e : Fin 5) (bytes : List Byte)
  /-- DESCRIPTOR_COMPLETE (R242). Every write of a descriptor has been answered; its completion record is written and the chain is followed, re-read or left WAITING. -/
  | descriptorComplete (dt : Nat) (e : Fin 5) (bytes : List Byte) (next : Nat)
  /-- CQ_HEAD_WRITE (R244). Software writes HRV_CQ_HEAD, freeing completion queue room for a waiting channel. -/
  | cqHeadWrite (dt : Nat) (e : Fin 5) (value : Word)
  /-- HRV_IRQ_GAP_EXPIRY (R244). The HRV_IRQ_GAP spacing passes and a held engine message is sent. -/
  | hrvIrqGapExpiry (dt : Nat) (e : Fin 5)
  /-- HARVEST_BUS_ERROR (R246). A read or completion fails; the channel halts and HARVEST_BUS is raised. -/
  | harvestBusError (dt : Nat) (e : Fin 5) (status : Nat) (addr : Nat)
  /-- CHANNEL_RESUME (R246). HRV_CH_CTL.RESUME re-fetches the descriptor of a HALTED channel. -/
  | channelResume (dt : Nat) (e : Fin 5) (c : Fin 64)
  /-- CHANNEL_ENABLE (R247). Setting HRV_CH_CTL.ENABLE makes a channel IDLE. -/
  | channelEnable (dt : Nat) (e : Fin 5) (c : Fin 64)
  /-- CHANNEL_DISABLE (R247). Clearing HRV_CH_CTL.ENABLE stops a channel from issuing further requests. -/
  | channelDisable (dt : Nat) (e : Fin 5) (c : Fin 64)
  /-- CHANNEL_DISABLE_DONE (R247). The outstanding requests of a disabled channel are answered, a DISABLED completion is written and the channel is DISABLED. -/
  | channelDisableDone (dt : Nat) (e : Fin 5) (c : Fin 64)
  /-- HARVEST_RUN (R249). Setting HRV_CTL.RUN lets the engine serve QUEUED channels, or is refused without an Almanac or octet. -/
  | harvestRun (dt : Nat) (e : Fin 5)
  /-- HARVEST_STOP (R249). Clearing HRV_CTL.RUN stops the engine after its running descriptor completes. -/
  | harvestStop (dt : Nat) (e : Fin 5)
  /-- HRV_CLR (R249). HRV_CTL.CLR clears the counters of the engine and its channels. -/
  | hrvClr (dt : Nat) (e : Fin 5)
  /-- PCIE_LINK_DOWN (R253). The PCIe link goes down without PERST_N; PCIE_LINK is raised and channels that use PCIe wait to redo their descriptors. -/
  | pcieLinkDown (dt : Nat)
  /-- PCIE_LINK_UP (R248). The PCIe link returns, and the waiting channels redo their descriptors. -/
  | pcieLinkUp (dt : Nat) (gen width : Nat)
  /-- PERST_DEASSERT (R253). PERST_N is deasserted, and link training starts. -/
  | perstDeassert (dt : Nat)
  /-- PCIE_READY (R253). The device becomes ready for configuration requests. -/
  | pcieReady (dt : Nat)
  /-- MSIX_UNMASK (R254). A vector becomes unmasked or deliverable, and its pending message is sent. -/
  | msixUnmask (dt : Nat) (v : Fin 64) (enable : Bool)
  /-- ETH_FRAME_RECEIVE (R256). An Ethernet frame is received and accepted or dropped by the port's filters. -/
  | ethFrameReceive (dt : Nat) (q : Fin 32) (frame : List Byte)
  /-- STREAM_OPEN (R257). PRT_ST_CTL.OPEN opens a stream with a new incarnation, raising the flash floor when needed. -/
  | streamOpen (dt : Nat) (k : Fin 256)
  /-- STREAM_CLOSE (R257). PRT_ST_CTL.CLOSE closes a stream and abandons its descriptor with STREAM. -/
  | streamClose (dt : Nat) (k : Fin 256)
  /-- ETH_PORT_DOWN (R259). A link fault lasts 10 µs; the port goes down, ETH_LINK is raised and its streams move or wait. -/
  | ethPortDown (dt : Nat) (q : Fin 32)
  /-- ETH_PORT_UP (R259). A port has been free of faults for 1 ms and is up; waiting streams take it up. -/
  | ethPortUp (dt : Nat) (q : Fin 32)
  /-- DATA_SEND (R263). A stream sends a DATA frame when its window, credit and rate allow. -/
  | dataSend (dt : Nat) (k : Fin 256)
  /-- ACK_MESSAGE (R263). An ACK advances NEXT and CREDIT of a stream, completing covered descriptors. -/
  | ackMessage (dt : Nat) (q : Fin 32) (ip udp : Nat) (bytes : List Byte)
  /-- RESEND_MESSAGE (R264). A RESEND makes the stream send the frames it names ahead of new frames. -/
  | resendMessage (dt : Nat) (q : Fin 32) (ip udp : Nat) (bytes : List Byte)
  /-- RELEASE_MESSAGE (R266). A RELEASE is checked, entered in the ledger and answered by RELEASE_ACK. -/
  | releaseMessage (dt : Nat) (q : Fin 32) (ip udp : Nat) (bytes : List Byte)
  /-- RETRANSMIT_TIMEOUT (R264). NEXT has not advanced for RTO; all frames from NEXT are resent, or the stream is abandoned. -/
  | retransmitTimeout (dt : Nat) (k : Fin 256)
  /-- TELEMETRY_SEND (R268). Every 100 ms each octet that has a port up sends a TELEMETRY message. -/
  | telemetrySend (dt : Nat) (o : Fin 4)
  /-- MGMT_READ (R269). A MGMT_READ reads BAR0 registers with OBSERVER rights and is answered with MGMT_RESP. -/
  | mgmtRead (dt : Nat) (q : Fin 32) (bytes : List Byte)
  /-- MGMT_WRITE (R273). A MGMT_WRITE is always refused and answered with STATUS REFUSED. -/
  | mgmtWrite (dt : Nat) (q : Fin 32) (bytes : List Byte)
  /-- SMBUS_REGISTER_READ (R270). SMBus command 0x01 returns the BAR0 register at the written offset. -/
  | smbusRegisterRead (dt : Nat) (off : Nat)
  /-- SMBUS_TELEMETRY_READ (R270). SMBus command 0x02 returns bytes 0x10 to 0x2F of the latest telemetry body. -/
  | smbusTelemetryRead (dt : Nat)
  /-- SMBUS_SENSOR_READ (R270). SMBus command 0x03 returns bytes 0x30 to 0x55 of the latest telemetry body. -/
  | smbusSensorRead (dt : Nat)
  /-- SMBUS_OTHER_COMMAND (R270). Any other SMBus command, and any write protocol, is NACKed at the command byte. -/
  | smbusOtherCommand (dt : Nat) (command : Nat) (isWrite : Bool)
  /-- UART_STATUS (R271). A STATUS line on MNT_UART is answered with the status line. -/
  | uartStatus (dt : Nat)
  /-- UART_OTHER_LINE (R271). Any other UART line outside the recovery ROM answers REFUSED and is counted. -/
  | uartOtherLine (dt : Nat) (line : List Byte)
  /-- MARGIN_MEASURE (R274). Every 10 ms the second sampler of a lane measures its eye and may set or clear LOW. -/
  | marginMeasure (dt : Nat) (lane : Fin 56) (height width : Nat)
  /-- SEGMENT_TRAIN_END (R277). A training attempt of a ring segment ends, and the segment runs at that generation or tries a lower one. -/
  | segmentTrainEnd (dt : Nat) (d : Dir) (v : Verdict) (peer : FarEnd) (bypassed : Nat)
  /-- SEGMENT_DOWN (R278). A ring segment goes down, and DOWNS counts it. -/
  | segmentDown (dt : Nat) (d : Dir)
  /-- SEGMENT_DOWN_TIMEOUT (R278). A segment has been down for 20 ms, and RING_EAST or RING_WEST is raised. -/
  | segmentDownTimeout (dt : Nat) (d : Dir)
  /-- LINK_FRAME_CRC_FAIL (R276). A ring frame that fails its CRC is discarded and replayed, except a TRIG frame. -/
  | linkFrameCrcFail (dt : Nat) (d : Dir) (frame : BadFrame)
  /-- POSITION_COMMIT (R279). RNG_POS_SET.COMMIT writes the ring position to flash, effective at the next reset. -/
  | positionCommit (dt : Nat) (rq : Requester)
  /-- BYPASS_OPEN (R281). One millisecond after the ring ports are ready to train, the bypass switches open. -/
  | bypassOpen (dt : Nat)
  /-- TRIG_FLIT (R285). A TRIG flit arrives; its events are delivered, duplicates discarded and the flit repeated. -/
  | trigFlit (dt : Nat) (d : Dir) (flit : List Native)
  /-- CAL_FLIT (R298). A CAL flit carrying a Calends mark arrives, is held and is repeated. -/
  | calFlit (dt : Nat) (d : Dir) (flit : List Native)
  /-- DIG_FLIT (R302). A DIG flit with a member digest arrives at its head and is compared with the expected digest. -/
  | digFlit (dt : Nat) (d : Dir) (flit : List Native)
  /-- CTL_FLIT (R296). A CTL read, write, broadcast write or response flit is served, refused or matched to its request. -/
  | ctlFlit (dt : Nat) (d : Dir) (flit : List Native)
  /-- REC_FLIT (R304). A REC flit with forwarded record bytes reaches the target stream and is sent on as DATA. -/
  | recFlit (dt : Nat) (d : Dir) (flit : List Native)
  /-- ALIGN_FLIT (R288). An ALIGN frame is stamped, and the offset and delay are computed and steer FOFFSET. -/
  | alignFlit (dt : Nat) (d : Dir) (ago : Nat) (peer : AlignBody)
  /-- ALIGN_SEND (R288). At least every 100 µs each segment end sends an ALIGN frame. -/
  | alignSend (dt : Nat) (d : Dir)
  /-- ALIGN_LOSS (R290). A member loses both neighbours' ALIGN frames, freezes FOFFSET and enters HOLD. -/
  | alignLoss (dt : Nat)
  /-- EPOCH_STEP (R289). A joining member steps its Epoch by the nearest multiple of 8192 ticks, at once or when R87 allows. -/
  | epochStep (dt : Nat)
  /-- WINDOW_RESOLVE (R293). A write of RNG_WIN_CTL, or a membership change, resolves a BAR4 window to a device or procession. -/
  | windowResolve (dt : Nat) (w : Fin 64)
  /-- WINDOW_READ (R294). A read through a BAR4 window issues CTL reads and returns the value or the merged header. -/
  | windowRead (dt : Nat) (w : Fin 64) (off width : Nat)
  /-- WINDOW_WRITE (R295). A write through a window is sent as a CTL write or a broadcast write. -/
  | windowWrite (dt : Nat) (w : Fin 64) (off width value : Nat)
  /-- CTL_TIMEOUT (R294). No CTL response arrives within RNG_CTL_TIMEOUT; the read returns all ones and TIMEOUTS counts it. -/
  | ctlTimeout (dt : Nat) (tag : Nat)
  /-- CALENDS_MARK (R298). RNG_CAL_CTL.MARK issues an on-demand mark with SNAP, or is refused with CMD_ERR. -/
  | calendsMark (dt : Nat)
  /-- CALENDS_PERIODIC (R298). RNG_CAL_PERIOD passes and the head issues a periodic mark. -/
  | calendsPeriodic (dt : Nat)
  /-- SNAPSHOT_INSTANT (R299). The instant of a mark arrives; SNP is copied on a SNAP mark and the digests are taken. -/
  | snapshotInstant (dt : Nat)
  /-- FORWARD_ENABLE (R303). A write of RNG_FWD_p.EN starts or restarts forwarding of a partition's records. -/
  | forwardEnable (dt : Nat) (p : Fin 32)
  /-- FORWARD_RECORD (R303). The owner forwards its next committed record in REC flits, or stalls when the target is unreachable. -/
  | forwardRecord (dt : Nat) (p : Fin 32) (reach : Bool)
  /-- POWER_STATE_ENTRY (R311). After PWR_DWELL of idleness, the device enters its deeper target state. -/
  | powerStateEntry (dt : Nat)
  /-- POWER_STATE_EXIT (R311). An exit demand starts the return to Feast, or reverses an entry in progress. -/
  | powerStateExit (dt : Nat)
  /-- POWER_EXIT_COMPLETE (R314). The exit to Feast completes; converters restart and Stream groups write SELF_REFRESH records. -/
  | powerExitComplete (dt : Nat)
  /-- WAKE_N_EDGE (R311). A falling edge on WAKE_N demands an exit to Feast. -/
  | wakeNEdge (dt : Nat)
  /-- POWER_POLICY_WRITE (R311). A write that changes a tolerance or PWR_CTL updates the target and demands an exit. -/
  | powerPolicyWrite (dt : Nat) (rq : Requester) (off : Nat) (value : Word)
  /-- POWER_MEASURE (R315). Package power is measured every 100 µs, and the throttle is applied or removed. -/
  | powerMeasure (dt : Nat) (milliwatts : Nat)
  /-- RAIL_WARN (R318). A rail more than 4 % from nominal for 100 µs raises PWR_WARN. -/
  | railWarn (dt : Nat) (r : Fin 9) (millivolts : Nat)
  /-- RAIL_TRIP (R318). A rail beyond its trip point for 1 µs raises RAIL_UNDER or RAIL_OVER and acts by its group. -/
  | railTrip (dt : Nat) (r : Fin 9) (millivolts : Nat)
  /-- RAIL_RETURN (R318). A tripped rail returns to tolerance for 1 ms, and the cold or warm reset follows. -/
  | railReturn (dt : Nat) (r : Fin 9) (millivolts : Nat)
  /-- PWR_FAIL_ASSERT (R319). PWR_FAIL_N held low for 1 µs starts the power-fail sequence. -/
  | pwrFailAssert (dt : Nat)
  /-- JOURNAL_WRITTEN (R319). The ledger journal has been written to flash and marked VALID, and the stacks enter self-refresh. -/
  | journalWritten (dt : Nat)
  /-- PWR_FAIL_RIDE_THROUGH (R320). PWR_FAIL_N stays high for 100 µs; the device resumes and groups write POWER records. -/
  | pwrFailRideThrough (dt : Nat)
  /-- TILE_TEMP_SAMPLE (R330). Each tile sensor is sampled every 1 ms, and banks become pending when they drift beyond CAL_DELTA. -/
  | tileTempSample (dt : Nat) (t : Fin 4) (raw : Int)
  /-- CAL_RUN_REQUEST (R331). A write to CAL_RUN makes the named banks pending. -/
  | calRunRequest (dt : Nat) (rq : Requester) (value : Word)
  /-- CAL_DEFER_WRITE (R333). A write to CAL_DEFER begins or ends the deferral of pending banks. -/
  | calDeferWrite (dt : Nat) (rq : Requester) (value : Word)
  /-- CAL_DEFER_EXPIRY (R333). A bank has been deferred for CAL_DEFER_MAX and stops being deferred. -/
  | calDeferExpiry (dt : Nat) (b : Fin 16)
  /-- CAL_RUN_START (R332). The device starts the calibration run of the earliest pending, undeferred bank. -/
  | calRunStart (dt : Nat)
  /-- CAL_RUN_END (R335). A calibration run ends, accepted or rejected; the trims are written and groups resume with CALIBRATION records. -/
  | calRunEnd (dt : Nat) (rcalOk toneOk : Bool) (trims corrections : List (List Int))
  /-- SEASON_SAVE (R340). CAL_CTL.SAVE writes the working values into a Season slot, or is refused. -/
  | seasonSave (dt : Nat)
  /-- SEASON_ERASE (R340). CAL_CTL.ERASE empties a Season slot, or is refused. -/
  | seasonErase (dt : Nat)
  /-- SEASON_WRITE_COMPLETE (R340). A Season write ends with its commit word, or is abandoned. -/
  | seasonWriteComplete (dt : Nat) (v : Verdict)
  /-- FAULT_EVENT (R341). An error line delivers an event that sets its status bit and counts toward severity. -/
  | faultEvent (dt : Nat) (n : Fin 36) (banks : Nat)
  /-- FAULT_WINDOW_EXPIRY (R343). A source's window ends without reaching N, and its count returns to 0. -/
  | faultWindowExpiry (dt : Nat) (n : Fin 36)
  /-- GRACE_EXPIRY (R346). The grace timer of an unadopted severe source expires and its action is applied. -/
  | graceExpiry (dt : Nat) (n : Fin 36)
  /-- SAFE_HOLD_STACK_IDLE (R348). In Safe Hold, the stacks return to self-refresh after 1 ms without a request. -/
  | safeHoldStackIdle (dt : Nat)
  /-- FAULT_ADOPT (R345). A write to FLT_ADOPT adopts severe sources and prevents their escalation. -/
  | faultAdopt (dt : Nat) (rq : Requester) (value : Nat)
  /-- FAULT_STATUS_CLEAR (R350). A W1C write to FLT_STATUS clears non-severe bits and updates FAULT_N and FLT_FIRST. -/
  | faultStatusClear (dt : Nat) (rq : Requester) (value : Nat)
  /-- SRAM_SCRUB (R351). SRAM scrub reads a word, corrects single-bit errors and handles uncorrectable ones. -/
  | sramScrub (dt : Nat) (find : SramFind)
  /-- UPD_BEGIN (R358). UPD_CTL.BEGIN erases the inactive bank for a new download, or is refused. -/
  | updBegin (dt : Nat)
  /-- UPD_ERASE_COMPLETE (R358). The inactive bank has been erased, and the state becomes RECEIVING. -/
  | updEraseComplete (dt : Nat)
  /-- UPD_ABANDON (R358). UPD_CTL.ABANDON returns the state to IDLE and leaves the inactive bank invalid. -/
  | updAbandon (dt : Nat)
  /-- UPD_BLK_GO (R359). UPD_BLK_GO presents the block in UPD_WIN for staging, subject to the block checks. -/
  | updBlkGo (dt : Nat)
  /-- BLOCK_STAGED (R359). A block has been written to flash and read back equal, and it is staged. -/
  | blockStaged (dt : Nat) (v : Verdict)
  /-- UPD_DISTRIBUTE (R360). UPD_CTL.DISTRIBUTE on a head broadcasts the package to its procession in up to three passes. -/
  | updDistribute (dt : Nat)
  /-- UPD_VERIFY (R361). UPD_CTL.VERIFY starts the verification of the staged package. -/
  | updVerify (dt : Nat)
  /-- UPD_VERIFY_COMPLETE (R361). Verification ends in VERIFIED or FAILED with an error code. -/
  | updVerifyComplete (dt : Nat)
  /-- UPD_VOTE (R367). UPD_CTL.VOTE on a head verifies across the procession and collects the votes. -/
  | updVote (dt : Nat)
  /-- UPD_VOTE_TIMEOUT (R367). UPD_VOTE_TIMEOUT passes; silent devices count as absent and the vote concludes. -/
  | updVoteTimeout (dt : Nat)
  /-- UPD_ACTIVATE (R362). UPD_CTL.ACTIVATE starts activation at once or schedules it at UPD_ACT_AT. -/
  | updActivate (dt : Nat)
  /-- ACTIVATE_ANSWER_TIMEOUT (R368). A device has not answered a procession ACTIVATE within 20 ms, and the head cancels with 0x0D. -/
  | activateAnswerTimeout (dt : Nat)
  /-- UPD_CANCEL (R362). UPD_CTL.CANCEL returns a SCHEDULED activation to VERIFIED. -/
  | updCancel (dt : Nat)
  /-- ACTIVATION_START (R363). At instant A, activation pauses capture and writes the commit word naming the new bank. -/
  | activationStart (dt : Nat)
  /-- ACTIVATION_RESUME (R363). Capture and Harvest resume, UPDATE records are written and the state becomes UNCONFIRMED. -/
  | activationResume (dt : Nat)
  /-- UPD_CONFIRM (R364). UPD_CTL.CONFIRM writes the confirm word and raises the rollback floor. -/
  | updConfirm (dt : Nat)
  /-- CONFIRM_WINDOW_EXPIRY (R365). The confirmation window passes without CONFIRM, and the device rolls back. -/
  | confirmWindowExpiry (dt : Nat)
  /-- BOOT_IMAGE_CHECK (R369). At reset release, the active bank is checked; it runs, falls back, or the recovery ROM runs. -/
  | bootImageCheck (dt : Nat) (recoveryN : Bool)
  /-- RECOVERY_UART_BEGIN (R371). A BEGIN line in the recovery ROM starts a download. -/
  | recoveryUartBegin (dt : Nat) (line : List Byte)
  /-- RECOVERY_UART_BLOCK (R371). A B line in the recovery ROM stages one block. -/
  | recoveryUartBlock (dt : Nat) (line : List Byte)
  /-- RECOVERY_UART_VERIFY (R371). A VERIFY line in the recovery ROM verifies the package. -/
  | recoveryUartVerify (dt : Nat)
  /-- RECOVERY_UART_ACTIVATE (R371). An ACTIVATE line in the recovery ROM writes the commit word. -/
  | recoveryUartActivate (dt : Nat)
  /-- RECOVERY_UART_STATUS (R371). A STATUS line in the recovery ROM answers the status line with ALM=RECOVERY. -/
  | recoveryUartStatus (dt : Nat)
  /-- RECOVERY_UART_OTHER (R371). Any other line in the recovery ROM answers ERR 10. -/
  | recoveryUartOther (dt : Nat) (line : List Byte)
  /-- KEY_PROG (R372). UPD_KEY_CTL.PROG writes a key hash into an empty slot in the recovery ROM. -/
  | keyProg (dt : Nat)
  /-- KEY_REVOKE (R372). UPD_KEY_CTL.REVOKE invalidates a valid key slot, unless none would remain. -/
  | keyRevoke (dt : Nat)
  /-- KEY_SET_REQUIRE (R372). UPD_KEY_CTL.SET_REQUIRE sets ALM_KEYS.REQUIRE in the recovery ROM. -/
  | keySetRequire (dt : Nat)
  /-- FLASH_BLOCK_RETIRE (R373). A flash block fails to erase or program, is retired and is replaced from the spare pool. -/
  | flashBlockRetire (dt : Nat)
  /-- LNT_COMMIT (R380). LNT_COMMIT.GO makes a commit naming a Note slot and a dirty rectangle. -/
  | lntCommit (dt : Nat)
  /-- LNT_TE_EDGE (R380). The selected LNT_TE edge sets the frame instant and opens the commit window in Command mode. -/
  | lntTeEdge (dt : Nat) (line : Fin 2)
  /-- TE_MISS_TIMEOUT (R382). No TE edge comes within two frame periods, and the device pushes as if one had come. -/
  | teMissTimeout (dt : Nat)
  /-- VIDEO_FRAME_START (R380). In Video mode, vertical sync starts a frame. -/
  | videoFrameStart (dt : Nat)
  /-- PUSH_START (R381). A push starts, takes the pending commit and sends the dirty or whole area. -/
  | pushStart (dt : Nat)
  /-- RESTART_HOLD_END (R386). The LP-11 hold of a Lantern restart ends, and output resumes with the new settings. -/
  | restartHoldEnd (dt : Nat)
  /-- DCS_SEND (R388). LNT_DCS_SEND.GO queues a DCS packet, or is refused while one is busy. -/
  | dcsSend (dt : Nat)
  /-- DCS_SENT (R388). A queued DCS packet goes out in the first gap of 100 µs. -/
  | dcsSent (dt : Nat)
  /-- TAP_INSTRUCTION (R423). A boundary-scan instruction is loaded into the 8-bit instruction register and takes effect. -/
  | tapInstruction (dt : Nat) (code : Fin 256)
  /-- PUSH_END (R386). A Lantern push or frame in progress finishes; a restart started by a commit then begins its LP-11 hold, and a queued DCS packet may find its gap. -/
  | pushEnd (dt : Nat)
  /-- TEST_LOGIC_RESET (R423). The test access port enters Test-Logic-Reset, through TRST_N or TMS, and IDCODE is loaded as the instruction in force. -/
  | testLogicReset (dt : Nat)
  /-- POSITION_FLASH_WRITE_DONE (R279). The flash write of a committed ring position completes within 20 ms and RNG_POS_SET.DONE reads 1. -/
  | positionFlashWriteDone (dt : Nat)
  /-- DISTRIBUTE_ERASE_WAIT_EXPIRY (R360). The 2 s wait of a distributing head for its members to leave ERASING runs out, and the head starts sending blocks. -/
  | distributeEraseWaitExpiry (dt : Nat)
  /-- DISTRIBUTE_BLOCK_INTERVAL (R360). The 2.5 ms spacing between distributed blocks passes, and the head broadcasts the next block, or begins its read-back of UPD_NEXT_MISSING for the next pass. -/
  | distributeBlockInterval (dt : Nat)
  deriving DecidableEq, Repr

end Sys2Proof
end

