-- ==== Sys2Proof/Config.lean ====
section
/-! DEFINITION. What an implementation fixes and the values the spec leaves open. Each free value is an opaque constant
without a body, applied to a counter that the state advances or to the operands it depends on, so nothing can be
proved of it. -/

namespace Sys2Proof.Config

/-- The fused stepping letter and digit (R15, GLB_ID). -/
opaque stepLetter : BitVec 4

/-- The fused stepping digit. -/
opaque stepDigit : BitVec 4

/-- The fused serial number (GLB_SERIAL). -/
opaque serial : BitVec 64

/-- A free bit: whether something the spec leaves open happens (R112, R247). -/
opaque freeBit : Nat → Bool

/-- A free 32-bit word. -/
opaque freeWord : Nat → BitVec 32

/-- A free 36-bit native word: the content of a granule the spec calls undefined (R137, R398). -/
opaque freeNative : Nat → BitVec 36

/-- A free 72-bit value. -/
opaque freeWide : Nat → BitVec 72

/-- A free byte. -/
opaque freeByte : Nat → BitVec 8

/-- The content of the factory Seasons, slots 0 to 2, by slot and value: the spec gives their tags, not their values
(R338). -/
opaque factorySeason : Nat → Nat → BitVec 16

/-- The coefficients of Olcen's compensating FIR table, by variant and tap: the spec gives the table's shape and sum,
not its values (R170). -/
opaque olcenTap : Nat → Nat → BitVec 18

/-- How a histogram SHIFT above 17 shifts (R190, AQG_HIST_CTL). -/
opaque histShift : Nat → BitVec 8

/-- The direction that SLOPE 2 selects for a trigger type whose row of R104 names only 0 and 1, by type: 1 as SLOPE 1. -/
opaque slopeTwo : Nat → Bool

/-- What the physical layer of an Ethernet port has counted of corrected and uncorrectable codewords, by port and time: the
spec has it counted (PRT_ETH_FEC, R256) and no command brings a codeword. -/
opaque fecCount : Nat → Nat → BitVec 32

/-- Olcen's PCI vendor ID, which the spec names and does not give (R15). -/
opaque vendorId : BitVec 16

/-- Olcen's manufacturer identity code of IDCODE, which the spec names and does not give (R422). -/
opaque makerCode : BitVec 11

/-- Whether an input half-way between two codes goes to the upper one (R59). -/
opaque codeTieUp : Bool

/-- Whether the reconstruction of a stream around a crossing, from its window of samples, is monotonic between the two samples
(R106). -/
opaque monotonic : List Int → Bool

/-- The instant at which that reconstruction equals a level, in ticks after the earlier of the two samples; the interpolator's
kernel is not given (R106). -/
opaque crossing : List Int → Int → Nat → Nat

/-- The configuration digest of the device at another ring position as of a mark (R301). -/
opaque farDigest : Nat → Nat → BitVec 256

/-- The Max_Payload_Size that the host configures (R250): 128 bytes times 2 to this, modulo 3. -/
opaque mpsCode : BitVec 2

/-- The Max_Read_Request_Size that the host configures (R250): 128 bytes times 2 to this, modulo 6. -/
opaque mrrsCode : BitVec 3

/-- The SMB_ADDR pins as sampled at the cold reset (R270). -/
opaque smbAddr : BitVec 2

/-- The serial number of the unit at a ring position (R304). -/
opaque serialAt : Nat → BitVec 64

end Sys2Proof.Config
end

