-- ==== Sys2Proof/Machine/Bits.lean ====
section
/-! DEFINITION. Bit fields, sign extension, byte order and the division roundings that the rules use. -/

namespace Sys2Proof.Machine

/-- Bits [hi:lo] of a number. -/
def bitsOf (x hi lo : Nat) : Nat := (x >>> lo) % 2 ^ (hi + 1 - lo)

/-- A number with its bits [hi:lo] replaced by `v`. -/
def withBits (x hi lo v : Nat) : Nat :=
  let w := 2 ^ (hi + 1 - lo)
  (x >>> (hi + 1)) * 2 ^ (hi + 1) + (v % w) * 2 ^ lo + x % 2 ^ lo

/-- Bits [hi:lo] of a register word. -/
def fld (w : Word) (hi lo : Nat) : Nat := bitsOf w.toNat hi lo

/-- A register word with its bits [hi:lo] replaced. -/
def setFld (w : Word) (hi lo v : Nat) : Word := BitVec.ofNat 32 (withBits w.toNat hi lo v)

/-- One bit of a number as a Bool. -/
def bitAt (x i : Nat) : Bool := x.testBit i

/-- A Bool as a bit. -/
def b2n (b : Bool) : Nat := if b then 1 else 0

/-- The mask with bit `i` alone set. -/
def maskBit (i : Nat) : Nat := 2 ^ i

/-- Two's complement reading of the low `w` bits. -/
def signed (w x : Nat) : Int :=
  let v := x % 2 ^ w
  if v < 2 ^ (w - 1) then (v : Int) else (v : Int) - 2 ^ w

/-- Two's complement coding of an integer in `w` bits. -/
def unsigned (w : Nat) (i : Int) : Nat := (i % (2 ^ w : Int)).toNat

/-- An integer held within a range. -/
def clampI (lo hi i : Int) : Int := if i < lo then lo else if hi < i then hi else i

/-- Division of naturals rounded up. -/
def ceilDiv (a b : Nat) : Nat := (a + b - 1) / b

/-- Division rounded to nearest, ties to even (the rounding of R338). -/
def roundEven (n : Int) (d : Nat) : Int :=
  let q := n.fdiv d
  let r := n.fmod d
  if 2 * r < d then q else if (d : Int) < 2 * r then q + 1 else if q % 2 = 0 then q else q + 1

/-- Division rounded to nearest, halves away from zero towards plus infinity. -/
def roundHalfUp (n : Int) (d : Nat) : Int := (2 * n + d).fdiv (2 * d)

/-- `a + b`, held at `top`. -/
def satAdd (top a b : Nat) : Nat := min top (a + b)

/-- The little-endian bytes of a number. -/
def leBytes : Nat → Nat → List Byte
  | 0, _ => []
  | n + 1, x => BitVec.ofNat 8 x :: leBytes n (x / 256)

/-- The number that little-endian bytes spell. -/
def leNat : List Byte → Nat
  | [] => 0
  | b :: r => b.toNat + 256 * leNat r

/-- The big-endian bytes of a number. -/
def beBytes (n x : Nat) : List Byte := (leBytes n x).reverse

/-- The number that big-endian bytes spell. -/
def beNat (bs : List Byte) : Nat := leNat bs.reverse

/-- `n` bytes of a list from offset `o`, as a little-endian number. -/
def leAt (bs : List Byte) (o n : Nat) : Nat := leNat ((bs.drop o).take n)

/-- The 288-bit little-endian PACK36 block of a granule's words, or of any run of native words (R6). -/
def pack36 : List Native → Nat
  | [] => 0
  | w :: r => w.toNat + 2 ^ 36 * pack36 r

/-- The bytes of a run of native words in PACK36 form: two words fill nine bytes (R6). -/
def pack36Bytes (ws : List Native) : List Byte := leBytes (ceilDiv (36 * ws.length) 8) (pack36 ws)

/-- A list cut into runs of `n`. -/
def chunks {α : Type} (n : Nat) : Nat → List α → List (List α)
  | 0, _ => []
  | f + 1, l => if l.isEmpty then [] else l.take n :: chunks n f (l.drop n)

/-- The list with `x` at the end where it is not there yet. -/
def addNew {α : Type} [DecidableEq α] (l : List α) (x : α) : List α := if x ∈ l then l else l ++ [x]

/-- The set bits of a number below `n`, ascending. -/
def setBits (n x : Nat) : List Nat := (List.range n).filter (fun i => x.testBit i)

/-- Two hexadecimal digits' worth and more: the `n` upper-case hexadecimal digits of a number. -/
def hexDigits (n x : Nat) : List Char :=
  match n with
  | 0 => []
  | k + 1 => hexDigits k (x / 16) ++ [Char.ofNat (if x % 16 < 10 then 48 + x % 16 else 55 + x % 16)]

end Sys2Proof.Machine
end

