-- ==== Sys2Proof/Machine/Regs.lean ====
section
/-! DEFINITION. The BAR0 offsets of the registers by name (R389 and the register tables of the chapters). `b` is the
block instance (bank, group, stack, engine) and `i` the instance of the register within its block. -/

namespace Sys2Proof.Machine.Reg

def glbId : Nat := 0x40
def glbHwType : Nat := 0x44
def glbSerial : Nat := 0x50
def glbIrqPend : Nat := 0x60
def glbReset : Nat := 0x80
def glbResetCause : Nat := 0x84
def pwrStatus : Nat := 0x10000
def pwrCtl : Nat := 0x10004
def pwrTolCapture : Nat := 0x10010
def pwrTolEgress : Nat := 0x10014
def pwrTolControl : Nat := 0x10018
def pwrDwell : Nat := 0x1001C
def pwrRail (i : Nat) : Nat := 0x10040 + 4 * i
def pwrPower : Nat := 0x10080
def pwrPowerAvg : Nat := 0x10084
def pwrLimits : Nat := 0x10088
def pwrLost : Nat := 0x10090
def pwrPfCount : Nat := 0x10098
def pwrEntries (i : Nat) : Nat := 0x100A4 + 4 * i
def pwrIrq : Nat := 0x100C0
def fltStatus : Nat := 0x20000
def fltSevere : Nat := 0x20008
def fltMask : Nat := 0x20010
def fltAdopt : Nat := 0x20018
def fltEscalated : Nat := 0x20020
def fltGrace : Nat := 0x20028
def fltAction : Nat := 0x2002C
def fltFirst : Nat := 0x20030
def fltFirstAt : Nat := 0x20034
def fltPrev : Nat := 0x20040
def fltPrevSevere : Nat := 0x20048
def fltSramCorr : Nat := 0x20050
def fltSrcCfg (i : Nat) : Nat := 0x20100 + 4 * i
def fltSrcCount (i : Nat) : Nat := 0x20200 + 4 * i
def almCtl : Nat := 0x30000
def almBoot : Nat := 0x30004
def almStatus : Nat := 0x30008
def almStageLen : Nat := 0x3000C
def almReloadAt : Nat := 0x30010
def almAffected : Nat := 0x3001C
def almDigest (i : Nat) : Nat := 0x30020 + 4 * i
def almTag : Nat := 0x30040
def almErrOffset : Nat := 0x30044
def almCheckCount : Nat := 0x30048
def almReloadCount : Nat := 0x3004C
def almForfeit : Nat := 0x30050
def almKeys : Nat := 0x30058
def epcNow : Nat := 0x40000
def epcSet : Nat := 0x40010
def epcCtl : Nat := 0x40020
def epcStatus : Nat := 0x40024
def epcRefCtl : Nat := 0x40028
def epcRefLosses : Nat := 0x4002C
def epcLossAt : Nat := 0x40030
def epcPpsAt : Nat := 0x40040
def epcPpsErr : Nat := 0x4004C
def epcPpsOffset : Nat := 0x40050
def epcPpsGate : Nat := 0x40054
def epcPpsCount : Nat := 0x40058
def epcFoffset : Nat := 0x4005C
def epcIvCtl (i : Nat) : Nat := 0x41000 + 0x100 * i
def epcIvSrc (i : Nat) : Nat := 0x41004 + 0x100 * i
def epcIvN (i : Nat) : Nat := 0x41008 + 0x100 * i
def epcIvTimeout (i : Nat) : Nat := 0x4100C + 0x100 * i
def epcIvGate (i : Nat) : Nat := 0x41014 + 0x100 * i
def epcIvPrescale (i : Nat) : Nat := 0x41018 + 0x100 * i
def epcIvLimLo (i : Nat) : Nat := 0x41020 + 0x100 * i
def epcIvLimHi (i : Nat) : Nat := 0x41030 + 0x100 * i
def epcIvStatus (i : Nat) : Nat := 0x4103C + 0x100 * i
def epcIvCount (i : Nat) : Nat := 0x41040 + 0x100 * i
def epcIvDiscard (i : Nat) : Nat := 0x41044 + 0x100 * i
def epcIvIgnored (i : Nat) : Nat := 0x41048 + 0x100 * i
def epcIvResN (i : Nat) : Nat := 0x4104C + 0x100 * i
def epcIvPivot (i : Nat) : Nat := 0x41050 + 0x100 * i
def epcIvSum (i : Nat) : Nat := 0x41060 + 0x100 * i
def epcIvSumsq (i : Nat) : Nat := 0x41070 + 0x100 * i
def epcIvMin (i : Nat) : Nat := 0x41080 + 0x100 * i
def epcIvMax (i : Nat) : Nat := 0x41090 + 0x100 * i
def epcIvPeriod (i : Nat) : Nat := 0x410A0 + 0x100 * i
def epcIvResid (i : Nat) : Nat := 0x410AC + 0x100 * i
def epcIvStamps (i : Nat) : Nat := 0x410B0 + 0x100 * i
def epcCjCtl (i : Nat) : Nat := 0x42000 + 0x40 * i
def epcCjWindow (i : Nat) : Nat := 0x42004 + 0x40 * i
def epcCjHoldTime (i : Nat) : Nat := 0x4200C + 0x40 * i
def epcCjHoldCount (i : Nat) : Nat := 0x42014 + 0x40 * i
def epcCjSlack (i : Nat) : Nat := 0x42018 + 0x40 * i
def epcCjFired (i : Nat) : Nat := 0x4201C + 0x40 * i
def epcCjHeld (i : Nat) : Nat := 0x42024 + 0x40 * i
def epcCjMerged (i : Nat) : Nat := 0x42028 + 0x40 * i
def epcCjExpired (i : Nat) : Nat := 0x4202C + 0x40 * i
def epcCjLast (i : Nat) : Nat := 0x42030 + 0x40 * i
def epcPinCtl (i : Nat) : Nat := 0x42400 + 0x10 * i
def epcPinStat (i : Nat) : Nat := 0x42404 + 0x10 * i
def epcPinEvents (i : Nat) : Nat := 0x42408 + 0x10 * i
def epcPinMerged (i : Nat) : Nat := 0x4240C + 0x10 * i
def epcTrgStuckLimit : Nat := 0x42500
def epcSoft : Nat := 0x42504
def epcRlineMerged : Nat := 0x42508
def epcToutCtl (i : Nat) : Nat := 0x42600 + 0x10 * i
def epcToutDelay (i : Nat) : Nat := 0x42604 + 0x10 * i
def epcToutPulses (i : Nat) : Nat := 0x42608 + 0x10 * i
def epcToutMiss (i : Nat) : Nat := 0x4260C + 0x10 * i
def calCtl : Nat := 0x50000
def calStatus : Nat := 0x50004
def calDelta : Nat := 0x50008
def calDeferMax : Nat := 0x5000C
def calPending : Nat := 0x50010
def calDefer : Nat := 0x50014
def calRun : Nat := 0x50018
def calRejects : Nat := 0x5001C
def calTileTemp (i : Nat) : Nat := 0x50020 + 4 * i
def calBankStatus (i : Nat) : Nat := 0x50100 + 0x20 * i
def calBankRefTemp (i : Nat) : Nat := 0x50104 + 0x20 * i
def calBankLastAt (i : Nat) : Nat := 0x50108 + 0x20 * i
def calBankDeferred (i : Nat) : Nat := 0x50114 + 0x20 * i
def calSeason (i : Nat) : Nat := 0x50400 + 4 * i
def updCtl : Nat := 0x60000
def updStatus : Nat := 0x60004
def updPkgLen : Nat := 0x60008
def updStaged : Nat := 0x6000C
def updNextMissing : Nat := 0x60010
def updErrOffset : Nat := 0x60014
def updBlkRefused : Nat := 0x60018
def updActAt : Nat := 0x60020
def updConfirmWindow : Nat := 0x6002C
def updVersionA : Nat := 0x60030
def updVersionB : Nat := 0x60034
def updBankState : Nat := 0x60038
def updFloor : Nat := 0x6003C
def updVoteTimeout : Nat := 0x60040
def updVoteYes : Nat := 0x60050
def updVoteNo : Nat := 0x60058
def updVoteAbsent : Nat := 0x60060
def updBlkOffset : Nat := 0x60070
def updBlkCrc : Nat := 0x60074
def updBlkGo : Nat := 0x60078
def updFlash : Nat := 0x60080
def updIrq : Nat := 0x60084
def updKeyHash (i : Nat) : Nat := 0x600C0 + 4 * i
def updKeyCtl : Nat := 0x600F0
def lntCtl : Nat := 0x70000
def lntMode : Nat := 0x70004
def lntCfg : Nat := 0x70008
def lntRate : Nat := 0x7000C
def lntH : Nat := 0x70010
def lntHblank : Nat := 0x70014
def lntV : Nat := 0x70018
def lntVblank : Nat := 0x7001C
def lntFrameUs : Nat := 0x70020
def lntPushDelay : Nat := 0x70024
def lntTrace : Nat := 0x70030
def lntTraceRect (i : Nat) : Nat := 0x70034 + 4 * i
def lntTraceEvery : Nat := 0x7003C
def lntKey : Nat := 0x70040
def lntCommit : Nat := 0x70050
def lntCommitRect (i : Nat) : Nat := 0x70054 + 4 * i
def lntCommitSeq : Nat := 0x70060
def lntRetiredSeq : Nat := 0x70064
def lntTakenSeq : Nat := 0x70068
def lntStatus : Nat := 0x70070
def lntFrames : Nat := 0x70074
def lntUnderrun : Nat := 0x70078
def lntReadbackMiss : Nat := 0x7007C
def lntTeMiss : Nat := 0x70080
def lntDcsSend : Nat := 0x70094
def lntDcsBuf (i : Nat) : Nat := 0x70100 + 4 * i
def prtPcieStatus : Nat := 0x80000
def prtClass : Nat := 0x80010
def prtRefusedLast : Nat := 0x80014
def prtTelemCtl : Nat := 0x80020
def prtTelemDstIp (i : Nat) : Nat := 0x80024 + 4 * i
def prtMgmtDropped : Nat := 0x80034
def prtSmbStatus : Nat := 0x80038
def prtMarginMin : Nat := 0x8003C
def prtOctetStatus (i : Nat) : Nat := 0x80040 + 4 * i
def prtRefused (i : Nat) : Nat := 0x80100 + 4 * i
def prtMargin (i : Nat) : Nat := 0x80300 + 4 * i
def prtEthCtl (i : Nat) : Nat := 0x81000 + 0x40 * i
def prtEthStatus (i : Nat) : Nat := 0x81004 + 0x40 * i
def prtEthMac (i : Nat) : Nat := 0x81008 + 0x40 * i
def prtEthIp0 (i : Nat) : Nat := 0x81010 + 0x40 * i
def prtEthIp1 (i : Nat) : Nat := 0x81014 + 0x40 * i
def prtEthIp2 (i : Nat) : Nat := 0x81018 + 0x40 * i
def prtEthIp3 (i : Nat) : Nat := 0x8101C + 0x40 * i
def prtEthUdp (i : Nat) : Nat := 0x81020 + 0x40 * i
def prtEthDropped (i : Nat) : Nat := 0x81024 + 0x40 * i
def prtEthTx (i : Nat) : Nat := 0x81028 + 0x40 * i
def prtEthFec (i : Nat) : Nat := 0x81030 + 0x40 * i
def prtStCtl (i : Nat) : Nat := 0x84000 + 0x40 * i
def prtStStatus (i : Nat) : Nat := 0x84004 + 0x40 * i
def prtStDstMac (i : Nat) : Nat := 0x84008 + 0x40 * i
def prtStDstIp0 (i : Nat) : Nat := 0x84010 + 0x40 * i
def prtStDstIp1 (i : Nat) : Nat := 0x84014 + 0x40 * i
def prtStDstIp2 (i : Nat) : Nat := 0x84018 + 0x40 * i
def prtStDstIp3 (i : Nat) : Nat := 0x8401C + 0x40 * i
def prtStDstUdp (i : Nat) : Nat := 0x84020 + 0x40 * i
def prtStPartMask (i : Nat) : Nat := 0x84024 + 0x40 * i
def prtStWindow (i : Nat) : Nat := 0x84028 + 0x40 * i
def prtStMtu (i : Nat) : Nat := 0x8402C + 0x40 * i
def prtStRto (i : Nat) : Nat := 0x84030 + 0x40 * i
def prtStRate (i : Nat) : Nat := 0x84034 + 0x40 * i
def prtStResent (i : Nat) : Nat := 0x84038 + 0x40 * i
def prtStNext (i : Nat) : Nat := 0x8403C + 0x40 * i
def msixAddrDataCtl (i : Nat) : Nat := 0x90000 + 4 * i
def msixPba (i : Nat) : Nat := 0x98000 + 4 * i
def rngStatus : Nat := 0xC0000
def rngPos : Nat := 0xC0004
def rngPosSet : Nat := 0xC0008
def rngPortStatus (i : Nat) : Nat := 0xC0010 + 0x20 * i
def rngPortDelay (i : Nat) : Nat := 0xC0014 + 0x20 * i
def rngPortAsym (i : Nat) : Nat := 0xC0018 + 0x20 * i
def rngPortErrs (i : Nat) : Nat := 0xC001C + 0x20 * i
def rngPortQueued (i : Nat) : Nat := 0xC0020 + 0x20 * i
def rngAlignErr : Nat := 0xC0050
def rngCtlTimeout : Nat := 0xC0054
def rngCtlStats : Nat := 0xC0058
def rngCalCtl : Nat := 0xC0060
def rngCalPeriod : Nat := 0xC0064
def rngCalLead : Nat := 0xC0068
def rngCalAt : Nat := 0xC0070
def rngCalLast : Nat := 0xC0080
def rngDigStatus : Nat := 0xC008C
def rngIrq : Nat := 0xC00A0
def rngDivergent (i : Nat) : Nat := 0xC0100 + 4 * i
def rngWinCtl (i : Nat) : Nat := 0xC0400 + 0x10 * i
def rngWinPath (i : Nat) : Nat := 0xC0404 + 0x10 * i
def rngFwd (i : Nat) : Nat := 0xC0800 + 0x10 * i
def rngFwdNext (i : Nat) : Nat := 0xC0804 + 0x10 * i
def rngFwdAccept (i : Nat) : Nat := 0xC0A00 + 4 * i
def bnkConvStatus (b : Nat) : Nat := 0x100100 + 0x10000 * b
def bnkConvCtl (b : Nat) : Nat := 0x100104 + 0x10000 * b
def bnkConvRestarts (b : Nat) : Nat := 0x100108 + 0x10000 * b
def bnkFe (b : Nat) (i : Nat) : Nat := 0x100200 + 0x10000 * b + 4 * i
def bnkFeAct (b : Nat) (i : Nat) : Nat := 0x100240 + 0x10000 * b + 4 * i
def bnkOvr (b : Nat) (i : Nat) : Nat := 0x100300 + 0x10000 * b + 8 * i
def bnkTrimA (b : Nat) (i : Nat) : Nat := 0x100800 + 0x10000 * b + 8 * i
def bnkTrimB (b : Nat) (i : Nat) : Nat := 0x100804 + 0x10000 * b + 8 * i
def bnkTrgCtl (b : Nat) (i : Nat) : Nat := 0x101000 + 0x10000 * b + 0x100 * i
def bnkTrgLevelA (b : Nat) (i : Nat) : Nat := 0x101004 + 0x10000 * b + 0x100 * i
def bnkTrgLevelB (b : Nat) (i : Nat) : Nat := 0x101008 + 0x10000 * b + 0x100 * i
def bnkTrgHyst (b : Nat) (i : Nat) : Nat := 0x10100C + 0x10000 * b + 0x100 * i
def bnkTrgT1 (b : Nat) (i : Nat) : Nat := 0x101010 + 0x10000 * b + 0x100 * i
def bnkTrgT2 (b : Nat) (i : Nat) : Nat := 0x101018 + 0x10000 * b + 0x100 * i
def bnkTrgHoldTime (b : Nat) (i : Nat) : Nat := 0x101020 + 0x10000 * b + 0x100 * i
def bnkTrgHoldCount (b : Nat) (i : Nat) : Nat := 0x101028 + 0x10000 * b + 0x100 * i
def bnkTrgPattern (b : Nat) (i : Nat) : Nat := 0x10102C + 0x10000 * b + 0x100 * i
def bnkTrgStatus (b : Nat) (i : Nat) : Nat := 0x101030 + 0x10000 * b + 0x100 * i
def bnkTrgFired (b : Nat) (i : Nat) : Nat := 0x101034 + 0x10000 * b + 0x100 * i
def bnkTrgHeld (b : Nat) (i : Nat) : Nat := 0x10103C + 0x10000 * b + 0x100 * i
def bnkTrgMerged (b : Nat) (i : Nat) : Nat := 0x101040 + 0x10000 * b + 0x100 * i
def bnkTrgLast (b : Nat) (i : Nat) : Nat := 0x101044 + 0x10000 * b + 0x100 * i
def bnkFlt (b : Nat) (i : Nat) : Nat := 0x102000 + 0x10000 * b + 0x20 * i
def bnkFltAct (b : Nat) (i : Nat) : Nat := 0x102004 + 0x10000 * b + 0x20 * i
def bnkFltDelay (b : Nat) (i : Nat) : Nat := 0x102008 + 0x10000 * b + 0x20 * i
def bnkFltDelayOut (b : Nat) (i : Nat) : Nat := 0x10200C + 0x10000 * b + 0x20 * i
def bnkFltCic (b : Nat) (i : Nat) : Nat := 0x102010 + 0x10000 * b + 0x20 * i
def bnkFltSat (b : Nat) (i : Nat) : Nat := 0x102014 + 0x10000 * b + 0x20 * i
def bnkFltFir (b : Nat) (i : Nat) : Nat := 0x102018 + 0x10000 * b + 0x20 * i
def bnkFltProg (b : Nat) : Nat := 0x102200 + 0x10000 * b
def bnkFltStatus (b : Nat) : Nat := 0x102204 + 0x10000 * b
def bnkFltCoef (b : Nat) (i : Nat) : Nat := 0x102400 + 0x10000 * b + 4 * i
def aqgCtl (b : Nat) : Nat := 0x200000 + 0x1000 * b
def aqgHold (b : Nat) : Nat := 0x200004 + 0x1000 * b
def aqgStatus (b : Nat) : Nat := 0x200008 + 0x1000 * b
def aqgCfg (b : Nat) : Nat := 0x20000C + 0x1000 * b
def aqgChans (b : Nat) : Nat := 0x200010 + 0x1000 * b
def aqgPolicy (b : Nat) : Nat := 0x200014 + 0x1000 * b
def aqgShadowGen (b : Nat) : Nat := 0x200018 + 0x1000 * b
def aqgIrqGap (b : Nat) : Nat := 0x20001C + 0x1000 * b
def aqgEve (b : Nat) : Nat := 0x200020 + 0x1000 * b
def aqgPost (b : Nat) : Nat := 0x200028 + 0x1000 * b
def aqgEveMin (b : Nat) : Nat := 0x200030 + 0x1000 * b
def aqgEveAvail (b : Nat) : Nat := 0x200038 + 0x1000 * b
def aqgCommitSeq (b : Nat) : Nat := 0x200040 + 0x1000 * b
def aqgReleasedSeq (b : Nat) : Nat := 0x200050 + 0x1000 * b
def aqgCommitAddr (b : Nat) : Nat := 0x200060 + 0x1000 * b
def aqgTailAddr (b : Nat) : Nat := 0x200068 + 0x1000 * b
def aqgFree (b : Nat) : Nat := 0x200070 + 0x1000 * b
def aqgPartBase (b : Nat) : Nat := 0x200078 + 0x1000 * b
def aqgPartSize (b : Nat) : Nat := 0x200080 + 0x1000 * b
def aqgPreSize (b : Nat) : Nat := 0x200088 + 0x1000 * b
def aqgRelFirst (b : Nat) : Nat := 0x200090 + 0x1000 * b
def aqgRelLast (b : Nat) : Nat := 0x2000A0 + 0x1000 * b
def aqgRelCtl (b : Nat) : Nat := 0x2000AC + 0x1000 * b
def aqgLastTrig (b : Nat) : Nat := 0x2000B0 + 0x1000 * b
def aqgRecords (b : Nat) : Nat := 0x200100 + 0x1000 * b
def aqgGaps (b : Nat) : Nat := 0x200108 + 0x1000 * b
def aqgEarly (b : Nat) : Nat := 0x200110 + 0x1000 * b
def aqgDead (b : Nat) : Nat := 0x200118 + 0x1000 * b
def aqgRefused (b : Nat) : Nat := 0x200120 + 0x1000 * b
def aqgAbandoned (b : Nat) : Nat := 0x200128 + 0x1000 * b
def aqgShort (b : Nat) : Nat := 0x20012C + 0x1000 * b
def aqgAccCtl (b : Nat) : Nat := 0x200400 + 0x1000 * b
def aqgAccStatus (b : Nat) : Nat := 0x200404 + 0x1000 * b
def aqgAccN (b : Nat) : Nat := 0x200408 + 0x1000 * b
def aqgAccCount (b : Nat) : Nat := 0x20040C + 0x1000 * b
def aqgAccFirst (b : Nat) : Nat := 0x200410 + 0x1000 * b
def aqgAccSums (b : Nat) : Nat := 0x200420 + 0x1000 * b
def aqgAccDiscarded (b : Nat) : Nat := 0x200428 + 0x1000 * b
def aqgHistCtl (b : Nat) : Nat := 0x200500 + 0x1000 * b
def aqgHistEvery (b : Nat) : Nat := 0x200504 + 0x1000 * b
def aqgHistBin (b : Nat) : Nat := 0x200508 + 0x1000 * b
def aqgHistBase (b : Nat) : Nat := 0x20050C + 0x1000 * b
def aqgHistStatus (b : Nat) : Nat := 0x200510 + 0x1000 * b
def aqgHistEmits (b : Nat) : Nat := 0x200514 + 0x1000 * b
def memStatus (b : Nat) : Nat := 0x300000 + 0x10000 * b
def memCtl (b : Nat) : Nat := 0x300004 + 0x10000 * b
def memTemp (b : Nat) : Nat := 0x300008 + 0x10000 * b
def memCaReplays (b : Nat) : Nat := 0x300010 + 0x10000 * b
def memRdRetries (b : Nat) : Nat := 0x300014 + 0x10000 * b
def memCorrected (b : Nat) : Nat := 0x300018 + 0x10000 * b
def memUncorr (b : Nat) : Nat := 0x300020 + 0x10000 * b
def memRebuilt (b : Nat) : Nat := 0x300024 + 0x10000 * b
def memTrain (b : Nat) : Nat := 0x30002C + 0x10000 * b
def memSr (b : Nat) : Nat := 0x300030 + 0x10000 * b
def memFreezeCause (b : Nat) : Nat := 0x300034 + 0x10000 * b
def memFreezeSlot (b : Nat) : Nat := 0x300038 + 0x10000 * b
def memFreezeAt (b : Nat) : Nat := 0x300040 + 0x10000 * b
def memDiag (b : Nat) (i : Nat) : Nat := 0x308000 + 0x10000 * b + 4 * i
def memMode : Nat := 0x340000
def memScrubCtl : Nat := 0x340004
def memScrubPos : Nat := 0x340008
def memScrubPasses : Nat := 0x34000C
def memLostCount : Nat := 0x340010
def memRegRate (i : Nat) : Nat := 0x340100 + 0x10 * i
def memRegBurst (i : Nat) : Nat := 0x340104 + 0x10 * i
def memRegTokens (i : Nat) : Nat := 0x340108 + 0x10 * i
def memRegDenied (i : Nat) : Nat := 0x34010C + 0x10 * i
def memLostAddr (i : Nat) : Nat := 0x340400 + 4 * i
def hrvCtl (b : Nat) : Nat := 0x400000 + 0x10000 * b
def hrvStatus (b : Nat) : Nat := 0x400004 + 0x10000 * b
def hrvCqAddr (b : Nat) : Nat := 0x400008 + 0x10000 * b
def hrvCqSize (b : Nat) : Nat := 0x400010 + 0x10000 * b
def hrvCqTail (b : Nat) : Nat := 0x400014 + 0x10000 * b
def hrvCqHead (b : Nat) : Nat := 0x400018 + 0x10000 * b
def hrvIrqGap (b : Nat) : Nat := 0x40001C + 0x10000 * b
def hrvErrAddr (b : Nat) : Nat := 0x400020 + 0x10000 * b
def hrvErrInfo (b : Nat) : Nat := 0x400028 + 0x10000 * b
def hrvDescs (b : Nat) : Nat := 0x400030 + 0x10000 * b
def hrvHalts (b : Nat) : Nat := 0x400034 + 0x10000 * b
def hrvChCtl (b : Nat) (i : Nat) : Nat := 0x401000 + 0x10000 * b + 0x40 * i
def hrvChDoorbell (b : Nat) (i : Nat) : Nat := 0x401004 + 0x10000 * b + 0x40 * i
def hrvChStatus (b : Nat) (i : Nat) : Nat := 0x401008 + 0x10000 * b + 0x40 * i
def hrvChDone (b : Nat) (i : Nat) : Nat := 0x40100C + 0x10000 * b + 0x40 * i
def hrvChHead (b : Nat) (i : Nat) : Nat := 0x401010 + 0x10000 * b + 0x40 * i
def hrvChTail (b : Nat) (i : Nat) : Nat := 0x401018 + 0x10000 * b + 0x40 * i
def hrvChCur (b : Nat) (i : Nat) : Nat := 0x401020 + 0x10000 * b + 0x40 * i
def hrvChRingPos (b : Nat) (i : Nat) : Nat := 0x401028 + 0x10000 * b + 0x40 * i
def hrvChBytes (b : Nat) (i : Nat) : Nat := 0x401030 + 0x10000 * b + 0x40 * i
def hrvChRereads (b : Nat) (i : Nat) : Nat := 0x401038 + 0x10000 * b + 0x40 * i
def hrvChErrors (b : Nat) (i : Nat) : Nat := 0x40103C + 0x10000 * b + 0x40 * i
def snpId : Nat := 0xBFF000
def snpAt : Nat := 0xBFF004
def snpStatus : Nat := 0xBFF010

end Sys2Proof.Machine.Reg
end

