-- ==== Sys2Proof/Machine/RegMap.lean ====
section
/-! DEFINITION. The register map: for each register of the manual's tables its place, its access masks (R12), its
reserved bits (R11), its reset value and the bits that survive a warm or Fundamental reset (R324). -/

namespace Sys2Proof.Machine

/-- One row of the register map: the name, the offset in the block, the spacing and number of instances, the 32-bit
parts of the quantity, and the masks over all parts. -/
structure RegRow where
  name : String
  base : Nat
  stride : Nat
  count : Nat
  parts : Nat
  rw : Nat
  w1c : Nat
  w1s : Nat
  rsv : Nat
  reset : Nat
  keep : Nat
  deriving DecidableEq, Repr

/-- The blocks of BAR0 (R389). -/
inductive Blk where
  | glb | pwr | flt | alm | epc | cal | upd | lnt | prt | msix | rng | bnk | aqg | mem | memc | hrv | snp
  deriving DecidableEq, Repr

/-- A register found at an offset: its block, the block's instance, its row, its instance and the 32-bit part. -/
structure Hit where
  blk : Blk
  bi : Nat
  row : RegRow
  inst : Nat
  part : Nat
  deriving DecidableEq, Repr

/-- The registers of the GLB block. -/
def glbRows : List RegRow :=
  [⟨"GLB_ID", 0x40, 0, 1, 1, 0, 0, 0, 0xFF00, 0, 0xFFFFFFFF⟩,
   ⟨"GLB_HW_TYPE", 0x44, 0, 1, 2, 0, 0, 0, 0xFFFFFFF000000000, 0, 0⟩,
   ⟨"GLB_SERIAL", 0x50, 0, 1, 2, 0, 0, 0, 0, 0, 0⟩,
   ⟨"GLB_IRQ_PEND", 0x60, 0, 1, 2, 0, 0, 0, 0, 0, 0⟩,
   ⟨"GLB_RESET", 0x80, 0, 1, 1, 0, 0, 0xFFFFFFFF, 0, 0, 0⟩,
   ⟨"GLB_RESET_CAUSE", 0x84, 0, 1, 1, 0, 0, 0, 0xFFF0, 0, 0xFFFFFFFF⟩]

/-- The registers of the PWR block. -/
def pwrRows : List RegRow :=
  [⟨"PWR_STATUS", 0, 0, 1, 1, 0, 0x400, 0, 0xFFFFF180, 0x200, 0xFFFFFFFF⟩,
   ⟨"PWR_CTL", 4, 0, 1, 1, 3, 0, 0, 0xFFFFFFFC, 0, 0xFFFFFFFF⟩,
   ⟨"PWR_TOL_CAPTURE", 0x10, 0, 1, 1, 0xFFFFFFFF, 0, 0, 0, 0, 0xFFFFFFFF⟩,
   ⟨"PWR_TOL_EGRESS", 0x14, 0, 1, 1, 0xFFFFFFFF, 0, 0, 0, 0, 0xFFFFFFFF⟩,
   ⟨"PWR_TOL_CONTROL", 0x18, 0, 1, 1, 0xFFFFFFFF, 0, 0, 0, 0, 0xFFFFFFFF⟩,
   ⟨"PWR_DWELL", 0x1C, 0, 1, 1, 0xFFFFF, 0, 0, 0xFFF00000, 0x3E8, 0xFFFFFFFF⟩,
   ⟨"PWR_RAIL", 0x40, 4, 9, 1, 0, 0x70000, 0, 0xFFF80000, 0, 0xFFFFFFFF⟩,
   ⟨"PWR_POWER", 0x80, 0, 1, 1, 0, 0, 0, 0, 0, 0xFFFFFFFF⟩,
   ⟨"PWR_POWER_AVG", 0x84, 0, 1, 1, 0, 0, 0, 0, 0, 0xFFFFFFFF⟩,
   ⟨"PWR_LIMITS", 0x88, 0, 1, 1, 0, 0, 0, 0xFFFFF800, 0x7D7, 0⟩,
   ⟨"PWR_LOST", 0x90, 0, 1, 2, 0, 0, 0, 0xFFFFFFF000000000, 0, 0xFFFFFFFFFFFFFFFF⟩,
   ⟨"PWR_PF_COUNT", 0x98, 0, 1, 1, 0, 0, 0, 0, 0, 0xFFFFFFFF⟩,
   ⟨"PWR_ENTRIES", 0xA4, 4, 3, 1, 0, 0, 0, 0, 0, 0xFFFFFFFF⟩,
   ⟨"PWR_IRQ", 0xC0, 0, 1, 1, 7, 0x70000, 0, 0xFFF8FFF8, 0, 0xFFFFFFFF⟩]

/-- The registers of the FLT block. -/
def fltRows : List RegRow :=
  [⟨"FLT_STATUS", 0, 0, 1, 2, 0, 0xFFFFFFFFF, 0, 0xFFFFFFF000000000, 0, 0⟩,
   ⟨"FLT_SEVERE", 8, 0, 1, 2, 0, 0, 0, 0xFFFFFFF000000000, 0, 0⟩,
   ⟨"FLT_MASK", 0x10, 0, 1, 2, 0xFFFFFFFFF, 0, 0, 0xFFFFFFF000000000, 0, 0xFFFFFFFFF⟩,
   ⟨"FLT_ADOPT", 0x18, 0, 1, 2, 0, 0, 0xFFFFFFFFF, 0xFFFFFFF000000000, 0, 0⟩,
   ⟨"FLT_ESCALATED", 0x20, 0, 1, 2, 0, 0, 0, 0xFFFFFFF000000000, 0, 0⟩,
   ⟨"FLT_GRACE", 0x28, 0, 1, 1, 0x3FFF, 0, 0, 0xFFFFC000, 0x64, 0x3FFF⟩,
   ⟨"FLT_ACTION", 0x2C, 0, 1, 1, 0, 0, 0, 0xFFFC0000, 0, 0⟩,
   ⟨"FLT_FIRST", 0x30, 0, 1, 1, 0, 0, 0, 0xFFFFFF80, 0, 0x3F⟩,
   ⟨"FLT_FIRST_AT", 0x34, 0, 1, 3, 0, 0, 0, 0xFFFFFF000000000000000000, 0, 0xFFFFFFFFFFFFFFFFFF⟩,
   ⟨"FLT_PREV", 0x40, 0, 1, 2, 0, 0, 0, 0xFFFFFFF000000000, 0, 0xFFFFFFFFFFFFFFFF⟩,
   ⟨"FLT_PREV_SEVERE", 0x48, 0, 1, 2, 0, 0, 0, 0xFFFFFFF000000000, 0, 0xFFFFFFFFFFFFFFFF⟩,
   ⟨"FLT_SRAM_CORR", 0x50, 0, 1, 1, 0, 0, 0, 0, 0, 0xFFFFFFFF⟩,
   ⟨"FLT_SRC_CFG", 0x100, 4, 36, 1, 0xFFFF07FF, 0, 0, 0xF800, 0, 0xFFFF07FF⟩,
   ⟨"FLT_SRC_COUNT", 0x200, 4, 36, 1, 0, 0, 0, 0, 0, 0⟩]

/-- The registers of the ALM block. -/
def almRows : List RegRow :=
  [⟨"ALM_CTL", 0, 0, 1, 1, 0x300, 0, 7, 0xFFFFFCF8, 0, 0⟩,
   ⟨"ALM_BOOT", 4, 0, 1, 1, 1, 0, 0, 0xFFFFFFFE, 0, 1⟩,
   ⟨"ALM_STATUS", 8, 0, 1, 1, 0, 0, 0, 0xFF000080, 0, 0⟩,
   ⟨"ALM_STAGE_LEN", 0xC, 0, 1, 1, 0x1FFFFF, 0, 0, 0xFFE00000, 0, 0⟩,
   ⟨"ALM_RELOAD_AT", 0x10, 0, 1, 3, 0xFFFFFFFFFFFFFFFFFF, 0, 0, 0xFFFFFF000000000000000000, 0, 0⟩,
   ⟨"ALM_AFFECTED", 0x1C, 0, 1, 1, 0, 0, 0, 0xFFFF0000, 0, 0⟩,
   ⟨"ALM_DIGEST", 0x20, 4, 8, 1, 0, 0, 0, 0, 0, 0⟩,
   ⟨"ALM_TAG", 0x40, 0, 1, 1, 0, 0, 0, 0xFFFF0000, 0, 0⟩,
   ⟨"ALM_ERR_OFFSET", 0x44, 0, 1, 1, 0, 0, 0, 0xFFE00000, 0, 0⟩,
   ⟨"ALM_CHECK_COUNT", 0x48, 0, 1, 1, 0, 0, 0, 0, 0, 0xFFFFFFFF⟩,
   ⟨"ALM_RELOAD_COUNT", 0x4C, 0, 1, 1, 0, 0, 0, 0, 0, 0⟩,
   ⟨"ALM_FORFEIT", 0x50, 0, 1, 2, 0, 0, 0, 0xFFFFFFF000000000, 0, 0xFFFFFFFFFFFFFFFF⟩,
   ⟨"ALM_KEYS", 0x58, 0, 1, 1, 0, 0, 0, 0xFFFFFFE0, 0, 0xFFFFFFFF⟩]

/-- The registers of the EPC block. -/
def epcRows : List RegRow :=
  [⟨"EPC_NOW", 0, 0, 1, 3, 0, 0, 0, 0xFFFFFF000000000000000000, 0, 0⟩,
   ⟨"EPC_SET", 0x10, 0, 1, 3, 0xFFFFFFFFFFFFFFFFFF, 0, 0, 0xFFFFFF000000000000000000, 0, 0⟩,
   ⟨"EPC_CTL", 0x20, 0, 1, 1, 0x1730, 0, 7, 0xFFFFE8C8, 0x300, 0⟩,
   ⟨"EPC_STATUS", 0x24, 0, 1, 1, 0, 0x900, 0, 0xFFFFF000, 0x90, 0x1BD⟩,
   ⟨"EPC_REF_CTL", 0x28, 0, 1, 1, 3, 0, 0, 0xFFFFFFFC, 0, 3⟩,
   ⟨"EPC_REF_LOSSES", 0x2C, 0, 1, 1, 0, 0, 0, 0, 0, 0xFFFFFFFF⟩,
   ⟨"EPC_LOSS_AT", 0x30, 0, 1, 3, 0, 0, 0, 0xFFFFFF000000000000000000, 0, 0⟩,
   ⟨"EPC_PPS_AT", 0x40, 0, 1, 3, 0, 0, 0, 0xFFFFFF000000000000000000, 0, 0⟩,
   ⟨"EPC_PPS_ERR", 0x4C, 0, 1, 1, 0, 0, 0, 0, 0, 0⟩,
   ⟨"EPC_PPS_OFFSET", 0x50, 0, 1, 1, 0xFFFFFFFF, 0, 0, 0, 0, 0xFFFFFFFF⟩,
   ⟨"EPC_PPS_GATE", 0x54, 0, 1, 1, 0xFFFFFFFF, 0, 0, 0, 0x4E200, 0⟩,
   ⟨"EPC_PPS_COUNT", 0x58, 0, 1, 1, 0, 0, 0, 0, 0, 0⟩,
   ⟨"EPC_FOFFSET", 0x5C, 0, 1, 1, 0xFFFFFF, 0, 0, 0xFF000000, 0, 0⟩,
   ⟨"EPC_IV_CTL", 0x1000, 0x100, 16, 1, 0x17FF54, 0, 3, 0xFFE800A8, 0x1100, 0⟩,
   ⟨"EPC_IV_SRC", 0x1004, 0x100, 16, 1, 0xF07FF07F, 0, 0, 0xF800F80, 0, 0⟩,
   ⟨"EPC_IV_N", 0x1008, 0x100, 16, 1, 0xFFFFFF, 0, 0, 0xFF000000, 0, 0⟩,
   ⟨"EPC_IV_TIMEOUT", 0x100C, 0x100, 16, 2, 0xFFFFFFFFF, 0, 0, 0xFFFFFFF000000000, 0x4E2, 0⟩,
   ⟨"EPC_IV_GATE", 0x1014, 0x100, 16, 1, 0xFFFFFFFF, 0, 0, 0, 0x1312D0, 0⟩,
   ⟨"EPC_IV_PRESCALE", 0x1018, 0x100, 16, 1, 0x8000001F, 0, 0, 0x7FFFFFE0, 0x80000000, 0⟩,
   ⟨"EPC_IV_LIM_LO", 0x1020, 0x100, 16, 3, 0xFFFFFFFFFFFF, 0, 0, 0xFFFFFFFFFFFF000000000000, 0, 0⟩,
   ⟨"EPC_IV_LIM_HI", 0x1030, 0x100, 16, 3, 0xFFFFFFFFFFFF, 0, 0, 0xFFFFFFFFFFFF000000000000, 0, 0⟩,
   ⟨"EPC_IV_STATUS", 0x103C, 0x100, 16, 1, 0, 0x7F80, 0, 0xFFFF000C, 0, 0⟩,
   ⟨"EPC_IV_COUNT", 0x1040, 0x100, 16, 1, 0, 0, 0, 0xFE000000, 0, 0⟩,
   ⟨"EPC_IV_DISCARD", 0x1044, 0x100, 16, 1, 0, 0, 0, 0, 0, 0⟩,
   ⟨"EPC_IV_IGNORED", 0x1048, 0x100, 16, 1, 0, 0, 0, 0, 0, 0⟩,
   ⟨"EPC_IV_RES_N", 0x104C, 0x100, 16, 1, 0, 0, 0, 0xFE000000, 0, 0⟩,
   ⟨"EPC_IV_PIVOT", 0x1050, 0x100, 16, 3, 0, 0, 0, 0xFFFFFF000000000000000000, 0, 0⟩,
   ⟨"EPC_IV_SUM", 0x1060, 0x100, 16, 3, 0, 0, 0, 0xFFFFFF000000000000000000, 0, 0⟩,
   ⟨"EPC_IV_SUMSQ", 0x1070, 0x100, 16, 4, 0, 0, 0, 0xFFFFF000000000000000000000000000, 0, 0⟩,
   ⟨"EPC_IV_MIN", 0x1080, 0x100, 16, 3, 0, 0, 0, 0xFFFFFF000000000000000000, 0xFFFFFFFFFFFF, 0⟩,
   ⟨"EPC_IV_MAX", 0x1090, 0x100, 16, 3, 0, 0, 0, 0xFFFFFF000000000000000000, 0, 0⟩,
   ⟨"EPC_IV_PERIOD", 0x10A0, 0x100, 16, 3, 0, 0, 0, 0xFFFFFF000000000000000000, 0, 0⟩,
   ⟨"EPC_IV_RESID", 0x10AC, 0x100, 16, 1, 0, 0, 0, 0, 0, 0⟩,
   ⟨"EPC_IV_STAMPS", 0x10B0, 0x100, 16, 1, 0, 0, 0, 0xFFE0E000, 0, 0⟩,
   ⟨"EPC_CJ_CTL", 0x2000, 0x40, 16, 1, 0x3000, 0, 0x80000000, 0x7FFFC0CE, 0, 0⟩,
   ⟨"EPC_CJ_WINDOW", 0x2004, 0x40, 16, 2, 0xFFFFFFFFF, 0, 0, 0xFFFFFFF000000000, 0, 0⟩,
   ⟨"EPC_CJ_HOLD_TIME", 0x200C, 0x40, 16, 2, 0xFFFFFFFFF, 0, 0, 0xFFFFFFF000000000, 0, 0⟩,
   ⟨"EPC_CJ_HOLD_COUNT", 0x2014, 0x40, 16, 1, 0xFFFFFF, 0, 0, 0xFF000000, 0, 0⟩,
   ⟨"EPC_CJ_SLACK", 0x2018, 0x40, 16, 1, 0xFFFF, 0, 0, 0xFFFF0000, 0x640, 0⟩,
   ⟨"EPC_CJ_FIRED", 0x201C, 0x40, 16, 2, 0, 0, 0, 0xFFFFFFF000000000, 0, 0⟩,
   ⟨"EPC_CJ_HELD", 0x2024, 0x40, 16, 1, 0, 0, 0, 0, 0, 0⟩,
   ⟨"EPC_CJ_MERGED", 0x2028, 0x40, 16, 1, 0, 0, 0, 0, 0, 0⟩,
   ⟨"EPC_CJ_EXPIRED", 0x202C, 0x40, 16, 1, 0, 0, 0, 0, 0, 0⟩,
   ⟨"EPC_CJ_LAST", 0x2030, 0x40, 16, 3, 0, 0, 0, 0xFFFFFF000000000000000000, 0, 0⟩,
   ⟨"EPC_PIN_CTL", 0x2400, 0x10, 12, 1, 0x13, 0, 0xC0000000, 0x3FFFFFEC, 2, 0⟩,
   ⟨"EPC_PIN_STAT", 0x2404, 0x10, 12, 1, 0, 0, 0, 0xFFF8, 0, 3⟩,
   ⟨"EPC_PIN_EVENTS", 0x2408, 0x10, 12, 1, 0, 0, 0, 0, 0, 0⟩,
   ⟨"EPC_PIN_MERGED", 0x240C, 0x10, 12, 1, 0, 0, 0, 0, 0, 0⟩,
   ⟨"EPC_TRG_STUCK_LIMIT", 0x2500, 0, 1, 1, 0xFFFFFF, 0, 0, 0xFF000000, 0x3E8, 0xFFFFFF⟩,
   ⟨"EPC_SOFT", 0x2504, 0, 1, 1, 0, 0, 1, 0xFFFFFFFE, 0, 0⟩,
   ⟨"EPC_RLINE_MERGED", 0x2508, 0, 1, 1, 0, 0, 0, 0, 0, 0⟩,
   ⟨"EPC_TOUT_CTL", 0x2600, 0x10, 4, 1, 0xFF0111, 0, 0, 0xFF00FEEE, 0x140000, 0⟩,
   ⟨"EPC_TOUT_DELAY", 0x2604, 0x10, 4, 1, 0xFFFF, 0, 0, 0xFFFF0000, 0xFA, 0⟩,
   ⟨"EPC_TOUT_PULSES", 0x2608, 0x10, 4, 1, 0, 0, 0, 0, 0, 0⟩,
   ⟨"EPC_TOUT_MISS", 0x260C, 0x10, 4, 1, 0, 0, 0, 0, 0, 0⟩]

/-- The registers of the CAL block. -/
def calRows : List RegRow :=
  [⟨"CAL_CTL", 0, 0, 1, 1, 0x71, 0, 6, 0xFFFFFF88, 0x31, 1⟩,
   ⟨"CAL_STATUS", 4, 0, 1, 1, 0, 0x180, 0, 0xFF00FC10, 0x70000, 0xFF0000⟩,
   ⟨"CAL_DELTA", 8, 0, 1, 1, 0x7F, 0, 0, 0xFFFFFF80, 0x18, 0xFFFFFFFF⟩,
   ⟨"CAL_DEFER_MAX", 0xC, 0, 1, 1, 0x7FFF, 0, 0, 0xFFFF8000, 0x2710, 0xFFFFFFFF⟩,
   ⟨"CAL_PENDING", 0x10, 0, 1, 1, 0, 0, 0, 0xFFFF0000, 0, 0⟩,
   ⟨"CAL_DEFER", 0x14, 0, 1, 1, 0xFFFF, 0, 0, 0xFFFF0000, 0, 0⟩,
   ⟨"CAL_RUN", 0x18, 0, 1, 1, 0, 0, 0xFFFF, 0xFFFF0000, 0, 0⟩,
   ⟨"CAL_REJECTS", 0x1C, 0, 1, 1, 0, 0, 0, 0, 0, 0xFFFFFFFF⟩,
   ⟨"CAL_TILE_TEMP", 0x20, 4, 4, 1, 0, 0, 0, 0xFFFFF000, 0, 0⟩,
   ⟨"CAL_BANK_STATUS", 0x100, 0x20, 16, 1, 0, 8, 0, 0xF000, 0, 0xFFFF0000⟩,
   ⟨"CAL_BANK_REF_TEMP", 0x104, 0x20, 16, 1, 0, 0, 0, 0xFFFFF000, 0, 0⟩,
   ⟨"CAL_BANK_LAST_AT", 0x108, 0x20, 16, 3, 0, 0, 0, 0xFFFFFF000000000000000000, 0, 0⟩,
   ⟨"CAL_BANK_DEFERRED", 0x114, 0x20, 16, 1, 0, 0, 0, 0xFFFF8000, 0, 0⟩,
   ⟨"CAL_SEASON", 0x400, 4, 8, 1, 0, 0, 0, 0xC, 0, 0xFFFFFFFF⟩]

/-- The registers of the UPD block. -/
def updRows : List RegRow :=
  [⟨"UPD_CTL", 0, 0, 1, 1, 0, 0, 0x33F, 0xFFFFFCC0, 0, 0⟩,
   ⟨"UPD_STATUS", 4, 0, 1, 1, 0, 0x2000, 0, 0xFF0001F0, 0, 0x2E0F⟩,
   ⟨"UPD_PKG_LEN", 8, 0, 1, 1, 0x7FFFFFF, 0, 0, 0xF8000000, 0, 0⟩,
   ⟨"UPD_STAGED", 0xC, 0, 1, 1, 0, 0, 0, 0xFFFF8000, 0, 0⟩,
   ⟨"UPD_NEXT_MISSING", 0x10, 0, 1, 1, 0, 0, 0, 0xF8000000, 0, 0⟩,
   ⟨"UPD_ERR_OFFSET", 0x14, 0, 1, 1, 0, 0, 0, 0xF8000000, 0, 0⟩,
   ⟨"UPD_BLK_REFUSED", 0x18, 0, 1, 1, 0, 0, 0, 0, 0, 0⟩,
   ⟨"UPD_ACT_AT", 0x20, 0, 1, 3, 0xFFFFFFFFFFFFFFFFFF, 0, 0, 0xFFFFFF000000000000000000, 0, 0⟩,
   ⟨"UPD_CONFIRM_WINDOW", 0x2C, 0, 1, 1, 0xFFF, 0, 0, 0xFFFFF000, 0x3C, 0xFFFFFFFF⟩,
   ⟨"UPD_VERSION_A", 0x30, 0, 1, 1, 0, 0, 0, 0, 0, 0⟩,
   ⟨"UPD_VERSION_B", 0x34, 0, 1, 1, 0, 0, 0, 0, 0, 0⟩,
   ⟨"UPD_BANK_STATE", 0x38, 0, 1, 1, 0, 0, 0, 0xFFFFFFF0, 0, 0⟩,
   ⟨"UPD_FLOOR", 0x3C, 0, 1, 1, 0, 0, 0, 0, 0, 0xFFFFFFFF⟩,
   ⟨"UPD_VOTE_TIMEOUT", 0x40, 0, 1, 1, 0xFFFF, 0, 0, 0xFFFF0000, 0x2710, 0⟩,
   ⟨"UPD_VOTE_YES", 0x50, 0, 1, 2, 0, 0, 0, 0, 0, 0⟩,
   ⟨"UPD_VOTE_NO", 0x58, 0, 1, 2, 0, 0, 0, 0, 0, 0⟩,
   ⟨"UPD_VOTE_ABSENT", 0x60, 0, 1, 2, 0, 0, 0, 0, 0, 0⟩,
   ⟨"UPD_BLK_OFFSET", 0x70, 0, 1, 1, 0x7FFFFFF, 0, 0, 0xF8000000, 0, 0⟩,
   ⟨"UPD_BLK_CRC", 0x74, 0, 1, 1, 0xFFFFFFFF, 0, 0, 0, 0, 0⟩,
   ⟨"UPD_BLK_GO", 0x78, 0, 1, 1, 0, 0, 1, 0xFFFFFFFE, 0, 0⟩,
   ⟨"UPD_FLASH", 0x80, 0, 1, 1, 0, 0, 0, 0xFC00, 0x200, 0xFFFFFFFF⟩,
   ⟨"UPD_IRQ", 0x84, 0, 1, 1, 7, 0x70000, 0, 0xFFF8FFF8, 0, 0⟩,
   ⟨"UPD_KEY_HASH", 0xC0, 4, 12, 1, 0xFFFFFFFF, 0, 0, 0, 0, 0⟩,
   ⟨"UPD_KEY_CTL", 0xF0, 0, 1, 1, 0xFFFF0003, 0x100, 0x70, 0xFE8C, 0, 0⟩]

/-- The registers of the LNT block. -/
def lntRows : List RegRow :=
  [⟨"LNT_CTL", 0, 0, 1, 1, 3, 0, 0, 0xFFFFFFFC, 0, 0⟩,
   ⟨"LNT_MODE", 4, 0, 1, 1, 1, 0, 0, 0xFFFFFFFE, 0, 0⟩,
   ⟨"LNT_CFG", 8, 0, 1, 1, 0x31F, 0, 0, 0xFFFFFCE0, 0x202, 0⟩,
   ⟨"LNT_RATE", 0xC, 0, 1, 1, 0xFF, 0, 0, 0xFFFFFF00, 0x96, 0⟩,
   ⟨"LNT_H", 0x10, 0, 1, 1, 0xFFF, 0, 0, 0xFFFFF000, 0x780, 0⟩,
   ⟨"LNT_HBLANK", 0x14, 0, 1, 1, 0xFFFFFF, 0, 0, 0xFF000000, 0x202020, 0⟩,
   ⟨"LNT_V", 0x18, 0, 1, 1, 0xFFF, 0, 0, 0xFFFFF000, 0x4B0, 0⟩,
   ⟨"LNT_VBLANK", 0x1C, 0, 1, 1, 0xFFFFFF, 0, 0, 0xFF000000, 0x40804, 0⟩,
   ⟨"LNT_FRAME_US", 0x20, 0, 1, 1, 0xFFFF, 0, 0, 0xFFFF0000, 0x411B, 0⟩,
   ⟨"LNT_PUSH_DELAY", 0x24, 0, 1, 1, 0x1FFF, 0, 0, 0xFFFFE000, 0x64, 0⟩,
   ⟨"LNT_TRACE", 0x30, 0, 1, 1, 0x801F071F, 0, 0, 0x7FE0F8E0, 0, 0⟩,
   ⟨"LNT_TRACE_RECT", 0x34, 4, 2, 1, 0xFFF0FFF, 0, 0, 0xF000F000, 0, 0⟩,
   ⟨"LNT_TRACE_EVERY", 0x3C, 0, 1, 1, 0xFF, 0, 0, 0xFFFFFF00, 1, 0⟩,
   ⟨"LNT_KEY", 0x40, 0, 1, 1, 0x80FFFFFF, 0, 0, 0x7F000000, 0, 0⟩,
   ⟨"LNT_COMMIT", 0x50, 0, 1, 1, 0x13, 0, 0x80000000, 0x7FFFFFEC, 0, 0⟩,
   ⟨"LNT_COMMIT_RECT", 0x54, 4, 2, 1, 0xFFF0FFF, 0, 0, 0xF000F000, 0, 0⟩,
   ⟨"LNT_COMMIT_SEQ", 0x60, 0, 1, 1, 0, 0, 0, 0, 0, 0⟩,
   ⟨"LNT_RETIRED_SEQ", 0x64, 0, 1, 1, 0, 0, 0, 0, 0, 0⟩,
   ⟨"LNT_TAKEN_SEQ", 0x68, 0, 1, 1, 0, 0, 0, 0, 0, 0⟩,
   ⟨"LNT_STATUS", 0x70, 0, 1, 1, 0, 0x28, 0, 0xFF0000C0, 0, 0⟩,
   ⟨"LNT_FRAMES", 0x74, 0, 1, 1, 0, 0, 0, 0, 0, 0⟩,
   ⟨"LNT_UNDERRUN", 0x78, 0, 1, 1, 0, 0, 0, 0, 0, 0⟩,
   ⟨"LNT_READBACK_MISS", 0x7C, 0, 1, 1, 0, 0, 0, 0, 0, 0⟩,
   ⟨"LNT_TE_MISS", 0x80, 0, 1, 1, 0, 0, 0, 0, 0, 0⟩,
   ⟨"LNT_DCS_SEND", 0x94, 0, 1, 1, 0x3F7F, 0, 0x80000000, 0x7FFFC080, 0, 0⟩,
   ⟨"LNT_DCS_BUF", 0x100, 4, 16, 1, 0xFFFFFFFF, 0, 0, 0, 0, 0⟩]

/-- The registers of the PRT block. -/
def prtRows : List RegRow :=
  [⟨"PRT_PCIE_STATUS", 0, 0, 1, 1, 0, 0, 0, 0xFE00, 0, 0xFFFF0000⟩,
   ⟨"PRT_CLASS", 0x10, 0, 1, 1, 0, 0, 0, 0xF0000000, 0, 0⟩,
   ⟨"PRT_REFUSED_LAST", 0x14, 0, 1, 1, 0, 0, 0, 0xFF00FFF0, 0, 0⟩,
   ⟨"PRT_TELEM_CTL", 0x20, 0, 1, 1, 0x1FFFF, 0, 0, 0xFFFE0000, 0, 0x1FFFF⟩,
   ⟨"PRT_TELEM_DST_IP", 0x24, 4, 4, 1, 0xFFFFFFFF, 0, 0, 0, 0, 0xFFFFFFFF⟩,
   ⟨"PRT_MGMT_DROPPED", 0x34, 0, 1, 1, 0, 0, 0, 0, 0, 0⟩,
   ⟨"PRT_SMB_STATUS", 0x38, 0, 1, 1, 0, 0, 0, 0x80, 0, 0x7F⟩,
   ⟨"PRT_MARGIN_MIN", 0x3C, 0, 1, 1, 0xFF, 0, 0, 0xFFFFFF00, 0x28, 0xFFFFFFFF⟩,
   ⟨"PRT_OCTET_STATUS", 0x40, 4, 4, 1, 0, 0, 0, 0xFFFE00F8, 0, 0⟩,
   ⟨"PRT_REFUSED", 0x100, 4, 14, 1, 0, 0, 0, 0, 0, 0⟩,
   ⟨"PRT_MARGIN", 0x300, 4, 56, 1, 0, 0, 0, 0xFFFE0000, 0, 0⟩,
   ⟨"PRT_ETH_CTL", 0x1000, 0x40, 32, 1, 0xFFF0007, 0, 0, 0xF000FFF8, 0, 0⟩,
   ⟨"PRT_ETH_STATUS", 0x1004, 0x40, 32, 1, 0, 0, 0, 0xFC, 0, 0⟩,
   ⟨"PRT_ETH_MAC", 0x1008, 0x40, 32, 2, 0xFFFFFFFFFFFF, 0, 0, 0xFFFF000000000000, 0, 0⟩,
   ⟨"PRT_ETH_IP_0", 0x1010, 0x40, 32, 1, 0xFFFFFFFF, 0, 0, 0, 0, 0⟩,
   ⟨"PRT_ETH_IP_1", 0x1014, 0x40, 32, 1, 0xFFFFFFFF, 0, 0, 0, 0, 0⟩,
   ⟨"PRT_ETH_IP_2", 0x1018, 0x40, 32, 1, 0xFFFFFFFF, 0, 0, 0, 0, 0⟩,
   ⟨"PRT_ETH_IP_3", 0x101C, 0x40, 32, 1, 0xFFFFFFFF, 0, 0, 0, 0, 0⟩,
   ⟨"PRT_ETH_UDP", 0x1020, 0x40, 32, 1, 0xFFFF, 0, 0, 0xFFFF0000, 0x4854, 0⟩,
   ⟨"PRT_ETH_DROPPED", 0x1024, 0x40, 32, 1, 0, 0, 0, 0, 0, 0⟩,
   ⟨"PRT_ETH_TX", 0x1028, 0x40, 32, 2, 0, 0, 0, 0, 0, 0⟩,
   ⟨"PRT_ETH_FEC", 0x1030, 0x40, 32, 1, 0, 0, 0, 0, 0, 0⟩,
   ⟨"PRT_ST_CTL", 0x4000, 0x40, 256, 1, 0x3700, 0, 3, 0xFFFFC8FC, 0, 0⟩,
   ⟨"PRT_ST_STATUS", 0x4004, 0x40, 256, 1, 0, 8, 0, 0xE0F0, 0, 0xFFFF0000⟩,
   ⟨"PRT_ST_DST_MAC", 0x4008, 0x40, 256, 2, 0xFFFFFFFFFFFF, 0, 0, 0xFFFF000000000000, 0, 0⟩,
   ⟨"PRT_ST_DST_IP_0", 0x4010, 0x40, 256, 1, 0xFFFFFFFF, 0, 0, 0, 0, 0⟩,
   ⟨"PRT_ST_DST_IP_1", 0x4014, 0x40, 256, 1, 0xFFFFFFFF, 0, 0, 0, 0, 0⟩,
   ⟨"PRT_ST_DST_IP_2", 0x4018, 0x40, 256, 1, 0xFFFFFFFF, 0, 0, 0, 0, 0⟩,
   ⟨"PRT_ST_DST_IP_3", 0x401C, 0x40, 256, 1, 0xFFFFFFFF, 0, 0, 0, 0, 0⟩,
   ⟨"PRT_ST_DST_UDP", 0x4020, 0x40, 256, 1, 0xFFFF, 0, 0, 0xFFFF0000, 0, 0⟩,
   ⟨"PRT_ST_PART_MASK", 0x4024, 0x40, 256, 1, 0xFFFFFFFF, 0, 0, 0, 0, 0⟩,
   ⟨"PRT_ST_WINDOW", 0x4028, 0x40, 256, 1, 0xFFFF, 0, 0, 0xFFFF0000, 0x400, 0⟩,
   ⟨"PRT_ST_MTU", 0x402C, 0x40, 256, 1, 0x3FFF, 0, 0, 0xFFFFC000, 0x2370, 0⟩,
   ⟨"PRT_ST_RTO", 0x4030, 0x40, 256, 1, 0xFFFFFF, 0, 0, 0xFF000000, 0x1000C8, 0⟩,
   ⟨"PRT_ST_RATE", 0x4034, 0x40, 256, 1, 0xFFFF, 0, 0, 0xFFFF0000, 0, 0⟩,
   ⟨"PRT_ST_RESENT", 0x4038, 0x40, 256, 1, 0, 0, 0, 0, 0, 0⟩,
   ⟨"PRT_ST_NEXT", 0x403C, 0x40, 256, 1, 0, 0, 0, 0, 0, 0⟩]

/-- The registers of the MSIX block. -/
def msixRows : List RegRow :=
  [⟨"MSIX_ADDR_DATA_CTL", 0, 4, 256, 1, 0xFFFFFFFF, 0, 0, 0, 0, 0xFFFFFFFF⟩,
   ⟨"MSIX_PBA", 0x8000, 4, 2, 1, 0, 0, 0, 0, 0, 0xFFFFFFFF⟩]

/-- The registers of the RNG block. -/
def rngRows : List RegRow :=
  [⟨"RNG_STATUS", 0, 0, 1, 1, 0, 0, 0, 0xE0007F00, 0, 0⟩,
   ⟨"RNG_POS", 4, 0, 1, 1, 0, 0, 0, 0xFFFFFF40, 0, 0xFFFFFFFF⟩,
   ⟨"RNG_POS_SET", 8, 0, 1, 1, 0xBF, 0, 0x80000000, 0x3FFFFF40, 0, 0⟩,
   ⟨"RNG_PORT_STATUS", 0x10, 0x20, 2, 1, 0, 0, 0, 0x80F0, 0, 0⟩,
   ⟨"RNG_PORT_DELAY", 0x14, 0x20, 2, 1, 0, 0, 0, 0, 0, 0⟩,
   ⟨"RNG_PORT_ASYM", 0x18, 0x20, 2, 1, 0xFFFFFFFF, 0, 0, 0, 0, 0xFFFFFFFF⟩,
   ⟨"RNG_PORT_ERRS", 0x1C, 0x20, 2, 1, 0, 0, 0, 0, 0, 0⟩,
   ⟨"RNG_PORT_QUEUED", 0x20, 0x20, 2, 1, 0, 0, 0, 0, 0, 0⟩,
   ⟨"RNG_ALIGN_ERR", 0x50, 0, 1, 1, 0, 0, 0, 0, 0, 0⟩,
   ⟨"RNG_CTL_TIMEOUT", 0x54, 0, 1, 1, 0xFFFF, 0, 0, 0xFFFF0000, 0x14, 0⟩,
   ⟨"RNG_CTL_STATS", 0x58, 0, 1, 1, 0, 0, 0, 0, 0, 0⟩,
   ⟨"RNG_CAL_CTL", 0x60, 0, 1, 1, 6, 8, 1, 0xFFFFFFF0, 0, 0⟩,
   ⟨"RNG_CAL_PERIOD", 0x64, 0, 1, 1, 0xFFFF, 0, 0, 0xFFFF0000, 0x3E8, 0⟩,
   ⟨"RNG_CAL_LEAD", 0x68, 0, 1, 1, 0x3FF, 0, 0, 0xFFFFFC00, 2, 0⟩,
   ⟨"RNG_CAL_AT", 0x70, 0, 1, 3, 0xFFFFFFFFFFFFFFFFFF, 0, 0, 0xFFFFFF000000000000000000, 0, 0⟩,
   ⟨"RNG_CAL_LAST", 0x80, 0, 1, 3, 0, 0, 0, 0xFFFFFF000000000000000000, 0, 0⟩,
   ⟨"RNG_DIG_STATUS", 0x8C, 0, 1, 1, 0, 0, 0, 0xFFFFFF0E, 0, 0⟩,
   ⟨"RNG_IRQ", 0xA0, 0, 1, 1, 7, 0x70000, 0, 0xFFF8FFF8, 0, 0⟩,
   ⟨"RNG_DIVERGENT", 0x100, 4, 18, 1, 0, 0, 0, 0xE002C0F0, 0, 0⟩,
   ⟨"RNG_WIN_CTL", 0x400, 0x10, 64, 1, 0x1F3F03, 0, 0, 0x8FE0C0FC, 0, 0⟩,
   ⟨"RNG_WIN_PATH", 0x404, 0x10, 64, 3, 0xFFFFFFFFFFFFFFFFFF, 0, 0, 0xFFFFFF000000000000000000, 0, 0⟩,
   ⟨"RNG_FWD", 0x800, 0x10, 32, 1, 0xFF3F31, 0, 0, 0xFF00C0CC, 0, 0⟩,
   ⟨"RNG_FWD_NEXT", 0x804, 0x10, 32, 3, 0, 0, 0, 0xFFFFFF000000000000000000, 0, 0⟩,
   ⟨"RNG_FWD_ACCEPT", 0xA00, 4, 8, 1, 0xFFFFFFFF, 0, 0, 0, 0, 0⟩]

/-- The registers of the BNK block. -/
def bnkRows : List RegRow :=
  [⟨"BNK_CONV_STATUS", 0x100, 0, 1, 1, 0, 0, 0, 0xFF24, 0, 0⟩,
   ⟨"BNK_CONV_CTL", 0x104, 0, 1, 1, 0, 0, 1, 0xFFFFFFFE, 0, 0⟩,
   ⟨"BNK_CONV_RESTARTS", 0x108, 0, 1, 1, 0, 0, 0, 0, 0, 0xFFFFFFFF⟩,
   ⟨"BNK_FE", 0x200, 4, 16, 1, 0xFFF0033, 0, 0, 0xF000FFCC, 0x33, 0⟩,
   ⟨"BNK_FE_ACT", 0x240, 4, 16, 1, 0, 0, 0, 0, 0x33, 0⟩,
   ⟨"BNK_OVR", 0x300, 8, 16, 2, 0, 0, 0, 0xFFFFFFF000000000, 0, 0⟩,
   ⟨"BNK_TRIM_A", 0x800, 8, 128, 1, 0, 0, 0, 0xFC00F000, 0, 0⟩,
   ⟨"BNK_TRIM_B", 0x804, 8, 128, 1, 0, 0, 0, 0xFFFFC080, 0x2040, 0⟩,
   ⟨"BNK_TRG_CTL", 0x1000, 0x100, 8, 1, 0x1333F, 0, 0xC0000000, 0x3FFECCC0, 0x10000, 0⟩,
   ⟨"BNK_TRG_LEVEL_A", 0x1004, 0x100, 8, 1, 0x3FFFF, 0, 0, 0xFFFC0000, 0, 0⟩,
   ⟨"BNK_TRG_LEVEL_B", 0x1008, 0x100, 8, 1, 0x3FFFF, 0, 0, 0xFFFC0000, 0, 0⟩,
   ⟨"BNK_TRG_HYST", 0x100C, 0x100, 8, 1, 0x1FFFF, 0, 0, 0xFFFE0000, 0, 0⟩,
   ⟨"BNK_TRG_T1", 0x1010, 0x100, 8, 2, 0xFFFFFFFFF, 0, 0, 0xFFFFFFF000000000, 0, 0⟩,
   ⟨"BNK_TRG_T2", 0x1018, 0x100, 8, 2, 0xFFFFFFFFF, 0, 0, 0xFFFFFFF000000000, 0, 0⟩,
   ⟨"BNK_TRG_HOLD_TIME", 0x1020, 0x100, 8, 2, 0xFFFFFFFFF, 0, 0, 0xFFFFFFF000000000, 0, 0⟩,
   ⟨"BNK_TRG_HOLD_COUNT", 0x1028, 0x100, 8, 1, 0xFFFFFF, 0, 0, 0xFF000000, 0, 0⟩,
   ⟨"BNK_TRG_PATTERN", 0x102C, 0x100, 8, 1, 0xFFFFFFFF, 0, 0, 0, 0, 0⟩,
   ⟨"BNK_TRG_STATUS", 0x1030, 0x100, 8, 1, 0, 8, 0, 0xFFE0, 0, 0xFFFF0000⟩,
   ⟨"BNK_TRG_FIRED", 0x1034, 0x100, 8, 2, 0, 0, 0, 0xFFFFFFF000000000, 0, 0⟩,
   ⟨"BNK_TRG_HELD", 0x103C, 0x100, 8, 1, 0, 0, 0, 0, 0, 0⟩,
   ⟨"BNK_TRG_MERGED", 0x1040, 0x100, 8, 1, 0, 0, 0, 0, 0, 0⟩,
   ⟨"BNK_TRG_LAST", 0x1044, 0x100, 8, 3, 0, 0, 0, 0xFFFFFF000000000000000000, 0, 0⟩,
   ⟨"BNK_FLT", 0x2000, 0x20, 16, 1, 0x1FFFFFF, 0, 0, 0xFE000000, 0x100, 0⟩,
   ⟨"BNK_FLT_ACT", 0x2004, 0x20, 16, 1, 0, 0, 0, 0, 0x100, 0⟩,
   ⟨"BNK_FLT_DELAY", 0x2008, 0x20, 16, 1, 0, 0, 0, 0, 0, 0⟩,
   ⟨"BNK_FLT_DELAY_OUT", 0x200C, 0x20, 16, 1, 0, 0, 0, 0xFFFF0000, 0, 0⟩,
   ⟨"BNK_FLT_CIC", 0x2010, 0x20, 16, 1, 0, 0, 0, 0xC0FC0000, 0, 0⟩,
   ⟨"BNK_FLT_SAT", 0x2014, 0x20, 16, 1, 0, 0, 0, 0, 0, 0xFFFFFFFF⟩,
   ⟨"BNK_FLT_FIR", 0x2018, 0x20, 16, 1, 0, 0, 0, 0xFF00FE80, 0, 0⟩,
   ⟨"BNK_FLT_PROG", 0x2200, 0, 1, 1, 0, 0, 0, 0xFF000000, 0, 0⟩,
   ⟨"BNK_FLT_STATUS", 0x2204, 0, 1, 1, 0, 1, 0x400, 0xF800F80E, 0, 0⟩,
   ⟨"BNK_FLT_COEF", 0x2400, 4, 512, 1, 0, 0, 0, 0xFFFC0000, 0, 0⟩]

/-- The registers of the AQG block. -/
def aqgRows : List RegRow :=
  [⟨"AQG_CTL", 0, 0, 1, 1, 0x700, 0, 7, 0xFFFFF8F8, 0, 0⟩,
   ⟨"AQG_HOLD", 4, 0, 1, 1, 1, 0, 0, 0xFFFFFFFE, 0, 0⟩,
   ⟨"AQG_STATUS", 8, 0, 1, 1, 0, 0xE0000, 0, 0xFF000018, 0, 0⟩,
   ⟨"AQG_CFG", 0xC, 0, 1, 1, 0, 0, 0, 0xE0E0, 0, 0⟩,
   ⟨"AQG_CHANS", 0x10, 0, 1, 1, 0, 0, 0, 0xFE000000, 0, 0⟩,
   ⟨"AQG_POLICY", 0x14, 0, 1, 1, 3, 0, 0, 0xFFFFFFFC, 0, 0⟩,
   ⟨"AQG_SHADOW_GEN", 0x18, 0, 1, 1, 0, 0, 0, 0xFFFF0000, 0, 0⟩,
   ⟨"AQG_IRQ_GAP", 0x1C, 0, 1, 1, 0xFFFF, 0, 0, 0xFFFF0000, 0, 0⟩,
   ⟨"AQG_EVE", 0x20, 0, 1, 2, 0xFFFFFFFFF, 0, 0, 0xFFFFFFF000000000, 0, 0⟩,
   ⟨"AQG_POST", 0x28, 0, 1, 2, 0xFFFFFFFFF, 0, 0, 0xFFFFFFF000000000, 0x1000, 0⟩,
   ⟨"AQG_EVE_MIN", 0x30, 0, 1, 2, 0xFFFFFFFFF, 0, 0, 0xFFFFFFF000000000, 0, 0⟩,
   ⟨"AQG_EVE_AVAIL", 0x38, 0, 1, 2, 0, 0, 0, 0xFFFFFFF000000000, 0, 0⟩,
   ⟨"AQG_COMMIT_SEQ", 0x40, 0, 1, 3, 0, 0, 0, 0xFFFFFF000000000000000000, 0, 0⟩,
   ⟨"AQG_RELEASED_SEQ", 0x50, 0, 1, 3, 0, 0, 0, 0xFFFFFF000000000000000000, 0, 0⟩,
   ⟨"AQG_COMMIT_ADDR", 0x60, 0, 1, 2, 0, 0, 0, 0xFFFFFFF000000000, 0, 0⟩,
   ⟨"AQG_TAIL_ADDR", 0x68, 0, 1, 2, 0, 0, 0, 0xFFFFFFF000000000, 0, 0⟩,
   ⟨"AQG_FREE", 0x70, 0, 1, 2, 0, 0, 0, 0xFFFFFFF000000000, 0, 0⟩,
   ⟨"AQG_PART_BASE", 0x78, 0, 1, 2, 0, 0, 0, 0xFFFFFFF000000000, 0, 0⟩,
   ⟨"AQG_PART_SIZE", 0x80, 0, 1, 2, 0, 0, 0, 0xFFFFFFF000000000, 0, 0⟩,
   ⟨"AQG_PRE_SIZE", 0x88, 0, 1, 2, 0, 0, 0, 0xFFFFFFF000000000, 0, 0⟩,
   ⟨"AQG_REL_FIRST", 0x90, 0, 1, 3, 0xFFFFFFFFFFFFFFFFFF, 0, 0, 0xFFFFFF000000000000000000, 0, 0⟩,
   ⟨"AQG_REL_LAST", 0xA0, 0, 1, 3, 0xFFFFFFFFFFFFFFFFFF, 0, 0, 0xFFFFFF000000000000000000, 0, 0⟩,
   ⟨"AQG_REL_CTL", 0xAC, 0, 1, 1, 0, 6, 1, 0xFFFFFFF8, 0, 0⟩,
   ⟨"AQG_LAST_TRIG", 0xB0, 0, 1, 3, 0, 0, 0, 0xFFFFFF000000000000000000, 0, 0⟩,
   ⟨"AQG_RECORDS", 0x100, 0, 1, 2, 0, 0, 0, 0xFFFFFFF000000000, 0, 0xFFFFFFFFFFFFFFFF⟩,
   ⟨"AQG_GAPS", 0x108, 0, 1, 2, 0, 0, 0, 0xFFFFFFF000000000, 0, 0xFFFFFFFFFFFFFFFF⟩,
   ⟨"AQG_EARLY", 0x110, 0, 1, 2, 0, 0, 0, 0xFFFFFFF000000000, 0, 0xFFFFFFFFFFFFFFFF⟩,
   ⟨"AQG_DEAD", 0x118, 0, 1, 2, 0, 0, 0, 0xFFFFFFF000000000, 0, 0xFFFFFFFFFFFFFFFF⟩,
   ⟨"AQG_REFUSED", 0x120, 0, 1, 2, 0, 0, 0, 0xFFFFFFF000000000, 0, 0xFFFFFFFFFFFFFFFF⟩,
   ⟨"AQG_ABANDONED", 0x128, 0, 1, 1, 0, 0, 0, 0, 0, 0xFFFFFFFF⟩,
   ⟨"AQG_SHORT", 0x12C, 0, 1, 1, 0, 0, 0, 0, 0, 0xFFFFFFFF⟩,
   ⟨"AQG_ACC_CTL", 0x400, 0, 1, 1, 0x1330, 0, 1, 0xFFFFECCE, 0x10, 0⟩,
   ⟨"AQG_ACC_STATUS", 0x404, 0, 1, 1, 0, 0, 0, 0xF000FFF0, 0, 0⟩,
   ⟨"AQG_ACC_N", 0x408, 0, 1, 1, 0xFFFFFF, 0, 0, 0xFF000000, 0, 0⟩,
   ⟨"AQG_ACC_COUNT", 0x40C, 0, 1, 1, 0, 0, 0, 0xFE000000, 0, 0⟩,
   ⟨"AQG_ACC_FIRST", 0x410, 0, 1, 3, 0, 0, 0, 0xFFFFFF000000000000000000, 0, 0⟩,
   ⟨"AQG_ACC_SUMS", 0x420, 0, 1, 2, 0, 0, 0, 0xFFFFFFF000000000, 0, 0xFFFFFFFFFFFFFFFF⟩,
   ⟨"AQG_ACC_DISCARDED", 0x428, 0, 1, 2, 0, 0, 0, 0xFFFFFFF000000000, 0, 0xFFFFFFFFFFFFFFFF⟩,
   ⟨"AQG_HIST_CTL", 0x500, 0, 1, 1, 0xFF1F31, 0, 2, 0xFF00E0CC, 0xA00, 0⟩,
   ⟨"AQG_HIST_EVERY", 0x504, 0, 1, 1, 0xFFFFFF, 0, 0, 0xFF000000, 0, 0⟩,
   ⟨"AQG_HIST_BIN", 0x508, 0, 1, 1, 0xFFFF, 0, 0, 0xFFFF0000, 1, 0⟩,
   ⟨"AQG_HIST_BASE", 0x50C, 0, 1, 1, 0x3FFFF, 0, 0, 0xFFFC0000, 0x20000, 0⟩,
   ⟨"AQG_HIST_STATUS", 0x510, 0, 1, 1, 0, 0, 0, 0xFFFFE000, 0, 0⟩,
   ⟨"AQG_HIST_EMITS", 0x514, 0, 1, 2, 0, 0, 0, 0xFFFFFFF000000000, 0, 0xFFFFFFFFFFFFFFFF⟩]

/-- The registers of the MEM block. -/
def memRows : List RegRow :=
  [⟨"MEM_STATUS", 0, 0, 1, 1, 0, 0x100, 0, 0xFFFF00F8, 0, 0⟩,
   ⟨"MEM_CTL", 4, 0, 1, 1, 0, 0, 3, 0xFFFFFFFC, 0, 0⟩,
   ⟨"MEM_TEMP", 8, 0, 1, 1, 0, 0, 0, 0xFFFF0000, 0x8080, 0xFF00⟩,
   ⟨"MEM_CA_REPLAYS", 0x10, 0, 1, 1, 0, 0, 0, 0, 0, 0⟩,
   ⟨"MEM_RD_RETRIES", 0x14, 0, 1, 1, 0, 0, 0, 0, 0, 0⟩,
   ⟨"MEM_CORRECTED", 0x18, 0, 1, 2, 0, 0, 0, 0xFFFFFFF000000000, 0, 0⟩,
   ⟨"MEM_UNCORR", 0x20, 0, 1, 1, 0, 0, 0, 0, 0, 0⟩,
   ⟨"MEM_REBUILT", 0x24, 0, 1, 2, 0, 0, 0, 0xFFFFFFF000000000, 0, 0⟩,
   ⟨"MEM_TRAIN", 0x2C, 0, 1, 1, 0, 0, 0, 0, 0, 0⟩,
   ⟨"MEM_SR", 0x30, 0, 1, 1, 0, 0, 0, 0, 0, 0⟩,
   ⟨"MEM_FREEZE_CAUSE", 0x34, 0, 1, 1, 0, 0, 0, 0xFFFFFFF8, 0, 0xFFFFFFFF⟩,
   ⟨"MEM_FREEZE_SLOT", 0x38, 0, 1, 1, 0, 0, 0, 0xC0000000, 0, 0xFFFFFFFF⟩,
   ⟨"MEM_FREEZE_AT", 0x40, 0, 1, 3, 0, 0, 0, 0xFFFFFF000000000000000000, 0, 0xFFFFFFFFFFFFFFFFFFFFFFFF⟩,
   ⟨"MEM_DIAG", 0x8000, 4, 256, 1, 0, 0, 0, 0, 0, 0⟩]

/-- The registers of the MEMC block. -/
def memcRows : List RegRow :=
  [⟨"MEM_MODE", 0, 0, 1, 1, 0, 0, 0, 0xFFFFE008, 0, 0x10F0⟩,
   ⟨"MEM_SCRUB_CTL", 4, 0, 1, 1, 0xFF, 0, 0, 0xFFFFFF00, 0x18, 0⟩,
   ⟨"MEM_SCRUB_POS", 8, 0, 1, 1, 0, 0, 0, 0, 0, 0⟩,
   ⟨"MEM_SCRUB_PASSES", 0xC, 0, 1, 1, 0, 0, 0, 0, 0, 0⟩,
   ⟨"MEM_LOST_COUNT", 0x10, 0, 1, 1, 0, 0, 0, 0xFFFFFE00, 0, 0xFFFFFFFF⟩,
   ⟨"MEM_REG_RATE", 0x100, 0x10, 25, 1, 0xFFFF, 0, 0, 0xFFFF0000, 0, 0⟩,
   ⟨"MEM_REG_BURST", 0x104, 0x10, 25, 1, 0xFFFFFF, 0, 0, 0xFF000000, 0, 0⟩,
   ⟨"MEM_REG_TOKENS", 0x108, 0x10, 25, 1, 0, 0, 0, 0, 0, 0⟩,
   ⟨"MEM_REG_DENIED", 0x10C, 0x10, 25, 1, 0, 0, 0, 0, 0, 0⟩,
   ⟨"MEM_LOST_ADDR", 0x400, 4, 256, 1, 0, 0, 0, 0, 0xFFFFFFFF, 0xFFFFFFFF⟩]

/-- The registers of the HRV block. -/
def hrvRows : List RegRow :=
  [⟨"HRV_CTL", 0, 0, 1, 1, 1, 0, 0x100, 0xFFFFFEFE, 0, 0⟩,
   ⟨"HRV_STATUS", 4, 0, 1, 1, 0, 2, 0, 0xFFFFC0E0, 0, 0⟩,
   ⟨"HRV_CQ_ADDR", 8, 0, 1, 2, 0xFFFFFFFFFFFFFFFF, 0, 0, 0, 0, 0⟩,
   ⟨"HRV_CQ_SIZE", 0x10, 0, 1, 1, 0x1F, 0, 0, 0xFFFFFFE0, 4, 0⟩,
   ⟨"HRV_CQ_TAIL", 0x14, 0, 1, 1, 0, 0, 0, 0, 0, 0⟩,
   ⟨"HRV_CQ_HEAD", 0x18, 0, 1, 1, 0xFFFFFFFF, 0, 0, 0, 0, 0⟩,
   ⟨"HRV_IRQ_GAP", 0x1C, 0, 1, 1, 0xFFFF, 0, 0, 0xFFFF0000, 0, 0⟩,
   ⟨"HRV_ERR_ADDR", 0x20, 0, 1, 2, 0, 0, 0, 0, 0, 0⟩,
   ⟨"HRV_ERR_INFO", 0x28, 0, 1, 1, 0, 0, 0, 0xFFFFC000, 0, 0⟩,
   ⟨"HRV_DESCS", 0x30, 0, 1, 1, 0, 0, 0, 0, 0, 0⟩,
   ⟨"HRV_HALTS", 0x34, 0, 1, 1, 0, 0, 0, 0, 0, 0⟩,
   ⟨"HRV_CH_CTL", 0x1000, 0x40, 64, 1, 3, 0, 0x100, 0xFFFFFEFC, 0, 0⟩,
   ⟨"HRV_CH_DOORBELL", 0x1004, 0x40, 64, 1, 0, 0, 0xFFFFFFFF, 0, 0, 0⟩,
   ⟨"HRV_CH_STATUS", 0x1008, 0x40, 64, 1, 0, 0x10, 0, 0xE0, 0, 0⟩,
   ⟨"HRV_CH_DONE", 0x100C, 0x40, 64, 1, 0, 0, 0, 0, 0, 0⟩,
   ⟨"HRV_CH_HEAD", 0x1010, 0x40, 64, 2, 0xFFFFFFFFFFFFFFFF, 0, 0, 0, 0, 0⟩,
   ⟨"HRV_CH_TAIL", 0x1018, 0x40, 64, 2, 0, 0, 0, 0, 0, 0⟩,
   ⟨"HRV_CH_CUR", 0x1020, 0x40, 64, 2, 0, 0, 0, 0, 0, 0⟩,
   ⟨"HRV_CH_RING_POS", 0x1028, 0x40, 64, 2, 0, 0, 0, 0, 0, 0⟩,
   ⟨"HRV_CH_BYTES", 0x1030, 0x40, 64, 2, 0, 0, 0, 0, 0, 0⟩,
   ⟨"HRV_CH_REREADS", 0x1038, 0x40, 64, 1, 0, 0, 0, 0, 0, 0⟩,
   ⟨"HRV_CH_ERRORS", 0x103C, 0x40, 64, 1, 0, 0, 0, 0, 0, 0⟩]

/-- The registers of the SNP block. -/
def snpRows : List RegRow :=
  [⟨"SNP_ID", 0x3FF000, 0, 1, 1, 0, 0, 0, 0, 0, 0xFFFFFFFF⟩,
   ⟨"SNP_AT", 0x3FF004, 0, 1, 3, 0, 0, 0, 0xFFFFFF000000000000000000, 0, 0xFFFFFFFFFFFFFFFFFFFFFFFF⟩,
   ⟨"SNP_STATUS", 0x3FF010, 0, 1, 1, 0, 2, 0, 0xC0FC, 0, 0xFFFFFFFF⟩]
/-- The rows of a block. -/
def blkRows : Blk → List RegRow
  | .glb => glbRows
  | .pwr => pwrRows
  | .flt => fltRows
  | .alm => almRows
  | .epc => epcRows
  | .cal => calRows
  | .upd => updRows
  | .lnt => lntRows
  | .prt => prtRows
  | .msix => msixRows
  | .rng => rngRows
  | .bnk => bnkRows
  | .aqg => aqgRows
  | .mem => memRows
  | .memc => memcRows
  | .hrv => hrvRows
  | .snp => snpRows

/-- The block that holds an offset, with its instance and the offset within it (R389). -/
def blkAt (off : Nat) : Option (Blk × Nat × Nat) :=
  if off < 0x10000 then some (.glb, 0, off)
  else if off < 0x20000 then some (.pwr, 0, off - 0x10000)
  else if off < 0x30000 then some (.flt, 0, off - 0x20000)
  else if off < 0x40000 then some (.alm, 0, off - 0x30000)
  else if off < 0x50000 then some (.epc, 0, off - 0x40000)
  else if off < 0x60000 then some (.cal, 0, off - 0x50000)
  else if off < 0x70000 then some (.upd, 0, off - 0x60000)
  else if off < 0x80000 then some (.lnt, 0, off - 0x70000)
  else if off < 0x90000 then some (.prt, 0, off - 0x80000)
  else if off < 0xA0000 then some (.msix, 0, off - 0x90000)
  else if off < 0xC0000 then none
  else if off < 0xD0000 then some (.rng, 0, off - 0xC0000)
  else if off < 0x100000 then none
  else if off < 0x200000 then some (.bnk, (off - 0x100000) / 0x10000, (off - 0x100000) % 0x10000)
  else if off < 0x220000 then some (.aqg, (off - 0x200000) / 0x1000, (off - 0x200000) % 0x1000)
  else if off < 0x300000 then none
  else if off < 0x340000 then some (.mem, (off - 0x300000) / 0x10000, (off - 0x300000) % 0x10000)
  else if off < 0x350000 then some (.memc, 0, off - 0x340000)
  else if off < 0x400000 then none
  else if off < 0x450000 then some (.hrv, (off - 0x400000) / 0x10000, (off - 0x400000) % 0x10000)
  else if off < 0x800000 then none
  else if off < 0xC00000 then some (.snp, 0, off - 0x800000)
  else none

/-- The instance and part of a row at an offset within its block, where the row covers it. -/
def rowAt (r : RegRow) (o : Nat) : Option (Nat × Nat) :=
  if o < r.base then none
  else
    let d := o - r.base
    let i := if r.stride = 0 then 0 else d / r.stride
    let e := if r.stride = 0 then d else d % r.stride
    if i < r.count ∧ e < 4 * r.parts then some (i, e / 4) else none

/-- The first row of a list that covers an offset. -/
def findRow (rs : List RegRow) (o : Nat) : Option (RegRow × Nat × Nat) :=
  match rs with
  | [] => none
  | r :: t => match rowAt r o with
    | some (i, p) => some (r, i, p)
    | none => findRow t o

/-- The register at an aligned offset of BAR0. -/
def regAt (off : Nat) : Option Hit :=
  match blkAt off with
  | none => none
  | some (b, bi, o) => match findRow (blkRows b) o with
    | none => none
    | some (r, i, p) => some ⟨b, bi, r, i, p⟩

/-- The 32 bits of part `p` of a mask or value over all parts. -/
def partOf (x p : Nat) : Word := BitVec.ofNat 32 (x >>> (32 * p))

/-- N, W in ms and ACTION of each fault source after a cold reset (R342). -/
def sourceCfg : List (Nat × Nat × Nat) :=
  [(1, 1000, 0), (1, 1000, 0), (1, 1000, 0), (1, 1000, 0), (16, 1000, 0), (16, 1000, 0), (16, 1000, 0), (16, 1000, 0),
   (3, 60000, 0), (4, 10000, 0), (4, 1000, 2), (1, 1000, 3), (1, 1000, 0), (1, 1000, 0), (1, 1000, 3), (1, 1000, 0),
   (1, 1000, 0), (255, 1000, 0), (3, 65535, 0), (1, 1000, 0), (255, 1, 0), (255, 1000, 0), (16, 1000, 0),
   (16, 1000, 0), (1, 1000, 0), (8, 1000, 0), (1, 1000, 0), (1, 1000, 0), (1, 1000, 0), (255, 1000, 0),
   (4, 60000, 0), (4, 60000, 0), (3, 65535, 0), (255, 1000, 0), (1, 1000, 0), (4, 60000, 0)]

/-- The reset word of FLT_SRC_CFG of a source (R342). -/
def sourceCfgReset (n : Nat) : Nat :=
  match sourceCfg[n]? with
  | some (k, w, a) => w * 65536 + a * 256 + k
  | none => 0

/-- RATE and BURST of a memory port after reset (R201). -/
def portReset (p : Nat) : Nat × Nat :=
  if p < 16 then (683, 8192) else if p < 20 then (569, 4096) else if p = 20 then (689, 4096)
  else if p = 21 then (8192, 65536) else if p = 22 then (1, 64) else (23, 1024)

/-- CAL_SEASON of a slot as it leaves the factory: slots 0 to 2 valid, with the tags of 10, 40 and 70 °C (R338). -/
def factorySeasonWord (k : Nat) : Nat :=
  if k = 0 then 80 * 16 + 3 else if k = 1 then 320 * 16 + 3 else if k = 2 then 560 * 16 + 3 else 0

/-- The word an offset reads as while nothing has been stored there: the reset value of its register. -/
def regDefault (off : Nat) : Word :=
  match regAt off with
  | none => 0
  | some h =>
    if h.blk = .flt ∧ h.row.base = 0x100 then BitVec.ofNat 32 (sourceCfgReset h.inst)
    else if h.blk = .memc ∧ h.row.base = 0x100 then BitVec.ofNat 32 (portReset h.inst).1
    else if h.blk = .memc ∧ h.row.base = 0x104 then BitVec.ofNat 32 (portReset h.inst).2
    else if h.blk = .memc ∧ h.row.base = 0x108 then BitVec.ofNat 32 ((portReset h.inst).2 * 256)
    else if h.blk = .cal ∧ h.row.base = 0x400 then BitVec.ofNat 32 (factorySeasonWord h.inst)
    else if h.blk = .msix ∧ h.row.base = 0 then (if h.inst % 4 = 3 then 1 else 0)
    else partOf h.row.reset h.part

end Sys2Proof.Machine
end

