-- ==== Sys2Proof/Machine/State.lean ====
section
/-! DEFINITION. The state of the A256 as plain data, the reasons a command can stop, and the state after reset.
Software-visible registers live in `regs` (one home for each word; `RegMap` says what an unlisted word reads as);
what the rules keep beside the registers has a typed field of its own. -/

namespace Sys2Proof.Machine

/-- The reasons a command can stop with a fault. -/
inductive Fault where
  /-- Raised by a register write that sets a bit, or writes an encoding of a field, that the register's own description calls
  reserved: the effect is undefined (R11). Safe: the model stops where the hardware may do anything. -/
  | reservedValue
  /-- Raised by a boundary-scan instruction other than BYPASS or IDCODE that is in force while RST_N is not held low, where
  the spec calls the behaviour of the device undefined (R422). Safe: the model stops where the hardware may do anything. -/
  | testMode
  deriving DecidableEq, Repr

/-- The reasons a command has no meaning. -/
inductive Refusal where
  /-- Raised by an arm of the dispatch whose command has no meaning yet. Safe: nothing can be concluded of it. -/
  | notModelled (mnemonic : String)
  deriving DecidableEq, Repr

/-! ### The Almanac in force (R40 to R46) -/

/-- A BANK entry. Mode 0 x1, 1 x4, 2 x16, 3 disabled. -/
structure BankCfg where
  mode : Nat
  prog : Nat
  deriving DecidableEq, Repr

/-- An enabled GROUP entry. -/
structure GroupCfg where
  mode : Nat
  firstCh : Nat
  lastCh : Nat
  partition : Nat
  layout : Nat
  srcKind : Nat
  srcIndex : Nat
  annex : Bool
  deriving DecidableEq, Repr

/-- An enabled trigger-unit entry. Stream 0 raw, 1 filtered. -/
structure UnitCfg where
  channel : Nat
  stream : Nat
  deriving DecidableEq, Repr

/-- An enabled Conjunction entry: operation and the source pairs in use. -/
structure ConjCfg where
  op : Nat
  srcs : List (Nat × Nat)
  deriving DecidableEq, Repr

/-- A declared filter program. -/
structure ProgCfg where
  firstSet : Nat
  lastSet : Nat
  fir : Nat
  deriving DecidableEq, Repr

/-- A custom FIR set with the coefficients as stored. -/
structure FirCfg where
  inst : Nat
  ntaps : Nat
  sym : Bool
  shift : Nat
  coefs : List Int
  deriving DecidableEq, Repr

/-- One section of an image: type, instance and bytes. -/
structure Section where
  ty : Nat
  inst : Nat
  bytes : List Byte
  deriving DecidableEq, Repr

/-- What a checked image says. Lists are indexed by bank, group, trigger unit, Conjunction and so on. -/
structure Almanac where
  banks : List BankCfg
  groups : List (Option GroupCfg)
  units : List (Option UnitCfg)
  conjs : List (Option ConjCfg)
  touts : List (Nat × Nat)
  rlines : List (Nat × Nat)
  progs : List (Option ProgCfg)
  firs : List FirCfg
  plain : Bool
  parts : List (Nat × Nat)
  octets : List (Nat × Nat)
  privs : List Nat
  role : Nat
  genMax : Nat
  units64 : Nat
  decls : List (Nat × Nat × Nat)
  maxW : Nat
  deepest : Nat
  retain : Bool
  sections : List Section
  digest : List Byte
  signed : Bool
  trusted : Bool
  host : Bool
  deriving DecidableEq, Repr

/-- What a check in progress is for (R47, R49, R54). -/
inductive CheckFor where
  | startLoad (host : Bool)
  | reload
  deriving DecidableEq, Repr

/-- A check in progress: the image, its purpose and the Almanac it gave, once it has passed and waits. -/
structure CheckJob where
  image : List Byte
  purpose : CheckFor
  startedAt : Nat
  deriving DecidableEq, Repr

/-! ### Trigger events (R101 to R129) -/

/-- A consumer of trigger events. -/
inductive Dest where
  | group (g : Nat)
  | conj (j : Nat)
  | tout (o : Nat)
  | ivStart (u : Nat)
  | ivStop (u : Nat)
  deriving DecidableEq, Repr

/-- An event under way to a consumer: its source, instant and markers, and the core cycle in which it set out. -/
structure Delivery where
  dest : Dest
  src : Nat × Nat
  instant : Nat
  ring : Bool
  wake : Bool
  cyc : Nat
  deriving DecidableEq, Repr

/-- The detection state of a trigger unit (R102, R104, R124): arming at each level and direction, the span in
progress, whether the span has been detected at its limit, the pattern state of each channel, and the latest sample of the unit's
channel and of each channel of a pattern. -/
structure TrigUnit where
  armRiseA : Bool
  armFallA : Bool
  armRiseB : Bool
  armFallB : Bool
  span : Option Nat
  spanFired : Bool
  pattern : Nat
  patternTrue : Bool
  last : Option Int
  lasts : List (Nat × Int)
  firedAt : Option Nat
  holdLeft : Nat
  lastOut : Option Nat
  activeSince : Option Nat
  deriving DecidableEq, Repr

/-- A held Conjunction event: source position, instant and ring marker. -/
structure Held where
  pos : Nat
  instant : Nat
  ring : Bool
  deriving DecidableEq, Repr

/-- The state of a Conjunction beside its registers (R118, R109). -/
structure Conj where
  held : List Held
  firedAt : Option Nat
  holdLeft : Nat
  lastOut : Option Nat
  deriving DecidableEq, Repr

/-- The state of a trigger or event pin (R112 to R114): since when it is active, and its latest edges. -/
structure Pin where
  activeSince : Option Nat
  lastRise : Option Nat
  lastFall : Option Nat
  wakeKept : Option Nat
  deriving DecidableEq, Repr

/-- A pulse of a TRIG_OUT output: its start and end in model time, and whether its end has been put out. -/
structure Pulse where
  start : Nat
  stop : Nat
  told : Bool
  deriving DecidableEq, Repr

/-- The state of a TRIG_OUT output: its pulses, running, scheduled, or ended within the gap that follows them (R126). -/
structure Tout where
  pulses : List Pulse
  deriving DecidableEq, Repr

/-- The state of an interval unit beside its registers (R91 to R97). -/
structure IvUnit where
  startAt : Option Nat
  stops : List Nat
  closedAt : Option Nat
  pivot : Nat
  sum : Nat
  sumsq : Nat
  least : Nat
  greatest : Nat
  waitStart : Bool
  gateFrom : Option Nat
  counting : Bool
  evCount : Nat
  stamps : List Nat
  merged : Bool
  recentStart : List Nat
  recentStop : List Nat
  regOnStart : Bool
  deriving DecidableEq, Repr

/-! ### Groups, records and partitions (R131 to R163, R180 to R191) -/

/-- The state of a group (R132). -/
inductive GState where
  | disabled
  | idle
  | filling
  | armed
  | recording
  | rearm
  | streaming
  | paused
  deriving DecidableEq, Repr

/-- A record as it will be written: every header field but the sequence, the annex, the payload and the trailer; `first` is
its first sample instant, which the image does not hold. -/
structure Rec where
  kind : Nat
  flags : Nat
  trig : Nat
  w5 : Nat
  w6 : Nat
  w7 : Nat
  pack : Nat
  filt : Nat
  dmode : Nat
  nch : Nat
  firstCh : Nat
  decim : Nat
  w10 : Nat
  w11 : Nat
  early : Nat
  dead : Nat
  accum : Nat
  tag : Nat
  gen : Nat
  season : Nat
  annex : List Nat
  payload : List Native
  ovr : Nat
  ovrCh : Nat
  first : Nat
  deriving DecidableEq, Repr

/-- A record in progress: what its trigger (or its segment's start) fixed. -/
structure Cur where
  trig : Nat
  s0 : Nat
  eveAct : Nat
  post : Nat
  flags : Nat
  deadTime : Nat
  early : Nat
  dead : Nat
  annex : List Nat
  gen : Nat
  tag : Nat
  season : Nat
  startedAt : Nat
  /-- The model's time at the record's start: the flows to the capture ports run from here (R204). -/
  begun : Nat
  deriving DecidableEq, Repr

/-- A record of a DRAM-held sum that is staged and waits for its fold: what it adds to the sum when the fold ends
(R184). -/
structure Staged where
  cur : Cur
  flags : Nat
  ovr : Nat
  ovrCh : List Nat
  vals : List (List Int)
  deriving DecidableEq, Repr

/-- A gap in progress: its cause and since when it holds. -/
structure Pause where
  cause : Nat
  since : Nat
  deriving DecidableEq, Repr

/-- The sum of an Accumulate group (R180 to R189). -/
structure Acc where
  place : Nat
  blocks : Nat
  sums : List (List Int)
  count : Nat
  first : Nat
  flags : Nat
  deadTime : Option Nat
  ovr : Nat
  ovrCh : List Nat
  staged : Option Staged
  folding : Bool
  flush : Bool
  emitWait : List Rec
  /-- The granules of the first waiting record have been asked of the accumulation port (R188). -/
  emitPaid : Bool
  grid : Tbl Nat
  gridFirst : Nat
  gridCount : Nat
  /-- The Almanac tags in force when the sum's, and the grid's, first record started (R39, R56). -/
  tag : Nat
  gridTag : Nat
  /-- The first eight dead-time triggers across the sum (R187). -/
  log : List Nat
  deriving DecidableEq, Repr

/-- The state of an acquisition group beside its registers. -/
structure Group where
  st : GState
  armErr : Nat
  handErr : Bool
  fillFrom : Nat
  cur : Option Cur
  rearmAt : Nat
  able : Nat
  prevEnd : Option Nat
  covered : Nat
  early : Nat
  dead : Nat
  logged : List Nat
  queue : List Rec
  pauses : List Pause
  gapFrom : Nat
  /-- The Almanac tag in force at `gapFrom` (R39, R56). -/
  gapTag : Nat
  disarming : Bool
  armNext : Bool
  irqHeld : Bool
  lastMsg : Option Nat
  /-- The end of the last Stream segment that has been counted in AQG_REFUSED (R139). -/
  refusedTo : Nat
  acc : Acc
  deriving DecidableEq, Repr

/-- An entry of the record directory: one committed record not yet passed by the tail. -/
structure DirEntry where
  seq : Nat
  addr : Nat
  granules : Nat
  ag : Nat
  firstCh : Nat
  nch : Nat
  overflow : Bool
  /-- Payload words and the layout they were written in (R158, R234). -/
  payload : Nat
  layout : Nat
  deriving DecidableEq, Repr

/-- The release ledger of a partition (R135 to R138, R321, R322). -/
structure Partition where
  seq : Nat
  released : Nat
  ranges : List (Nat × Nat)
  commitAddr : Nat
  tailAddr : Nat
  recs : List DirEntry
  lastAg : Nat
  lastFirst : Nat
  lastNch : Nat
  floor : Nat
  deriving DecidableEq, Repr

/-- The gap state of a group kept in the always-on domain through a reset (R325, R326). -/
structure GapState where
  g : Nat
  part : Nat
  firstCh : Nat
  nch : Nat
  delta : Nat
  since : Nat
  upto : Nat
  early : Nat
  dead : Nat
  /-- The Almanac tag in force where the span begins (R39, R56). -/
  tag : Nat
  deriving DecidableEq, Repr

/-- The flash copy of the ledger (R321): valid or void, the partitions, the armed groups, the lost granules and the
MEMORY section. -/
structure Journal where
  valid : Bool
  parts : Tbl Partition
  gaps : List GapState
  lost : List Nat
  memory : List Byte
  deriving DecidableEq, Repr

/-! ### Converters, stacks, power -/

/-- The state of a bank beside its registers: its start-up and whether that loads the trims (R71 to R76, R123, R175), the instant
from which its trims act and the BNK_TRIM_A words before them (R69), and its calibration request (R331 to R333). -/
structure BankSt where
  startAt : Option Nat
  retryAt : Option Nat
  full : Bool
  settleEnd : List Nat
  restartAt : List Nat
  trimFrom : Nat
  oldTrims : List Word
  calibrating : Bool
  calSince : Option Nat
  calForced : Bool
  deferFrom : Option Nat
  deferSpent : Bool
  deriving DecidableEq, Repr

/-- A calibration run in progress: bank, start, when its bank became pending and whether it was forced (R332, R337). -/
structure CalRun where
  bank : Nat
  startAt : Nat
  since : Nat
  forced : Bool
  deriving DecidableEq, Repr

/-- A Season write in progress: slot, tag and values, or an erasure (R340). -/
structure SeasonJob where
  slot : Nat
  erase : Bool
  tag : Nat
  vals : Tbl Int
  deriving DecidableEq, Repr

/-- An entry of a controller's retry buffer (R214, R217): slot, direction, requesting port, replays or rereads made, when it was
queued, and the severity of its latest read. -/
structure Retry where
  slot : Nat
  write : Bool
  port : Nat
  replays : Nat
  at_ : Nat
  severity : Nat
  deriving DecidableEq, Repr

/-- What a memory request that waits is for: a read through BAR2 with what its granules are found to be, or the rewrite of a
granule (R211, R215, R219). -/
inductive MemWhy where
  | read (addr len : Nat) (finds : List GranuleFind)
  | rewrite (k slot : Nat)
  deriving DecidableEq, Repr

/-- A memory request that waits at a port: since when, and whether its tokens have been asked for (R202, R205). -/
structure MemReq where
  port : Nat
  at_ : Nat
  paid : Bool
  why : MemWhy
  deriving DecidableEq, Repr

/-- The state of a stack beside its registers (R195 to R218): among it, the commands held in the retry buffer at a freeze, and
the open row of each pseudo-channel as bank and row in one number (R206). -/
structure Stack where
  attempts : Nat
  trainTemp : Option Int
  pcTemp : List Int
  pcTries : Nat
  pcBusy : Option Nat
  lastPause : Nat
  uncorr : List Nat
  srFrom : Nat
  lastReq : Nat
  frozen : Bool
  failed : Bool
  retry : List Retry
  openRow : Tbl (Option Nat)
  deriving DecidableEq, Repr

/-- A power transition under way (R307 to R314). -/
inductive PowerMove where
  | steady
  | entering (target since : Nat)
  | exiting (since : Nat)
  deriving DecidableEq, Repr

/-- A reset under way (R325): none, requested, internal reset asserted, or released and waiting for its load. -/
inductive ResetStep where
  | none
  | requested
  | asserted
  | released
  deriving DecidableEq, Repr

/-- A Calends mark held: its instant, identity, whether it takes a snapshot, the issuing head, and whether MARK issued it
here (R298, R299). -/
structure Mark where
  instant : Nat
  id : Nat
  snap : Bool
  head : Nat
  byMark : Bool
  deriving DecidableEq, Repr

/-! ### Harvest (R220 to R249) -/

/-- A descriptor as fetched (R222). -/
structure Desc where
  next : Nat
  op : Nat
  format : Nat
  flags : Nat
  sel : Nat
  tag : Nat
  srcA : Nat
  srcB : Nat
  dst : Nat
  dstLen : Nat
  ringLog2 : Nat
  stride : Nat
  deriving DecidableEq, Repr

/-- Where a QUEUED channel's chain goes on: at HRV_CH_HEAD, at the NEXT of HRV_CH_TAIL, or at a descriptor (R226, R227,
R246, R248). -/
inductive HEntry where
  | head
  | tail
  | desc (addr : Nat)
  deriving DecidableEq, Repr

/-- The state of a Harvest channel beside its registers (R225 to R227, R247, R248): its state code, doorbell count and
latest sample of it, the latest status, the flags, where it goes on, the TAG of its latest descriptor, and the doorbell count when
the PCIe link last fell. -/
structure HCh where
  st : Nat
  db : Nat
  sampled : Nat
  lastStatus : Nat
  linkLost : Bool
  redo : Bool
  disabling : Bool
  entry : HEntry
  tag : Nat
  downDb : Nat
  deriving DecidableEq, Repr

/-- What a completion record says beside its descriptor (R243): STATUS, BYTES, FIRST, NEXT and FLAGS but for PHASE. -/
structure Ended where
  status : Nat
  bytes : Nat
  first : Nat
  next : Nat
  flags : Nat
  deriving DecidableEq, Repr

/-- How far the descriptor in hand is: to be fetched, running, ended with a completion record that waits for room in the
queue, or finished with its NEXT to be read again (R227, R244). -/
inductive HPhase where
  | fetch
  | run
  | ended (x : Ended)
  | reread
  deriving DecidableEq, Repr

/-- The descriptor an engine has in hand: channel, address, content, the sequences it reads (from `lo` below `hi` of
partition `part`), the granules rebuilt while it ran, STRICT as it stood when the descriptor started, and whether its block of
update staging is on its way to flash (R227 to R231, R238, R239). -/
structure HJob where
  ch : Nat
  addr : Nat
  phase : HPhase
  d : Desc
  part : Nat
  lo : Nat
  hi : Nat
  rebuilt : List Nat
  strict : Bool
  blk : Bool
  deriving DecidableEq, Repr

/-- An engine: the channel served last, the descriptor in hand, its latest message and whether one is held (R227,
R244). -/
structure HEng where
  last : Nat
  job : Option HJob
  lastMsg : Option Nat
  held : Bool
  deriving DecidableEq, Repr

/-! ### Streams (R257 to R267, R304) -/

/-- A DATA frame: its number within the incarnation and what it carries (R261). -/
structure Frame where
  seq : Nat
  recSeq : Nat
  offset : Nat
  part : Nat
  fmt : Nat
  flags : Nat
  payload : List Byte
  deriving DecidableEq, Repr

/-- A stream: state code, incarnation and its flash floor, port, next frame number, NEXT, credit, retries, when NEXT last
advanced, frames sent and not acknowledged, frame numbers to be sent again, the engine whose descriptor it sends, the
sequences and frames still to be sent, the frame that carries DESC_END, bytes and flags of the descriptor, when it last
sent, and the owner of forwarded records with the record arriving (sequence, partition, length, bytes so far). -/
structure Stream where
  st : Nat
  inc : Nat
  floor : Nat
  port : Nat
  next : Nat
  acked : Nat
  credit : Option Nat
  retries : Nat
  advAt : Nat
  sent : List Frame
  resend : List Nat
  job : Option Nat
  todo : List Nat
  chunks : List Frame
  lastFrame : Option Nat
  bytes : Nat
  flags : Nat
  sendAt : Nat
  owner : Option Nat
  fwdSeq : Nat
  fwdPart : Nat
  fwdLen : Nat
  fwdGot : Nat
  deriving DecidableEq, Repr

/-- A RELEASE that is held unanswered: its stream, the port it came on, its REQ_ID and what it names (R319, R363). -/
structure HeldRelease where
  stream : Nat
  port : Nat
  req : Nat
  part : Nat
  first : Nat
  last : Nat
  deriving DecidableEq, Repr

/-! ### The ring (R276 to R306) -/

/-- A ring port: since when its segment is down and whether that has been raised, what the neighbour's ALIGN frames
report (its source, hop distance), when one last came, the departure of the latest ALIGN frame sent, and until when the frame of a
TRIG event occupies the port (R277, R278, R285, R287 to R290). -/
structure RPort where
  downAt : Option Nat
  raised : Bool
  tries : Nat
  source : Option Nat
  hops : Nat
  heardAt : Option Nat
  sentAt : Option Nat
  trigBusy : Nat
  deriving DecidableEq, Repr

/-- Why a CTL request is outstanding (R294, R295, R304, R360, R367, R368). -/
inductive CtlWhy where
  | read
  | header (i off : Nat)
  | write
  | release (h : HeldRelease)
  | missing
  | vote
  | activate
  deriving DecidableEq, Repr

/-- An outstanding CTL request: its tag, purpose, the positions that have not answered, when it was sent, the width of
a read and the value gathered so far. -/
structure CtlReq where
  tag : Nat
  why : CtlWhy
  from_ : List Nat
  sentAt : Nat
  wide : Bool
  acc : Nat
  win : Nat
  deriving DecidableEq, Repr

/-- The state of record forwarding of a partition (R303): the next sequence and whether the owner has been given EN. -/
structure Fwd where
  on : Bool
  next : Nat
  deriving DecidableEq, Repr

/-! ### Updates (R355 to R373) -/

/-- A flash image bank: its bytes by staged block of 4096, its flags and what its manifest gave (R355). -/
structure ImgBank where
  blocks : Tbl (List Byte)
  valid : Bool
  confirmed : Bool
  version : Nat
  floor : Nat
  deriving DecidableEq, Repr

/-- Where a block came from: an H2D descriptor, UPD_BLK_GO, or a line of the recovery UART (R359, R371). -/
inductive BlkSrc where
  | h2d
  | win
  | uart
  deriving DecidableEq, Repr

/-- A block on its way to flash. -/
structure BlkJob where
  off : Nat
  bytes : List Byte
  src : BlkSrc
  deriving DecidableEq, Repr

/-- A distribution in progress (R360): pass, the offsets still to be sent in it, whether it waits for the members to
leave ERASING, the members that have not, when it began, when a block was last sent, the members whose UPD_NEXT_MISSING is
to be read and the offsets they miss. -/
structure Dist where
  pass : Nat
  todo : List Nat
  waiting : Bool
  erasing : List Nat
  since : Nat
  lastBlk : Nat
  asked : List Nat
  missing : List Nat
  short : List Nat
  deriving DecidableEq, Repr

/-- A vote in progress: since when, and the positions that have not voted (R367). -/
structure Vote where
  since : Nat
  open_ : List Nat
  deriving DecidableEq, Repr

/-- What an activation under way does: toward a new image or back (R363, R365). -/
structure Act where
  at_ : Nat
  back : Bool
  started : Bool
  deriving DecidableEq, Repr

/-! ### The Lantern (R374 to R388) -/

/-- A commit: its sequence, Note slot, NOTE_EN and dirty rectangle (x, y, w, h) (R380). -/
structure Commit where
  seq : Nat
  slot : Nat
  note : Bool
  rect : Nat × Nat × Nat × Nat
  deriving DecidableEq, Repr

/-- The Lantern beside its registers: the pending commit and the one in use, when the frame began and whether its window
is open, whether a push runs, the restart asked for, the end of its hold, the time of the latest frame instant, frames
since the Trace was pushed, and the DCS packet that waits (type and length). -/
structure Lantern where
  pend : Option Commit
  used : Option Commit
  frameAt : Option Nat
  winOpen : Bool
  pushing : Bool
  restart : Bool
  holdEnd : Option Nat
  frameDue : Bool
  traceCount : Nat
  dcs : Option (Nat × Nat)
  gapFrom : Nat
  stopped : Bool
  deriving DecidableEq, Repr

/-- Where a frame is sent: the MAC address, where a register gives it, the IP address and the UDP port (R257, R268). -/
structure NetAddr where
  mac : Option Nat
  ip : Nat
  udp : Nat
  deriving DecidableEq, Repr

/-- What the device puts out. -/
inductive Out where
  | msix (v : Nat)
  | read (value : Nat)
  | data (bytes : List Byte)
  | poisoned (bytes : List Byte)
  | pin (name : String) (level : Bool)
  | pulse (o first last : Nat) (level : Bool)
  | pulseCut (o first at_ : Nat)
  | hostWrite (addr : Nat) (bytes : List Byte)
  | hostRead (addr len : Nat)
  | frame (port : Nat) (stream : Option Nat) (dst : Option NetAddr) (bytes : List Byte)
  | flit (d : Dir) (words : List Native)
  | align (d : Dir) (departure : Nat) (pos source : Option Nat) (hops : Nat)
  | uart (line : List Byte)
  /-- The bytes of the answer to an SMBus read, and the PEC that follows them where the host asks for it (R270). -/
  | smbus (bytes : List Byte) (pec : Byte)
  | nack
  | unsupported
  | push (x y w h : Nat) (pixels : List Nat)
  | dcs (dataType : Nat) (bytes : List Byte)
  deriving DecidableEq, Repr

/-- The addressed stores of the machine, each a table in canonical form (`Memory.wf`): what is not listed reads as reset
leaves it. -/
structure Memory where
  /-- Register words by BAR0 offset (R8, R389); an unlisted word reads as its reset value. -/
  regs : Tbl Word
  /-- The active words of double-buffered registers, by the offset of their shadow (R70, R121, R153, R176). -/
  active : Tbl Word
  /-- Record space: native words by 8 times granule index plus word index (R5). -/
  space : Tbl Native
  /-- The local memories of the Harvest engines, byte by byte: 32 KiB each (R224). -/
  lmem : Tbl Byte
  /-- The 1 MiB staging buffer (R49). -/
  staging : Tbl Byte
  /-- The Note slots, byte by byte (R379). -/
  note : Tbl Byte
  /-- The window through which a package block is written (R359). -/
  updWin : Tbl Byte
  deriving DecidableEq, Repr

/-- Nothing listed. -/
def Memory.empty : Memory := ⟨[], [], [], [], [], [], []⟩

set_option maxRecDepth 2048 in
/-- The whole machine. -/
structure State where
  /-- The commands that wait, first in first out. -/
  pending : List Instr
  /-- What the last command put out (log entry 4). -/
  out : List Out
  /-- Ticks since the release of the cold reset: the model's own time (log entry 1). -/
  now : Nat
  /-- How many free values have been used: the model's own field (log entry 5). -/
  freeCtr : Nat
  /-- The register words, the record space and the byte memories. -/
  mem : Memory
  /-- The latched words of each requester (R9, R394). -/
  latches : List ((Requester × Nat) × Word)
  /-- The held upper words of each requester (R10, R394). -/
  heldWords : List ((Requester × Nat) × Word)
  /-- The Epoch count (R7, R85). -/
  epoch : Epoch
  /-- The Epoch counts (R81, R85). -/
  counting : Bool
  /-- The core PLL is locked to a reference or in holdover (R80, R83). -/
  coreLocked : Bool
  /-- The sample PLL is locked (R80). -/
  sampleLocked : Bool
  /-- The always-on copy of the Epoch (R86). -/
  aonEpoch : Epoch
  /-- When that copy was taken (R86). -/
  aonAt : Nat
  /-- The always-on clock has run from the RC oscillator since the copy was taken (R86). -/
  aonRc : Bool
  /-- When the PLLs last relocked after holdover (R84). -/
  relockAt : Option Nat
  /-- The time of the last accepted PPS edge, which the next is to lie 1 s after (R89). -/
  ppsPrev : Option Nat
  /-- When the last PPS edge was accepted, or the input enabled (R89). -/
  ppsLast : Nat
  /-- When the frame boundary comes at which a pending immediate Epoch load acts (R87). -/
  loadAt : Option Nat
  /-- How many accepted PPS edges in a row were within 8 ticks (R89). -/
  ppsGood : Nat
  /-- The interval units (R90 to R97). -/
  iv : Tbl IvUnit
  /-- The interval units whose runs the reset under way has ended (R100). -/
  ivCut : List Nat
  /-- The detection state of the 128 trigger units, by 8 times bank plus unit (R102 to R111). -/
  trig : Tbl TrigUnit
  /-- The Conjunctions (R118 to R120). -/
  conj : Tbl Conj
  /-- The trigger, event and PPS pins (R112 to R114). -/
  pins : Tbl Pin
  /-- The TRIG_OUT outputs (R125, R126). -/
  touts : Tbl Tout
  /-- Events under way in the trigger fabric (R112, R117). -/
  fabric : List Delivery
  /-- The core cycle of the last SOFT event (R115). -/
  softAt : Option Nat
  /-- The core cycle of the last event of each ring line (R117). -/
  rlineAt : Tbl Nat
  /-- The Almanac in force (R40). -/
  alm : Option Almanac
  /-- The check in progress (R47). -/
  check : Option CheckJob
  /-- The checked image that waits for its commit instant (R54). -/
  nextAlm : Option Almanac
  /-- When a RELOAD first waited for an exit (R54). -/
  reloadWait : Option Nat
  /-- The commit instant of a scheduled reload, 0 for the first core cycle (R54). -/
  reloadAt : Nat
  /-- The spans of the groups that stopped at the reload instant (R55). -/
  reloadGaps : List GapState
  /-- The reload is over, and those groups wait for their re-arm where ALM_CTL.REARM asks for it (R54, R55). -/
  reloadRearm : Bool
  /-- STRUCTURE and RESTART records that have found no room yet: cause and span (R33, R55, R326). -/
  lateGaps : List (Nat × GapState)
  /-- The banks beside their registers (R71 to R76). -/
  banks : Tbl BankSt
  /-- The acquisition groups beside their registers (R131 to R154). -/
  groups : Tbl Group
  /-- The release ledgers of the partitions (R135 to R138). -/
  parts : Tbl Partition
  /-- TOKENS of each regulator in 1/256 granule, below 0 while granules that have been asked for wait, and the core cycle
  they were counted at (R202, R203). -/
  tokens : Tbl (Int × Nat)
  /-- The capture ports at which a granule has found TOKENS below 1 and whose refusal has not been dealt with (R203). -/
  short : List Nat
  /-- The lost-granule list (R218). -/
  lost : List Nat
  /-- Groups whose staged records wait for the fold engine, and when the running fold began (R184). -/
  foldQueue : List Nat
  /-- When the running fold began (R184). -/
  foldAt : Option Nat
  /-- Groups whose STEWARD release is held unanswered (R319, R363). -/
  heldSteward : List Nat
  /-- The memory stacks beside their registers (R195 to R218). -/
  stackTbl : Tbl Stack
  /-- The latest sixteen readings of each tile sensor (R330). -/
  tileRaw : Tbl (List Int)
  /-- The calibration run in progress (R332). -/
  calRun : Option CalRun
  /-- The end of the latest calibration run (R332). -/
  calLast : Option Nat
  /-- The banks whose calibration run a reload requires (R54). -/
  calModeBanks : List Nat
  /-- The contents of the Season slots 3 to 7 (R338). -/
  seasons : Tbl (Tbl Int)
  /-- The banks whose run software has asked for through CAL_RUN and that is not over (R12, R331). -/
  calAsked : List Nat

  /-- The sample instants of each channel whose overrange has been counted in BNK_OVR, and the output instants whose saturations
  have been counted in BNK_FLT_SAT, as ranges (R62, R177). -/
  ovrSeen : Tbl (List (Nat × Nat))
  satSeen : Tbl (List (Nat × Nat))
  /-- The front-end corrections in use (R334). -/
  feCorr : Tbl Int
  /-- The Season write in progress (R340). -/
  seasonJob : Option SeasonJob
  /-- The rows written since the scrub pass began (R211). -/
  scrubbed : Tbl Nat
  /-- When the latest row was scrubbed (R205, R211). -/
  scrubAt : Option Nat
  /-- The memory requests that wait at their ports, oldest first (R205, R213, R219). -/
  memReqs : List MemReq
  /-- Ends of the severity windows (R343). -/
  fltWin : Tbl Nat
  /-- Ends of the grace timers (R344). -/
  fltGrace : Tbl Nat
  /-- The banks that counted events affect (R343). -/
  fltBanks : Tbl Nat
  /-- When Safe Hold began (R348). -/
  safeHoldAt : Option Nat
  /-- Action D waits for the end of step 4 of the power-fail sequence (R349). -/
  holdDue : Bool
  /-- The power state transition under way (R307 to R314). -/
  move : PowerMove
  /-- Since when the unit has been idle for its dwell (R311). -/
  idleSince : Nat
  /-- Where a reset under way stands (R325). -/
  resetStep : ResetStep
  /-- When the reset was requested or asserted (R325). -/
  resetAt : Nat
  /-- Gap states kept in the always-on domain through a reset (R325, R326). -/
  gaps : List GapState
  /-- RESTART records are due after the next start load (R326). -/
  restartDue : Bool
  /-- LOST records are due after the next start load (R323, R326). -/
  lostDue : Bool
  /-- The MEMORY section that the ledger was kept under (R322). -/
  ledgerMem : List Byte
  /-- The flash copy of the ledger (R321). -/
  journal : Journal
  /-- Rail groups that are tripped (R318). -/
  tripped : List Nat
  /-- Since when the power average has been low enough to end the throttle (R315). -/
  throttleOk : Option Nat
  /-- When the power failure began (R319). -/
  pfAt : Option Nat
  /-- When the service core was last known to make progress (R324). -/
  progressAt : Nat
  /-- The level that FAULT_N holds through a warm or Fundamental reset, asserted or not (R350). -/
  faultHeld : Bool
  /-- Calends marks whose instants are to come (R298). -/
  marks : List Mark
  /-- The Epoch has counted since the cold reset, so that the always-on copy holds (R86). -/
  aonHas : Bool
  /-- PF0 has MSI-X enabled (R254). -/
  msixOn : Bool
  /-- The device is ready for configuration requests (R253). -/
  pcieReady : Bool
  /-- PERST_N is asserted (R253). -/
  perst : Bool
  /-- When PERST_N was last deasserted (R253). -/
  perstAt : Nat
  /-- The recovery ROM runs (R370). -/
  recovery : Bool
  /-- The Harvest channels, by 64 times engine plus channel (R225). -/
  hrv : Tbl HCh
  /-- The Harvest engines (R227). -/
  eng : Tbl HEng
  /-- The streams (R257 to R266). -/
  streams : Tbl Stream
  /-- RELEASE messages held unanswered (R319, R363). -/
  heldRel : List HeldRelease
  /-- The latest telemetry body (R268). -/
  telem : List Byte
  /-- The number of the latest telemetry message (R268). -/
  telemSeq : Nat
  /-- For each port, the start of the running second and the management messages served in it (R269). -/
  mgmtWin : Tbl (Nat × Nat)
  /-- For each lane, eye measurements in a row below and not below the limit (R274). -/
  margins : Tbl (Nat × Nat)
  /-- The ring ports, 0 East and 1 West (R277). -/
  rports : Tbl RPort
  /-- When the ring ports became ready to train (R277). -/
  ringReady : Option Nat
  /-- The optical bypass is open (R281). -/
  bypassOpen : Bool
  /-- Good alignment measurements in a row (R289). -/
  alignGood : Nat
  /-- Trigger events taken from the ring: line, origin, instant and when (R285). -/
  seen : List (Nat × Nat × Nat × Nat)
  /-- The tag of the latest CTL request (R283). -/
  ctlTag : Nat
  /-- The CTL requests outstanding (R294, R295). -/
  ctlReqs : List CtlReq
  /-- CTL broadcasts taken from the ring: source, tag and when (R295). -/
  ctlSeen : List (Nat × Nat × Nat)
  /-- Record forwarding of each partition (R303). -/
  fwd : Tbl Fwd
  /-- When the position write in flash completes (R279). -/
  posWrite : Option Nat
  /-- The value of RNG_POS_SET that a position commit writes (R279). -/
  posNext : Option Nat
  /-- When the next periodic mark is due (R298). -/
  calNext : Option Nat
  /-- The SNAPSHOT_ID this unit issued last (R298). -/
  snapSeq : Nat
  /-- The snapshot held, by BAR0 offset (R299, R300). -/
  snap : Tbl Word
  /-- The device digest of the latest mark (R301). -/
  digest : List Byte
  /-- The digests that members sent since the latest mark, by declaration times 64 plus member (R302). -/
  digests : Tbl (List Byte)
  /-- The periods in a row in which each member diverged (R302). -/
  diverge : Tbl (Nat × Nat)
  /-- A mark has been held, so digests are compared (R301). -/
  digestOn : Bool
  /-- The two flash image banks (R355). -/
  imgs : Tbl ImgBank
  /-- The length of the package being received (R358), kept in flash with the staged map. -/
  pkgLen : Nat
  /-- The bank that a download is staged into (R358, R370), kept in flash with the staged map. -/
  stageBank : Nat
  /-- The key slots, each with the hash it holds (R372). -/
  keys : Tbl (List Byte)
  /-- The block being staged (R359). -/
  blkJob : Option BlkJob
  /-- When the erase of the staging bank began (R358). -/
  eraseAt : Option Nat
  /-- When the verification under way began (R361). -/
  verifyFor : Option Nat
  /-- The distribution in progress (R360). -/
  dist : Option Dist
  /-- The vote in progress (R367). -/
  vote : Option Vote
  /-- Every member of the latest vote voted yes (R367, R368). -/
  voteAll : Bool
  /-- The activation scheduled or under way (R362, R363). -/
  actReq : Option Act
  /-- When the head began to wait for answers to ACTIVATE (R368). -/
  actWait : Option Nat
  /-- When the confirm window began (R364). -/
  confirmFrom : Option Nat
  /-- The Lantern. -/
  lnt : Lantern
  /-- The test access port's instruction in force (R423). -/
  tap : Nat
  /-- The 246 cells of the boundary-scan register (R424). -/
  scanReg : List Bool
  /-- Power readings of the last 10 ms (R315). -/
  powerRaw : List Nat
  /-- Step 3 of Safe Hold has run (R348). -/
  holdDone : Bool
  /-- The start under way is a cold one (R326). -/
  coldStart : Bool
  /-- The boot check of R369 has been made since the internal reset was released. -/
  booted : Bool
  /-- The flash event log: the sequences forfeited by each start load that forfeited any (R51). -/
  eventLog : List Nat
  /-- θ of a member that joins and has not stepped its Epoch (R289). -/
  stepDue : Option Int
  /-- Reads through windows that wait for earlier writes: window, offset, width, and the tags of those writes (R294). -/
  winWait : List (Nat × Nat × Nat × List Nat)
  /-- SNAPSHOT_ID of the latest mark held (R302). -/
  markId : Nat
  deriving DecidableEq, Repr

/-- The machine as the cold reset leaves it when it is released (R324): every register at its reset value (an unlisted
word of `regs` reads as `RegMap.regDefault` says), empty flash but for the factory Seasons and a valid factory journal, and
nothing waiting. -/
def State.reset : State :=
  { pending := [], out := [], now := 0, freeCtr := 0, mem := Memory.empty, latches := [], heldWords := [],
    epoch := 0, counting := false, coreLocked := false, sampleLocked := false, aonEpoch := 0, aonAt := 0,
    aonRc := false, relockAt := none, ppsPrev := none, ppsLast := 0, loadAt := none, ppsGood := 0, iv := [], ivCut := [], trig := [], conj := [], pins := [],
    touts := [], fabric := [], softAt := none, rlineAt := [], alm := none, check := none, nextAlm := none,
    reloadWait := none, reloadAt := 0, reloadGaps := [], reloadRearm := false, lateGaps := [], banks := [],
    groups := [], parts := [], tokens := [], short := [], lost := [], foldQueue := [], foldAt := none,
    heldSteward := [], stackTbl := [], tileRaw := [], calRun := none, calLast := none, calModeBanks := [], seasons := [],
    calAsked := [], ovrSeen := [], satSeen := [], feCorr := [], seasonJob := none, scrubbed := [], scrubAt := none, memReqs := [], fltWin := [], fltGrace := [], fltBanks := [], safeHoldAt := none,
    holdDue := false, move := .steady, idleSince := 0, resetStep := .released, resetAt := 0, gaps := [],
    restartDue := false, lostDue := false, ledgerMem := [], journal := ⟨true, [], [], [], []⟩, tripped := [],
    throttleOk := none, pfAt := none, progressAt := 0, faultHeld := false, marks := [], aonHas := false, msixOn := false,
    pcieReady := false, perst := false, perstAt := 0, recovery := false, hrv := [], eng := [], streams := [],
    heldRel := [], telem := [], telemSeq := 0, mgmtWin := [], margins := [], rports := [], ringReady := none,
    bypassOpen := false, alignGood := 0, seen := [], ctlTag := 0, ctlReqs := [], ctlSeen := [], fwd := [],
    posWrite := none, posNext := none, calNext := none, snapSeq := 0, snap := [], digest := [], digests := [],
    diverge := [], digestOn := false, imgs := [], pkgLen := 0, stageBank := 1, keys := [], blkJob := none, eraseAt := none,
    verifyFor := none, dist := none, vote := none, voteAll := false, actReq := none, actWait := none,
    confirmFrom := none, lnt := ⟨none, none, none, false, false, false, none, false, 0, none, 0, false⟩,
    tap := 1, scanReg := List.replicate 246 false, powerRaw := [], holdDone := false, coldStart := true, booted := false, eventLog := [], stepDue := none, winWait := [], markId := 0 }

/-- What a command answers. -/
abbrev Res := Host.Outcome State Fault Refusal

end Sys2Proof.Machine
end

