-- ==== Sys2Proof/Machine/Table.lean ====
section
/-! DEFINITION. Sparse tables: the one lookup and the one update that every table of the state goes through, and the
canonical form they keep. -/

namespace Sys2Proof.Machine

/-- What a table lists at a key, or `d` where it lists nothing. -/
def tget {β : Type} (t : Tbl β) (d : β) (k : Nat) : β :=
  match t with
  | [] => d
  | (a, v) :: r => if a = k then v else tget r d k

/-- A table without its entry at a key. -/
def tdel {β : Type} (t : Tbl β) (k : Nat) : Tbl β :=
  match t with
  | [] => []
  | (a, v) :: r => if a = k then tdel r k else (a, v) :: tdel r k

/-- A table with an entry put in its place by rising key. -/
def tins {β : Type} (t : Tbl β) (k : Nat) (v : β) : Tbl β :=
  match t with
  | [] => [(k, v)]
  | (a, w) :: r => if k < a then (k, v) :: (a, w) :: r else (a, w) :: tins r k v

/-- A table updated at a key: the value an unlisted key reads as is not listed. -/
def tset {β : Type} [DecidableEq β] (t : Tbl β) (d : β) (k : Nat) (v : β) : Tbl β :=
  if v = d then tdel t k else tins (tdel t k) k v

/-- Every listed key lies above `k`. -/
def tabove {β : Type} (k : Nat) (t : Tbl β) : Bool := t.all (fun p => k < p.1)

/-- The canonical form: keys strictly rising and no entry equal to the default of its key. -/
def twf {β : Type} [DecidableEq β] (d : Nat → β) : Tbl β → Bool
  | [] => true
  | (a, v) :: r => tabove a r && (v != d a) && twf d r

/-- Writing consecutive entries from a key. -/
def tsetAll {β : Type} [DecidableEq β] (t : Tbl β) (d : β) (k : Nat) : List β → Tbl β
  | [] => t
  | v :: r => tsetAll (tset t d k v) d (k + 1) r

/-- Reading consecutive entries from a key. -/
def tgetAll {β : Type} (t : Tbl β) (d : β) (k : Nat) : Nat → List β
  | 0 => []
  | n + 1 => tget t d k :: tgetAll t d (k + 1) n

end Sys2Proof.Machine
end

