-- ==== Sys2Proof/Machine/Ops.lean ====
section
/-! DEFINITION. The named operations over registers, time, free values and outputs that every meaning is written with. -/

namespace Sys2Proof.Machine

/-! ### Memory -/

/-- The canonical form of every store: addresses strictly rising, and no entry equal to what an unlisted address reads as. -/
def Memory.wf (m : Memory) : Bool :=
  twf regDefault m.regs && twf regDefault m.active && twf (fun _ => 0) m.space && twf (fun _ => 0) m.lmem
    && twf (fun _ => 0) m.staging && twf (fun _ => 0) m.note && twf (fun _ => 0) m.updWin

/-- Bytes stored in the local memories, the staging buffer, the Note slots and the block window. -/
def State.putLmem (s : State) (a : Nat) (bs : List Byte) : State := { s with mem.lmem := tsetAll s.mem.lmem 0 a bs }
def State.putStaging (s : State) (a : Nat) (bs : List Byte) : State := { s with mem.staging := tsetAll s.mem.staging 0 a bs }
def State.putNote (s : State) (a : Nat) (bs : List Byte) : State := { s with mem.note := tsetAll s.mem.note 0 a bs }
def State.putWin (s : State) (a : Nat) (bs : List Byte) : State := { s with mem.updWin := tsetAll s.mem.updWin 0 a bs }

/-! ### Registers -/

/-- The stored word of a register (R8). -/
def State.get (s : State) (off : Nat) : Word := tget s.mem.regs (regDefault off) off

/-- A register word stored. -/
def State.put (s : State) (off : Nat) (w : Word) : State := { s with mem.regs := tset s.mem.regs (regDefault off) off w }

/-- Bits [hi:lo] of a register. -/
def State.rd (s : State) (off hi lo : Nat) : Nat := fld (s.get off) hi lo

/-- Bits [hi:lo] of a register replaced. -/
def State.wr (s : State) (off hi lo v : Nat) : State := s.put off (setFld (s.get off) hi lo v)

/-- One bit of a register. -/
def State.bit (s : State) (off i : Nat) : Bool := (s.get off).toNat.testBit i

/-- One bit of a register set or cleared. -/
def State.setBit (s : State) (off i : Nat) (b : Bool) : State := s.wr off i i (b2n b)

/-- A quantity held in `n` registers from its low part upward (R9). -/
def State.rdq (s : State) (off : Nat) : Nat → Nat
  | 0 => 0
  | n + 1 => (s.get off).toNat + 2 ^ 32 * s.rdq (off + 4) n

/-- A quantity stored in `n` registers. -/
def State.wrq (s : State) (off : Nat) : Nat → Nat → State
  | 0, _ => s
  | n + 1, v => (s.put off (BitVec.ofNat 32 v)).wrq (off + 4) n (v / 2 ^ 32)

/-- A 72-bit instant stored in three registers. -/
def State.wrEpoch (s : State) (off v : Nat) : State := s.wrq off 3 (v % 2 ^ 72)

/-- A counter of `w` bits held in `n` registers, advanced by `k`, saturating. -/
def State.count (s : State) (off n w k : Nat) : State := s.wrq off n (satAdd (2 ^ w - 1) (s.rdq off n) k)

/-- A counter in the bits [hi:lo] of a register, advanced by `k`, saturating. -/
def State.countFld (s : State) (off hi lo k : Nat) : State :=
  s.wr off hi lo (satAdd (2 ^ (hi + 1 - lo) - 1) (s.rd off hi lo) k)

/-- A 32-bit saturating counter advanced by one. -/
def State.inc (s : State) (off : Nat) : State := s.countFld off 31 0 1

/-- The active word of a double-buffered register, by the offset of its shadow. -/
def State.act (s : State) (off : Nat) : Word := tget s.mem.active (regDefault off) off

/-- Bits [hi:lo] of an active word. -/
def State.actf (s : State) (off hi lo : Nat) : Nat := fld (s.act off) hi lo

/-- An active 36-bit quantity. -/
def State.act36 (s : State) (off : Nat) : Nat := (s.act off).toNat + 2 ^ 32 * (s.act (off + 4)).toNat

/-- The active words of a list of offsets taken from their shadows (R153). -/
def State.handWords (s : State) : List Nat → State
  | [] => s
  | o :: r => ({ s with mem.active := tset s.mem.active (regDefault o) o (s.get o) } : State).handWords r

/-- Some shadow word of a list differs from its active word. -/
def State.shadowDiffers (s : State) (offs : List Nat) : Bool := offs.any (fun o => s.get o != s.act o)

/-- Registers returned to what an unlisted word reads as, shadow and active. -/
def State.clearWords (s : State) : List Nat → State
  | [] => s
  | o :: r => ({ s with mem.regs := tdel s.mem.regs o, mem.active := tdel s.mem.active o } : State).clearWords r

/-! ### Time -/

/-- Ticks in a core cycle, a microsecond, a millisecond and a second (R7). -/
def cycle : Nat := 4096
def usec : Nat := 5120000
def msec : Nat := 5120000000
def second : Nat := 5120000000000

/-- Time passes: the model's clock, and the Epoch where it counts (R85). -/
def State.advance (s : State) (dt : Nat) : State :=
  { s with now := s.now + dt, epoch := if s.counting then s.epoch + BitVec.ofNat 72 dt else s.epoch }

/-- Capture is busy with a record or a commit, or egress with a QUEUED or RUNNING channel (R311). -/
def State.busy (s : State) : Bool :=
  s.groups.any (fun g => g.2.cur.isSome || !g.2.queue.isEmpty) || s.hrv.any (fun c => c.2.st == 2 || c.2.st == 3)

/-- The Epoch as a number. -/
def State.ep (s : State) : Nat := s.epoch.toNat

/-- From one instant to a later one: Epoch values are compared modulo 2^72 (R85). -/
def span72 (a b : Nat) : Nat := (b + 2 ^ 72 - a % 2 ^ 72) % 2 ^ 72

/-- Instant `b` lies strictly after instant `a`, modulo 2^72. -/
def after72 (a b : Nat) : Bool := decide (0 < span72 a b ∧ span72 a b < 2 ^ 71)

/-- The instant `ago` ticks before now. -/
def State.before (s : State) (ago : Nat) : Nat := span72 ago s.ep

/-- The core cycle that an instant of the model's time lies in: core cycles begin where the Epoch is a multiple of 4096 (R7, R85). -/
def State.cycOf (s : State) (t : Nat) : Nat := (t + (s.ep % cycle + cycle - s.now % cycle) % cycle) / cycle

/-- The core cycle of the present. -/
def State.cyc (s : State) : Nat := s.cycOf s.now

/-! ### Free values and outputs -/

/-- The index of a fresh free value, and the state that has used it. -/
def State.fresh (s : State) : Nat × State := (s.freeCtr, { s with freeCtr := s.freeCtr + 1 })

/-- Something put out. -/
def State.emit (s : State) (o : Out) : State := { s with out := s.out ++ [o] }

/-- A vector can carry a message: not masked, the function ready and the link up (R254). -/
def State.deliverable (s : State) (v : Nat) : Bool :=
  !s.bit (Reg.msixAddrDataCtl (4 * v + 3)) 0 && s.pcieReady && s.bit Reg.prtPcieStatus 0

/-- A message of a vector: sent, or kept as a pending bit until the vector can carry it; nothing is sent or held while
MSI-X is not enabled. One command's core cycle sends a vector at most once (R254). -/
def State.signal (s : State) (v : Nat) : State :=
  if !s.msixOn then s
  else if !s.deliverable v then s.setBit (Reg.msixPba (v / 32)) (v % 32) true
  else if s.out.contains (.msix v) then s else s.emit (.msix v)

/-! ### Tables of typed state -/

/-- A unit's detection state after a reset of it: disarmed for every crossing (R102, R124). -/
def TrigUnit.idle : TrigUnit :=
  ⟨false, false, false, false, none, false, 0, false, none, [], none, 0, none, none⟩

def Conj.idle : Conj := ⟨[], none, 0, none⟩

def Pin.idle : Pin := ⟨none, none, none, none⟩

def Tout.idle : Tout := ⟨[]⟩

def IvUnit.idle : IvUnit :=
  ⟨none, [], none, 0, 0, 0, 2 ^ 48 - 1, 0, false, none, false, 0, [], false, [], [], false⟩

def Acc.idle : Acc :=
  ⟨0, 0, [], 0, 0, 0, none, 0, [], none, false, false, [], false, [], 0, 0, 0, 0, []⟩

def Group.idle : Group :=
  ⟨.disabled, 0, false, 0, none, 0, 0, none, 0, 0, 0, [], [], [], 0, 0, false, false, false, none, 0, Acc.idle⟩

/-- A partition as it leaves the factory: counter 0 and floor 2^20 (R322). -/
def Partition.factory : Partition := ⟨0, 0, [], 0, 0, [], 0, 0, 0, 2 ^ 20⟩

def BankSt.idle : BankSt :=
  ⟨none, none, false, List.replicate 16 0, List.replicate 16 0, 0, [], false, none, false, none, false⟩

def Stack.idle : Stack := ⟨0, none, List.replicate 32 25, 0, none, 0, [], 0, 0, false, false, [], []⟩

def HCh.idle : HCh := ⟨0, 0, 0, 0, false, false, false, .head, 0, 0⟩
def HEng.idle : HEng := ⟨63, none, none, false⟩
def Stream.idle : Stream :=
  ⟨0, 0, 0, 0, 0, 0, none, 0, 0, [], [], none, [], [], none, 0, 0, 0, none, 0, 0, 0, 0⟩
def RPort.idle : RPort := ⟨none, false, 0, none, 0, none, none, 0⟩
def Fwd.idle : Fwd := ⟨false, 0⟩
def ImgBank.blank : ImgBank := ⟨[], false, false, 0, 0⟩
def Lantern.idle : Lantern := ⟨none, none, none, false, false, false, none, false, 0, none, 0, false⟩

def State.hch (s : State) (e c : Nat) : HCh := tget s.hrv HCh.idle (64 * e + c)
def State.setHch (s : State) (e c : Nat) (x : HCh) : State := { s with hrv := tset s.hrv HCh.idle (64 * e + c) x }
def State.engine (s : State) (e : Nat) : HEng := tget s.eng HEng.idle e
def State.setEngine (s : State) (e : Nat) (x : HEng) : State := { s with eng := tset s.eng HEng.idle e x }
def State.stream (s : State) (k : Nat) : Stream := tget s.streams Stream.idle k
def State.setStream (s : State) (k : Nat) (x : Stream) : State := { s with streams := tset s.streams Stream.idle k x }
def State.rport (s : State) (d : Nat) : RPort := tget s.rports RPort.idle d
def State.setRport (s : State) (d : Nat) (x : RPort) : State := { s with rports := tset s.rports RPort.idle d x }
def State.img (s : State) (b : Nat) : ImgBank := tget s.imgs ImgBank.blank b
def State.setImg (s : State) (b : Nat) (x : ImgBank) : State := { s with imgs := tset s.imgs ImgBank.blank b x }

def State.trigAt (s : State) (u : Nat) : TrigUnit := tget s.trig TrigUnit.idle u
def State.setTrig (s : State) (u : Nat) (t : TrigUnit) : State := { s with trig := tset s.trig TrigUnit.idle u t }
def State.conjAt (s : State) (j : Nat) : Conj := tget s.conj Conj.idle j
def State.setConj (s : State) (j : Nat) (c : Conj) : State := { s with conj := tset s.conj Conj.idle j c }
def State.pinAt (s : State) (p : Nat) : Pin := tget s.pins Pin.idle p
def State.setPin (s : State) (p : Nat) (x : Pin) : State := { s with pins := tset s.pins Pin.idle p x }
def State.toutAt (s : State) (k : Nat) : Tout := tget s.touts Tout.idle k
def State.setTout (s : State) (k : Nat) (x : Tout) : State := { s with touts := tset s.touts Tout.idle k x }
def State.ivAt (s : State) (u : Nat) : IvUnit := tget s.iv IvUnit.idle u
def State.setIv (s : State) (u : Nat) (x : IvUnit) : State := { s with iv := tset s.iv IvUnit.idle u x }
def State.grp (s : State) (g : Nat) : Group := tget s.groups Group.idle g
def State.setGrp (s : State) (g : Nat) (x : Group) : State := { s with groups := tset s.groups Group.idle g x }
def State.part (s : State) (p : Nat) : Partition := tget s.parts Partition.factory p
def State.setPart (s : State) (p : Nat) (x : Partition) : State :=
  { s with parts := tset s.parts Partition.factory p x }
def State.bankAt (s : State) (b : Nat) : BankSt := tget s.banks BankSt.idle b
def State.setBank (s : State) (b : Nat) (x : BankSt) : State := { s with banks := tset s.banks BankSt.idle b x }
def State.stack (s : State) (k : Nat) : Stack := tget s.stackTbl Stack.idle k
def State.setStack (s : State) (k : Nat) (x : Stack) : State := { s with stackTbl := tset s.stackTbl Stack.idle k x }

/-- Something done for each number of a list, in order. -/
def State.forAll (s : State) (l : List Nat) (f : State → Nat → State) : State := l.foldl f s

/-- An instant kept beside a moved Epoch. -/
def moveBy (d : Int) (t : Nat) : Nat := ((t : Int) + d).toNat

/-- The Epoch moved to a new count: the restart instants of the chains, the frame from which new trims act and the instants
of the trigger units move with it, so that times measured from them keep their length. Samples and SOFT events from before
the move share no instant with those after it. -/
def State.moveEpoch (s : State) (t : Nat) : State :=
  let d : Int := (t : Int) - s.ep
  let s1 := s.forAll (List.range 16) (fun s b =>
    let B := s.bankAt b
    s.setBank b { B with restartAt := B.restartAt.map (fun x => if x = 0 then 0 else moveBy d x),
                         trimFrom := moveBy d B.trimFrom })
  let s2 := s1.forAll (List.range 128) (fun s u =>
    let U := s.trigAt u
    s.setTrig u { U with span := U.span.map (moveBy d), firedAt := U.firedAt.map (moveBy (d / cycle)),
                         lastOut := U.lastOut.map (moveBy (d / cycle)) })
  { s2 with epoch := BitVec.ofNat 72 t, softAt := none, ovrSeen := [], satSeen := [] }

/-- A pending immediate load whose frame boundary has come: the Epoch is EPC_SET there, its bits [12:0] taken as 0 (R87). A
load whose boundary does not come, because the Epoch has stopped, is dropped. -/
def State.loadDue (s : State) : State :=
  match s.loadAt with
  | none => s
  | some b =>
    if s.now < b then s
    else
      let s1 := ({ s with loadAt := none } : State).setBit Reg.epcCtl 0 false
      if s.counting then
        (s1.moveEpoch ((s.rdq Reg.epcSet 3 % 2 ^ 72 / 8192 * 8192 + (s.now - b)) % 2 ^ 72)).setBit Reg.epcStatus 8 false
      else s1

/-- The start of every command: its time passes, idleness is measured from the end of the work that ran until now, and
the outputs of the command before it are gone. -/
def State.start (s : State) (dt : Nat) : State :=
  let s1 := (s.advance dt).loadDue
  { s1 with out := [], idleSince := if s.busy then s1.now else s1.idleSince }

/-- Requests reach the stacks in Safe Hold: those in self-refresh leave it, no earlier than 350 ns after they entered (R212, R348
step 4). -/
def State.touchStacks (s : State) : State :=
  if s.safeHoldAt.isSome then
    s.forAll (List.range 4) (fun s k =>
      let s1 := s.setStack k { (s.stack k) with lastReq := s.now }
      if s.rd (Reg.memStatus k) 2 0 = 3 ∧ s.holdDone ∧ (s.stack k).srFrom + 350 * usec / 1000 ≤ s.now then
        s1.wr (Reg.memStatus k) 2 0 2 else s1)
  else s

end Sys2Proof.Machine
end

