-- ==== Sys2Proof/Machine/Operands.lean ====
section
/-! DEFINITION. What the operands of the commands name: banks and their live inputs, groups and their ranges, trigger
sources, partitions and their usable spans, filter settings with their delay and grid. -/

namespace Sys2Proof.Machine

/-! ### Banks and inputs (R18, R64 to R66) -/

/-- The mode of a bank: 0 x1, 1 x4, 2 x16, 3 disabled or no Almanac (BNK_CONV_STATUS.MODE). -/
def State.bankMode (s : State) (b : Nat) : Nat :=
  match s.alm with
  | none => 3
  | some a => match a.banks[b]? with
    | some c => c.mode
    | none => 3

/-- The live channel indices of a bank in a mode. -/
def liveIdx (mode : Nat) : List Nat :=
  if mode = 0 then List.range 16 else if mode = 1 then [0, 4, 8, 12] else if mode = 2 then [0] else []

/-- Channel `c` (0 to 255) is live. -/
def State.live (s : State) (c : Nat) : Bool := (liveIdx (s.bankMode (c / 16))).contains (c % 16)

/-- The raw sample spacing of a mode in ticks (R65). -/
def spacing (mode : Nat) : Nat := if mode = 0 then 1024 else if mode = 1 then 256 else 64

/-- The live channels of a range. -/
def State.liveIn (s : State) (lo hi : Nat) : List Nat :=
  (List.range (hi + 1)).filter (fun c => lo ≤ c ∧ s.live c)

/-- The banks of a range of channels. -/
def banksIn (lo hi : Nat) : List Nat := (List.range 16).filter (fun b => lo / 16 ≤ b ∧ b ≤ hi / 16)

/-! ### Groups -/

/-- The GROUP entry of an enabled group. -/
def State.gcfg (s : State) (g : Nat) : Option GroupCfg :=
  match s.alm with
  | none => none
  | some a => (a.groups[g]?).join

/-- The enabled groups. -/
def State.enabledGroups (s : State) : List Nat := (List.range 32).filter (fun g => (s.gcfg g).isSome)

/-- The live channels of a group. -/
def State.gchans (s : State) (g : Nat) : List Nat :=
  match s.gcfg g with
  | none => []
  | some c => s.liveIn c.firstCh c.lastCh

/-- The banks a group covers: those in which it holds a live channel. -/
def State.gbanks (s : State) (g : Nat) : List Nat :=
  (List.range 16).filter (fun b => (s.gchans g).any (fun c => c / 16 = b))

/-- The mask of the banks a group covers. -/
def State.gmask (s : State) (g : Nat) : Nat := ((s.gbanks g).map maskBit).sum

/-- The groups that cover a bank. -/
def State.groupsOf (s : State) (b : Nat) : List Nat := s.enabledGroups.filter (fun g => (s.gbanks g).contains b)

/-- The group that holds a channel. -/
def State.groupOfChan (s : State) (c : Nat) : Option Nat := s.enabledGroups.find? (fun g => (s.gchans g).contains c)

def State.gmode (s : State) (g : Nat) : Nat := match s.gcfg g with | some c => c.mode | none => 0
def State.gpart (s : State) (g : Nat) : Nat := match s.gcfg g with | some c => c.partition | none => 0
def State.gannex (s : State) (g : Nat) : Bool := match s.gcfg g with | some c => c.annex | none => false
def State.glayout (s : State) (g : Nat) : Nat := match s.gcfg g with | some c => c.layout | none => 0
def State.gfirst (s : State) (g : Nat) : Nat := (s.gchans g).headD 0
def State.gnch (s : State) (g : Nat) : Nat := (s.gchans g).length

/-- A group is armed: not DISABLED and not IDLE (R132). -/
def State.gArmed (s : State) (g : Nat) : Bool :=
  (s.grp g).st != .idle && (s.grp g).st != .disabled

/-- Some group is armed or streaming (UNIT_STATUS.ACTIVE). -/
def State.anyArmed (s : State) : Bool := s.enabledGroups.any s.gArmed

/-! ### Filter settings (R164 to R174) -/

/-- The offset of BNK_FLT of channel `c` of the device. -/
def fltOff (c : Nat) : Nat := Reg.bnkFlt (c / 16) (c % 16)

/-- FILT_SET and M of a BNK_FLT word. -/
def filtSetOf (w : Word) : Nat := fld w 7 0
def decimOf (w : Word) : Nat := fld w 24 8

/-- The number of half-band stages of a FILTER setting. -/
def halfbands (fs : Nat) : Nat := if 32 ≤ fs then fs - 32 else fs - 16

def isFilter (fs : Nat) : Bool := (16 ≤ fs ∧ fs ≤ 22) ∨ (32 ≤ fs ∧ fs ≤ 38)
def hasFir (fs : Nat) : Bool := 32 ≤ fs ∧ fs ≤ 38

/-- The filter program of a bank. -/
def State.prog (s : State) (b : Nat) : Option ProgCfg :=
  match s.alm with
  | none => none
  | some a => match a.banks[b]? with
    | none => none
    | some c => if c.prog = 0xFF then none else (a.progs[c.prog]?).join

/-- R of a FILTER setting: M over 2^h. -/
def cicR (fs m : Nat) : Nat := m / 2 ^ halfbands fs

/-- The first sixteen taps of a variant of Olcen's table: they sum to 2^16, so that the 32 sum to 2^17 (R170). -/
def olcenHalf (v : Nat) : List Int :=
  let l := (List.range 15).map (fun i => (Config.olcenTap v i).toInt)
  l ++ [2 ^ 16 - l.sum]

/-- Olcen's table for R: 32 taps, symmetric, SHIFT 17, in the variant that R selects (R170). -/
def olcen (r : Nat) : FirCfg :=
  let v := if r = 1 then 0 else if r = 2 then 1 else if r ≤ 7 then 2 else 3
  ⟨0xFF, 32, true, 17, olcenHalf v⟩

/-- The FIR of a bank's program for a setting, where the setting has a FIR stage. -/
def State.firOf (s : State) (b fs m : Nat) : Option FirCfg :=
  if hasFir fs then
    match s.prog b with
    | none => some (olcen (cicR fs m))
    | some p => if p.fir = 0xFF then some (olcen (cicR fs m))
      else match s.alm with
        | none => none
        | some a => a.firs.find? (fun f => f.inst = p.fir)
  else none

/-- The span E of a setting in input samples (R173). -/
def State.spanOf (s : State) (b fs m : Nat) : Nat :=
  if fs = 2 ∨ fs = 3 then m - 1
  else if isFilter fs then
    let h := halfbands fs
    30 * (2 ^ h - 1) + 5 * (cicR fs m - 1) * 2 ^ h
      + (match s.firOf b fs m with | some f => (f.ntaps - 1) * m | none => 0)
  else 0

/-- FILT_DELAY in ticks of a setting in a bank (R173). -/
def State.delayOf (s : State) (b fs m : Nat) : Nat := s.spanOf b fs m * spacing (s.bankMode b) / 2

/-- The active setting, decimation, delay and output spacing of channel `c`. -/
def State.cfs (s : State) (c : Nat) : Nat := filtSetOf (s.act (fltOff c))
def State.cm (s : State) (c : Nat) : Nat := decimOf (s.act (fltOff c))
def State.cdelay (s : State) (c : Nat) : Nat := s.delayOf (c / 16) (s.cfs c) (s.cm c)
def State.cdelta (s : State) (c : Nat) : Nat := spacing (s.bankMode (c / 16)) * s.cm c

/-- Δ of a group: the output spacing of its first live channel (R131, R144). -/
def State.delta (s : State) (g : Nat) : Nat := max 1 (s.cdelta (s.gfirst g))

/-- The offset of a channel's output grid: its instants are this modulo Δ (R174). -/
def State.gridOff (s : State) (c : Nat) : Nat :=
  let d := max 1 (s.cdelta c)
  (d - s.cdelay c % d) % d

/-- The first instant at or after `t` of a grid. -/
def gridUp (off delta t : Nat) : Nat := if t ≤ off then off else off + ceilDiv (t - off) delta * delta

/-- The first output instant of a channel at or after `t`. -/
def State.outAt (s : State) (c t : Nat) : Nat := gridUp (s.gridOff c) (max 1 (s.cdelta c)) t

/-- The first output instant of a group's first live channel at or after `t` (R144). -/
def State.gOutAt (s : State) (g t : Nat) : Nat := s.outAt (s.gfirst g) t

/-- DMODE of a setting (R165). -/
def dmodeOf (fs : Nat) : Nat := if fs ≤ 3 then fs else 4

/-- PACK and samples per word of data of a DMODE (R157). -/
def packOf (dm : Nat) : Nat := if dm = 0 then 0 else if dm = 2 then 2 else 1
def perWord (pack : Nat) : Nat := if pack = 0 then 3 else if pack = 1 then 2 else 1

/-! ### Lengths of a group (shadow and active) -/

def State.eveReq (s : State) (g : Nat) : Nat := s.act36 (Reg.aqgEve g)
def State.post (s : State) (g : Nat) : Nat := s.act36 (Reg.aqgPost g)
def State.eveMin (s : State) (g : Nat) : Nat := s.act36 (Reg.aqgEveMin g)
def State.evePolicy (s : State) (g : Nat) : Nat := s.actf (Reg.aqgPolicy g) 1 0

/-! ### Partitions (R135, R195 to R198) -/

/-- Record space is Plain. -/
def State.plain (s : State) : Bool := match s.alm with | some a => a.plain | none => false

/-- SIZE and PRE_RING of a partition in extents. -/
def State.psize (s : State) (p : Nat) : Nat × Nat :=
  match s.alm with
  | none => (0, 0)
  | some a => a.parts.getD p (0, 0)

/-- Granules of an extent. -/
def extent : Nat := 2 ^ 18

/-- The first granule of a partition. -/
def State.pbase (s : State) (p : Nat) : Nat :=
  match s.alm with
  | none => 0
  | some a => ((a.parts.take p).map (fun x => x.1)).sum * extent

/-- The usable span between two granule indices: whole stripe rows in Guarded mode (R198). -/
def usable (plain : Bool) (lo hi : Nat) : Nat × Nat :=
  if plain then (lo, hi) else (ceilDiv lo 3 * 3, hi / 3 * 3)

/-- The usable span of a partition's record area: first granule and the one past the last. -/
def State.area (s : State) (p : Nat) : Nat × Nat :=
  usable s.plain (s.pbase p + (s.psize p).2 * extent) (s.pbase p + (s.psize p).1 * extent)

def State.areaSize (s : State) (p : Nat) : Nat := (s.area p).2 - (s.area p).1

/-- Granules a record of `n` granules takes: whole stripe rows in Guarded mode (R198). -/
def State.rounded (s : State) (n : Nat) : Nat := if s.plain then n else ceilDiv n 3 * 3

/-- A granule index taken into the circular usable span. -/
def State.wrapIn (s : State) (p a : Nat) : Nat :=
  let u := s.area p
  if u.2 ≤ a ∧ u.1 < u.2 then u.1 + (a - u.2) % (u.2 - u.1) else a

/-- Where the next record of a partition starts: the first stripe boundary at or after its commit address. -/
def State.nextStart (s : State) (p : Nat) : Nat :=
  let c := max (s.part p).commitAddr (s.area p).1
  s.wrapIn p (if s.plain then c else ceilDiv c 3 * 3)

/-- Granules of a partition's record area held by records not yet passed by the tail. -/
def State.occupied (s : State) (p : Nat) : Nat := (((s.part p).recs.map (fun r => s.rounded r.granules))).sum

/-- Words and granules of a record with a payload and an annex (R159, R161). -/
def granulesOf (annexWords payload : Nat) : Nat := ceilDiv (16 + annexWords + payload + 2) 8

/-- Payload words of `len` output samples on `nch` channels (R158). -/
def payloadWords (layout nch len s : Nat) : Nat := if layout = 0 then nch * ceilDiv len s else ceilDiv (len * nch) s

/-- Granules of the ring or sum area of a partition. -/
def State.preGranules (s : State) (p : Nat) : Nat :=
  let u := usable s.plain (s.pbase p) (s.pbase p + (s.psize p).2 * extent)
  u.2 - u.1

end Sys2Proof.Machine
end

