-- ==== Sys2Proof/Machine/Flags.lean ====
section
/-! DEFINITION. The status bits that follow from the rest of the state: UNSETTLED, the settling and stop conditions, the
Eve valid count and its fullness, the hand-over conditions, AQG_STATUS and the unit status words. -/

namespace Sys2Proof.Machine

/-- The A256 is unsettled (R82): OVEN_READY low, holdover, less than 10 ms since a relock, or DISCONTINUOUS. -/
def State.unsettled (s : State) : Bool :=
  !s.bit Reg.epcStatus 5 || s.bit Reg.epcStatus 6 || s.relockAt.isSome || s.bit Reg.epcStatus 8

/-- A bank's converters deliver valid samples (BNK_CONV_STATUS.READY). -/
def State.ready (s : State) (b : Nat) : Bool := s.bit (Reg.bnkConvStatus b) 0

/-- Channel `c` settles (R71). -/
def State.settling (s : State) (c : Nat) : Bool := s.now < (s.bankAt (c / 16)).settleEnd.getD (c % 16) 0

/-- A channel of the group settles (R72). -/
def State.gSettling (s : State) (g : Nat) : Bool := (s.gchans g).any s.settling

/-- An escalation action stops capture in a bank (FLT_ACTION, R346, R348). -/
def State.bankStopped (s : State) (b : Nat) : Bool :=
  s.bit Reg.fltAction b || s.bit Reg.fltAction 16 || s.bit Reg.fltAction 17

/-- A bank the group covers is stopped. -/
def State.gStopped (s : State) (g : Nat) : Bool := (s.gbanks g).any s.bankStopped

/-- Some stack controller is frozen (R217). -/
def State.anyFrozen (s : State) : Bool := (List.range 4).any (fun k => (s.stack k).frozen)

/-- A controller runs: trained, not in self-refresh, not failed and not frozen. -/
def State.running (s : State) (k : Nat) : Bool := s.rd (Reg.memStatus k) 2 0 == 2

/-- Every controller that has not failed runs. -/
def State.memUp (s : State) : Bool := (List.range 4).all (fun k => s.running k || (s.stack k).failed)

/-- The number of failed stacks. -/
def State.failedCount (s : State) : Nat := ((List.range 4).filter (fun k => (s.stack k).failed)).length

/-- MEM_MODE.USABLE: an Almanac is loaded, nothing is frozen, and no more stacks are failed than the mode bears
(R217). -/
def State.usableMem (s : State) : Bool :=
  s.alm.isSome && !s.anyFrozen && (if s.plain then s.failedCount == 0 else decide (s.failedCount ≤ 1))

/-! ### The Eve (R140 to R143) -/

/-- The time the Eve buffer holds: 4 µs. -/
def eveTicks : Nat := 4 * usec

/-- Samples that the pre-trigger ring of a group's partition holds (R141); an Accumulate group has none (R182). -/
def State.ringSamples (s : State) (g : Nat) : Nat :=
  if s.gmode g = 2 then 0
  else 8 * s.preGranules (s.gpart g) * perWord (packOf (dmodeOf (s.cfs (s.gfirst g)))) / max 1 (s.gnch g)

/-- The Eve depth D for a group with output spacing `d` (R141). -/
def State.eveDepth (s : State) (g : Nat) : Nat := eveTicks / s.delta g + s.ringSamples g

/-- PWR_STATUS.STATE: 0 Feast, 1 Ordinary, 2 Fast, 3 Fallow. -/
def State.power (s : State) : Nat := s.rd Reg.pwrStatus 1 0

/-- The instant from which every channel of a group delivers valid outputs: the latest of the group's own restart
and the first valid output after each slot's restart (R142, R175). -/
def State.eveFrom (s : State) (g : Nat) : Nat :=
  (s.gchans g).foldl
    (fun m c => max m ((s.bankAt (c / 16)).restartAt.getD (c % 16) 0 + s.cdelay c)) (s.grp g).fillFrom

/-- Output instants of a grid in [lo, hi). -/
def gridCount (off delta lo hi : Nat) : Nat :=
  let a := gridUp off delta lo
  let b := gridUp off delta hi
  (b - a) / delta

/-- Output samples of channel `c` held from `lo` on before instant `hi`. -/
def State.heldIn (s : State) (c lo hi : Nat) : Nat := gridCount (s.gridOff c) (max 1 (s.cdelta c)) lo hi

/-- The limit of V in samples: the Eve buffer alone while no ring is written, the whole depth otherwise (R142). -/
def State.eveCap (s : State) (g : Nat) : Nat :=
  if s.power = 0 then s.eveDepth g else eveTicks / s.delta g

/-- The Eve valid count V of an armed group (R142). -/
def State.eveV (s : State) (g : Nat) : Nat :=
  if s.gArmed g then
    min (s.eveCap g)
      ((s.gchans g).foldl (fun m c => min m (s.heldIn c (s.eveFrom g) (s.ep + 1 - s.cdelay c))) (s.eveCap g))
  else 0

/-- The Eve available to a trigger at instant `t` that arrives now: the least over the channels of V and of the
samples held before each channel's s0 (R142, R144). -/
def State.eveAvail (s : State) (g t : Nat) : Nat :=
  let lo := max (s.eveFrom g) (s.ep - s.eveCap g * s.delta g)
  (s.gchans g).foldl (fun m c => min m (s.heldIn c lo (s.outAt c t))) (s.eveV g)

/-! ### Shadows of a group (R121, R153, R154, R176) -/

/-- A group takes a trigger unit, directly or through a Conjunction (R121). -/
def State.dependsOn (s : State) (g u : Nat) : Bool :=
  match s.gcfg g, s.alm with
  | some c, some a =>
    (c.srcKind == 0 && c.srcIndex == u) ||
      (c.srcKind == 1 && (match (a.conjs[c.srcIndex]?).join with
        | some j => j.srcs.any (fun x => x.1 == 0 && x.2 == u)
        | none => false))
  | _, _ => false

/-- The offsets of the double-buffered words of trigger unit `u` (R121). -/
def trigWords (u : Nat) : List Nat :=
  (List.range 12).map (fun k => Reg.bnkTrgCtl (u / 8) (u % 8) + 4 * k)

/-- The offsets of the double-buffered words of Conjunction `j`. -/
def conjWords (j : Nat) : List Nat := (List.range 6).map (fun k => Reg.epcCjCtl j + 4 * k) ++ [Reg.epcCjSlack j]

/-- The group a unit's shadow is handed over with: the one group that depends on it (R121). -/
def State.ownerOf (s : State) (u : Nat) : Option Nat :=
  match s.enabledGroups.filter (fun g => s.dependsOn g u) with
  | [g] => some g
  | _ => none

/-- The group a Conjunction's shadow is handed over with. -/
def State.conjOwner (s : State) (j : Nat) : Option Nat :=
  match s.enabledGroups.filter (fun g => match s.gcfg g with
      | some c => c.srcKind == 1 && c.srcIndex == j
      | none => false) with
  | [g] => some g
  | _ => none

/-- The group's own double-buffered words: interrupts, policy, spacing, lengths, accumulation and histogram. -/
def groupOwnWords (g : Nat) : List Nat :=
  [Reg.aqgCtl g, Reg.aqgPolicy g, Reg.aqgIrqGap g, Reg.aqgEve g, Reg.aqgEve g + 4, Reg.aqgPost g, Reg.aqgPost g + 4,
    Reg.aqgEveMin g, Reg.aqgEveMin g + 4, Reg.aqgAccCtl g, Reg.aqgAccN g, Reg.aqgHistCtl g, Reg.aqgHistEvery g,
    Reg.aqgHistBin g, Reg.aqgHistBase g]

/-- The front-end and filter words of the group's channels. -/
def State.groupChanWords (s : State) (g : Nat) : List Nat :=
  (s.gchans g).flatMap (fun c => [Reg.bnkFe (c / 16) (c % 16), fltOff c])

/-- The trigger units and Conjunctions whose shadow the group hands over. -/
def State.groupUnits (s : State) (g : Nat) : List Nat := (List.range 128).filter (fun u => s.ownerOf u == some g)
def State.groupConjs (s : State) (g : Nat) : List Nat := (List.range 16).filter (fun j => s.conjOwner j == some g)

/-- Every word the group's hand-over copies (R153). -/
def State.groupWords (s : State) (g : Nat) : List Nat :=
  groupOwnWords g ++ s.groupChanWords g ++ (s.groupUnits g).flatMap trigWords ++ (s.groupConjs g).flatMap conjWords

/-- A 36-bit quantity as its shadow holds it. -/
def State.sh36 (s : State) (off : Nat) : Nat := s.rdq off 2 % 2 ^ 36

/-- The lengths `eve`, `post` and `emin` are valid for a group whose depth is `depth` (R141, R146). -/
def lengthsOk (mode policy depth eve post emin : Nat) : Bool :=
  eve ≤ depth ∧ 1 ≤ eve + post ∧ (policy = 2 → emin ≤ eve) ∧ (if mode = 1 then 1024 ≤ post ∧ post < 2 ^ 32 else 1 ≤ post)

/-- The active lengths are valid (R133). -/
def State.lengthsActive (s : State) (g : Nat) : Bool :=
  lengthsOk (s.gmode g) (s.evePolicy g) (s.eveDepth g) (s.eveReq g) (s.post g) (s.eveMin g)

/-- The Eve depth that the shadow setting of the group's first channel gives. -/
def State.shadowDepth (s : State) (g : Nat) : Nat :=
  let c := s.gfirst g
  let w := s.get (fltOff c)
  let d := max 1 (spacing (s.bankMode (c / 16)) * decimOf w)
  let ring := if s.gmode g = 2 then 0
    else 8 * s.preGranules (s.gpart g) * perWord (packOf (dmodeOf (filtSetOf w))) / max 1 (s.gnch g)
  eveTicks / d + ring

/-- The accumulation count N of a word, 0 meaning 2^24, and whether it lies in the limits of R181. -/
def accN (w : Word) : Nat := if fld w 23 0 = 0 then 2 ^ 24 else fld w 23 0

def accOk (n fs : Nat) : Bool := fs != 2 && (if fs = 0 then n ≤ 2 ^ 24 else n ≤ 2 ^ 18)

/-- Tally blocks that `words` words of sums and a grid of `tb` time bins take (R183, R190). -/
def blocksFor (words tb : Nat) : Nat := ceilDiv words 4096 + ceilDiv tb 16

/-- The histogram that the shadow of a group asks for: TB is at most 4096, and while the group is armed its blocks and those of
its Tally-held sums fit in the Tally store (R181, R190). -/
def State.shadowHistOk (s : State) (g : Nat) : Bool :=
  let len := s.sh36 (Reg.aqgEve g) + s.sh36 (Reg.aqgPost g)
  let on := s.gmode g != 1 && s.bit (Reg.aqgHistCtl g) 0
  let tb := if on then ceilDiv len (max 1 (s.rd (Reg.aqgHistBin g) 15 0)) else 0
  let others := ((List.range 32).map (fun h => if h = g then 0 else (s.grp h).acc.blocks)).sum
  tb ≤ 4096 && (!s.gArmed g
    || decide (blocksFor (if (s.grp g).acc.place = 1 then s.gnch g * len else 0) tb + others ≤ 2048))

/-- The shadow of a group may be handed over (R154, R176, R181, R190). -/
def State.shadowOk (s : State) (g : Nat) : Bool :=
  let ws := (s.gchans g).map (fun c => s.get (fltOff c))
  lengthsOk (s.gmode g) (s.rd (Reg.aqgPolicy g) 1 0) (s.shadowDepth g) (s.sh36 (Reg.aqgEve g))
      (s.sh36 (Reg.aqgPost g)) (s.sh36 (Reg.aqgEveMin g))
    && ws.all (fun w => w == ws.headD 0x100)
    && (s.gmode g != 2 || accOk (accN (s.get (Reg.aqgAccN g))) (filtSetOf (ws.headD 0x100)))
    && s.shadowHistOk g

/-- The group's shadow differs from the active value (AQG_STATUS.PENDING). -/
def State.gPending (s : State) (g : Nat) : Bool := s.shadowDiffers (s.groupWords g)

/-! ### AQG_STATUS (R132) -/

def GState.code : GState → Nat
  | .disabled => 0
  | .idle => 1
  | .filling => 2
  | .armed => 3
  | .recording => 4
  | .rearm => 5
  | .streaming => 6
  | .paused => 7

/-- The cause of a pause of R150 that makes the group PAUSED: a BANDWIDTH or SRAM gap or a full episode does not. -/
def Group.pauseCause (x : Group) : Nat :=
  match x.pauses.find? (fun p => p.cause != 1 && p.cause != 2 && p.cause != 23) with
  | some p => p.cause
  | none => 0

def Group.isFull (x : Group) : Bool := x.pauses.any (fun p => p.cause == 2)

/-- AQG_STATUS as it reads: the stored event bits and the fields that the group's state gives. -/
def State.aqgStatusWord (s : State) (g : Nat) : Word :=
  let x := s.grp g
  BitVec.ofNat 32
    (x.st.code + 32 * b2n (s.gPending g) + 64 * b2n (s.gArmed g && decide (s.eveReq g ≤ s.eveV g))
      + 128 * b2n x.isFull + 256 * (if x.st = .paused then x.pauseCause else 0) + 65536 * b2n x.handErr
      + 2 ^ 17 * s.rd (Reg.aqgStatus g) 19 17 + 2 ^ 20 * x.armErr)

/-! ### Unit status (R24) and interrupt summary (R392) -/

/-- FLT_STATUS, FLT_SEVERE and FLT_MASK as 36-bit words. -/
def State.fltStatus (s : State) : Nat := s.rdq Reg.fltStatus 2
def State.fltSevere (s : State) : Nat := s.rdq Reg.fltSevere 2
def State.fltMask (s : State) : Nat := s.rdq Reg.fltMask 2

/-- FAULT_N is asserted: through a warm or Fundamental reset it holds the level of the request (R350). -/
def State.faultN (s : State) : Bool :=
  if s.resetStep = .requested ∨ s.resetStep = .asserted then s.faultHeld
  else (s.fltStatus &&& (2 ^ 36 - 1 - s.fltMask)) != 0 || s.fltSevere != 0

/-- UNIT_STATUS of the device, or of bank `b`: of a bank's window, only ARMED and CAL_PENDING are the bank's own. -/
def State.unitStatusWord (s : State) (b : Option Nat) : Word :=
  let gs := match b with | none => s.enabledGroups | some n => s.groupsOf n
  let cal := s.rd Reg.calPending 15 0 ||| s.rd Reg.calDefer 15 0
  let calp := match b with | none => s.rd Reg.calPending 15 0 != 0 | some n => cal.testBit n && s.bit Reg.calPending n
  BitVec.ofNat 32
    (b2n (gs.any s.gArmed) + 2 * b2n s.faultN + 4 * b2n (s.fltSevere != 0) + 8 * b2n (s.bit Reg.fltAction 17)
      + 16 * b2n s.unsettled + 32 * b2n (s.bit Reg.epcStatus 6) + 64 * b2n calp
      + 128 * b2n (s.fltStatus.testBit 28) + 256 * b2n (s.enabledGroups.any (fun g => (s.grp g).isFull))
      + 512 * b2n (2 ≤ s.power))

/-- Vector `v` holds a condition that R392 names. -/
def State.irqPend (s : State) (v : Nat) : Bool :=
  if v = 0 then s.faultN
  else if v ≤ 5 then
    s.get (Reg.hrvCqTail (v - 1)) != s.get (Reg.hrvCqHead (v - 1))
      || (List.range 64).any (fun c => (s.hch (v - 1) c).st == 5)
  else if v = 6 then (s.rd Reg.rngIrq 2 0 &&& s.rd Reg.rngIrq 18 16) != 0
  else if v = 7 then
    (s.rd Reg.pwrIrq 2 0 &&& s.rd Reg.pwrIrq 18 16) != 0 || (s.rd Reg.updIrq 2 0 &&& s.rd Reg.updIrq 18 16) != 0
  else if v < 40 then
    let st := s.aqgStatusWord (v - 8)
    let en := s.act (Reg.aqgCtl (v - 8))
    (fld st 17 17 == 1 && fld en 8 8 == 1) || (fld st 18 18 == 1 && fld en 9 9 == 1)
      || (fld st 19 19 == 1 && fld en 10 10 == 1)
  else if v < 56 then
    let u := v - 40
    s.bit (Reg.epcIvCtl u) 20
      && (s.bit (Reg.epcIvStatus u) 7 || s.bit (Reg.epcIvStatus u) 8 || s.bit (Reg.epcIvStatus u) 9)
  else false

end Sys2Proof.Machine
end

