-- ==== Sys2Proof/Machine/Hash.lean ====
section
/-! DEFINITION. The checks and digests the spec names: CRC-32C (R36, R160), SHA-256 and SHA-384 (FIPS 180-4, R38, R57)
and ECDSA P-384 verification (FIPS 186-5, R38). -/

namespace Sys2Proof.Machine

/-! ### CRC-32C: polynomial 0x1EDC6F41 reflected, initial value and final XOR 0xFFFFFFFF (R36) -/

def crcBits : Nat → Nat → Nat
  | 0, c => c
  | n + 1, c => crcBits n (if c % 2 = 1 then (c / 2) ^^^ 0x82F63B78 else c / 2)

def crcStep (c : Nat) (b : Byte) : Nat := crcBits 8 (c ^^^ b.toNat)

/-- CRC-32C of bytes. -/
def crc32c (bs : List Byte) : Nat := (bs.foldl crcStep 0xFFFFFFFF) ^^^ 0xFFFFFFFF

/-- CRC-32C over native words, each serialised as 5 bytes little-endian (R160). -/
def crcWords (ws : List Native) : Nat := crc32c (ws.flatMap (fun w => leBytes 5 w.toNat))

/-! ### SHA-2: one compression written over the word width `w`, with the rotation counts of FIPS 180-4 -/

/-- FIPS 180-4 lists its 80 round constants of 64 bits (the fractions of the cube roots of the first 80 primes); here they
stand as one number for each 16 of them, the first constant uppermost. -/
def shaRoots0 : Nat :=
  0x428a2f98d728ae227137449123ef65cdb5c0fbcfec4d3b2fe9b5dba58189dbbc3956c25bf348b53859f111f1b605d019923f82a4af194f9bab1c5ed5da6d8118d807aa98a303024212835b0145706fbe243185be4ee4b28c550c7dc3d5ffb4e272be5d74f27b896f80deb1fe3b1696b19bdc06a725c71235c19bf174cf692694
def shaRoots1 : Nat :=
  0xe49b69c19ef14ad2efbe4786384f25e30fc19dc68b8cd5b5240ca1cc77ac9c652de92c6f592b02754a7484aa6ea6e4835cb0a9dcbd41fbd476f988da831153b5983e5152ee66dfaba831c66d2db43210b00327c898fb213fbf597fc7beef0ee4c6e00bf33da88fc2d5a79147930aa72506ca6351e003826f142929670a0e6e70
def shaRoots2 : Nat :=
  0x27b70a8546d22ffc2e1b21385c26c9264d2c6dfc5ac42aed53380d139d95b3df650a73548baf63de766a0abb3c77b2a881c2c92e47edaee692722c851482353ba2bfe8a14cf10364a81a664bbc423001c24b8b70d0f89791c76c51a30654be30d192e819d6ef5218d69906245565a910f40e35855771202a106aa07032bbd1b8
def shaRoots3 : Nat :=
  0x19a4c116b8d2d0c81e376c085141ab532748774cdf8eeb9934b0bcb5e19b48a8391c0cb3c5c95a634ed8aa4ae3418acb5b9cca4f7763e373682e6ff3d6b2b8a3748f82ee5defb2fc78a5636f43172f6084c87814a1f0ab728cc702081a6439ec90befffa23631e28a4506cebde82bde9bef9a3f7b2c67915c67178f2e372532b
def shaRoots4 : Nat :=
  0xca273eceea26619cd186b8c721c0c207eada7dd6cde0eb1ef57d4f7fee6ed17806f067aa72176fba0a637dc5a2c898a6113f9804bef90dae1b710b35131c471b28db77f523047d8432caab7b40c724933c9ebe0a15c9bebc431d67c49c100d4c4cc5d4becb3e42b6597f299cfc657e2a5fcb6fab3ad6faec6c44198c4a475817

/-- Word `i`, counted from the top, of a number of `n` words of `w` bits. -/
def wordFromTop (w n x i : Nat) : Nat := (x >>> (w * (n - 1 - i))) % 2 ^ w

/-- The words of a number, from the top. -/
def wordsFromTop (w n x : Nat) : List Nat := (List.range n).map (wordFromTop w n x)

def sha512K : List Nat := [shaRoots0, shaRoots1, shaRoots2, shaRoots3, shaRoots4].flatMap (wordsFromTop 64 16)

/-- SHA-256 takes the upper halves of the first 64. -/
def sha256K : List Nat := (sha512K.take 64).map (fun k => k / 2 ^ 32)

/-- The initial values: the fractions of the square roots of the first eight primes, and of the next eight. -/
def sha256H : List Nat := wordsFromTop 32 8
  0x6a09e667bb67ae853c6ef372a54ff53a510e527f9b05688c1f83d9ab5be0cd19

def sha384H : List Nat := wordsFromTop 64 8
  0xcbbb9d5dc1059ed8629a292a367cd5079159015a3070dd17152fecd8f70e593967332667ffc00b318eb44a8768581511db0c2e0d64f98fa747b5481dbefa4fa4

/-- Rotation right of a `w`-bit word. -/
def rotr (w x k : Nat) : Nat := (x >>> k) ||| ((x <<< (w - k)) % 2 ^ w)

/-- The parameters of a SHA-2 function: word width, the rotation counts of the four sigma functions and the constants. -/
structure ShaParam where
  w : Nat
  S0 : Nat × Nat × Nat
  S1 : Nat × Nat × Nat
  s0 : Nat × Nat × Nat
  s1 : Nat × Nat × Nat
  k : List Nat
  h : List Nat
  out : Nat

def sha256P : ShaParam := ⟨32, (2, 13, 22), (6, 11, 25), (7, 18, 3), (17, 19, 10), sha256K, sha256H, 8⟩
def sha384P : ShaParam := ⟨64, (28, 34, 39), (14, 18, 41), (1, 8, 7), (19, 61, 6), sha512K, sha384H, 6⟩

def bigSigma (w : Nat) (r : Nat × Nat × Nat) (x : Nat) : Nat := rotr w x r.1 ^^^ rotr w x r.2.1 ^^^ rotr w x r.2.2
def smallSigma (w : Nat) (r : Nat × Nat × Nat) (x : Nat) : Nat := rotr w x r.1 ^^^ rotr w x r.2.1 ^^^ (x >>> r.2.2)

/-- The message schedule, newest word first. -/
def shaSchedule (P : ShaParam) : Nat → List Nat → List Nat
  | 0, ws => ws
  | n + 1, ws =>
    let x := (smallSigma P.w P.s1 (ws.getD 1 0) + ws.getD 6 0 + smallSigma P.w P.s0 (ws.getD 14 0) + ws.getD 15 0)
      % 2 ^ P.w
    shaSchedule P n (x :: ws)

/-- The eight working variables. -/
structure ShaVars where
  a : Nat
  b : Nat
  c : Nat
  d : Nat
  e : Nat
  f : Nat
  g : Nat
  h : Nat

def shaRound (P : ShaParam) (v : ShaVars) (kw : Nat × Nat) : ShaVars :=
  let ch := (v.e &&& v.f) ^^^ ((2 ^ P.w - 1 - v.e) &&& v.g)
  let t1 := v.h + bigSigma P.w P.S1 v.e + ch + kw.1 + kw.2
  let maj := (v.a &&& v.b) ^^^ (v.a &&& v.c) ^^^ (v.b &&& v.c)
  let t2 := bigSigma P.w P.S0 v.a + maj
  ⟨(t1 + t2) % 2 ^ P.w, v.a, v.b, v.c, (v.d + t1) % 2 ^ P.w, v.e, v.f, v.g⟩

def shaBlock (P : ShaParam) (h : List Nat) (ws : List Nat) : List Nat :=
  let sched := (shaSchedule P (P.k.length - 16) ws.reverse).reverse
  let v0 : ShaVars := ⟨h.getD 0 0, h.getD 1 0, h.getD 2 0, h.getD 3 0, h.getD 4 0, h.getD 5 0, h.getD 6 0, h.getD 7 0⟩
  let v := (P.k.zip sched).foldl (shaRound P) v0
  (h.zip [v.a, v.b, v.c, v.d, v.e, v.f, v.g, v.h]).map (fun x => (x.1 + x.2) % 2 ^ P.w)

/-- The padded message as words. -/
def shaPad (P : ShaParam) (bs : List Byte) : List Nat :=
  let wb := P.w / 8
  let block := 16 * wb
  let lenb := 2 * wb
  let z := (block - (bs.length + 1 + lenb) % block) % block
  let m := bs ++ [0x80] ++ List.replicate z 0 ++ beBytes lenb (8 * bs.length)
  (chunks wb m.length m).map beNat

/-- The digest bytes. -/
def sha (P : ShaParam) (bs : List Byte) : List Byte :=
  let ws := shaPad P bs
  let h := (chunks 16 ws.length ws).foldl (shaBlock P) P.h
  (h.take P.out).flatMap (beBytes (P.w / 8))

def sha256 (bs : List Byte) : List Byte := sha sha256P bs
def sha384 (bs : List Byte) : List Byte := sha sha384P bs

/-! ### ECDSA P-384 verification -/

def p384P : Nat := 2 ^ 384 - 2 ^ 128 - 2 ^ 96 + 2 ^ 32 - 1
def p384N : Nat :=
  0xFFFFFFFFFFFFFFFFFFFFFFFFFFFFFFFFFFFFFFFFFFFFFFFFC7634D81F4372DDF581A0DB248B0A77AECEC196ACCC52973
def p384B : Nat :=
  0xB3312FA7E23EE7E4988E056BE3F82D19181D9C6EFE8141120314088F5013875AC656398D8A2ED19D2A85C8EDD3EC2AEF
def p384Gx : Nat :=
  0xAA87CA22BE8B05378EB1C71EF320AD746E1D3B628BA79B9859F741E082542A385502F25DBF55296C3A545E3872760AB7
def p384Gy : Nat :=
  0x3617DE4A96262C6F5D9E98BF9292DC29F8F41DBD289A147CE9DA3113B5F0B8C00A60B1CE1D7E819D7A431D7C90EA0E5F

/-- Modular power by repeated squaring over `fuel` bits of the exponent. -/
def powMod (m : Nat) : Nat → Nat → Nat → Nat
  | 0, _, _ => 1 % m
  | f + 1, b, e =>
    let r := powMod m f (b * b % m) (e / 2)
    if e % 2 = 1 then b * r % m else r

/-- The inverse modulo a prime. -/
def invMod (m x : Nat) : Nat := powMod m 384 (x % m) (m - 2)

/-- Addition of affine points; `none` is the point at infinity. -/
def ecAdd (a b : Option (Nat × Nat)) : Option (Nat × Nat) :=
  match a, b with
  | none, q => q
  | q, none => q
  | some (x1, y1), some (x2, y2) =>
    let p := p384P
    if x1 = x2 ∧ (y1 + y2) % p = 0 then none
    else
      let l := if x1 = x2 then (3 * x1 * x1 + 3 * (p - 1)) * invMod p (2 * y1) % p
        else (y2 + p - y1) * invMod p (x2 + p - x1) % p
      let x := (l * l + 2 * p - x1 - x2) % p
      some (x, (l * (x1 + p - x) + p - y1) % p)

/-- A multiple of a point over `fuel` bits of the factor. -/
def ecMul : Nat → Nat → Option (Nat × Nat) → Option (Nat × Nat)
  | 0, _, _ => none
  | f + 1, k, q =>
    let r := ecMul f (k / 2) (ecAdd q q)
    if k % 2 = 1 then ecAdd q r else r

/-- The point of an uncompressed 97-byte key, where it is on the curve. -/
def ecKey (key : List Byte) : Option (Nat × Nat) :=
  let x := beNat ((key.drop 1).take 48)
  let y := beNat ((key.drop 49).take 48)
  if key.length = 97 ∧ key.headD 0 = 4 ∧ x < p384P ∧ y < p384P
    ∧ (y * y) % p384P = (x * x * x + (p384P - 3) * x + p384B) % p384P then some (x, y) else none

/-- A 96-byte signature, r then s, verifies for a key over a message (FIPS 186-5 with SHA-384). -/
def ecdsaOk (key msg sig : List Byte) : Bool :=
  let n := p384N
  let r := beNat (sig.take 48)
  let s := beNat ((sig.drop 48).take 48)
  match ecKey key with
  | none => false
  | some q =>
    if sig.length = 96 ∧ 0 < r ∧ r < n ∧ 0 < s ∧ s < n then
      let e := beNat (sha384 msg)
      let w := invMod n s
      match ecAdd (ecMul 384 (e * w % n) (some (p384Gx, p384Gy))) (ecMul 384 (r * w % n) (some q)) with
      | none => false
      | some (x, _) => x % n == r
    else false

end Sys2Proof.Machine
end

