-- ==== Sys2Proof/Machine/Records.lean ====
section
/-! DEFINITION. Records (R155 to R162, R429): their format and what they take from the state. -/

namespace Sys2Proof.Machine

/-! ### The format -/

def w36 (x : Nat) : Native := BitVec.ofNat 36 x

/-- A 72-bit quantity as two native words, low word first (R155). -/
def two36 (x : Nat) : List Native := [w36 x, w36 (x / 2 ^ 36)]

/-- The annex words of a record (R159). -/
def Rec.annexWords (r : Rec) : List Native := r.annex.flatMap two36

/-- Header words W0 to W14 of a record of group `ag` with sequence `seq` (R155). -/
def Rec.header14 (r : Rec) (ag seq : Nat) : List Native :=
  [w36 (r.kind * 2 ^ 32 + 2 ^ 28 + ag * 2 ^ 23 + (16 + r.annexWords.length) * 2 ^ 16 + r.flags % 2 ^ 16)]
    ++ two36 seq ++ two36 r.trig
    ++ [w36 r.w5, w36 r.w6, w36 r.w7,
        w36 (r.pack * 2 ^ 29 + r.filt * 2 ^ 21 + r.dmode * 2 ^ 17 + r.nch * 2 ^ 8 + r.firstCh), w36 r.decim,
        w36 r.w10, w36 r.w11, w36 (r.dead % 2 ^ 18 * 2 ^ 18 + r.early % 2 ^ 18), w36 r.accum,
        w36 (r.tag * 2 ^ 20 + r.gen % 2 ^ 16 * 2 ^ 4 + r.season)]

/-- The sixteen header words, W15 holding HDR_CRC (R155, R160). -/
def Rec.header (r : Rec) (ag seq : Nat) : List Native :=
  let h := r.header14 ag seq
  h ++ [w36 (crcWords h)]

/-- The trailer (R160): two zero words in an intercalary record (R162). -/
def Rec.trailer (r : Rec) : List Native :=
  if r.kind = 1 then [0, 0]
  else [w36 (if r.payload.isEmpty then 0 else crcWords r.payload), w36 (min r.ovr (2 ^ 18 - 1) + r.ovrCh * 2 ^ 18)]

/-- Every word of a record, padded with zeros to whole granules; an intercalary record takes 3 granules (R161, R162). -/
def Rec.words (r : Rec) (ag seq : Nat) : List Native :=
  let ws := r.header ag seq ++ r.annexWords ++ r.payload ++ r.trailer
  ws ++ List.replicate ((8 - ws.length % 8) % 8) 0

def Rec.granules (r : Rec) : Nat := granulesOf (2 * r.annex.length) r.payload.length

/-- Values packed `s` to a word, the earliest lowest, each `w` bits of two's complement (R2, R3). -/
def packWord (w : Nat) : List Int → Nat
  | [] => 0
  | x :: r => unsigned w x + 2 ^ w * packWord w r

/-- A run of values packed into words of `s` values of `w` bits. -/
def packRun (s w : Nat) (xs : List Int) : List Native := (chunks s xs.length xs).map (fun c => w36 (packWord w c))

/-- The values of several channels interleaved in time order. -/
def interleave : Nat → List (List Int) → List Int
  | 0, _ => []
  | n + 1, cs => cs.map (fun c => c.headD 0) ++ interleave n (cs.map (fun c => c.drop 1))

/-- The payload of equal-length channel blocks (R158). -/
def payloadOf (layout s w : Nat) (cs : List (List Int)) : List Native :=
  if layout = 0 then cs.flatMap (packRun s w) else packRun s w (interleave (cs.headD []).length cs)

/-- The bits of one value: 12 raw, 18 processed, 36 for a PEAK pair or a sum (R157). -/
def bitsPer (s : Nat) : Nat := 36 / s

/-! ### What a record takes from the state -/

/-- The tag of the Almanac in force (R39). -/
def State.tag (s : State) : Nat := s.rd Reg.almTag 15 0

/-- SEASON of a group (R339). -/
def State.season (s : State) (g : Nat) : Nat :=
  let xs := (s.gbanks g).map (fun b => s.rd (Reg.calBankStatus b) 11 8)
  if xs.contains 0xF then 0xF else if xs.contains 8 then 8
  else if xs.contains 9 || xs.any (fun x => x != xs.headD 0xF) then 9 else xs.headD 0xF

/-- The active generation of a group (R154). -/
def State.gen (s : State) (g : Nat) : Nat := s.rd (Reg.aqgShadowGen g) 15 0

/-- FLAGS that a record start sets by itself: UNSETTLED and CAL_PENDING (R156). -/
def State.startFlags (s : State) (g : Nat) : Nat :=
  2 * b2n s.unsettled + 256 * b2n ((s.gbanks g).any (fun b => s.bit Reg.calPending b))

/-- DMODE, PACK, FILT_SET and M of a group's settings in force. -/
def State.gset (s : State) (g : Nat) : Nat × Nat × Nat × Nat :=
  let c := s.gfirst g
  let dm := dmodeOf (s.cfs c)
  (dm, packOf dm, s.cfs c, s.cm c)

/-- An intercalary record of a group: cause, first missing output instant, the end of the span, and the tag in force where
the span begins (R39, R56, R162). The spec does not say how CAL_PENDING stands in an intercalary record, nor on which grid
the span of a group that misses no record sample begins: log entries 92 and 93. -/
def State.gapRec (s : State) (g cause lo hi tag : Nat) : Rec :=
  let st := s.gset g
  let x := s.grp g
  let a := s.gOutAt g lo
  { kind := 1, flags := 2 * b2n s.unsettled, trig := a, w5 := (ceilDiv (hi - a) (s.delta g)) % 2 ^ 36,
    w6 := ceilDiv (hi - a) (s.delta g) / 2 ^ 36, w7 := cause, pack := st.2.1, filt := st.2.2.1, dmode := st.1,
    nch := s.gnch g, firstCh := s.gfirst g, decim := st.2.2.2, w10 := 0, w11 := 0, early := x.early, dead := x.dead,
    accum := 0, tag := tag, gen := s.gen g, season := s.season g, annex := [], payload := [], ovr := 0,
    ovrCh := 0, first := a }

/-- An intercalary record over a stored span: its group's range, its spacing and the tag are those stored, the settings
those of a group after a reset of its shadows (R39, R55, R56, R326). -/
def State.spanRec (s : State) (x : GapState) (cause hi flags : Nat) : Rec :=
  let n := ceilDiv (hi - x.since) (max 1 x.delta)
  { kind := 1, flags := flags, trig := x.since, w5 := n % 2 ^ 36, w6 := n / 2 ^ 36, w7 := cause, pack := 0, filt := 0,
    dmode := 0, nch := x.nch, firstCh := x.firstCh, decim := 1, w10 := 0, w11 := 0, early := x.early, dead := x.dead,
    accum := 0, tag := x.tag, gen := s.gen x.g, season := s.season x.g, annex := [], payload := [], ovr := 0,
    ovrCh := 0, first := x.since }

/-- A LOST record: no span and no settings (R429). -/
def lostRec (unsettled : Bool) (firstCh nch tag gen season : Nat) : Rec :=
  { kind := 1, flags := 2 * b2n unsettled, trig := 0, w5 := 0, w6 := 0, w7 := 8, pack := 0, filt := 0, dmode := 0,
    nch := nch, firstCh := firstCh, decim := 1, w10 := 0, w11 := 0, early := 0, dead := 0, accum := 0, tag := tag,
    gen := gen, season := season, annex := [], payload := [], ovr := 0, ovrCh := 0, first := 0 }

end Sys2Proof.Machine
end

