-- ==== Sys2Proof/Machine/Regulators.lean ====
section
/-! DEFINITION. The token-bucket regulators of the memory ports (R201 to R204): RATE, BURST and TOKENS, the flows of records and
pre-trigger rings through the capture ports, and the waiting of every other port. -/

namespace Sys2Proof.Machine

/-! ### RATE and BURST -/

/-- BURST of a port in granules, 0 acting as 1. -/
def State.burst (s : State) (p : Nat) : Nat := max 1 (s.rd (Reg.memRegBurst p) 23 0)

/-- RATE as it applies: halved at the Harvest and accumulation ports while the throttle is in force (R315). -/
def State.rate (s : State) (p : Nat) : Nat :=
  let r := s.rd (Reg.memRegRate p) 15 0
  if s.bit Reg.pwrStatus 11 ∧ 16 ≤ p ∧ p ≤ 21 then r / 2 else r

/-! ### The flows through a capture port (R140, R184, R204) -/

/-- A steady flow of granules through a capture port: from `lo` to `hi` in the model's time, `num` ÷ `den` of 1/256 granule
for each tick. -/
structure Flow where
  lo : Nat
  hi : Nat
  num : Nat
  den : Nat

/-- 1/256 granules of a flow in [lo, hi). -/
def Flow.part (f : Flow) (lo hi : Nat) : Nat := f.num * (min hi f.hi - max lo f.lo) / max 1 f.den

/-- The live data rate of a group on the port of bank `b`: one output of each of its channels in the bank every Δ, 8 words of
`perWord` outputs to a granule. -/
def State.liveFlow (s : State) (g b lo hi : Nat) : Flow :=
  ⟨lo, hi, 256 * ((s.gchans g).filter (fun c => c / 16 == b)).length, 8 * perWord (s.gset g).2.1 * s.delta g⟩

/-- The group's record in progress goes through the capture ports: all but a Tally-held sum's (R184). -/
def State.portRecord (s : State) (g : Nat) : Bool := (s.grp g).cur.isSome && (s.grp g).acc.place != 1

/-- The group writes its pre-trigger ring now: armed, not paused, with a ring, in Feast (R140, R142). -/
def State.ringWrites (s : State) (g : Nat) : Bool :=
  s.gArmed g && (s.grp g).st != .paused && s.ringSamples g != 0 && s.power == 0

/-- What a group asks of the port of bank `b`: the post samples of its record from the record's start to its last sample, the
copy of its Eve beside them, and the writes of its ring (R140, R204). -/
def State.groupFlows (s : State) (b g : Nat) : List Flow :=
  (match (s.grp g).cur with
    | some c => if s.portRecord g then
        [s.liveFlow g b c.begun (c.begun + (c.s0 + c.post * s.delta g - c.startedAt)),
         s.liveFlow g b c.begun (c.begun + c.eveAct * s.delta g)] else []
    | none => [])
    ++ (if s.ringWrites g then [s.liveFlow g b 0 (s.now + 1)] else [])

/-- The flows through capture port `p`. -/
def State.flows (s : State) (p : Nat) : List Flow :=
  if p < 16 then (s.enabledGroups.filter (fun g => (s.gbanks g).contains p)).flatMap (s.groupFlows p) else []

/-- TOKENS after a run of steady stretches that begin at core cycle `at_`: RATE is added and the flows taken, up to BURST, and
whether some granule found TOKENS below 1, as R149 judges a run (R202, R203). -/
def runTokens (burst rate : Int) (fs : List Flow) : Int → Nat → List Nat → Int × Bool
  | v, _, [] => (min burst v, false)
  | v, at_, c :: r =>
    let d : Int := ((fs.map (fun f => f.part (at_ * cycle) (c * cycle))).sum : Nat)
    let w := v + rate * ((c : Int) - at_) - d
    let y := runTokens burst rate fs (if d = 0 then min burst w else min burst (max 0 w)) c r
    (y.1, decide (d ≠ 0 ∧ w < 0) || y.2)

/-- The core cycles at which some flow begins or ends after cycle `lo` and before `hi`, then `hi`. -/
def stretches (fs : List Flow) (lo hi : Nat) : List Nat :=
  (((fs.flatMap (fun f => [f.lo / cycle, ceilDiv f.hi cycle])).filter (fun c => decide (lo < c ∧ c < hi))).mergeSort
    (fun a b => decide (a ≤ b))) ++ [hi]

/-- TOKENS of a port now in 1/256 granule, and whether a granule has been refused since they were last counted. -/
def State.run (s : State) (p : Nat) : Int × Bool :=
  let t := tget s.tokens (((portReset p).2 : Int) * 256, 0) p
  let fs := s.flows p
  runTokens ((s.burst p : Int) * 256) (s.rate p) fs t.1 t.2 (stretches fs t.2 s.cyc)

/-- TOKENS of a port now, in 1/256 granule: RATE is added each core cycle, up to BURST, and the flows of a capture port are
taken (R202). -/
def State.tok (s : State) (p : Nat) : Int := (s.run p).1

/-- TOKENS of a port set. -/
def State.setTok (s : State) (p : Nat) (v : Int) : State :=
  { s with tokens := tset s.tokens (((portReset p).2 : Int) * 256, 0) p (v, s.cyc) }

/-- TOKENS of every port set to its BURST (R202). -/
def State.refill (s : State) : State := s.forAll (List.range 25) (fun s p => s.setTok p ((s.burst p : Int) * 256))

/-- TOKENS of a port counted up to now, at the rates and the flows so far; a refusal on the way is kept. -/
def State.settleTok (s : State) (p : Nat) : State :=
  let r := s.run p
  (if r.2 ∧ ¬ p ∈ s.short then { s with short := s.short ++ [p] } else s).setTok p r.1

/-- TOKENS of the capture ports of a group's banks counted up to now: the group's flows are about to change. -/
def State.settlePorts (s : State) (g : Nat) : State := s.forAll (s.gbanks g) State.settleTok

/-- A granule of a group has been refused at one of its capture ports (R203). -/
def State.refusedPorts (s : State) (g : Nat) : List Nat :=
  (s.gbanks g).filter (fun p => s.short.contains p || (s.run p).2)

/-- Granules of a group's records that have entered the write queue of port `p` and are not known to be written: of its captured
records, and of the record in progress so far (R204). -/
def State.queuedAt (s : State) (p : Nat) : Nat :=
  ((s.enabledGroups.filter (fun g => (s.gbanks g).contains p)).map (fun g =>
    let n := ((s.gchans g).filter (fun c => c / 16 == p)).length
    ceilDiv (((s.grp g).queue.map (fun r => r.granules)).sum * n) (max 1 (s.gnch g)))).sum
    + ceilDiv ((s.flows p).map (fun f => f.part 0 s.now)).sum 256

/-- The write queue of a capture port holds 8192 granules (R204). -/
def State.queueFull (s : State) (p : Nat) : Bool := 8192 ≤ s.queuedAt p

/-! ### The other ports (R202, R203) -/

/-- A port passes a granule now: TOKENS is at least 1. -/
def State.mayPass (s : State) (p : Nat) : Bool := 256 ≤ s.tok p

/-- `n` granules asked of a port that waits: each takes a token, and the core cycles in which one has to wait for its token count
in MEM_REG_DENIED (R203). -/
def State.pass (s : State) (p n : Nat) : State :=
  let v := s.tok p - 256 * n
  let s1 := s.setTok p v
  if v < 0 then s1.countFld (Reg.memRegDenied p) 31 0 ((-v).toNat / max 1 (s.rate p)) else s1

/-- The accumulation port and the others that have one user (R201). -/
def accPort : Nat := 21
def scrubPort : Nat := 22
def mgmtPort : Nat := 24

end Sys2Proof.Machine
end

