-- ==== Sys2Proof/Machine/Commit.lean ====
section
/-! DEFINITION. The room that records need, their writing, commit and release (R33, R135 to R139, R198, R199). -/

namespace Sys2Proof.Machine

/-! ### Room (R33, R135, R139, R198, R199) -/

/-- Granules of a partition's record area that no record holds. -/
def State.freeOf (s : State) (p : Nat) : Nat := s.areaSize p - s.occupied p

/-- Granules of the captured records of a partition's groups that have not committed. -/
def State.waiting (s : State) (p : Nat) : Nat :=
  ((s.enabledGroups.filter (fun g => s.gpart g == p)).map (fun g =>
    ((s.grp g).queue.map (fun r => s.rounded r.granules)).sum)).sum

/-- Free granules of a partition's record area, records captured and not yet committed counted as taken. -/
def State.freeFor (s : State) (g : Nat) : Nat := s.freeOf (s.gpart g) - s.waiting (s.gpart g)

/-- Samples per word of the record that the active lengths of a group make: of an Accumulate group the accumulated record,
or the averaged one where that alone is written (R157, R187). -/
def State.recPerWord (s : State) (g : Nat) : Nat :=
  if s.gmode g = 2 then (if s.actf (Reg.aqgAccCtl g) 5 4 = 2 then 2 else 1) else perWord (s.gset g).2.1

/-- The largest record the active lengths allow, in granules (R139). -/
def State.largest (s : State) (g : Nat) : Nat :=
  let len := if s.gmode g = 1 then s.post g else s.eveReq g + s.post g
  s.rounded (granulesOf (if s.gannex g then 16 else 0)
    (payloadWords (s.glayout g) (s.gnch g) len (s.recPerWord g)))

/-- A largest record fits in the free space less the reserve. -/
def State.fits (s : State) (g : Nat) : Bool := s.largest g + 3 ≤ s.freeFor g

/-- A record may be written to a partition now: the record area has room for it, for all but an intercalary record less the
reserve of 3 granules, and no release before this one is overwritten (R33, R135). The model holds back an intercalary record
that finds no room: log entry 94. -/
def State.roomIn (s : State) (p : Nat) (r : Rec) : Bool :=
  decide (s.rounded r.granules + (if r.kind = 1 then 0 else 3) ≤ s.freeOf p)

/-- The stacks take writes: record space is usable, and every controller that has not failed runs, so that every unit of a row
can be written (R199, R217). -/
def State.writable (s : State) : Bool := s.usableMem && s.memUp

/-- The slot row of a granule (R196, R197). -/
def State.rowOf (s : State) (a : Nat) : Nat := if s.plain then a / 4 else a / 3

/-- A pseudo-channel that a controller retrains holds a row that a record of a partition would be written to (R195, R210). -/
def State.pcHolds (s : State) (p : Nat) (r : Rec) : Bool :=
  let a := s.rowOf (s.nextStart p)
  let n := s.rowOf (s.rounded r.granules) + 1
  (List.range 4).any (fun k => match (s.stack k).pcBusy with
    | none => false
    | some pc => (List.range (min 32 n)).any (fun i => (a + i) % 32 == pc))

/-- A record of a group can commit now: every unit of its rows can be written (R137, R199, R210). -/
def State.mayCommit (s : State) (g : Nat) (r : Rec) : Bool :=
  s.writable && s.roomIn (s.gpart g) r && !s.pcHolds (s.gpart g) r

/-! ### Writing and commit -/

/-- One granule's words written at a granule index: its row counts as written since the scrub pass began (R211). -/
def State.writeGranule (s : State) (a : Nat) (ws : List Native) : State :=
  { s with mem.space := tsetAll s.mem.space 0 (8 * a) ws, scrubbed := tset s.scrubbed 0 (s.rowOf a) 1 }

/-- Words written granule by granule from an address of a partition, wrapping in its usable span; in Guarded mode the
granules up to the next stripe boundary are written as 0 (R135, R198). -/
def State.writeGranules (s : State) (p : Nat) : Nat → Nat → List Native → State
  | 0, _, _ => s
  | n + 1, a, ws =>
    (s.writeGranule a ((ws.take 8) ++ List.replicate (8 - (ws.take 8).length) 0)).writeGranules p n
      (s.wrapIn p (a + 1)) (ws.drop 8)

/-- The floor of a partition kept above its counter (R322). -/
def floorFor (floor seq : Nat) : Nat := if floor - 2 ^ 19 < seq then floor + 2 ^ 20 else floor

/-- A message of a group: held while fewer than AQG_IRQ_GAP core cycles have passed since its last one (R163). -/
def State.groupMsg (s : State) (g : Nat) : State :=
  let x := s.grp g
  let gap := s.actf (Reg.aqgIrqGap g) 15 0
  match x.lastMsg with
  | some t => if s.cyc < t + gap then s.setGrp g { x with irqHeld := true }
    else (s.signal (8 + g)).setGrp g { x with lastMsg := some s.cyc, irqHeld := false }
  | none => (s.signal (8 + g)).setGrp g { x with lastMsg := some s.cyc, irqHeld := false }

/-- An event bit of AQG_STATUS set, with its message when enabled. -/
def State.groupEvent (s : State) (g evt en : Nat) : State :=
  let s := s.setBit (Reg.aqgStatus g) evt true
  if s.actf (Reg.aqgCtl g) en en = 1 then s.groupMsg g else s

/-- The commit of a record of group `g` in partition `p`: granules written, sequence taken, pointers advanced, counters and
events (R136, R137). The journal names the group's whole range, whatever channel a histogram counts (R321, R429). -/
def State.commitIn (s : State) (g p : Nat) (r : Rec) : State :=
  let P := s.part p
  let a := s.nextStart p
  let n := r.granules
  let s1 := s.writeGranules p (s.rounded n) a (r.words g P.seq)
  let s2 := s1.setPart p
    { P with seq := P.seq + 1, commitAddr := s.wrapIn p (a + n), tailAddr := if P.recs.isEmpty then a else P.tailAddr,
             recs := P.recs ++ [⟨P.seq, a, n, g, r.firstCh, r.nch, false, r.payload.length, s.glayout g⟩], lastAg := g,
             lastFirst := if r.kind = 3 then s.gfirst g else r.firstCh, lastNch := if r.kind = 3 then s.gnch g else r.nch, floor := floorFor P.floor (P.seq + 1) }
  let s3 := if r.kind = 1 then s2.count (Reg.aqgGaps g) 2 36 1 else s2.count (Reg.aqgRecords g) 2 36 1
  let s4 := if r.kind != 1 && r.flags % 2 == 1 then s3.inc (Reg.aqgShort g) else s3
  let s5 := s4.groupEvent g 17 8
  if r.kind = 1 then s5.groupEvent g 19 10 else s5

/-- The port that a record's header, annex and trailer granules and an intercalary record pass: that of the group's first bank
(log entry 102). -/
def State.headPort (s : State) (g : Nat) : Nat := s.gfirst g / 16

/-- The granules of an intercalary record take their tokens, and are not refused (R201; log entry 102). -/
def State.chargeGap (s : State) (g : Nat) (r : Rec) : State :=
  if r.kind = 1 then s.setTok (s.headPort g) (s.tok (s.headPort g) - 256 * r.granules) else s

/-- The commit of a record into the group's own partition. -/
def State.commit (s : State) (g : Nat) (r : Rec) : State := (s.chargeGap g r).commitIn g (s.gpart g) r

/-- A record handed on: it commits at once when nothing of the group waits before it and it can be written, and waits its
turn otherwise (R33, R137). The counts it carried restart (R148), but for the log of a sum, which the sum's annex carries
(R187). -/
def State.emitGap (s : State) (g : Nat) (r : Rec) : State :=
  let x := s.grp g
  let s := s.setGrp g { x with early := 0, dead := 0, logged := [] }
  if x.queue.isEmpty ∧ s.mayCommit g r then s.commit g r
  else s.setGrp g { (s.grp g) with queue := x.queue ++ [r] }

/-- The intercalary record of a cause over [lo, hi) written. DEAD_TIME of a Stream group counts from the end of its span,
once a segment has been written since the arm (R147). -/
def State.writeGap (s : State) (g cause lo hi tag : Nat) : State :=
  let s := s.emitGap g (s.gapRec g cause lo hi tag)
  let x := s.grp g
  s.setGrp g { x with prevEnd := if s.gmode g = 1 ∧ x.prevEnd.isSome then some hi else x.prevEnd, covered := max x.covered hi }

/-- The intercalary records at the head of a group's queue commit as soon as nothing stands before them and they can be
written. -/
def State.drain (s : State) (g : Nat) : Nat → State
  | 0 => s
  | n + 1 =>
    let x := s.grp g
    match x.queue with
    | [] => s
    | r :: rest =>
      if r.kind = 1 ∧ s.mayCommit g r then ((s.setGrp g { x with queue := rest }).commit g r).drain g n else s

/-- The captured records of a group commit while they can. -/
def State.commitReady (s : State) (g : Nat) : Nat → State
  | 0 => s
  | n + 1 =>
    let x := s.grp g
    match x.queue with
    | [] => s
    | r :: rest => if s.mayCommit g r then ((s.setGrp g { x with queue := rest }).commit g r).commitReady g n else s

/-! ### Releases (R138, R33) -/

/-- A range joined into a list of disjoint rising ranges. -/
def joinRange (lo hi : Nat) : List (Nat × Nat) → List (Nat × Nat)
  | [] => [(lo, hi)]
  | (a, b) :: r =>
    if hi + 1 < a then (lo, hi) :: (a, b) :: r
    else if b + 1 < lo then (a, b) :: joinRange lo hi r
    else joinRange (min lo a) (max hi b) r

/-- The lowest sequence not yet released, and the ranges above it. -/
def advanceReleased (rel : Nat) (rs : List (Nat × Nat)) : Nat × List (Nat × Nat) :=
  match rs with
  | [] => (rel, [])
  | (a, b) :: r => if a ≤ rel then (max rel (b + 1), r) else (rel, (a, b) :: r)

/-- A granule lies in `n` granules from address `a` of a partition's circular record area. -/
def State.within (s : State) (p a n g : Nat) : Bool :=
  let u := s.area p
  decide (u.1 ≤ g ∧ g < u.2 ∧ (g + (u.2 - u.1) - a) % (u.2 - u.1) < n)

/-- A granule is held by a record, its fill granules counted. -/
def State.inRec (s : State) (p : Nat) (r : DirEntry) (g : Nat) : Bool := s.within p r.addr (s.rounded r.granules) g

/-- The lowest sequence of a partition that a running descriptor still reads (R230). -/
def State.readFrom (s : State) (p : Nat) : Option Nat :=
  s.eng.foldl (fun m e => match e.2.job with
    | some j => if j.phase = .run ∧ j.part = p ∧ j.lo < j.hi then
        (match m with | some k => some (min k j.lo) | none => some j.lo) else m
    | none => m) none

/-- The directory and the tail of a partition after a release or the end of a read: records below the lowest unreleased
sequence leave it, except those a descriptor reads (R138, R230). -/
def State.prune (s : State) (p : Nat) : State :=
  let P := s.part p
  let low := match s.readFrom p with | some k => min k P.released | none => P.released
  let recs := P.recs.filter (fun r => low ≤ r.seq)
  let s1 := s.setPart p { P with recs := recs }
  s1.setPart p { (s1.part p) with tailAddr := match recs with | r :: _ => r.addr | [] => s1.nextStart p }

/-- The lost-granule list without the granules that a test names. -/
def State.forgetLost (s : State) (gone : Nat → Bool) : State := { s with lost := s.lost.filter (fun a => !gone a) }

/-- A record that is not released was marked for want of room in the lost-granule list. -/
def State.overflowHeld (s : State) : Bool :=
  (List.range 32).any (fun q => (s.part q).recs.any (fun r => r.overflow &&
    decide ((s.part q).released ≤ r.seq) && !((s.part q).ranges.any (fun x => x.1 ≤ r.seq && r.seq ≤ x.2))))

/-- A release of sequences `lo` to `hi` of partition `p`; none when it would need a 65th range (R321). -/
def State.release (s : State) (p lo hi : Nat) : Option State :=
  let P := s.part p
  let lo' := max lo P.released
  let rs := if lo' ≤ hi then joinRange lo' hi P.ranges else P.ranges
  let adv := advanceReleased P.released rs
  if 64 < adv.2.length then none
  else
    let s1 := ((s.setPart p { P with released := adv.1, ranges := adv.2 }).prune p).forgetLost (fun a =>
      P.recs.any (fun r => decide (lo ≤ r.seq ∧ r.seq ≤ hi) && s.inRec p r a))
    some (if s1.overflowHeld then s1 else s1.setBit Reg.memMode 12 false)

end Sys2Proof.Machine
end

