-- ==== Sys2Proof/Machine/Emission.lean ====
section
/-! DEFINITION. What an Accumulate group does with its records: placement, sums, emission, and the persistence histogram
(R180 to R191). -/

namespace Sys2Proof.Machine

/-! ### Placement (R183, R190) -/

/-- L of a group's active lengths. -/
def State.glen (s : State) (g : Nat) : Nat := s.eveReq g + s.post g

/-- The histogram is enabled; BIN and TB (R190). -/
def State.histOn (s : State) (g : Nat) : Bool := s.gmode g != 1 && s.actf (Reg.aqgHistCtl g) 0 0 == 1
def State.histBin (s : State) (g : Nat) : Nat := max 1 (s.actf (Reg.aqgHistBin g) 15 0)
def State.histTB (s : State) (g : Nat) : Nat := ceilDiv (s.glen g) (s.histBin g)

/-- SHIFT of a histogram: 0 to 17 as written; how a value above 17 acts the spec does not say, and it is free (log entry 96). -/
def State.histShift (s : State) (g : Nat) : Nat :=
  let v := s.actf (Reg.aqgHistCtl g) 12 8
  if v ≤ 17 then v else (Config.histShift v).toNat

/-- Tally blocks held by every group, and free. -/
def State.tallyFree (s : State) : Nat := 2048 - ((List.range 32).map (fun g => (s.grp g).acc.blocks)).sum

/-- Tally blocks of the sums and of the histogram. -/
def State.sumBlocks (s : State) (g : Nat) : Nat := blocksFor (s.gnch g * s.glen g) 0
def State.histBlocks (s : State) (g : Nat) : Nat := blocksFor 0 (if s.histOn g then s.histTB g else 0)

/-- Granules the DRAM sum area needs (R183). -/
def State.sumGranules (s : State) (g : Nat) : Nat :=
  ceilDiv (s.gnch g * s.glen g) 8 + ceilDiv (s.gnch g * ceilDiv (s.glen g) (perWord (s.gset g).2.1)) 8

/-- Where the sums go at arm: 0 nowhere, 1 Tally, 2 DRAM. -/
def State.placeFor (s : State) (g : Nat) : Nat :=
  let w := s.actf (Reg.aqgAccCtl g) 9 8
  let tally := s.sumBlocks g + s.histBlocks g ≤ s.tallyFree
  let dram := s.sumGranules g ≤ s.preGranules (s.gpart g) ∧ s.histBlocks g ≤ s.tallyFree
  if w ≠ 2 ∧ tally then 1 else if w ≠ 1 ∧ dram then 2 else 0

/-- The arm checks of R181: 0x6 ACCUM. -/
def State.accumBad (s : State) (g : Nat) : Bool :=
  let fs := (s.gset g).2.2.1
  (s.gmode g == 2 && (!accOk (accN (s.act (Reg.aqgAccN g))) fs || s.placeFor g == 0))
    || (s.histOn g && (decide (4096 < s.histTB g) || decide (s.tallyFree < s.histBlocks g)))

/-! ### Summing -/

def addInts : List Int → List Int → List Int
  | a :: r, b :: t => (a + b) :: addInts r t
  | [], t => t
  | r, [] => r

def addSums : List (List Int) → List (List Int) → List (List Int)
  | a :: r, b :: t => addInts a b :: addSums r t
  | [], t => t
  | r, [] => r

/-- A DEAD_TIME added to a sum's (R187): all ones adds nothing. -/
def addDead (old : Option Nat) (d : Nat) : Option Nat :=
  if d = 2 ^ 72 - 1 then old else some (old.getD 0 + d)

/-- A summed record enters the sums. The tag of a sum is that of its first record (R39). -/
def Acc.add (a : Acc) (c : Cur) (flags ovr : Nat) (ovrCh : List Nat) (vals : List (List Int)) : Acc :=
  { a with
    sums := addSums a.sums vals
    first := if a.count = 0 then c.trig else a.first
    tag := if a.count = 0 then c.tag else a.tag
    count := a.count + 1
    flags := a.flags ||| flags
    deadTime := addDead a.deadTime c.deadTime
    ovr := a.ovr + ovr
    ovrCh := ovrCh.foldl addNew a.ovrCh }

/-! ### Emission (R185 to R188) -/

/-- The averaged value of a sum over `n` records (R186). -/
def average (raw : Bool) (n : Nat) (x : Int) : Int := roundEven (if raw then 64 * x else x) n

/-- An emitted record of the current sum: KIND 2 with the sums, or KIND 4 with the averages (R187). -/
def State.sumRec (s : State) (g kind : Nat) (withAnnex : Bool) : Rec :=
  let x := s.grp g
  let a := x.acc
  let st := s.gset g
  let annex := if withAnnex && s.gannex g then a.log else []
  let dt := a.deadTime.getD (2 ^ 72 - 1)
  let raw := st.1 == 0
  { kind := kind
    flags := (a.flags &&& 0x14E) + (if annex.isEmpty then 0 else 32)
    trig := a.first
    w5 := s.eveReq g
    w6 := s.eveReq g
    w7 := s.post g
    pack := if kind = 2 then 2 else 1
    filt := st.2.2.1
    dmode := st.1
    nch := s.gnch g
    firstCh := s.gfirst g
    decim := st.2.2.2
    w10 := dt % 2 ^ 36
    w11 := dt / 2 ^ 36 % 2 ^ 36
    early := x.early
    dead := x.dead
    accum := a.count
    tag := a.tag
    gen := s.gen g
    season := s.season g
    annex := annex
    payload := if kind = 2 then payloadOf (s.glayout g) 1 36 a.sums
      else payloadOf (s.glayout g) 2 18 (a.sums.map (fun r => r.map (average raw a.count)))
    ovr := a.ovr
    ovrCh := a.ovrCh.length
    first := a.first }

/-- A waiting record fits in the record area less the reserve. -/
def State.emitFits (s : State) (g : Nat) (r : Rec) : Bool := s.rounded r.granules + 3 ≤ s.freeFor g

/-- The waiting records of an emission fit one after another. -/
def State.emitAllFit (s : State) (g : Nat) : Bool :=
  (((s.grp g).acc.emitWait.map (fun r => s.rounded r.granules)).sum + 3 ≤ s.freeFor g : Bool)

/-- The granules of a group's first waiting record are asked of the accumulation port, once: they pass one after another as the
port holds tokens (R188, R202, R203). -/
def State.askEmit (s : State) (g : Nat) (r : Rec) : State :=
  let x := s.grp g
  if x.acc.emitPaid ∨ !s.mayPass accPort then s
  else (s.pass accPort r.granules).setGrp g { x with acc := { x.acc with emitPaid := true } }

/-- The records of an emission are written while they fit, the port has passed their granules and record space takes writes
(R188). -/
def State.tryEmit (s : State) (g : Nat) : Nat → State
  | 0 => s
  | n + 1 =>
    match (s.grp g).acc.emitWait with
    | [] => s
    | r :: rest =>
      if s.emitFits g r && s.writable then
        let s1 := s.askEmit g r
        let x := s1.grp g
        if x.acc.emitPaid ∧ 0 ≤ s1.tok accPort then
          let s2 := s1.setGrp g { x with acc := { x.acc with emitWait := rest, emitPaid := false } }
          (if x.queue.isEmpty then s2.commit g r else s2.setGrp g { (s2.grp g) with queue := x.queue ++ [r] }).tryEmit g n
        else s1
      else s

/-- The sum of a group starts anew (R185, R189). -/
def Acc.fresh (a : Acc) : Acc :=
  { a with sums := [], count := 0, first := 0, flags := 0, deadTime := none, ovr := 0, ovrCh := [], flush := false, log := [] }

/-- The current sum emitted as OUT directs; the sum reaches a boundary (R185). -/
def State.emitSum (s : State) (g : Nat) : State :=
  let x := s.grp g
  if x.acc.count = 0 then s.setGrp g { x with acc := { x.acc with flush := false } }
  else
    let out := s.actf (Reg.aqgAccCtl g) 5 4
    let rs := (if out = 2 then [] else [s.sumRec g 2 true]) ++ (if out = 2 ∨ out = 3 then [s.sumRec g 4 (out == 2)] else [])
    let rs' := rs.take 1 ++ (rs.drop 1).map (fun r => { r with early := 0, dead := 0 })
    let s1 := s.setGrp g { x with
      early := 0, dead := 0,
      acc := { x.acc.fresh with emitWait := x.acc.emitWait ++ rs' } }
    (s1.count (Reg.aqgAccSums g) 2 36 1).tryEmit g 4

/-! ### Histograms (R190, R191) -/

/-- The amplitude bin of a value on the processed scale. -/
def ampBin (base : Int) (shift : Nat) (v : Int) : Nat := (clampI 0 255 ((v - base).fdiv (2 ^ shift))).toNat

/-- The values that a recorded value counts: a PEAK pair counts both, raw values count on the processed scale. -/
def histVals (dm : Nat) (v : Int) : List Int :=
  if dm = 2 then [signed 18 (unsigned 36 v % 2 ^ 18), signed 18 (unsigned 36 v / 2 ^ 18)]
  else if dm = 0 then [64 * v] else [v]

/-- One count added to a grid. -/
def gridAdd (t : Tbl Nat) (k : Nat) : Tbl Nat := tset t 0 k (satAdd (2 ^ 36 - 1) (tget t 0 k) 1)

/-- The channels the histogram counts, by position in the group. -/
def State.histPos (s : State) (g : Nat) : List Nat :=
  let src := s.actf (Reg.aqgHistCtl g) 23 16
  (List.range (s.gnch g)).filter (fun i => src == 0xFF || (s.gchans g).getD i 256 == src)

/-- The samples of a record counted in the group's grid. -/
def State.histCount (s : State) (g : Nat) (c : Cur) (vals : List (List Int)) : State :=
  if s.histOn g then
    let x := s.grp g
    let bin := s.histBin g
    let base := signed 18 (s.actf (Reg.aqgHistBase g) 17 0)
    let sh := s.histShift g
    let dm := (s.gset g).1
    let grid := (s.histPos g).foldl (fun t i =>
      let vs := vals.getD i []
      ((List.range vs.length).zip vs).foldl (fun t kv =>
        (histVals dm kv.2).foldl (fun t v => gridAdd t (kv.1 / bin * 256 + ampBin base sh v)) t) t) x.acc.grid
    s.setGrp g { x with acc := { x.acc with
      grid := grid, gridCount := x.acc.gridCount + 1,
      gridFirst := if x.acc.gridCount = 0 then c.trig else x.acc.gridFirst
      gridTag := if x.acc.gridCount = 0 then c.tag else x.acc.gridTag } }
  else s

/-- The outputs of a record in progress that had arrived when it was abandoned: its Eve, and its post samples so far (R190). -/
def State.arrived (s : State) (g : Nat) (c : Cur) : Nat :=
  c.eveAct + min c.post ((s.ep - s.cdelay (s.gfirst g) + s.delta g - c.s0) / s.delta g)

/-- The samples of an abandoned record that had arrived stay counted (R190). The model is given no samples of such a record:
each counts in its own time bin and in an amplitude bin that is free (log entry 97). -/
def State.histLost (s : State) (g : Nat) (c : Cur) : State :=
  if s.histOn g then
    let f := s.fresh
    let x := f.2.grp g
    let bin := s.histBin g
    let per := if (s.gset g).1 = 2 then 2 else 1
    let n := s.arrived g c
    let m := (s.histPos g).length * per
    let grid := (List.range (n * m)).foldl (fun t k =>
      gridAdd t (k / m / bin * 256 + (Config.freeByte (f.1 + k * 2 ^ 64)).toNat)) x.acc.grid
    f.2.setGrp g { x with acc := { x.acc with grid := grid } }
  else s

/-- The grid after an emission: DECAY 0 clears, 1 keeps, 2 halves. -/
def decayed (d : Nat) (t : Tbl Nat) : Tbl Nat :=
  if d = 0 then [] else if d = 1 then t
  else (t.map (fun kv => (kv.1, kv.2 / 2))).filter (fun kv => kv.2 != 0)

/-- The histogram record (R191). The spec names no EVE_ACT for it: free, but for an Accumulate group, whose records all
hold EVE_REQ. -/
def State.histRec (s : State) (g eveAct : Nat) : Rec :=
  let x := s.grp g
  let st := s.gset g
  let src := s.actf (Reg.aqgHistCtl g) 23 16
  { kind := 3
    flags := s.startFlags g
    trig := x.acc.gridFirst
    w5 := s.eveReq g
    w6 := eveAct
    w7 := s.post g
    pack := 2
    filt := st.2.2.1
    dmode := st.1
    nch := if src = 0xFF then s.gnch g else 1
    firstCh := if src = 0xFF then s.gfirst g else src
    decim := st.2.2.2
    w10 := s.histBin g
    w11 := s.actf (Reg.aqgHistCtl g) 12 8 * 2 ^ 18 + s.actf (Reg.aqgHistBase g) 17 0
    early := x.early
    dead := x.dead
    accum := x.acc.gridCount
    tag := if x.acc.gridCount = 0 then s.tag else x.acc.gridTag
    gen := s.gen g
    season := s.season g
    annex := []
    payload := (tgetAll x.acc.grid 0 0 (256 * s.histTB g)).map w36
    ovr := 0
    ovrCh := 0
    first := x.acc.gridFirst }

/-- A histogram emitted: the grid copied, decayed, and the record handed to the accumulation port. -/
def State.emitHist (s : State) (g : Nat) : State :=
  if s.histOn g then
    let f := s.fresh
    let r := f.2.histRec g (if s.gmode g = 2 then s.eveReq g else (Config.freeNative f.1).toNat)
    let x := f.2.grp g
    let s1 := f.2.setGrp g { x with
      early := 0, dead := 0, logged := []
      acc := { x.acc with grid := decayed (s.actf (Reg.aqgHistCtl g) 5 4) x.acc.grid, gridCount := 0, gridFirst := 0,
                          emitWait := x.acc.emitWait ++ [r] } }
    (s1.count (Reg.aqgHistEmits g) 2 36 1).tryEmit g 4
  else s

/-- The histogram after a record: emitted when HIST_EVERY records have been counted since the last emission. -/
def State.histEvery (s : State) (g : Nat) : State :=
  let n := s.actf (Reg.aqgHistEvery g) 23 0
  if n ≠ 0 ∧ n ≤ (s.grp g).acc.gridCount then s.emitHist g else s

end Sys2Proof.Machine
end

