-- ==== Sys2Proof/Machine/Gaps.lean ====
section
/-! DEFINITION. Gaps of acquisition groups: abandoned records, discarded sums, the causes of gaps and pauses, what a reset
or a halt leaves to be accounted for, and the way to IDLE (R22, R134, R148 to R150, R189, R325). -/

namespace Sys2Proof.Machine

/-! ### What is missing -/

/-- The first instant that a group's next record would have held: of the record in progress, of the next Stream
segment, or now. -/
def State.missingFrom (s : State) (g : Nat) : Nat :=
  let x := s.grp g
  match x.cur with
  | some c => if s.gmode g = 1 then c.s0 else c.s0 - c.eveAct * s.delta g
  | none => if s.gmode g = 1 then x.covered else s.ep

/-- The tag of the Almanac in force where a gap that begins now begins: that of the record it abandons, or the present one
(R39, R56). -/
def State.missingTag (s : State) (g : Nat) : Nat :=
  match (s.grp g).cur with
  | some c => c.tag
  | none => s.tag

/-! ### Abandoned records and discarded sums -/

/-- The record in progress is abandoned: it is never committed and takes no sequence (R134), the counts it would have
carried go to the group's next record (R148), and its flows to the capture ports end. -/
def State.abandon (s : State) (g : Nat) : State :=
  match (s.grp g).cur with
  | none => s
  | some c =>
    let s1 := (s.settlePorts g).histLost g c
    let x := s1.grp g
    (s1.setGrp g { x with cur := none, early := satAdd (2 ^ 18 - 1) x.early c.early,
                          dead := satAdd (2 ^ 18 - 1) x.dead c.dead }).inc (Reg.aqgAbandoned g)

/-- A sum with records in it is discarded with its DISCARD record, code 20 (R189). -/
def State.discardSum (s : State) (g : Nat) : State :=
  let x := s.grp g
  if x.acc.count = 0 then s
  else
    let s1 := (s.count (Reg.aqgAccDiscarded g) 2 36 x.acc.count).writeGap g 20 x.acc.first s.ep x.acc.tag
    s1.setGrp g { (s1.grp g) with acc := (s1.grp g).acc.fresh }

/-- What the abandonment of a record does to the group's sum: a Tally-held sum is discarded, and a FLUSH that waited for the
record is served (R185, R189). -/
def State.afterAbandon (s : State) (g : Nat) : State :=
  let s1 := if (s.grp g).acc.place = 1 then s.discardSum g else s
  if (s1.grp g).acc.flush && (s1.grp g).acc.staged.isNone then s1.emitSum g else s1

/-! ### Causes (R149, R150) -/

/-- A cause of a gap begins: the record in progress is abandoned, and the interval belongs to the cause that began
first (R150). A BANDWIDTH gap runs from the first sample instant of its record (R149), any other from there or from the end of
what is already accounted for. A hold of BANDWIDTH, PARTITION_FULL or SRAM does not make the group PAUSED. -/
def State.beginCause (s : State) (g cause : Nat) : State :=
  if !s.gArmed g || (s.grp g).pauses.any (fun p => p.cause == cause) then s
  else
    let rec_ := (s.grp g).cur.isSome
    let since := s.missingFrom g
    let tag := s.missingTag g
    let s1 := (s.settlePorts g).abandon g
    let s2 := if rec_ then s1.afterAbandon g else s1
    let x := s2.grp g
    s2.setGrp g { x with
      pauses := x.pauses ++ [⟨cause, s.ep⟩]
      gapFrom := if x.pauses.isEmpty then (if cause = 1 ∧ rec_ = true then since else max since x.covered) else x.gapFrom
      gapTag := if x.pauses.isEmpty then tag else x.gapTag
      st := if cause = 1 ∨ cause = 2 ∨ cause = 23 then x.st else .paused }

/-- The instant at which the channels of a group have settled: now where none settles (R72). -/
def State.settledAt (s : State) (g : Nat) : Nat :=
  s.ep + ((s.gchans g).foldl (fun m c => max m ((s.bankAt (c / 16)).settleEnd.getD (c % 16) 0)) s.now - s.now)

/-- A Triggered or Accumulate group has still to end a re-arm: 40 core cycles have not passed since its record ended, or its
record's own gap waits for that end (R145, R149). -/
def State.rearming (s : State) (g : Nat) : Bool :=
  let x := s.grp g
  s.gmode g != 1 && (x.pauses.any (fun p => p.cause == 1 || p.cause == 23)
    || (x.rearmAt != 0 && decide (s.now < x.rearmAt + 40 * cycle)))

/-- The state a group takes up again when nothing pauses it: V restarts at the end of a pause, and of settling (R72, R142,
R150). -/
def State.resume (s : State) (g : Nat) : State :=
  let x := s.grp g
  if x.st = .paused ∧ x.pauseCause = 0 then
    let s := s.settlePorts g
    s.setGrp g { x with st := if s.gmode g = 1 then .streaming else if s.rearming g then .rearm else .filling
                        fillFrom := s.settledAt g, able := s.ep }
  else s

/-- A cause ends at instant `hi`: when the interval is its own, its record is written and the next cause's record
begins there; otherwise the interval lay inside an earlier cause's (R150). A group that its full episode kept from recording is
able again from here (R147). -/
def State.endCauseAt (s : State) (g cause hi : Nat) : State :=
  let x := s.grp g
  match x.pauses with
  | [] => s
  | p :: rest =>
    if p.cause = cause then
      let s1 := s.writeGap g cause x.gapFrom hi x.gapTag
      (s1.setGrp g { (s1.grp g) with pauses := rest, gapFrom := hi, gapTag := s.tag, able := s.ep }).resume g
    else (s.setGrp g { x with pauses := x.pauses.filter (fun q => q.cause != cause), able := s.ep }).resume g

def State.endCause (s : State) (g cause : Nat) : State := s.endCauseAt g cause s.ep

/-- The first instant at which the group's channels deliver again, for a cause whose record reaches to it (R335). -/
def State.resumeAt (s : State) (g : Nat) : Nat := max s.ep (s.eveFrom g)

/-! ### What is not yet in a committed record (R325) -/

/-- The records of a group that have been taken and have not committed: first instant, tag and counts of each. -/
def State.uncommitted (s : State) (g : Nat) : List (Nat × Nat × Nat × Nat) :=
  let x := s.grp g
  let a := x.acc
  (x.queue ++ a.emitWait).map (fun r => (r.first, r.tag, r.early, r.dead))
    ++ (if a.count = 0 then [] else [(a.first, a.tag, 0, 0)])
    ++ (match a.staged with | some y => [(y.cur.s0 - y.cur.eveAct * s.delta g, y.cur.tag, y.cur.early, y.cur.dead)] | none => [])
    ++ (match x.cur with | some c => [(s.missingFrom g, c.tag, c.early, c.dead)] | none => [])

/-- The earliest instant of a group not held in a committed record, with the tag in force there: of its uncommitted records, of
the gap in progress, or of what comes next (R325). -/
def State.uncommittedFrom (s : State) (g : Nat) : Nat × Nat :=
  let x := s.grp g
  (s.uncommitted g).foldl (fun m y => if y.1 < m.1 then (y.1, y.2.1) else m)
    (if x.pauses.isEmpty then (s.missingFrom g, s.missingTag g) else (x.gapFrom, x.gapTag))

/-- The gap state of every armed group, as it is stored in the always-on domain (R325, step 2), with the counts that
its uncommitted records would have carried. -/
def State.gapStates (s : State) : List GapState :=
  (s.enabledGroups.filter s.gArmed).map (fun g =>
    let x := s.grp g
    let u := s.uncommitted g
    let from_ := s.uncommittedFrom g
    ⟨g, s.gpart g, s.gfirst g, s.gnch g, s.delta g, from_.1, s.ep,
      satAdd (2 ^ 18 - 1) ((u.map (fun y => y.2.2.1)).sum) x.early,
      satAdd (2 ^ 18 - 1) ((u.map (fun y => y.2.2.2)).sum) x.dead, from_.2⟩)

/-! ### The way to IDLE (R134, R148, R347) -/

/-- A group goes to IDLE: every gap in progress is closed by its first cause's record, then counts not 0 are carried
by a DISARM record with GAP_LENGTH 0. That an ABORT without a record in progress carries its counts so is the model's choice:
log entry 98. -/
def State.goIdle (s : State) (g : Nat) : State :=
  let s := s.settlePorts g
  let x := s.grp g
  let s1 := match x.pauses with
    | [] => s
    | p :: _ => s.writeGap g p.cause x.gapFrom s.ep x.gapTag
  let y := s1.grp g
  let s2 := if y.early ≠ 0 ∨ y.dead ≠ 0 then s1.writeGap g 18 s.ep s.ep s.tag else s1
  s2.setGrp g { (s2.grp g) with
    st := .idle, pauses := [], cur := none, disarming := false,
    acc := { (s2.grp g).acc.fresh with place := 0, blocks := 0, staged := none, folding := false, grid := [], gridCount := 0 } }

/-- Something done to each enabled group that covers a bank. -/
def State.eachGroup (s : State) (gs : List Nat) (f : State → Nat → State) : State := s.forAll gs f

end Sys2Proof.Machine
end

