-- ==== Sys2Proof/Machine/Faults.lean ====
section
/-! DEFINITION. The fault collector: an event of a source, its severity, the grace timer, escalation and its actions,
Safe Hold, and the exit to Feast that a severe source demands (R341 to R350, R311). -/

namespace Sys2Proof.Machine

/-! ### The power state and its events (PWR_STATUS, PWR_IRQ) -/

/-- An event of PWR_IRQ: 0 STATE, 1 PF, 2 THROTTLE. An enabled one signals vector 7. -/
def State.pwrEvent (s : State) (k : Nat) : State :=
  let s1 := s.setBit Reg.pwrIrq (16 + k) true
  if s1.bit Reg.pwrIrq k then s1.signal 7 else s1

/-- The power state changes. -/
def State.setPower (s : State) (st : Nat) : State :=
  if s.rd Reg.pwrStatus 1 0 = st then s
  else ((s.forAll (List.range 16) State.settleTok).wr Reg.pwrStatus 1 0 st).pwrEvent 0

/-! ### Demands for Feast (R311, R213) -/

/-- CANCELS of every running stack counted (R213). -/
def State.cancelEntry (s : State) : State :=
  s.forAll (List.range 4) (fun s k => if (s.stack k).failed then s else s.countFld (Reg.memSr k) 31 16 1)

/-- The steps of R73 begin for an enabled bank: all of them when `full`, or steps 3, 5 and 6 with the trims held. -/
def State.startBank (s : State) (b : Nat) (full : Bool) : State :=
  if s.bankMode b = 3 then s
  else
    let B := s.bankAt b
    (s.setBank b { B with startAt := some s.now, retryAt := none, full := full || B.full }).setBit
      (Reg.bnkConvStatus b) 1 true

/-- A demand for Feast: it starts an exit, or reverses an entry in progress, and breaks the idleness (R311). An
exit from Fast restarts the converters (R74). -/
def State.demandExit (s : State) : State :=
  let s := { s with idleSince := s.now }
  match s.move with
  | .entering t _ => let s1 := if 2 ≤ t then s.cancelEntry else s
                     { s1 with move := .steady }
  | .exiting _ => s
  | .steady =>
    if s.power = 0 then s
    else
      let s1 := { s with move := .exiting s.now }
      if s.power = 2 then s1.forAll (List.range 16) (fun s b => s.startBank b false) else s1

/-! ### Severity and escalation -/

/-- N and W of a source in force, 0 acting as 1. -/
def State.srcN (s : State) (n : Nat) : Nat := max 1 (s.rd (Reg.fltSrcCfg n) 7 0)
def State.srcW (s : State) (n : Nat) : Nat := max 1 (s.rd (Reg.fltSrcCfg n) 31 16) * msec

/-- ACTION of a source: fixed for PLL_CORE, TEMP_CRIT and the rails (R342). -/
def State.srcAction (s : State) (n : Nat) : Nat :=
  if n = 11 ∨ n = 14 then 3
  else if n = 15 ∨ n = 16 then 0 else s.rd (Reg.fltSrcCfg n) 10 8

/-- The grace time: 1 ms to 10,000 ms (FLT_GRACE). -/
def State.grace (s : State) : Nat := min 10000 (max 1 (s.rd Reg.fltGrace 13 0)) * msec

/-- A 36-bit FLT word with bit `n` set. -/
def State.orFlt (s : State) (off m : Nat) : State := s.wrq off 2 (s.rdq off 2 ||| m)

/-- New records stop in the banks of an action: a group without a record in progress pauses now with cause 9, and one
with a record at its end (R347). -/
def State.stopGroups (s : State) : State :=
  s.forAll (s.enabledGroups.filter (fun g => s.gArmed g && s.gStopped g && (s.grp g).cur.isNone))
    (fun s g => s.beginCause g 9)

/-- Safe Hold at its instant H: the records that can commit have done so, the others are abandoned, every armed group is PAUSED with cause 9 and its
gap state is stored; no intercalary record is written (R348, step 1). -/
def State.safeHold (s : State) : State :=
  if s.bit Reg.fltAction 17 then s
  else
    let s := s.forAll (s.enabledGroups.filter s.gArmed) (fun s g => s.commitReady g (s.grp g).queue.length)
    let gaps := s.gapStates
    let s1 := s.setBit Reg.fltAction 17 true
    let s2 := s1.wr Reg.fltAction 15 0 0xFFFF
    let s3 := s2.forAll (s2.enabledGroups.filter s2.gArmed) (fun s g =>
      let since := s.missingFrom g
      let tag := s.missingTag g
      let s := (s.settlePorts g).abandon g
      let x := s.grp g
      s.setGrp g { x with st := .paused, queue := [], acc := { x.acc with emitWait := [] }, pauses := if x.pauses.any (fun p => p.cause == 9) then x.pauses
                                           else x.pauses ++ [⟨9, s.ep⟩],
                          gapFrom := if x.pauses.isEmpty then max since x.covered else x.gapFrom
                          gapTag := if x.pauses.isEmpty then tag else x.gapTag })
    ({ s3 with safeHoldAt := some s3.now, holdDone := false, gaps := gaps, move := .steady } : State).setPower 0

/-- The action of a source applied to the banks of its events (R346). Actions accumulate. During a power-fail
sequence action D waits for the stacks to reach self-refresh (R349). -/
def State.applyAction (s : State) (a banks : Nat) : State :=
  if a = 1 then (s.wr Reg.fltAction 15 0 (s.rd Reg.fltAction 15 0 ||| banks)).stopGroups
  else if a = 2 then ((s.wr Reg.fltAction 15 0 0xFFFF).setBit Reg.fltAction 16 true).stopGroups
  else if a = 3 then (if s.rd Reg.pwrStatus 6 4 = 1 ∨ s.rd Reg.pwrStatus 6 4 = 2 then { s with holdDue := true }
    else s.safeHold)
  else s

/-- A source escalates: its bit of FLT_ESCALATED, vector 0 and its action (R346). -/
def State.escalate (s : State) (n : Nat) : State :=
  let s1 := (s.orFlt Reg.fltEscalated (2 ^ n)).signal 0
  let s2 := { s1 with fltGrace := tdel s1.fltGrace n }
  s2.applyAction (if 4 ≤ n ∧ n ≤ 7 ∧ (s2.stack (n - 4)).frozen then 3 else s2.srcAction n) (tget s2.fltBanks 0 n)

/-- A source becomes severe: FLT_SEVERE, vector 0, its grace timer and a demand for Feast (R344). TEMP_CRIT and
PLL_CORE escalate at once (R345). -/
def State.severe (s : State) (n : Nat) : State :=
  let s1 := ((s.orFlt Reg.fltSevere (2 ^ n)).signal 0).demandExit
  let s2 := { s1 with fltGrace := tset s1.fltGrace 0 n (s1.now + s1.grace) }
  if n = 11 ∨ n = 14 then s2.escalate n else s2

/-- The event of a source counted in its window (R343), severe when the count reaches N. -/
def State.countEvent (s : State) (n banks : Nat) : State :=
  let s := s.countFld (Reg.fltSrcCount n) 31 8 1
  if s.fltSevere.testBit n then s
  else
    let c := if tget s.fltWin 0 n ≤ s.now then 0 else s.rd (Reg.fltSrcCount n) 7 0
    let s1 := if c = 0 then { s with fltWin := tset s.fltWin 0 n (s.now + s.srcW n),
                                     fltBanks := tset s.fltBanks 0 n banks }
      else { s with fltBanks := tset s.fltBanks 0 n (tget s.fltBanks 0 n ||| banks) }
    let s2 := s1.wr (Reg.fltSrcCount n) 7 0 (c + 1)
    if s2.srcN n ≤ c + 1 then s2.severe n else s2

/-- FLT_FIRST names source `n`. -/
def State.nameFirst (s : State) (n : Nat) : State := (s.put Reg.fltFirst (BitVec.ofNat 32 (64 + n))).wrEpoch Reg.fltFirstAt s.ep

/-- FLT_FIRST was loaded in the present core cycle, and source `n` is lower than the one it names (R341). -/
def State.firstLower (s : State) (n : Nat) : Bool :=
  s.bit Reg.fltFirst 6 && decide (n < s.rd Reg.fltFirst 5 0) && s.rdq Reg.fltFirstAt 3 / cycle == s.ep / cycle

/-- An event of source `n` that affects the banks of a mask (R341): the status bit, FLT_FIRST when the status was all
0 or of the events of this core cycle the lowest source, vector 0 when an unmasked bit becomes 1 (R350), and the count. -/
def State.fault (s : State) (n banks : Nat) : State :=
  let st := s.fltStatus
  let s1 := if st = 0 || s.firstLower n then s.nameFirst n else s
  let s2 := s1.orFlt Reg.fltStatus (2 ^ n)
  let s3 := if !st.testBit n && !s2.fltMask.testBit n then s2.signal 0 else s2
  s3.countEvent n banks

/-- All sixteen banks. -/
def allBanks : Nat := 0xFFFF

/-- STKn_DATA made severe at once by a freeze, with action D (R343). -/
def State.freezeSevere (s : State) (k : Nat) : State :=
  let n := 4 + k
  if s.fltSevere.testBit n then
    if (s.rdq Reg.fltAdopt 2).testBit n then s
    else { s with fltGrace := tset s.fltGrace 0 n (s.now + s.grace) }
  else s.severe n

end Sys2Proof.Machine
end

