-- ==== Sys2Proof/Machine/Filters.lean ====
section
/-! DEFINITION. From sub-converter codes to recorded values: the trims and the overrange rule (R61, R64, R68), the
filter engine's arithmetic (R167 to R172), and the commands of "Filtering and decimation" (R165, R166, R171, R175,
R177). -/

namespace Sys2Proof.Machine

/-! ### Conversion (R59, R61, R68, R69) -/

/-- The ideal code of a differential input of `vin` × 2^−24 V: VIN less VOFF over FSR / 4096, rounded to the nearest integer and
clamped (R59). VOFF is OFFSET × 2^−12 V, and FSR / 4096 is 2^(RANGE − 14) V. -/
def idealCode (range : Nat) (offset vin : Int) : Int :=
  let lsb : Int := 2 ^ (10 + range)
  let x := vin - offset * 4096
  let up := decide (lsb < 2 * (x % lsb)) || (decide (2 * (x % lsb) = lsb) && Config.codeTieUp)
  clampI (-2048) 2047 (x / lsb + if up then 1 else 0)

/-- The code of a sample of a live channel, by its active RANGE and OFFSET (R59, R66). -/
def State.code (s : State) (c : Nat) (vin : Int) : Int :=
  let w := s.act (Reg.bnkFe (c / 16) (c % 16))
  idealCode (fld w 1 0) (signed 12 (fld w 27 16)) vin

/-- The trim index of the sub-converter that takes a sample of live channel index `c` at instant `e` (R64, R67). -/
def trimIndex (mode c e : Nat) : Nat :=
  let q := e % 8192 / 64
  let m := if mode = 0 then 0 else if mode = 1 then q / 4 % 4 else q % 16
  8 * (c + m) + q / 16

/-- A code corrected by its offset and gain trims, rounded half to even (R68). -/
def corrected (offset gain code : Int) : Int := roundEven ((8 * code - offset) * (16384 + gain)) 131072

/-- The BNK_TRIM_A word that acts on a sample at instant `e`: new trims act from the first frame that begins after they are
written (R69). -/
def State.trimAt (s : State) (b k e : Nat) : Word :=
  if e < (s.bankAt b).trimFrom then (s.bankAt b).oldTrims.getD k 0 else s.get (Reg.bnkTrimA b k)

/-- The trims of a bank are about to be written: the present ones act to the end of this frame (R69). -/
def State.keepTrims (s : State) (b : Nat) : State :=
  s.setBank b { (s.bankAt b) with trimFrom := (s.ep / 8192 + 1) * 8192
                                  oldTrims := (List.range 128).map (fun k => s.get (Reg.bnkTrimA b k)) }

/-- The value of a sample of channel `c` at instant `e`, and whether it is overrange: an end code or a corrected value out of range
takes the nearer end of the range (R61, R68). -/
def State.sample (s : State) (c e : Nat) (vin : Int) : Int × Bool :=
  let b := c / 16
  let code := s.code c vin
  let a := s.trimAt b (trimIndex (s.bankMode b) (c % 16) e) e
  let v := corrected (signed 10 (fld a 25 16)) (signed 12 (fld a 11 0)) code
  let past := decide (code ≤ -2048 ∨ 2047 ≤ code ∨ v < -2048 ∨ 2047 < v)
  (if past then (if 0 ≤ v then 2047 else -2048) else v, past)

/-- The samples of a channel from instant `e` at spacing `d`. -/
def State.samples (s : State) (c d : Nat) : Nat → List Int → List (Int × Bool)
  | _, [] => []
  | e, x :: r => s.sample c e x :: s.samples c d (e + d) r

/-! ### The stages -/

/-- The half-band coefficients h[0] to h[15] (R168). -/
def halfbandHalf : List Int := [65536, 41444, 0, -12793, 0, 6436, 0, -3552, 0, 1940, 0, -983, 0, 433, 0, -157]

/-- The 31 coefficients h[-15] to h[15]. -/
def halfband : List Int := (halfbandHalf.drop 1).reverse ++ halfbandHalf

/-- The sum of products of two lists. -/
def dot : List Int → List Int → Int
  | x :: r, y :: t => x * y + dot r t
  | _, _ => 0

/-- Saturation to 18 bits, with whether it acted (R167). -/
def sat18 (x : Int) : Int × Nat := (clampI (-131072) 131071 x, b2n (decide (x < -131072 ∨ 131071 < x)))

/-- Every `m`th element counted back from the end of a list, oldest first, over windows of `w` elements. -/
def windows (w m : Nat) (xs : List Int) : List (List Int) :=
  let n := if xs.length < w then 0 else (xs.length - w) / m + 1
  let skip := xs.length - w - (n - 1) * m
  (List.range n).map (fun i => (xs.drop (skip + i * m)).take w)

/-- Values with the number of them that saturated. -/
def gather (ys : List (Int × Nat)) : List Int × Nat := (ys.map (fun y => y.1), (ys.map (fun y => y.2)).sum)

/-- A half-band stage over a run of samples (R168). -/
def hbStage (xs : List Int) : List Int × Nat :=
  gather ((windows 31 2 xs).map (fun w => sat18 (roundEven (dot halfband w) 131072)))

/-- `h` half-band stages in turn. -/
def hbStages : Nat → List Int → List Int × Nat
  | 0, xs => (xs, 0)
  | h + 1, xs => let a := hbStage xs
                 let b := hbStages h a.1
                 (b.1, a.2 + b.2)

/-- Running sums of `r` neighbours: one integrator and comb pair of the CIC. -/
def boxcar (r : Nat) (xs : List Int) : List Int := (windows r 1 xs).map (fun w => w.sum)

def boxcars (r : Nat) : Nat → List Int → List Int
  | 0, xs => xs
  | n + 1, xs => boxcars r n (boxcar r xs)

/-- G, the least with 2^G at least R^5, and K (R169). -/
def cicG (r : Nat) : Nat := if r ≤ 1 then 0 else Nat.log2 (r ^ 5 - 1) + 1
def cicK (r : Nat) : Nat := (roundHalfUp (2 ^ (cicG r + 17)) (r ^ 5)).toNat

/-- The CIC stage and its gain correction (R169). -/
def cicStage (r : Nat) (xs : List Int) : List Int × Nat :=
  let ys := boxcars r 5 xs
  let zs := (windows 1 r ys).map (fun w => w.headD 0)
  gather (zs.map (fun y => sat18 (roundEven (y * (cicK r : Int)) (2 ^ (cicG r + 17)))))

/-- All taps of a FIR set, c[0] first (R170). -/
def FirCfg.taps (f : FirCfg) : List Int :=
  if f.sym then (List.range f.ntaps).map (fun i => f.coefs.getD (min i (f.ntaps - 1 - i)) 0) else f.coefs.take f.ntaps

/-- The FIR stage: c[0] multiplies the newest sample (R170). -/
def firStage (f : FirCfg) (xs : List Int) : List Int × Nat :=
  gather ((windows f.ntaps 1 xs).map (fun w => sat18 (roundEven (dot f.taps w.reverse) (2 ^ f.shift))))

def listMin (xs : List Int) : Int := xs.foldl min (xs.headD 0)
def listMax (xs : List Int) : Int := xs.foldl max (xs.headD 0)

/-- The outputs of a setting over a run of clamped raw samples whose last is a decimation point, oldest first, with the
saturated values produced. A PEAK output is its minimum and its maximum as one 36-bit value (R165, R172). -/
def State.chain (s : State) (b fs m : Nat) (xs : List Int) : List Int × Nat :=
  if fs = 0 then (xs, 0)
  else if fs = 1 then ((windows 1 m xs).map (fun w => 64 * w.headD 0), 0)
  else if fs = 2 then
    ((windows m m xs).map (fun w => (unsigned 18 (64 * listMin w) + 2 ^ 18 * unsigned 18 (64 * listMax w) : Nat)), 0)
  else if fs = 3 then
    let k := Nat.log2 m
    ((windows m m xs).map (fun w => if k ≤ 6 then w.sum * 2 ^ (6 - k) else roundEven w.sum (2 ^ (k - 6))), 0)
  else
    let h := hbStages (halfbands fs) (xs.map (fun x => 64 * x))
    let c := cicStage (cicR fs m) h.1
    match s.firOf b fs m with
    | none => (c.1, h.2 + c.2)
    | some f => let w := firStage f c.1
                (w.1, h.2 + c.2 + w.2)

/-- The number of overrange outputs: outputs with an overrange sample in their span of `e` + 1 samples (R177). -/
def overOutputs (e m : Nat) (ovr : List Bool) : Nat :=
  ((windows (e + 1) m (ovr.map (fun b => (b2n b : Int)))).filter (fun w => w.sum != 0)).length

/-- The saturated values that each of `n` outputs of a setting adds to those of the outputs before it. -/
def State.satsEach (s : State) (b fs m n : Nat) (xs : List Int) : List Nat :=
  let upto := fun (k : Nat) => if k = 0 then 0 else (s.chain b fs m (xs.take ((k - 1) * m + 1 + s.spanOf b fs m))).2
  (List.range n).map (fun k => upto (k + 1) - upto k)

/-- What the capture of one channel gives: the recorded values, the saturated values in all and by output, the overrange
outputs, and the overrange of each sample. -/
structure ChanData where
  vals : List Int
  sat : Nat
  sats : List Nat
  ovr : Nat
  raw : List Bool

/-- The data of channel `c` for outputs whose first instant is `t0`, from the inputs of the samples they span (R68, R173,
R177). -/
def State.capture (s : State) (c t0 : Nat) (vins : List Int) : ChanData :=
  let b := c / 16
  let d := spacing (s.bankMode b)
  let e := s.spanOf b (s.cfs c) (s.cm c)
  let xs := s.samples c d (t0 + s.cdelay c - e * d) vins
  let o := s.chain b (s.cfs c) (s.cm c) (xs.map (fun x => x.1))
  ⟨o.1, o.2, if o.2 = 0 then [] else s.satsEach b (s.cfs c) (s.cm c) o.1.length (xs.map (fun x => x.1)), overOutputs e (s.cm c) (xs.map (fun x => x.2)), xs.map (fun x => x.2)⟩

/-- The codes a record of `len` outputs needs of a channel. -/
def State.codesNeeded (s : State) (c len : Nat) : Nat :=
  if len = 0 then 0 else (len - 1) * s.cm c + 1 + s.spanOf (c / 16) (s.cfs c) (s.cm c)

/-- The sum over what stands at the instants `t0`, `t0 + d` and on that lie in none of the ranges. -/
def unseenSum (seen : List (Nat × Nat)) (t0 d : Nat) (ns : List Nat) : Nat :=
  ((ns.zipIdx).map (fun x => if seen.any (fun r => decide (r.1 ≤ t0 + x.2 * d ∧ t0 + x.2 * d ≤ r.2)) then 0 else x.1)).sum

/-- The ranges with `n` instants from `t0` added. -/
def seeRange (seen : List (Nat × Nat)) (t0 d n : Nat) : List (Nat × Nat) :=
  if n = 0 then seen else joinRange t0 (t0 + n * d - 1) seen

/-- The overrange samples of a channel counted once each in BNK_OVR (R62). -/
def State.countOvr (s : State) (c t0 d : Nat) (past : List Bool) : State :=
  let n := unseenSum (tget s.ovrSeen [] c) t0 d (past.map b2n)
  let s1 := if n = 0 then s else s.count (Reg.bnkOvr (c / 16) (c % 16)) 2 36 n
  { s1 with ovrSeen := tset s1.ovrSeen [] c (seeRange (tget s1.ovrSeen [] c) t0 d past.length) }

/-- The saturated values of a channel's outputs counted once each in BNK_FLT_SAT (R177). -/
def State.countSat (s : State) (c t0 : Nat) (x : ChanData) : State :=
  let d := max 1 (s.cdelta c)
  let n := unseenSum (tget s.satSeen [] c) t0 d x.sats
  let s1 := if n = 0 then s else s.countFld (Reg.bnkFltSat (c / 16) (c % 16)) 31 0 n
  { s1 with satSeen := tset s1.satSeen [] c (seeRange (tget s1.satSeen [] c) t0 d x.vals.length) }

/-- The first input sample instant that the outputs from `t0` of channel `c` span (R173). -/
def State.firstRaw (s : State) (c t0 : Nat) : Nat :=
  t0 + s.cdelay c - s.spanOf (c / 16) (s.cfs c) (s.cm c) * spacing (s.bankMode (c / 16))

/-- Overrange samples and saturated values are counted as they are produced, in a record or not (R62, R177). -/
def State.countData (s : State) (c t0 : Nat) (x : ChanData) : State :=
  (s.countOvr c (s.firstRaw c t0) (spacing (s.bankMode (c / 16))) x.raw).countSat c t0 x

/-! ### The multiply budget (R171) -/

/-- The multiplies per output of a setting. -/
def State.firCost (s : State) (b fs m : Nat) : Nat :=
  match s.firOf b fs m with
  | none => 0
  | some f => if f.sym then ceilDiv f.ntaps 2 else f.ntaps

/-- The demand of a setting in units of 1/65536 multiply per core cycle is u × 64 ÷ (L × M); the sum is judged exactly
as fractions: this is its numerator and denominator. -/
def addFrac (a b : Nat × Nat) : Nat × Nat := (a.1 * b.2 + b.1 * a.2, a.2 * b.2)

def maxFrac (a b : Nat × Nat) : Nat × Nat := if a.1 * b.2 < b.1 * a.2 then b else a

def State.demand (s : State) (b fs m : Nat) : Nat × Nat :=
  (s.firCost b fs m * 64, max 1 ((liveIdx (s.bankMode b)).length * m))

/-- The demand of a bank with the shadow word of channel index `c` taken as `w`. -/
def State.budget (s : State) (b : Nat) (c : Nat) (w : Word) : Nat × Nat :=
  (liveIdx (s.bankMode b)).foldl (fun acc i =>
    let sh := if i = c then w else s.get (Reg.bnkFlt b i)
    let ac := s.act (Reg.bnkFlt b i)
    addFrac acc (maxFrac (s.demand b (filtSetOf sh) (decimOf sh)) (s.demand b (filtSetOf ac) (decimOf ac)))) (0, 1)

/-- BNK_FLT_STATUS.BUDGET: the sum rounded up. -/
def State.budgetNow (s : State) (b : Nat) : Nat :=
  let f := s.budget b 16 0
  ceilDiv f.1 f.2

/-- M is allowed for a setting (R166). -/
def decimOk (fs m : Nat) : Bool :=
  if fs = 0 then m = 1
  else if fs ≤ 2 then 2 ≤ m ∧ m ≤ 65536
  else if fs = 3 then 2 ≤ m ∧ m ≤ 65536 ∧ 2 ^ Nat.log2 m = m
  else
    let d := 2 ^ halfbands fs
    2 ≤ m ∧ m % d = 0 ∧ 1 ≤ m / d ∧ m / d ≤ 1024

/-- A listed FILT_SET (R165). -/
def setListed (fs : Nat) : Bool := fs ≤ 3 || isFilter fs

/-- Why a write to BNK_FLT is refused, none when it is stored (R166). -/
def State.fltWhy (s : State) (b c : Nat) (w : Word) : Option Nat :=
  let fs := filtSetOf w
  let m := decimOf w
  let inProg := match s.prog b with
    | none => fs == 0
    | some p => decide (p.firstSet ≤ fs ∧ fs ≤ p.lastSet)
  if !setListed fs || !inProg then some 0
  else if !decimOk fs m then some 1
  else if let f := s.budget b c w; 1024 * f.2 < f.1 then some 2
  else none

/-- A write to BNK_FLT of a live channel: stored as a shadow, or refused with REFUSED, REFUSED_CH and REFUSED_WHY. -/
def State.writeFlt (s : State) (b c : Nat) (w : Word) : State :=
  match s.fltWhy b c w with
  | none => s.put (Reg.bnkFlt b c) w
  | some y => ((s.setBit (Reg.bnkFltStatus b) 0 true).wr (Reg.bnkFltStatus b) 7 4 c).wr (Reg.bnkFltStatus b) 9 8 y

/-! ### Restart (R175) -/

/-- The chains of a bank's channel indices restart at instant `t`. -/
def State.restartChains (s : State) (b : Nat) (cs : List Nat) (t : Nat) : State :=
  let B := s.bankAt b
  s.setBank b { B with restartAt := cs.foldl (fun l c => l.set c t) B.restartAt }

/-- The saturation counts of a bank cleared (R177). -/
def State.clearSat (s : State) (b : Nat) : State :=
  s.forAll (List.range 16) (fun s c => s.put (Reg.bnkFltSat b c) 0)

/-! ### The commands -/

/-- Bank `b` is enabled by the Almanac. -/
def State.bankOn (s : State) (b : Nat) : Bool := s.bankMode b != 3

end Sys2Proof.Machine
end

