-- ==== Sys2Proof/Machine/Flits.lean ====
section
/-! DEFINITION. Flits of the ring (R283 to R285): their header and body as one number of 288 bits in native words, and the
ports that send them; the CTL requests this unit issues (R294, R295). -/

namespace Sys2Proof.Machine

/-- The 288 bits of a flit in the order of R6. -/
def flitWords (n : Nat) : List Native := (List.range 8).map (fun k => BitVec.ofNat 36 (n / 2 ^ (36 * k)))

/-- A flit's bits as a number. -/
def flitNat (ws : List Native) : Nat := pack36 (ws.take 8)

/-- The fields of a flit header (R283). -/
structure FlitHdr where
  cf : Nat
  dir : Nat
  hops : Nat
  dst : Nat
  src : Nat
  cls : Nat
  deriving DecidableEq, Repr

def FlitHdr.bits (h : FlitHdr) : Nat :=
  h.cf % 512 * 2 ^ 23 + h.dir % 2 * 2 ^ 22 + h.hops % 64 * 2 ^ 16 + h.dst % 128 * 2 ^ 9 + h.src % 64 * 8 + h.cls % 8

def hdrOf (n : Nat) : FlitHdr :=
  ⟨bitsOf n 31 23, bitsOf n 22 22, bitsOf n 21 16, bitsOf n 15 9, bitsOf n 8 3, bitsOf n 2 0⟩

/-- The body of a flit. -/
def bodyOf (n : Nat) : Nat := n / 2 ^ 32

/-- Every unit (DST_POS). -/
def everyUnit : Nat := 0x7F

/-- The directions, by the number of the port that sends them: 0 East, 1 West. -/
def dirOf (d : Nat) : Dir := if d = 0 then .east else .west
def dirNat (d : Dir) : Nat := match d with | .east => 0 | .west => 1

/-- A ring port sends: its segment is up and the bypass is open (R278, R281). -/
def State.ringUp (s : State) (d : Nat) : Bool := s.bypassOpen && s.bit (Reg.rngPortStatus d) 0

/-- The ticks of a frame at the generation of a port's segment: 1.12, 0.56 or 0.28 frames in a core cycle (R277). -/
def State.frameTicks (s : State) (d : Nat) : Nat :=
  let g := s.rd (Reg.rngPortStatus d) 2 1
  ceilDiv (cycle * 100) (if g = 3 then 112 else if g = 2 then 56 else 28)

/-- A TRIG frame for a port: it waits, and is counted, while the TRIG frames before it are sent (R284). -/
def State.queueTrig (s : State) (d : Nat) : State :=
  let p := s.rport d
  let s1 := if s.now < p.trigBusy then s.inc (Reg.rngPortQueued d) else s
  s1.setRport d { p with trigBusy := max s.now p.trigBusy + s.frameTicks d }

/-- A flit leaves by a port; where its segment is down it ends there (R285). -/
def State.sendFlit (s : State) (d : Nat) (h : FlitHdr) (body : Nat) : State :=
  if s.ringUp d then (if h.cls = 0 then s.queueTrig d else s).emit (.flit (dirOf d) (flitWords ({ h with dir := d }.bits + 2 ^ 32 * (body % 2 ^ 256)))) else s

/-- A flit of this unit sent both ways with HOPS 62 (R285). -/
def State.sendBoth (s : State) (cf dst cls body : Nat) : State :=
  let h : FlitHdr := ⟨cf, 0, 62, dst, s.rd Reg.rngPos 5 0, cls⟩
  (s.sendFlit 0 h body).sendFlit 1 h body

/-- One event of a ring line, both ways (R117, R285). -/
def State.sendTrig (s : State) (l t : Nat) : State :=
  s.sendBoth 0 everyUnit 0 (t % 2 ^ 72 + l % 16 * 2 ^ 216 + 2 ^ 228)

/-! ### CTL requests as this unit issues them (R284, R294, R295) -/

/-- OP codes of a CTL body (R284). -/
def opRead : Nat := 0
def opWrite : Nat := 1
def opBroadcast : Nat := 2

/-- The body of a CTL flit. -/
def ctlBody (op tag off wide data : Nat) : Nat :=
  op % 16 + tag % 4096 * 2 ^ 4 + off % 2 ^ 25 * 2 ^ 16 + wide % 2 * 2 ^ 41 + data % 2 ^ 64 * 2 ^ 42

/-- The port by which a flit to one unit leaves: of two ports that are up either, for the spec gives no path. -/
def State.pickPort (s : State) : Nat × State :=
  if s.ringUp 0 && s.ringUp 1 then
    let f := s.fresh
    (b2n (Config.freeBit f.1), f.2)
  else (b2n (s.ringUp 1), s)

/-- A flit to one unit. -/
def State.sendOne (s : State) (cf dst cls body : Nat) : State :=
  let p := s.pickPort
  p.2.sendFlit p.1 ⟨cf, 0, 62, dst, s.rd Reg.rngPos 5 0, cls⟩ body

/-- A CTL request sent, with a tag of its own: to one position, or broadcast. It stays outstanding until each unit of `from_`
has answered or it times out. -/
def State.sendCtl (s : State) (op : Nat) (dst : Option Nat) (off data : Nat) (wide : Bool) (why : CtlWhy)
    (from_ : List Nat) (win : Nat) : State :=
  let tag := s.ctlTag
  let body := ctlBody op tag off (b2n wide) data
  let s1 : State := { s with ctlTag := (tag + 1) % 4096,
                             ctlReqs := s.ctlReqs ++ [⟨tag, why, from_, s.now, wide, 0, win⟩] }
  match dst with
  | some p => s1.sendOne 0 p 3 body
  | none => s1.sendBoth 0 everyUnit 3 body

/-- A broadcast write of a 32-bit register to the units of a list. -/
def State.broadcast (s : State) (off data : Nat) (why : CtlWhy) (from_ : List Nat) : State :=
  s.sendCtl opBroadcast none off data false why from_ 64

/-- A CTL read of a 32-bit register of one unit. -/
def State.askReg (s : State) (pos off : Nat) (why : CtlWhy) : State :=
  s.sendCtl opRead (some pos) off 0 false why [pos] 64

end Sys2Proof.Machine
end

