-- ==== Sys2Proof/Machine/Fabric.lean ====
section
/-! DEFINITION. The trigger fabric's deliveries (R90, R112, R117), and the hand-over of shadow registers with all it
changes: settling, filter restart, detection resets, the Eve (R70, R71, R121, R122, R153, R154, R176). -/

namespace Sys2Proof.Machine

/-! ### Deliveries -/

/-- The local consumers of a source among groups, Conjunctions and TRIG_OUT outputs (R41). -/
def State.fabricConsumers (s : State) (src : Nat × Nat) : List Dest :=
  match s.alm with
  | none => []
  | some a =>
    ((List.range 32).filter (fun g => match (a.groups[g]?).join with
        | some c => (c.srcKind, c.srcIndex) == src
        | none => false)).map Dest.group
      ++ ((List.range 16).filter (fun j => match (a.conjs[j]?).join with
        | some c => c.srcs.contains src
        | none => false)).map Dest.conj
      ++ ((List.range 4).filter (fun o => a.touts.getD o (0xFF, 0) == src)).map Dest.tout

/-- The interval units that take a source of EPC_IV_SRC kind `k` and index `i` with edge `e` (R90). -/
def State.ivConsumers (s : State) (k i : Nat) (e : Option Nat) : List Dest :=
  let isSrc := fun (u hk lk hi li ed : Nat) =>
    s.rd (Reg.epcIvSrc u) hk lk == k && s.rd (Reg.epcIvSrc u) hi li == i
      && (match e with | none => true | some x => s.rd (Reg.epcIvSrc u) ed ed == x)
  let run := (List.range 16).filter (fun u => s.rd (Reg.epcIvStatus u) 1 0 != 0)
  (run.filter (fun u => isSrc u 14 12 6 0 15)).map Dest.ivStart
    ++ (run.filter (fun u => isSrc u 30 28 22 16 31)).map Dest.ivStop

/-- An event of a source was merged into another: the interval units that stamp the source learn of it (R96). -/
def State.ivMerge (s : State) (k i : Nat) (e : Option Nat) : State :=
  (s.ivConsumers k i e).foldl (fun s d => match d with
    | .ivStart u => if (s.ivAt u).regOnStart then s.setIv u { (s.ivAt u) with merged := true } else s
    | .ivStop u => if (s.ivAt u).regOnStart then s else s.setIv u { (s.ivAt u) with merged := true }
    | _ => s) s

/-- The ring lines that a local source drives. -/
def State.linesOf (s : State) (src : Nat × Nat) : List Nat :=
  match s.alm with
  | none => []
  | some a => (List.range 16).filter (fun l => a.rlines.getD l (0xFF, 0) == src && src.1 != 0xFF)

def State.enqueue (s : State) (ds : List Dest) (src : Nat × Nat) (t : Nat) (ring wake : Bool) : State :=
  { s with fabric := s.fabric ++ ds.map (fun d => ⟨d, src, t, ring, wake, s.cyc⟩) }

/-- Of two events that merge, the one with the earliest instant is kept, with its marker (R110, R117; log entry 100). -/
def Delivery.earliest (d : Delivery) (t : Nat) (ring : Bool) : Delivery :=
  if t < d.instant then { d with instant := t, ring := ring } else d

/-- An event on ring line `l` reaches its local consumers; two events of one line in one core cycle are merged into
the one with the earliest instant (R117). -/
def State.lineEvent (s : State) (l t : Nat) (ring : Bool) : State :=
  if tget s.rlineAt 0 l = s.cyc + 1 then
    let keep := fun (d : Delivery) => if d.src == (4, l) && d.cyc == s.cyc then d.earliest t ring else d
    ({ s with fabric := s.fabric.map keep } : State).inc Reg.epcRlineMerged
  else ({ s with rlineAt := tset s.rlineAt 0 l (s.cyc + 1) }).enqueue (s.fabricConsumers (4, l)) (4, l) t ring false

/-- The trigger fabric runs: Feast or Ordinary (R129). -/
def State.fabricRuns (s : State) : Bool := s.power ≤ 1

/-- An event of a source goes to its consumers, and onto the ring lines it drives (R112, R117). -/
def State.deliver (s : State) (src : Nat × Nat) (t : Nat) (ring wake : Bool) : State :=
  if s.fabricRuns || wake then
    let s1 := s.enqueue (s.fabricConsumers src) src t ring wake
    (s.linesOf src).foldl (fun s l => (s.lineEvent l t false).sendTrig l t) s1
  else s

/-- The first event under way to a consumer, and the fabric without it. -/
def takeFor (d : Dest) : List Delivery → Option (Delivery × List Delivery)
  | [] => none
  | x :: r => if x.dest = d then some (x, r)
    else match takeFor d r with
      | none => none
      | some (y, t) => some (y, x :: t)

/-! ### Detection resets (R122 to R124) -/

def State.resetUnit (s : State) (u : Nat) : State := s.setTrig u TrigUnit.idle

/-- The detection state of every unit of a bank is reset. -/
def State.resetUnits (s : State) (b : Nat) : State :=
  s.forAll (List.range 8) (fun s i => s.resetUnit (8 * b + i))

/-- A hand-over that changes a Conjunction discards what it holds and ends its holdoff (R122). -/
def State.resetConj (s : State) (j : Nat) : State := s.setConj j Conj.idle

/-- The levels and hysteresis of a unit as they take effect: clamped on a raw stream (R103). -/
def State.rawUnit (s : State) (u : Nat) : Bool :=
  match s.alm with
  | some a => match (a.units[u]?).join with | some c => c.stream == 0 | none => true
  | none => true

def State.levelA (s : State) (u : Nat) : Int :=
  let v := signed 18 (s.actf (Reg.bnkTrgLevelA (u / 8) (u % 8)) 17 0)
  if s.rawUnit u then clampI (-2048) 2047 v else v

def State.levelB (s : State) (u : Nat) : Int :=
  let v := signed 18 (s.actf (Reg.bnkTrgLevelB (u / 8) (u % 8)) 17 0)
  if s.rawUnit u then clampI (-2048) 2047 v else v

def State.hyst (s : State) (u : Nat) : Int :=
  let v := s.actf (Reg.bnkTrgHyst (u / 8) (u % 8)) 16 0
  if s.rawUnit u then min v 4095 else v

/-- The active levels of a unit take effect clamped (BNK_TRG_STATUS.CLAMPED). -/
def State.unitClamped (s : State) (u : Nat) : Bool :=
  s.rawUnit u && (s.levelA u != signed 18 (s.actf (Reg.bnkTrgLevelA (u / 8) (u % 8)) 17 0)
    || s.levelB u != signed 18 (s.actf (Reg.bnkTrgLevelB (u / 8) (u % 8)) 17 0)
    || s.hyst u != (s.actf (Reg.bnkTrgHyst (u / 8) (u % 8)) 16 0 : Int))

/-- The hand-over of a trigger unit's shadow (R103, R121, R122). -/
def State.handUnit (s : State) (u : Nat) : State :=
  if s.shadowDiffers (trigWords u) then
    let s1 := (s.handWords (trigWords u)).resetUnit u
    if s1.unitClamped u then s1.setBit (Reg.bnkTrgStatus (u / 8) (u % 8)) 3 true else s1
  else s

/-- The hand-over of a Conjunction's shadow. -/
def State.handConj (s : State) (j : Nat) : State :=
  if s.shadowDiffers (conjWords j) then (s.handWords (conjWords j)).resetConj j else s

/-! ### Front end and filter of a channel (R70 to R72, R175, R176) -/

/-- The settling time in core cycles of a change of BNK_FE (R71). -/
def settleCycles (old new : Word) : Nat :=
  if fld old 5 4 ≠ fld new 5 4 then 2500
  else if fld old 27 16 ≠ fld new 27 16 then 1250
  else if fld old 1 0 ≠ fld new 1 0 then 188
  else 0

/-- The channel a trigger unit watches. -/
def State.unitChan (s : State) (u : Nat) : Option Nat :=
  (s.alm.bind (fun a => (a.units[u]?).join)).map (fun c => 16 * (u / 8) + c.channel)

/-- The detection state of the units that watch a channel is reset (R72, R123, R124). -/
def State.resetWatchers (s : State) (c : Nat) : State :=
  s.forAll ((List.range 8).map (fun i => 8 * (c / 16) + i)) (fun s u =>
    if s.unitChan u = some c then s.resetUnit u else s)

/-- The hand-over of a live channel's front-end word: the channel settles, its units start anew, and its filter restarts with
the Eve at the end of settling (R71, R72, R124, R175). -/
def State.handFe (s : State) (c : Nat) : State :=
  let b := c / 16
  let o := Reg.bnkFe b (c % 16)
  let n := settleCycles (s.act o) (s.get o)
  let s1 := s.handWords [o]
  if n = 0 ∨ !s.live c then s1
  else
    let B := s1.bankAt b
    let tEnd := max (B.settleEnd.getD (c % 16) 0) (s1.now + n * cycle)
    ((s1.setBank b { B with settleEnd := B.settleEnd.set (c % 16) tEnd }).restartChains b [c % 16]
      (s1.ep + (tEnd - s1.now))).resetWatchers c

/-- The units on the filtered stream of a channel start from no earlier output: disarmed and without a span, their holdoff going
on (R175). -/
def State.forgetOutputs (s : State) (c : Nat) : State :=
  s.forAll ((List.range 8).map (fun i => 8 * (c / 16) + i)) (fun s u =>
    if !s.rawUnit u && (s.unitChan u == some c || s.actf (Reg.bnkTrgCtl (u / 8) (u % 8)) 3 0 == 7) then
      s.setTrig u { TrigUnit.idle with firedAt := (s.trigAt u).firedAt, holdLeft := (s.trigAt u).holdLeft,
                                       lastOut := (s.trigAt u).lastOut }
    else s)

/-- The hand-over of a channel's filter word: a changed FILT_SET or M restarts the chain, at the end of settling where the
channel settles (R175). -/
def State.handFlt (s : State) (c : Nat) : State :=
  if s.get (fltOff c) = s.act (fltOff c) then s
  else
    let end_ := (s.bankAt (c / 16)).settleEnd.getD (c % 16) 0
    ((s.handWords [fltOff c]).restartChains (c / 16) [c % 16] (s.ep + (end_ - s.now))).forgetOutputs c

/-! ### The hand-over of a group (R153, R154) -/

/-- Words whose change restarts V: EVE_REQ, POST and FILT_SET (R154). -/
def State.eveWords (s : State) (g : Nat) : List Nat :=
  [Reg.aqgEve g, Reg.aqgEve g + 4, Reg.aqgPost g, Reg.aqgPost g + 4] ++ (s.gchans g).map fltOff

/-- The shadow changes L, BIN, BASE, SHIFT or SRC: the hand-over clears the histogram grid (R190). -/
def State.gridDiffers (s : State) (g : Nat) : Bool :=
  s.sh36 (Reg.aqgEve g) + s.sh36 (Reg.aqgPost g) != s.eveReq g + s.post g
    || s.rd (Reg.aqgHistBin g) 15 0 != s.actf (Reg.aqgHistBin g) 15 0
    || s.rd (Reg.aqgHistBase g) 17 0 != s.actf (Reg.aqgHistBase g) 17 0
    || s.rd (Reg.aqgHistCtl g) 12 8 != s.actf (Reg.aqgHistCtl g) 12 8
    || s.rd (Reg.aqgHistCtl g) 23 16 != s.actf (Reg.aqgHistCtl g) 23 16

/-- The Tally blocks of an armed group after a hand-over (R183, R190). -/
def State.blocksNow (s : State) (g : Nat) : Nat :=
  if s.gArmed g then s.histBlocks g + (if (s.grp g).acc.place = 1 then s.sumBlocks g else 0) else 0

/-- The copy of every shadow of a group, the generation, and what the changes restart. -/
def State.handGroup (s : State) (g : Nat) : State :=
  let eve := s.shadowDiffers (s.eveWords g)
  let grid := s.gridDiffers g
  let s := s.settlePorts g
  let s1 := (s.gchans g).foldl (fun s c => (s.handFe c).handFlt c) s
  let s2 := (s1.groupUnits g).foldl (fun s u => s.handUnit u) s1
  let s3 := (s2.groupConjs g).foldl (fun s j => s.handConj j) s2
  let s4 := s3.handWords (groupOwnWords g)
  let s5 := s4.wr (Reg.aqgShadowGen g) 15 0 (s4.gen g + 1)
  let x := s5.grp g
  let anew := (eve && s5.gmode g != 1) || s5.gSettling g
  let s6 := s5.setGrp g { x with
    handErr := false,
    fillFrom := if anew then s5.settledAt g else x.fillFrom,
    st := if x.st = .armed ∧ anew = true then .filling else x.st,
    acc := { x.acc with grid := if grid then [] else x.acc.grid, gridCount := if grid then 0 else x.acc.gridCount,
                        blocks := s5.blocksNow g } }
  if s6.gmode g = 1 ∧ s6.gSettling g = true then s6.beginCause g 16 else s6

/-- Nothing of the group is in progress or in re-arm; an armed Stream group is at a segment boundary (`edge`), and an
Accumulate group at a sum boundary (R153, R182). -/
def State.handFree (s : State) (g : Nat) (edge : Bool) : Bool :=
  let x := s.grp g
  x.cur.isNone && (x.st == .idle || (if s.gmode g = 1 then edge
    else (x.st == .filling || x.st == .armed || (x.st == .paused && !s.rearming g))
      && (s.gmode g != 2 || (x.acc.count == 0 && x.acc.staged.isNone))))

/-- A hand-over of the group may take place now: it is free, HOLD is 0, and the shadow differs (R153). -/
def State.handReady (s : State) (g : Nat) (edge : Bool) : Bool :=
  s.handFree g edge && !s.bit (Reg.aqgHold g) 0 && s.gPending g

/-- A hand-over where it may take place: withheld with HANDOVER_ERR while the shadow is not valid (R154). -/
def State.tryHand (s : State) (g : Nat) (edge : Bool) : State :=
  if s.handReady g edge then
    if s.shadowOk g then s.handGroup g else s.setGrp g { (s.grp g) with handErr := true }
  else s

/-- HANDOVER_ERR ends when the shadow is valid again (R154). -/
def State.recheckHand (s : State) (g : Nat) : State :=
  if (s.grp g).handErr && s.shadowOk g then s.setGrp g { (s.grp g) with handErr := false } else s

/-- The shadow of a channel in no group takes effect at the first core edge after the write, before an Almanac is loaded as
well (R70, R176). -/
def State.handLooseChan (s : State) (c : Nat) : State :=
  if (s.live c || s.alm.isNone) && (s.groupOfChan c).isNone then (s.handFe c).handFlt c else s

/-- The shadow of a unit on which no group, or more than one, depends takes effect at once (R121). -/
def State.handLooseUnit (s : State) (u : Nat) : State := if (s.ownerOf u).isNone then s.handUnit u else s

def State.handLooseConj (s : State) (j : Nat) : State := if (s.conjOwner j).isNone then s.handConj j else s

end Sys2Proof.Machine
end

