-- ==== Sys2Proof/Machine/Sums.lean ====
section
/-! DEFINITION. The capture of a record's samples into a record image (R158 to R160), and the full episode (R139). -/

namespace Sys2Proof.Machine

/-! ### Capture -/

/-- The data of every channel of a group for a record with first instants from `s0` less `eve` outputs. -/
structure Captured where
  vals : List (List Int)
  sat : Nat
  ovr : Nat
  ovrCh : List Nat

/-- The first output instant of channel `c` in a record triggered at `t` with `eve` Eve outputs (R144). -/
def State.firstOf (s : State) (c t eve : Nat) : Nat := s.outAt c t - eve * max 1 (s.cdelta c)

/-- The samples of a record taken: the overrange counts of the inputs and the saturation counts of the channels are
kept as they are produced (R62, R177). -/
def State.takeSamples (s : State) (g t eve : Nat) (samples : List (List Int)) : State × Captured :=
  let cs := (s.gchans g).zip (samples ++ List.replicate (s.gnch g - samples.length) [])
  let data := cs.map (fun x =>
    (x.1, s.capture x.1 (s.firstOf x.1 t eve) (x.2 ++ List.replicate (s.codesNeeded x.1 (eve + s.post g) - x.2.length) 0
      |>.take (s.codesNeeded x.1 (eve + s.post g)))))
  let s1 := data.foldl (fun s x =>
    s.countData x.1 (s.firstOf x.1 t eve) x.2) s
  (s1, ⟨data.map (fun x => x.2.vals), (data.map (fun x => x.2.sat)).sum, (data.map (fun x => x.2.ovr)).sum,
    (data.filter (fun x => x.2.ovr != 0)).map (fun x => x.1)⟩)

/-- OVERRANGE and SATURATED of captured data (R156). -/
def Captured.flags (d : Captured) : Nat := (if d.ovr = 0 then 0 else 4) + (if d.sat = 0 then 0 else 8)

/-- The image of a data record (R155, R158). -/
def State.dataRec (s : State) (g : Nat) (c : Cur) (d : Captured) : Rec :=
  let st := s.gset g
  let k := perWord st.2.1
  { kind := 0
    flags := c.flags + d.flags + (if c.annex.isEmpty then 0 else 32)
    trig := c.trig
    w5 := if s.gmode g = 1 then 0 else s.eveReq g
    w6 := c.eveAct
    w7 := c.post
    pack := st.2.1
    filt := st.2.2.1
    dmode := st.1
    nch := s.gnch g
    firstCh := s.gfirst g
    decim := st.2.2.2
    w10 := c.deadTime % 2 ^ 36
    w11 := c.deadTime / 2 ^ 36
    early := c.early
    dead := c.dead
    accum := 0
    tag := c.tag
    gen := c.gen
    season := c.season
    annex := c.annex
    payload := payloadOf (s.glayout g) k (bitsPer k) d.vals
    ovr := d.ovr
    ovrCh := d.ovrCh.length
    first := c.s0 - c.eveAct * s.delta g }

/-- A full episode begins at a refusal (R139). -/
def State.beginFull (s : State) (g : Nat) : State :=
  if (s.grp g).isFull then s
  else (((s.beginCause g 2).groupEvent g 18 9)).fault 22 (s.gmask g)

end Sys2Proof.Machine
end

