-- ==== Sys2Proof/Machine/Groups.lean ====
section
/-! DEFINITION. Acquisition groups (R131 to R163, R203): hand-over, arming, triggers, records, segments, gaps and pauses.
One meaning for each command of the group family, over operations that other families also use. -/

namespace Sys2Proof.Machine

/-! ### Segments and pauses -/

/-- The instant from which a group's channels deliver, on its output grid. -/
def State.liveFrom (s : State) (g : Nat) : Nat := s.gOutAt g (s.resumeAt g)

/-- What a record's start takes from the group: the counts since the previous record, which restart (R148). Its flows to the
capture ports begin (R204). -/
def State.openRec (s : State) (g trig s0 eveAct flags : Nat) (deadTime : Nat) : State :=
  let s := s.settlePorts g
  let x := s.grp g
  let own : Bool := s.gmode g != 2
  s.setGrp g { x with
    cur := some { trig := trig, s0 := s0, eveAct := eveAct, post := s.post g, flags := flags, deadTime := deadTime,
                  early := if own then x.early else 0, dead := if own then x.dead else 0,
                  annex := if s.gannex g && s.gmode g == 0 then x.logged else [], gen := s.gen g, tag := s.tag,
                  season := s.season g, startedAt := s.ep, begun := s.now }
    early := if own then 0 else x.early
    dead := if own then 0 else x.dead
    logged := if own then [] else x.logged }

/-- DEAD_TIME from the end of the previous record to `able` (R147). -/
def deadTimeOf (prevEnd : Option Nat) (able : Nat) : Nat :=
  match prevEnd with
  | none => 2 ^ 72 - 1
  | some e => (able - e) % 2 ^ 72

/-- A Stream segment starts at instant `t`, or is refused as full (R131, R139). -/
def State.startSegment (s : State) (g t : Nat) : State :=
  let x := s.grp g
  if s.fits g then
    let s1 := s.openRec g t t 0 (s.startFlags g) (deadTimeOf x.prevEnd t)
    s1.setGrp g { (s1.grp g) with st := .streaming, covered := t }
  else
    let lo := if x.prevEnd.isNone then max x.covered t else x.covered
    let s1 := s.setGrp g { x with covered := lo, refusedTo := lo + s.post g * s.delta g }
    (s1.count (Reg.aqgRefused g) 2 36 1).beginFull g

/-- The segments that a full episode has refused up to instant `hi` counted in AQG_REFUSED (R139). -/
def State.countRefused (s : State) (g hi : Nat) : State :=
  let x := s.grp g
  let d := max 1 (s.post g * s.delta g)
  if s.gmode g = 1 ∧ x.isFull = true ∧ x.refusedTo < hi then
    let n := ceilDiv (hi - x.refusedTo) d
    (s.setGrp g { x with refusedTo := x.refusedTo + n * d }).count (Reg.aqgRefused g) 2 36 n
  else s

/-- A segment boundary at instant `e`: the group hands over, and its next segment starts there or at the first valid output
(R153, R175). -/
def State.openSegment (s : State) (g e : Nat) : State :=
  let s1 := s.tryHand g true
  if (s1.grp g).pauses.isEmpty ∧ (s1.grp g).cur.isNone then
    s1.startSegment g (max e (s1.gOutAt g (max e (s1.eveFrom g)))) else s1

/-- Some bank the group covers has READY 0 (R75). -/
def State.gNotReady (s : State) (g : Nat) : Bool := (s.gbanks g).any (fun b => !s.ready b)

/-- UPD_STATUS.STATE. -/
def State.updState (s : State) : Nat := s.rd Reg.updStatus 3 0

/-- A pause cause of R152 still holds for a group. -/
def State.causeHolds (s : State) (g cause : Nat) : Bool :=
  if cause = 3 then (s.gbanks g).any (fun b => (s.bankAt b).calibrating)
  else if cause = 4 then s.updState = 7
  else if cause = 6 then s.pfAt.isSome || !s.tripped.isEmpty || s.gNotReady g
  else if cause = 7 then s.gNotReady g || decide (2 ≤ s.power)
  else if cause = 9 then s.gStopped g || (s.gbanks g).any (fun b => s.bit (Reg.bnkConvStatus b) 3)
  else if cause = 16 then s.gSettling g
  else if cause = 17 then s.gNotReady g
  else if cause = 21 then s.anyFrozen
  else if cause = 23 then s.gmode g != 1
  else true

/-- The pauses of a group whose causes have ended are closed: the record of the cause that owns the interval is written
and the next cause's record begins there, and a group that nothing pauses resumes (R150). -/
def State.endPauses (s : State) (g : Nat) : State :=
  let x := s.grp g
  let holds := fun (p : Pause) => p.cause == 1 || p.cause == 2 || s.causeHolds g p.cause
  match x.pauses with
  | [] => s
  | p :: rest =>
    let rest' := rest.filter holds
    let s1 := s.setGrp g { x with pauses := p :: rest' }
    if holds p then s1.resume g
    else
      let hi := if s.gmode g = 1 ∧ rest'.isEmpty then s.liveFrom g else s.ep
      let s2 := s1.endCauseAt g p.cause hi
      if s.gmode g = 1 ∧ (s2.grp g).pauses.isEmpty then s2.openSegment g hi else s2

/-- Every pause of every armed group that has ended is closed. -/
def State.endAllPauses (s : State) : State := s.forAll (s.enabledGroups.filter s.gArmed) State.endPauses

/-- A pause cause begins in every armed group of a list. -/
def State.pauseAll (s : State) (gs : List Nat) (cause : Nat) : State :=
  s.forAll (gs.filter s.gArmed) (fun s g => s.beginCause g cause)

/-- The pause causes that hold when a group arms begin at once. -/
def State.pauseHeld (s : State) (g : Nat) : State :=
  ([3, 4, 6, 9, 21] ++ (if s.gmode g = 1 then [16] else [])).foldl
    (fun s c => if s.causeHolds g c then s.beginCause g c else s) s

/-! ### Arm (R133, R181, R217) -/

/-- ARM_ERR for an ARM now, 0 when it is accepted. -/
def State.armCode (s : State) (g : Nat) : Nat :=
  if (s.grp g).st ≠ .idle then 1
  else if s.gNotReady g then 2
  else if !s.lengthsActive g then 3
  else if s.areaSize (s.gpart g) < s.largest g + 3 then 4
  else if s.gStopped g then 5
  else if s.accumBad g then 6
  else if !s.usableMem then 7
  else 0

/-- An accepted ARM: FILLING, or STREAMING with the first segment. -/
def State.armNow (s : State) (g : Nat) : State :=
  let x := s.grp g
  let place := if s.gmode g = 2 then s.placeFor g else 0
  let blocks := s.histBlocks g + (if place = 1 then s.sumBlocks g else 0)
  let s0 := s.settlePorts g
  let s1 := s0.setGrp g { x with
    st := if s.gmode g = 1 then .streaming else .filling
    armErr := 0
    fillFrom := s.settledAt g
    rearmAt := 0
    able := s.ep
    prevEnd := none
    covered := s.ep
    refusedTo := 0
    early := 0
    dead := 0
    logged := []
    pauses := []
    armNext := false
    disarming := false
    acc := { x.acc.fresh with place := place, blocks := blocks, grid := [], gridCount := 0 } }
  let s2 := s1.pauseHeld g
  if s.gmode g = 1 ∧ (s2.grp g).pauses.isEmpty then s2.startSegment g (s2.liveFrom g) else s2

/-- ARM (R133): refused with its code, or accepted. -/
def State.doArm (s : State) (g : Nat) : State :=
  if (s.gcfg g).isNone then s
  else
    let c := s.armCode g
    if c = 0 then s.armNow g else s.setGrp g { (s.grp g) with armErr := c }

/-- A group in IDLE after a DISARM that an ARM of the same write followed is judged for it (R134). -/
def State.armWaiting (s : State) (g : Nat) : State :=
  if (s.grp g).armNext then (s.setGrp g { (s.grp g) with armNext := false }).doArm g else s

/-- The group goes to IDLE, and hands over a waiting shadow (R153). -/
def State.toIdle (s : State) (g : Nat) : State := ((s.goIdle g).tryHand g true).armWaiting g

/-! ### Disarm and abort (R134, R185, R189) -/

/-- A disarming group with nothing in progress emits its sum, waits for its emission, and goes to IDLE. -/
def State.finishDisarm (s : State) (g : Nat) : State :=
  let x := s.grp g
  if x.cur.isSome || x.acc.staged.isSome then s
  else
    let s1 := if s.gmode g = 2 then s.emitSum g else s
    if (s1.grp g).acc.emitWait.isEmpty then s1.toIdle g else s1

def State.doDisarm (s : State) (g : Nat) : State :=
  if s.gArmed g then (s.setGrp g { (s.grp g) with disarming := true }).finishDisarm g else s

/-- What an ABORT takes back and from when: the record in progress, or one that waits for its fold, from its first sample
instant, or a sum alone; with the tag in force there (R134, R189). -/
def State.aborts (s : State) (g : Nat) : Option (Nat × Nat) :=
  let x := s.grp g
  match x.cur, x.acc.staged with
  | some c, _ => some (s.missingFrom g, c.tag)
  | none, some y => some (y.cur.s0 - y.cur.eveAct * s.delta g, y.cur.tag)
  | none, none => if x.acc.count = 0 then none else some (s.ep, s.tag)

/-- A staged record and its fold forgotten (R184). -/
def State.dropStaged (s : State) (g : Nat) : State :=
  let x := s.grp g
  let s1 := if x.acc.staged.isSome then s.inc (Reg.aqgAbandoned g) else s
  let s2 := s1.setGrp g { (s1.grp g) with acc := { (s1.grp g).acc with staged := none, folding := false } }
  { s2 with foldQueue := s2.foldQueue.filter (fun h => h != g),
            foldAt := if s2.foldQueue.head? = some g then none else s2.foldAt }

/-- ABORT: the record in progress is abandoned, a sum is discarded with its DISCARD record, and the ABORT record accounts for the
rest (R134, R189). -/
def State.doAbort (s : State) (g : Nat) : State :=
  if !s.gArmed g then s
  else
    let s1 := ((s.abandon g).dropStaged g).discardSum g
    match s.aborts g with
    | some y => (s1.writeGap g 19 y.1 s.ep y.2).toIdle g
    | none => s1.toIdle g

/-- The actions of one write to AQG_CTL: ABORT first, then DISARM, and ARM last. An ARM beside a DISARM that has still to
complete waits for it; any other is judged at once (R133, R134). -/
def State.doCtl (s : State) (g : Nat) (abort disarm arm : Bool) : State :=
  let s1 := if abort then s.doAbort g else s
  let s2 := if disarm then s1.doDisarm g else s1
  if arm then
    (if disarm && (s2.grp g).disarming then s2.setGrp g { (s2.grp g) with armNext := true } else s2.doArm g)
  else s2

/-- HANDOVER (R153). -/
def execHandover (dt : Nat) (g : Fin 32) (s : State) : Res :=
  let s := s.start dt
  if (s.gcfg g).isSome then .next (s.tryHand g false) else .next s

/-- ARM (R133). -/
def execArm (dt : Nat) (g : Fin 32) (s : State) : Res := .next ((s.start dt).doCtl g false false true)

/-- DISARM (R134). -/
def execDisarm (dt : Nat) (g : Fin 32) (s : State) : Res := .next ((s.start dt).doCtl g false true false)

/-- ABORT (R134). -/
def execAbort (dt : Nat) (g : Fin 32) (s : State) : Res := .next ((s.start dt).doCtl g true false false)

/-! ### The Eve and triggers (R143, R145, R150, R182, R188) -/

/-- A FILLING group whose V has reached EVE_REQ becomes ARMED (R143). -/
def State.fillCheck (s : State) (g : Nat) : State :=
  let x := s.grp g
  if x.st = .filling ∧ s.eveReq g ≤ s.eveV g ∧ !s.gNotReady g then s.setGrp g { x with st := .armed, able := s.ep }
  else s

def execEveFilled (dt : Nat) (g : Fin 32) (s : State) : Res := .next ((s.start dt).fillCheck g)

/-- A trigger refused in a pause, counted in the pause record (R150). -/
def State.refusePaused (s : State) (g : Nat) : State :=
  s.setGrp g { (s.grp g) with dead := satAdd (2 ^ 18 - 1) (s.grp g).dead 1 }

/-- A dead-time trigger: counted, and logged for the annex: of the next record, or of the sum of an Accumulate group
(R145, R187). -/
def State.deadTrigger (s : State) (g t : Nat) : State :=
  let x := s.grp g
  let log := fun (l : List Nat) => if s.gannex g && decide (l.length < 8) then l ++ [t] else l
  (s.setGrp g { x with
    dead := satAdd (2 ^ 18 - 1) x.dead 1
    logged := if s.gmode g = 2 then x.logged else log x.logged
    acc := { x.acc with log := if s.gmode g = 2 then log x.acc.log else x.acc.log } }).count (Reg.aqgDead g) 2 36 1

/-- A trigger refused for Eve (R143). -/
def State.earlyTrigger (s : State) (g : Nat) : State :=
  (s.setGrp g { (s.grp g) with early := satAdd (2 ^ 18 - 1) (s.grp g).early 1 }).count (Reg.aqgEarly g) 2 36 1

/-- A trigger refused as full: it begins a full episode, and its record counts it (R139, R148). -/
def State.fullTrigger (s : State) (g : Nat) : State :=
  let s1 := (s.count (Reg.aqgRefused g) 2 36 1).beginFull g
  s1.setGrp g { (s1.grp g) with dead := satAdd (2 ^ 18 - 1) (s1.grp g).dead 1 }

/-- The Eve that a trigger takes under the policy: none refuses it, and the flag says SHORT_EVE (R143, R182). -/
def eveChoice (mode policy req min_ avail : Nat) (wake : Bool) : Option (Nat × Bool) :=
  if mode = 2 then (if wake ∨ avail < req then none else some (req, false))
  else if wake then some (0, decide (0 < req))
  else if req ≤ avail then some (req, false)
  else if policy = 1 ∨ (policy = 2 ∧ min_ ≤ avail) then some (avail, true)
  else none

/-- A trigger that starts a record. The first sample of a wake record is taken at the first grid point at or after the kept
instant: log entry 101. -/
def State.acceptTrigger (s : State) (g : Nat) (d : Delivery) (eve : Nat) (short : Bool) : State :=
  let x := s.grp g
  let flags := s.startFlags g + b2n short + 64 * b2n d.ring + 128 * b2n d.wake
  let s1 := (s.openRec g d.instant (s.gOutAt g d.instant) eve flags (deadTimeOf x.prevEnd x.able)).wrEpoch
    (Reg.aqgLastTrig g) d.instant
  (s1.setGrp g { (s1.grp g) with st := .recording }).demandExit

/-- A record from a trigger at `t` would begin with outputs that are not yet valid in some channel (R175; log entry 99). -/
def State.primingAt (s : State) (g t : Nat) : Bool :=
  (s.gchans g).any (fun c => decide (s.outAt c t < (s.bankAt (c / 16)).restartAt.getD (c % 16) 0 + s.cdelay c))

/-- The Eve of a trigger, none where the trigger is refused for it: by the policy, or while a channel is not ready, settles or
primes (R72, R143, R175). -/
def State.eveFor (s : State) (g : Nat) (d : Delivery) : Option (Nat × Bool) :=
  if s.gNotReady g || s.gSettling g || (!d.wake && s.primingAt g d.instant) then none
  else eveChoice (s.gmode g) (s.evePolicy g) (s.eveReq g) (s.eveMin g) (s.eveAvail g d.instant) d.wake

/-- The partition has no room for the group's next record: a full episode runs, an emission finds no room, or a largest record
of a Triggered group does not fit (R139, R188). -/
def State.noRoom (s : State) (g : Nat) : Bool :=
  let x := s.grp g
  x.isFull || (s.gmode g == 2 && !x.acc.emitWait.isEmpty) || (s.gmode g == 0 && !s.fits g)

/-- A trigger that reaches a group is judged by the group's state, the Eve and the room; a trigger that the Eve refuses does not
count as refused when full (R139, R143). -/
def State.groupTrigger (s : State) (g : Nat) (d : Delivery) : State :=
  let x := s.grp g
  if !s.gArmed g || s.gmode g == 1 then s
  else if x.st = .paused then s.refusePaused g
  else if x.st = .recording || x.st = .rearm then s.deadTrigger g d.instant
  else if s.gmode g == 2 && !x.acc.emitWait.isEmpty && s.emitAllFit g then s.deadTrigger g d.instant
  else match s.eveFor g d with
    | none => s.earlyTrigger g
    | some e => if s.noRoom g then s.fullTrigger g else s.acceptTrigger g d e.1 e.2

/-- GROUP_TRIGGER: the oldest event under way to the group arrives. -/
def execGroupTrigger (dt : Nat) (g : Fin 32) (s : State) : Res :=
  let s := s.start dt
  match takeFor (.group g) s.fabric with
  | none => .next s
  | some (d, rest) => .next (({ s with fabric := rest } : State).groupTrigger g d)

/-! ### The end of a record (R144, R145, R184, R185, R190) -/

/-- The last sample of the record in progress has been taken and has passed the filter, and its Eve has been copied
(R163, steps 3 and 4). -/
def State.captured (s : State) (g : Nat) (c : Cur) : Bool :=
  (s.gmode g == 1 || decide (c.startedAt + c.eveAct * s.delta g ≤ s.ep)) && (s.gchans g).all (fun ch =>
    decide (s.outAt ch c.trig + c.post * max 1 (s.cdelta ch) + s.cdelay ch ≤ s.ep))

/-! ### Refused granules (R149, R184, R203, R204) -/

/-- A refusal at a capture port counted: MEM_REG_DENIED by its reason, and CAPTURE_GAP. -/
def State.countRefusal (s : State) (port : Nat) (queueFull : Bool) : State :=
  let s1 := s.settleTok port
  (({ s1 with short := s1.short.filter (fun p => p != port) } : State).countFld (Reg.memRegDenied port)
    (if queueFull then 31 else 15) (if queueFull then 16 else 0) 1).fault 21 (maskBit port)

/-- A refused record or staging granule: the record is abandoned with a BANDWIDTH gap, and re-arm starts (R149, R184). -/
def State.granuleRefused (s : State) (g port : Nat) (queueFull : Bool) : State :=
  let s1 := (s.beginCause g 1).countRefusal port queueFull
  let y := s1.grp g
  if y.st = .recording then s1.setGrp g { y with st := .rearm, rearmAt := s1.now } else s1

/-- A refused write of the pre-trigger ring restarts V (R142). -/
def State.ringRefused (s : State) (g port : Nat) (queueFull : Bool) : State :=
  let s1 := s.countRefusal port queueFull
  let x := s1.grp g
  s1.setGrp g { x with fillFrom := s1.ep, st := if x.st = .armed then .filling else x.st }

/-- The granules of a record beside its whole payload granules (R204). -/
def Rec.overhead (r : Rec) : Nat := r.granules - r.payload.length / 8

/-- The granules of a record image pass after its last payload granule: the port that refuses one of them or of those before
them (R203, R204). -/
def State.refuser (s : State) (g : Nat) (r : Option Rec) : Option Nat :=
  if s.portRecord g then
    match s.refusedPorts g with
    | p :: _ => some p
    | [] => match r with
      | some x => if s.tok (s.headPort g) < 256 * x.overhead then some (s.headPort g) else none
      | none => none
  else none

/-- Those granules take their tokens. -/
def State.chargeHead (s : State) (g : Nat) (r : Rec) : State :=
  s.setTok (s.headPort g) (s.tok (s.headPort g) - 256 * r.overhead)

/-- The cause that keeps a group from its next record: a power-fail sequence or a stopped bank (R319, R347). -/
def State.stopCause (s : State) (g : Nat) : Option Nat :=
  if s.pfAt.isSome then some 6 else if s.gStopped g then some 9 else none

/-- Re-arm starts, or the group pauses because of a cause that came during its record (R145, R319, R347). -/
def State.startRearm (s : State) (g prevEnd : Nat) : State :=
  let x := s.grp g
  let s1 := s.setGrp g { x with st := if x.st = .paused then .paused else .rearm, rearmAt := s.now,
                                prevEnd := some prevEnd, covered := max x.covered prevEnd }
  match s1.stopCause g with
  | some c => s1.beginCause g c
  | none => s1

/-- A summed record has entered the sums: emission at N or on a FLUSH, then AFTER (R185). -/
def State.afterSum (s : State) (g : Nat) : State :=
  let x := s.grp g
  if accN (s.act (Reg.aqgAccN g)) ≤ x.acc.count ∨ x.acc.flush then
    let n := accN (s.act (Reg.aqgAccN g)) ≤ x.acc.count
    let s1 := s.emitSum g
    if n ∧ s.actf (Reg.aqgAccCtl g) 12 12 = 1 then s1.setGrp g { (s1.grp g) with disarming := true } else s1
  else s

/-- A captured record of an Accumulate group: summed at once in the Tally store, or staged for a fold (R184). -/
def State.sumCaptured (s : State) (g : Nat) (c : Cur) (d : Captured) (prevEnd : Nat) : State :=
  let flags := c.flags + d.flags
  let s1 := (s.setGrp g { (s.grp g) with cur := none }).histCount g c d.vals
  let y := s1.grp g
  if y.acc.place = 1 then
    (((s1.setGrp g { y with acc := y.acc.add c flags d.ovr d.ovrCh d.vals }).histEvery g).afterSum g).startRearm g prevEnd
  else
    let s2 := s1.setGrp g { y with
      prevEnd := some prevEnd, covered := max y.covered prevEnd,
      acc := { y.acc with staged := some ⟨c, flags, d.ovr, d.ovrCh, d.vals⟩, folding := true } }
    { s2 with foldQueue := s2.foldQueue ++ [g] }

/-- A captured data record waits for its commit (R137). -/
def State.dataCaptured (s : State) (g : Nat) (c : Cur) (d : Captured) (r : Rec) (prevEnd : Nat) : State :=
  let s1 := s.chargeHead g r
  let x := s1.grp g
  (((s1.setGrp g { x with cur := none, queue := x.queue ++ [r] }).histCount g c d.vals).histEvery g).startRearm g prevEnd

/-- The end of a segment or record in progress. -/
def State.curEnd (s : State) (g : Nat) (c : Cur) : Nat := c.s0 + c.post * s.delta g

/-- RECORD_CAPTURE_END: the last sample of a Triggered or Accumulate group's record enters the capture port. A record of which
a regulator has refused a granule is abandoned instead (R149, R184). -/
def execRecordCaptureEnd (dt : Nat) (g : Fin 32) (samples : List (List Int)) (s : State) : Res :=
  let s := s.start dt
  match (s.grp g).cur with
  | none => .next s
  | some c =>
    if s.gmode g = 1 ∨ !s.captured g c then .next s
    else
      let t := (s.settlePorts g).takeSamples g c.trig c.eveAct samples
      let r := t.1.dataRec g c t.2
      match t.1.refuser g (if s.gmode g = 2 then none else some r) with
      | some p => .next (t.1.granuleRefused g p false)
      | none =>
        let e := s.curEnd g c
        let s1 := if s.gmode g = 2 then t.1.sumCaptured g c t.2 e else t.1.dataCaptured g c t.2 r e
        .next (if (s1.grp g).disarming then s1.finishDisarm g else s1)

/-- Re-arm has lasted 40 core cycles: the group hands over or can take a trigger (R145, R153). -/
def State.rearmDone (s : State) (g : Nat) : State :=
  let x := s.grp g
  let s1 := (s.setGrp g { x with st := .filling, able := s.ep }).tryHand g false
  s1.fillCheck g

/-- 40 core cycles have passed since re-arm began, in a pause as well (R145, R150). -/
def State.rearmOver (s : State) (g : Nat) : Bool :=
  let x := s.grp g
  s.gmode g != 1 && (x.st == .rearm || x.st == .paused) && decide (x.rearmAt + 40 * cycle ≤ s.now)

/-- A gap that waits for the end of re-arm ends there with its record (R149, R351): the group goes on, unless a pause holds
it. -/
def State.rearmGap (s : State) (g cause : Nat) : State :=
  let s1 := s.endCauseAt g cause s.ep
  if (s.grp g).st = .rearm then s1.rearmDone g else s1

/-- REARM_END (R145). A group that lost its record to bandwidth starts again with its BANDWIDTH record instead, and one
that lost it to an SRAM error writes its SRAM record here (R351). -/
def execRearmEnd (dt : Nat) (g : Fin 32) (s : State) : Res :=
  let s := s.start dt
  if s.rearmOver g ∧ !(s.grp g).pauses.any (fun p => p.cause == 1) then
    (if (s.grp g).pauses.any (fun p => p.cause == 23) then .next (s.rearmGap g 23)
     else if (s.grp g).st = .rearm then .next (s.rearmDone g) else .next s)
  else .next s

/-- The oldest STRUCTURE or RESTART record of a group that has waited for room commits (R33). -/
def State.commitLate (s : State) (g : Nat) : State :=
  match s.lateGaps.find? (fun y => y.2.g == g) with
  | none => s
  | some y =>
    let r := s.spanRec y.2 y.1 y.2.upto (2 * b2n s.unsettled)
    if s.writable && s.roomIn y.2.part r then
      ({ s with lateGaps := s.lateGaps.erase y } : State).commitIn y.2.g y.2.part r else s

/-- RECORD_COMMIT: the oldest captured record of the group commits once the stacks can take it, then the intercalary records
behind it (R137, R199). -/
def execRecordCommit (dt : Nat) (g : Fin 32) (s : State) : Res :=
  let s := s.start dt
  let x := s.grp g
  match x.queue with
  | [] => .next (s.commitLate g)
  | r :: rest =>
    if s.mayCommit g r then .next (((s.setGrp g { x with queue := rest }).commit g r).drain g rest.length) else .next s

/-- AQG_IRQ_GAP_EXPIRY: a held message is sent once the spacing has passed (R163). -/
def execAqgIrqGapExpiry (dt : Nat) (g : Fin 32) (s : State) : Res :=
  let s := s.start dt
  if (s.grp g).irqHeld then .next (s.groupMsg g) else .next s

/-! ### Segments (R131, R139, R149) -/

/-- What follows a segment: IDLE when disarming, a pause, or a hand-over and the next segment. -/
def State.nextSegment (s : State) (g e : Nat) : State :=
  if (s.grp g).disarming then s.toIdle g
  else match s.stopCause g with
  | some c => s.beginCause g c
  | none => s.openSegment g e

/-- A captured segment waits for its commit. -/
def State.segmentCaptured (s : State) (g : Nat) (r : Rec) (e : Nat) : State :=
  let s1 := s.chargeHead g r
  let x := s1.grp g
  s1.setGrp g { x with cur := none, queue := x.queue ++ [r], prevEnd := some e, covered := e }

/-- SEGMENT_BOUNDARY: the segment in progress ends with its samples, or is abandoned where a regulator has refused a granule of
it (R149); a segment that a full episode keeps from starting is refused (R139). -/
def execSegmentBoundary (dt : Nat) (g : Fin 32) (samples : List (List Int)) (s : State) : Res :=
  let s := s.start dt
  match (s.grp g).cur with
  | none => .next (s.countRefused g (s.ep + 1))
  | some c =>
    if s.gmode g = 1 ∧ s.captured g c then
      let t := (s.settlePorts g).takeSamples g c.trig 0 samples
      let r := t.1.dataRec g c t.2
      match t.1.refuser g (some r) with
      | some p => .next (t.1.granuleRefused g p false)
      | none => let e := s.curEnd g c
                .next ((t.1.segmentCaptured g r e).nextSegment g e)
    else .next s

/-- The first segment boundary of a Stream group at or after now, a whole number of segments after `t` (R139, R149). -/
def State.boundaryAfter (s : State) (g t : Nat) : Nat :=
  let d := max 1 (s.post g * s.delta g)
  t + ceilDiv (s.ep - t) d * d

/-- A cause of a hold ends and its record is written; a Stream group starts its next segment at the boundary there. -/
def State.endHold (s : State) (g cause : Nat) : State :=
  let x := s.grp g
  if s.gmode g = 1 then
    let hi := s.boundaryAfter g x.gapFrom
    let s1 := ((if cause = 2 then s.countRefused g hi else s).endCauseAt g cause hi)
    if (s1.grp g).pauses.isEmpty then s1.openSegment g hi else s1
  else s.endCauseAt g cause s.ep

/-- PARTITION_FULL_END (R139). An Accumulate group writes its waiting emission first, and its episode lasts until that is
written (R188); it then goes to IDLE where it is disarming (R185). -/
def execPartitionFullEnd (dt : Nat) (g : Fin 32) (s : State) : Res :=
  let s := s.start dt
  if (s.grp g).isFull then
    if s.gmode g = 2 then
      let s1 := s.tryEmit g 8
      .next (if (s1.grp g).acc.emitWait.isEmpty then
          (let s2 := s1.endHold g 2
           if (s2.grp g).disarming then s2.finishDisarm g else s2)
        else s1)
    else if s.fits g then .next (s.endHold g 2) else .next s
  else .next s

/-- Every regulator of the group holds tokens for a whole segment (R149). -/
def State.segTokens (s : State) (g : Nat) : Bool :=
  let c := max 1 (s.post g * s.delta g / cycle)
  (s.gbanks g).all (fun b =>
    let n := ((s.gchans g).filter (fun ch => ch / 16 == b)).length
    let gr := ceilDiv (s.largest g * n) (max 1 (s.gnch g))
    decide (max 256 (256 * gr - s.rate b * c) ≤ s.tok b))

/-- BANDWIDTH_GAP_END (R149): at the end of re-arm, in a pause as well, or for a Stream group at a segment boundary with tokens
enough. -/
def execBandwidthGapEnd (dt : Nat) (g : Fin 32) (s : State) : Res :=
  let s := s.start dt
  if (s.grp g).pauses.any (fun p => p.cause == 1) then
    if s.gmode g = 1 then (if s.segTokens g then .next (s.endHold g 1) else .next s)
    else if s.rearmOver g then .next (s.rearmGap g 1) else .next s
  else .next s

/-- CAPTURE_GRANULE_REFUSED (R203): only where the port has found TOKENS below 1, or where its queue holds 8192 granules. A
refused record granule abandons its record with a BANDWIDTH gap; a refused pre-trigger ring write (`ring`) restarts V. -/
def execCaptureGranuleRefused (dt : Nat) (g : Fin 32) (port : Fin 16) (how : RefusedAs) (s : State) : Res :=
  let s := s.start dt
  if s.gArmed g ∧ (s.gbanks g).contains port.val
      ∧ (if how.queueFull then s.queueFull port else (s.refusedPorts g).contains port.val) = true then
    if how.ring then (if s.ringWrites g then .next (s.ringRefused g port how.queueFull) else .next s)
    else if s.portRecord g then .next (s.granuleRefused g port how.queueFull) else .next s
  else .next s

/-- PAUSE_END (R150). -/
def execPauseEnd (dt : Nat) (g : Fin 32) (s : State) : Res := .next ((s.start dt).endPauses g)

/-! ### Releases by STEWARD (R138, R319, R363) -/

/-- Releases are held unanswered: during a power-fail sequence and during the pause of an activation. -/
def State.releasesHeld (s : State) : Bool := s.pfAt.isSome || s.updState == 7

/-- The release of AQG_REL_FIRST to AQG_REL_LAST: DONE, or ERR. -/
def State.serveSteward (s : State) (g : Nat) : State :=
  let lo := s.rdq (Reg.aqgRelFirst g) 3 % 2 ^ 72
  let hi := s.rdq (Reg.aqgRelLast g) 3 % 2 ^ 72
  if hi < lo ∨ (s.part (s.gpart g)).seq ≤ hi then s.setBit (Reg.aqgRelCtl g) 2 true
  else match s.release (s.gpart g) lo hi with
    | none => s.setBit (Reg.aqgRelCtl g) 2 true
    | some s1 => s1.setBit (Reg.aqgRelCtl g) 1 true

def State.doRelease (s : State) (g : Nat) : State :=
  if (s.gcfg g).isNone then s
  else if s.releasesHeld then { s with heldSteward := s.heldSteward ++ [g] }
  else s.serveSteward g

/-- STEWARD_RELEASE (R138). -/
def execStewardRelease (dt : Nat) (g : Fin 32) (s : State) : Res := .next ((s.start dt).doRelease g)

/-- The held STEWARD releases are served. -/
def State.serveHeldSteward (s : State) : State :=
  ({ s with heldSteward := [] } : State).forAll s.heldSteward State.serveSteward

/-! ### The end of a reload (R54 step 5, R55) -/

/-- The STRUCTURE record of a group that stopped at T, up to `hi`; one that finds no room waits (R33, R55). -/
def State.structureRec (s : State) (x : GapState) (hi : Nat) : State :=
  let r := s.spanRec x 5 hi (2 * b2n s.unsettled)
  if s.writable && s.roomIn x.part r then s.commitIn x.g x.part r
  else { s with lateGaps := s.lateGaps ++ [(5, { x with upto := hi })] }

/-- The groups that stopped at T when the reload is over: with ALM_CTL.REARM they are re-armed as soon as every bank they cover
is READY, or are refused; without it their STRUCTURE records reach up to T (R54, R55, R75). -/
def State.rearmReloaded (s : State) (giveUp : Bool) : State :=
  if s.reloadRearm then
    s.reloadGaps.foldl (fun s x =>
      let again : Bool := s.bit Reg.almCtl 8 && (s.gcfg x.g).isSome
      if again && s.gNotReady x.g && !giveUp then s
      else
        let ok := again = true ∧ s.armCode x.g = 0
        let s1 := s.structureRec x (if ok then s.ep else x.upto)
        let s2 := { s1 with reloadGaps := s1.reloadGaps.filter (fun y => y.g != x.g) }
        if again then s2.doArm x.g else s2) s
  else s

end Sys2Proof.Machine
end

