-- ==== Sys2Proof/Machine/Reach.lean ====
section
/-! DEFINITION. Who may reach which register (R272, R273, R296, R297, R397), and what a refusal does. -/

namespace Sys2Proof.Machine

/-- HW_TYPE of the device (R391). -/
def hwType : Nat := 0xA256 * 2 ^ 20 + Config.stepLetter.toNat * 2 ^ 16 + Config.stepDigit.toNat * 2 ^ 12

/-- The port index of a requester (R272). A ring requester's writes count against the port they arrive on. -/
def portOf (rq : Requester) (east : Bool) : Nat :=
  match rq with
  | .pf0 => 13
  | .pf1 => 0
  | .smbus => 1
  | .eth o => 2 + o.val
  | .ring _ => if east then 10 else 11

/-- The PRIVILEGE code in force at a port (R45). -/
def State.priv (s : State) (p : Nat) : Nat :=
  match s.alm with
  | none => 0
  | some a => a.privs.getD p 0

/-- A refusal at a port: counted, recorded and raised (R273). -/
def State.refuse (s : State) (p what : Nat) : State :=
  (((s.inc (Reg.prtRefused p)).wr Reg.prtRefusedLast 3 0 p).wr Reg.prtRefusedLast 23 16 what).fault 29 allBanks

/-- The ring position in use (RNG_POS), and whether the unit is a ring member (R42, R279). -/
def State.ringPos (s : State) : Nat := s.rd Reg.rngPos 5 0
def State.ringMember (s : State) : Bool := match s.alm with | some a => a.role == 1 | none => false

/-- The declarations whose arc holds a position, by index. -/
def arcPositions (units first last : Nat) : List Nat :=
  let u := max 1 units
  (List.range ((last + u - first) % u + 1)).map (fun k => (first + k) % u)

def State.arcOfDecl (s : State) (i : Nat) : List Nat :=
  match s.alm with
  | none => []
  | some a => let d := a.decls.getD i (0, 0, 0xFF)
              arcPositions a.units64 d.1 d.2.1

def State.declCount (s : State) : Nat := match s.alm with | some a => a.decls.length | none => 0

/-- The declarations that enclose this unit. -/
def State.enclosing (s : State) : List Nat :=
  (List.range s.declCount).filter (fun i => (s.arcOfDecl i).contains s.ringPos)

/-- The head position of a declaration (R46). -/
def State.headOf (s : State) (i : Nat) : Nat := (s.arcOfDecl i).headD 0

/-- A position is the head of a procession that encloses this unit (R296). A unit that has not taken up its roles accepts
no CONVOY write (R279). -/
def State.isHeadOver (s : State) (pos : Nat) : Bool :=
  s.ringMember && s.bit Reg.rngStatus 1 && s.enclosing.any (fun i => s.headOf i == pos)

/-- The shadowed registers of a group and its control words, by offset in the block (R296). -/
def aqgConvoy (o : Nat) : Bool :=
  o = 0 ∨ o = 4 ∨ o = 0x14 ∨ o = 0x1C ∨ (0x20 ≤ o ∧ o ≤ 0x34) ∨ o = 0x400 ∨ o = 0x408 ∨ (0x500 ≤ o ∧ o ≤ 0x50C)

/-- The registers that CONVOY writes reach, by broadcast write or otherwise (R296, R368, R397). -/
def convoyReach (off : Nat) (broadcast : Bool) : Bool :=
  match blkAt off with
  | some (.hrv, _, _) => true
  | some (.pwr, _, o) => broadcast && (o == 0x10 || o == 0x14 || o == 0x18)
  | some (.alm, _, o) => broadcast && (o == 0 || o == 0x10 || o == 0x14 || o == 0x18)
  | some (.epc, _, o) => broadcast && decide (0x1000 ≤ o ∧ o < 0x3000)
  | some (.cal, _, _) => broadcast && (off == Reg.calDefer || off == Reg.calRun)
  | some (.upd, _, o) => broadcast && (o == 0 || o == 8 || o == 0x20 || o == 0x24 || o == 0x28
      || o == 0x70 || o == 0x74 || o == 0x78 || decide (0x1000 ≤ o ∧ o < 0x2000))
  | some (.bnk, _, o) => broadcast && (o == 0x104 || decide (0x200 ≤ o ∧ o < 0x240) || decide (0x1000 ≤ o ∧ o < 0x1800)
      || decide (0x2000 ≤ o ∧ o < 0x2C00))
  | some (.aqg, _, o) => broadcast && aqgConvoy o
  | some (.memc, _, o) => broadcast && decide (0x100 ≤ o ∧ o < 0x290)
  | _ => false

/-- What becomes of an access. -/
inductive Reach where
  | allowed
  | discarded
  | refused (what : Nat)
  deriving DecidableEq, Repr

/-- The internal reset of R325 is asserted. -/
def State.inReset (s : State) : Bool := s.resetStep == .asserted

/-- Blocks that a power or reset condition leaves within reach (R397). -/
def State.blockOpen (s : State) (rq : Requester) (off : Nat) : Bool :=
  match blkAt off with
  | some (.glb, _, _) => true
  | some (.pwr, _, _) => true
  | some (.flt, _, _) => !s.inReset && !(rq == .smbus && s.power == 3)
  | some (.upd, _, _) => !s.inReset && !(rq == .smbus && s.power == 3)
  | _ => !s.inReset && !s.recovery && !(rq == .smbus && s.power == 3)

/-- A write judged by its requester's class. -/
def State.writeReach (s : State) (rq : Requester) (off : Nat) (broadcast east : Bool) : Reach :=
  match rq with
  | .pf0 => if s.blockOpen rq off then .allowed else .discarded
  | .pf1 => if s.inReset then .discarded else .refused (if s.priv 0 = 1 then 5 else 1)
  | .smbus => .refused (if s.priv 1 = 1 then 5 else 6)
  | .eth o => .refused (if s.priv (2 + o.val) = 1 then 5 else 2)
  | .ring p =>
    if s.inReset then .discarded
    else if s.isHeadOver p.val && s.priv (if east then 10 else 11) != 2 && convoyReach off broadcast then
      (if s.blockOpen rq off then .allowed else .discarded)
    else .refused 7

/-- The demand for Feast that a read, or a write refused, makes: one over PCIe (R311). -/
def State.readDemand (s : State) (rq : Requester) : State :=
  match rq with
  | .pf0 => s.demandExit
  | .pf1 => s.demandExit
  | _ => s

/-- The demand for Feast that a write which is not refused makes: one over PCIe or a CONVOY write (R311). -/
def State.accessDemand (s : State) (rq : Requester) : State :=
  match rq with
  | .smbus => s
  | .eth _ => s
  | _ => s.demandExit

/-- A register write of a requester, applied, discarded or refused. A write that a row names comes from PF0's BAR0 or from
the head's broadcast. -/
def State.hostWrite (s : State) (rq : Requester) (off : Nat) (f : State → Res) : Res :=
  match s.writeReach rq off true true with
  | .allowed => f (s.accessDemand rq)
  | .discarded => .next (s.accessDemand rq)
  | .refused w => .next ((s.readDemand rq).refuse (portOf rq true) w)

/-- A write with a reserved bit set, or of a reserved encoding, is undefined (R11). -/
def guardReserved (bad : Bool) (s : State) : Res := if bad then .fault .reservedValue else .next s

end Sys2Proof.Machine
end

