-- ==== Sys2Proof/Machine/FaultCmds.lean ====
section
/-! DEFINITION. The commands of "Fault collection and escalation" (R341 to R351). -/

namespace Sys2Proof.Machine

/-- The banks an event of a source affects: those named for the sources whose Banks entry is not "all" (R342). -/
def eventBanks (n banks : Nat) : Nat :=
  if (n = 9 ∨ (18 ≤ n ∧ n ≤ 22)) ∧ banks % 2 ^ 16 ≠ 0 then banks % 2 ^ 16 else allBanks

/-- The readback mismatches that an event of LANTERN_READBACK stands for: bit 0 of its mask names LNT0, bit 1 LNT1
(R385). -/
def State.countReadback (s : State) (n banks : Nat) : State :=
  if n = 33 then
    let s1 := if banks.testBit 0 then s.countFld Reg.lntReadbackMiss 15 0 1 else s
    if banks.testBit 1 then s1.countFld Reg.lntReadbackMiss 31 16 1 else s1
  else s

/-- FAULT_EVENT (R341): an event of a source whose cause no other row carries. -/
def execFaultEvent (dt : Nat) (n : Fin 36) (banks : Nat) (s : State) : Res :=
  .next (((s.start dt).countReadback n banks).fault n (eventBanks n banks))

/-- FAULT_WINDOW_EXPIRY (R343): the count of a source that has not reached N returns to 0. -/
def execFaultWindowExpiry (dt : Nat) (n : Fin 36) (s : State) : Res :=
  let s := s.start dt
  if s.rd (Reg.fltSrcCount n) 7 0 ≠ 0 ∧ !s.fltSevere.testBit n ∧ tget s.fltWin 0 n ≤ s.now then
    .next (({ s with fltWin := tdel s.fltWin n, fltBanks := tdel s.fltBanks n } : State).wr (Reg.fltSrcCount n) 7 0 0)
  else .next s

/-- A grace timer runs (R344). -/
def State.graceRuns (s : State) (n : Nat) : Bool := tget s.fltGrace 0 n != 0

/-- GRACE_EXPIRY (R346). -/
def execGraceExpiry (dt : Nat) (n : Fin 36) (s : State) : Res :=
  let s := s.start dt
  if s.graceRuns n ∧ s.cycOf (tget s.fltGrace 0 n) ≤ s.cyc then .next (s.escalate n) else .next s

/-- The stacks that leave self-refresh for a request return after 1 ms without one (R348 step 4). -/
def execSafeHoldStackIdle (dt : Nat) (s : State) : Res :=
  let s := s.start dt
  if s.safeHoldAt.isSome ∧ s.holdDone then
    .next (s.forAll ((List.range 4).filter (fun k => s.rd (Reg.memStatus k) 2 0 == 2 && decide ((s.stack k).lastReq + msec ≤ s.now)))
      (fun s k => ((s.setStack k { (s.stack k) with srFrom := s.now }).wr (Reg.memStatus k) 2 0 3).countFld
        (Reg.memSr k) 15 0 1))
  else .next s

/-- Adoption: of severe sources other than PLL_CORE and TEMP_CRIT, in a core cycle before that in which the grace timer ends (R345). -/
def State.doAdopt (s : State) (v : Nat) : State :=
  s.forAll ((setBits 36 v).filter (fun n => s.fltSevere.testBit n && n != 11 && n != 14 && s.graceRuns n
      && decide (s.cyc < s.cycOf (tget s.fltGrace 0 n))))
    (fun s n => { (s.orFlt Reg.fltAdopt (2 ^ n)) with fltGrace := tdel s.fltGrace n })

/-- FAULT_ADOPT (R345). -/
def execFaultAdopt (dt : Nat) (rq : Requester) (value : Nat) (s : State) : Res :=
  (s.start dt).hostWrite rq Reg.fltAdopt (fun s => guardReserved (decide (2 ^ 36 ≤ value)) (s.doAdopt value))

/-- A W1C write of FLT_STATUS: bits of sources that are not severe clear, and FLT_FIRST is no longer valid when none is
left (R344, R350). -/
def State.doStatusClear (s : State) (v : Nat) : State :=
  let st := s.fltStatus
  let left := st - (st &&& (v &&& (2 ^ 36 - 1 - s.fltSevere)))
  let s1 := s.wrq Reg.fltStatus 2 left
  if left = 0 then s1.setBit Reg.fltFirst 6 false else s1

/-- FAULT_STATUS_CLEAR (R350). -/
def execFaultStatusClear (dt : Nat) (rq : Requester) (value : Nat) (s : State) : Res :=
  (s.start dt).hostWrite rq Reg.fltStatus (fun s => guardReserved (decide (2 ^ 36 ≤ value)) (s.doStatusClear value))

/-! ### SRAM errors (R351) -/

/-- A record lost to an SRAM error: abandoned with a gap of cause 23 up to the end of its re-arm. A Stream group goes on
with its next segment. -/
def State.sramGap (s : State) (g : Nat) : State :=
  let s1 := s.beginCause g 23
  if s1.gmode g = 1 then s1.endPauses g
  else
    let x := s1.grp g
    if x.st = .recording then s1.setGrp g { x with st := .rearm, rearmAt := s1.now } else s1

/-- The record in progress of a group would hold a sample taken at `t`. -/
def State.wouldHold (s : State) (g t : Nat) : Bool :=
  match (s.grp g).cur with
  | none => false
  | some c => decide (c.s0 - c.eveAct * s.delta g ≤ t)

/-- A Tally-held sum with a bad word: discarded, and the SRAM record follows the DISCARD record. -/
def State.tallyBad (s : State) (g : Nat) : State :=
  let x := s.grp g
  if x.acc.place = 1 ∧ x.acc.count ≠ 0 then
    if x.cur.isSome then s.sramGap g
    else (s.discardSum g).writeGap g 23 s.ep s.ep s.tag
  else s

/-- The bytes of a bad word of a local memory: its content is lost and is free. -/
def State.lmemBad (s : State) (e w : Nat) : State :=
  s.forAll ((List.range 8).map (fun i => 32768 * e + 8 * w + i)) (fun s a =>
    let f := s.fresh
    f.2.putLmem a [Config.freeByte f.1])

/-- SRAM_SCRUB (R351). -/
def execSramScrub (dt : Nat) (find : SramFind) (s : State) : Res :=
  let s := s.start dt
  match find with
  | .corrected => .next (s.inc Reg.fltSramCorr)
  | .eve b c t =>
    let s1 := s.fault 9 (maskBit b)
    .next (match s1.groupOfChan (16 * b.val + c.val) with
      | some g => if s1.wouldHold g t then s1.sramGap g else s1
      | none => s1)
  | .tally g => .next ((s.fault 9 allBanks).tallyBad g)
  | .grid g =>
    let s1 := s.fault 9 allBanks
    .next (s1.setGrp g { (s1.grp g) with acc := { (s1.grp g).acc with grid := [], gridCount := 0 } })
  | .lmem e w => .next ((s.fault 9 allBanks).lmemBad e w)
  | .ledger => .next s

end Sys2Proof.Machine
end

