-- ==== Sys2Proof/Machine/Calib.lean ====
section
/-! DEFINITION. Calibration and Seasons (R328 to R340): pending banks, deferral, runs, the interpolation of Seasons and the
trims that a start loads. -/

namespace Sys2Proof.Machine

/-! ### References (R329) -/

/-- The frequency of the skew tone of a mode, in units of 5 GHz ÷ 32; its level is −6 dBFS (R329). -/
def skewTone (mode : Nat) : Nat := if mode = 0 then 15 else if mode = 1 then 55 else 121

/-! ### The content of a Season (R338)

A value of a Season is named by a key: 640 values for each bank and mode, first the four trims of each sub-converter
(offset, gain, skew, threshold), then gain and offset correction of each input and range; the path delays follow. -/

def seasonKey (bank mode item : Nat) : Nat := (bank * 3 + mode) * 640 + item

/-- What a value of a Season is: 0 offset, 1 gain, 2 skew, 3 threshold, 4 a front-end correction, 5 a path delay. -/
def kindOf (key : Nat) : Nat := if 30720 ≤ key then 5 else if 512 ≤ key % 640 then 4 else key % 4

/-- The number of values of a Season. -/
def seasonSize : Nat := 30720 + 256

/-- A value clamped to its field (R67, R338). -/
def clampVal (kind : Nat) (v : Int) : Int :=
  if kind = 0 then clampI (-512) 511 v
  else if kind = 1 then clampI (-2048) 2047 v
  else if kind = 2 then clampI 0 127 v
  else if kind = 3 then clampI 0 63 v
  else v

/-- The nominal value of a trim or correction (R67). -/
def nominalVal (kind : Nat) : Int := if kind = 2 then 64 else if kind = 3 then 32 else 0

/-- A slot is valid. -/
def State.slotValid (s : State) (k : Nat) : Bool := s.bit (Reg.calSeason k) 0

/-- The tag of a slot in units of 0.125 °C. -/
def State.slotTag (s : State) (k : Nat) : Int := signed 12 (s.rd (Reg.calSeason k) 15 4)

/-- A value of a slot: of a factory slot it is not given by the spec. -/
def State.slotVal (s : State) (k key : Nat) : Int :=
  if k < 3 then clampVal (kindOf key) (signed 16 (Config.factorySeason k key).toNat)
  else tget (tget s.seasons [] k) (nominalVal (kindOf key)) key

/-- The valid slots of a list that lie nearest below (or at) and above a temperature. -/
def State.below (s : State) (ks : List Nat) (t : Int) : Option Nat :=
  (ks.filter (fun k => decide (s.slotTag k ≤ t))).foldl (fun m k => match m with
    | none => some k
    | some j => if s.slotTag j < s.slotTag k then some k else some j) none

def State.above (s : State) (ks : List Nat) (t : Int) : Option Nat :=
  (ks.filter (fun k => decide (t < s.slotTag k))).foldl (fun m k => match m with
    | none => some k
    | some j => if s.slotTag k < s.slotTag j then some k else some j) none

/-- The slots whose values an interpolation at a temperature takes: none when no slot is valid. -/
def State.brackets (s : State) (ks : List Nat) (t : Int) : Option (Nat × Nat) :=
  match s.below ks t, s.above ks t with
  | some a, some b => some (a, b)
  | some a, none => some (a, a)
  | none, some b => some (b, b)
  | none, none => none

/-- A value interpolated at a temperature from the valid slots of a list (R338). -/
def State.interp (s : State) (ks : List Nat) (t : Int) (key : Nat) : Int :=
  match s.brackets ks t with
  | none => nominalVal (kindOf key)
  | some (a, b) =>
    if a = b then s.slotVal a key
    else
      let ta := s.slotTag a
      let tb := s.slotTag b
      let va := s.slotVal a key
      clampVal (kindOf key) (roundEven (va * (tb - ta) + (s.slotVal b key - va) * (t - ta)) (tb - ta).toNat)

/-- Every valid slot, and the valid factory slots. -/
def State.validSlots (s : State) : List Nat := (List.range 8).filter s.slotValid
def State.factorySlots (s : State) : List Nat := (List.range 3).filter s.slotValid

/-! ### The working values -/

/-- The tile temperature that calibration uses: CAL_TILE_TEMP of a bank's tile (R330). -/
def State.tileTemp (s : State) (b : Nat) : Int := signed 12 (s.rd (Reg.calTileTemp (b / 4)) 11 0)

/-- Trim registers of sub-converter `k` of bank `b` written. -/
def State.putTrim (s : State) (b k : Nat) (off gain skew thr : Int) : State :=
  (s.put (Reg.bnkTrimA b k) (BitVec.ofNat 32 (unsigned 10 off * 65536 + unsigned 12 gain))).put (Reg.bnkTrimB b k)
    (BitVec.ofNat 32 (unsigned 6 thr * 256 + unsigned 7 skew))

/-- The working value of a key of a running bank. -/
def State.workVal (s : State) (b item : Nat) : Int :=
  if item < 512 then
    let wa := s.get (Reg.bnkTrimA b (item / 4))
    let wb := s.get (Reg.bnkTrimB b (item / 4))
    if item % 4 = 0 then signed 10 (fld wa 25 16)
    else if item % 4 = 1 then signed 12 (fld wa 11 0)
    else if item % 4 = 2 then (fld wb 6 0 : Int)
    else (fld wb 13 8 : Int)
  else tget s.feCorr 0 (b * 128 + (item - 512))

/-- Front-end corrections of a bank set. -/
def State.putCorr (s : State) (b : Nat) (vals : List (Nat × Int)) : State :=
  vals.foldl (fun s x => { s with feCorr := tset s.feCorr 0 (b * 128 + x.1) x.2 }) s

/-- The trims of a bank loaded from the Seasons at its tile temperature (R73 step 4, R331, R338, R339). -/
def State.loadTrims (s : State) (b : Nat) : State :=
  let t := s.tileTemp b
  let ks := s.validSlots
  let m := s.bankMode b
  let v := fun (i : Nat) => s.interp ks t (seasonKey b m i)
  let s1 := (s.keepTrims b).forAll (List.range 128) (fun s k =>
    s.putTrim b k (v (4 * k)) (v (4 * k + 1)) (v (4 * k + 2)) (v (4 * k + 3)))
  let s2 := s1.putCorr b ((List.range 128).map (fun i => (i, v (512 + i))))
  let code := match s.brackets ks t with | none => 0xF | some x => x.1
  let s3 := (s2.wr (Reg.calBankStatus b) 11 7 (2 * code)).wr (Reg.calBankRefTemp b) 11 0 (unsigned 12 t)
  if ks.isEmpty then s3.setBit Reg.calStatus 9 true else s3

/-! ### Pending and deferred banks (R331, R333) -/

/-- A bank's deferral is in force: pending, deferred by software, not forced and not spent. -/
def State.deferred (s : State) (b : Nat) : Bool :=
  let B := s.bankAt b
  B.calSince.isSome && s.bit Reg.calDefer b && !B.calForced && !B.deferSpent

/-- CAL_BANK_STATUS.STATE. -/
def State.calState (s : State) (b : Nat) : Nat :=
  if s.bankMode b = 3 then 4
  else if (s.bankAt b).calibrating then 3
  else if s.deferred b then 2
  else if (s.bankAt b).calSince.isSome then 1
  else 0

/-- CAL_BANK_DEFERRED: the milliseconds deferred so far. -/
def State.deferredMs (s : State) (b : Nat) : Nat :=
  match (s.bankAt b).deferFrom with
  | some t => if s.deferred b then min 32767 ((s.now - t) / msec) else 0
  | none => 0

/-- A bank becomes pending: a bank already pending keeps its instant. -/
def State.becomePending (s : State) (b : Nat) (forced : Bool) : State :=
  let B := s.bankAt b
  let B1 := match B.calSince with
    | some _ => B
    | none => { B with calSince := some s.now, deferSpent := false,
                       deferFrom := if s.bit Reg.calDefer b then some s.now else none }
  (s.setBank b { B1 with calForced := B1.calForced || forced }).setBit Reg.calPending b true

/-- CAL_DELTA and CAL_DEFER_MAX as they act. -/
def State.calDelta (s : State) : Nat := min 80 (max 4 (s.rd Reg.calDelta 6 0))
def State.deferMax (s : State) : Nat := min 30000 (s.rd Reg.calDeferMax 14 0) * msec

/-- Enabled banks whose trims are loaded and whose temperature has moved beyond CAL_DELTA become pending (R331). -/
def State.driftCheck (s : State) (banks : List Nat) : State :=
  if s.bit Reg.calCtl 0 then
    s.forAll (banks.filter (fun b => s.bankMode b != 3 && (s.ready b || !(s.bankAt b).full) && !(s.bankAt b).calibrating))
      (fun s b =>
        let d := s.tileTemp b - signed 12 (s.rd (Reg.calBankRefTemp b) 11 0)
        if (s.calDelta : Int) < d ∨ (s.calDelta : Int) < -d then s.becomePending b false else s)
  else s

/-- TILE_TEMP_SAMPLE (R330, R331, R342): the mean of the last sixteen readings, in units of 0.125 °C. -/
def execTileTempSample (dt : Nat) (t : Fin 4) (raw : Int) (s : State) : Res :=
  let s := s.start dt
  let old := tget s.tileRaw [] t
  let l := (old ++ [raw]).drop ((old.length + 1) - 16)
  let m := roundEven (l.foldl (· + ·) 0) l.length
  let s1 := ({ s with tileRaw := tset s.tileRaw [] t l } : State).wr (Reg.calTileTemp t) 11 0 (unsigned 12 m)
  let was := old.getLastD 0
  let s2 := if 800 < raw ∧ was ≤ 800 then s1.fault 13 allBanks else s1
  let s3 := if 840 < raw ∧ was ≤ 840 then s2.fault 14 allBanks else s2
  .next (s3.driftCheck ((List.range 4).map (fun i => 4 * t.val + i)))

/-- CAL_RUN: enabled banks become pending, and their runs are never deferred. -/
def State.doCalRun (s : State) (banks : Nat) : State :=
  s.forAll ((setBits 16 banks).filter (fun b => s.bankMode b != 3)) (fun s b =>
    ({ s with calAsked := addNew s.calAsked b } : State).becomePending b true)

def execCalRunRequest (dt : Nat) (rq : Requester) (value : Word) (s : State) : Res :=
  (s.start dt).hostWrite rq Reg.calRun (fun s => guardReserved (fld value 31 16 != 0) (s.doCalRun (fld value 15 0)))

/-- CAL_DEFER: a bit set begins the deferral of a bank pending at that moment, a bit cleared ends it for good while the
bank stays pending (R333). -/
def State.doCalDefer (s : State) (v : Nat) : State :=
  let old := s.rd Reg.calDefer 15 0
  (s.forAll (List.range 16) (fun s b =>
    let B := s.bankAt b
    if B.calSince.isNone then s
    else if v.testBit b && !old.testBit b && B.deferFrom.isNone then s.setBank b { B with deferFrom := some s.now }
    else if !v.testBit b && old.testBit b then s.setBank b { B with deferSpent := true }
    else s)).wr Reg.calDefer 15 0 v

def execCalDeferWrite (dt : Nat) (rq : Requester) (value : Word) (s : State) : Res :=
  (s.start dt).hostWrite rq Reg.calDefer (fun s => guardReserved (fld value 31 16 != 0) (s.doCalDefer (fld value 15 0)))

/-- CAL_DEFER_EXPIRY (R333): the bank counts as pending from this instant. -/
def execCalDeferExpiry (dt : Nat) (b : Fin 16) (s : State) : Res :=
  let s := s.start dt
  let B := s.bankAt b
  match B.deferFrom with
  | some t => if s.deferred b ∧ t + s.deferMax ≤ s.now
    then .next (s.setBank b { B with deferSpent := true, calSince := some s.now }) else .next s
  | none => .next s

/-! ### Runs (R332, R334 to R337) -/

/-- ALM_STATUS.STATE: 0 EMPTY, 1 CHECKING, 2 LOADED, 3 SCHEDULED, 4 RELOADING, 5 FAILED. -/
def State.almState (s : State) : Nat := s.rd Reg.almStatus 3 0

/-- The bank whose run starts next (R332). -/
def State.nextRun (s : State) : Option Nat :=
  let able := (List.range 16).filter (fun b => (s.bankAt b).calSince.isSome && !s.deferred b && s.ready b)
  if !s.calModeBanks.isEmpty then
    (let b := s.calModeBanks.foldl min 16
     if able.contains b then some b else none)
  else if s.almState = 3 ∨ s.almState = 4 then none
  else able.foldl (fun m b => match m with
    | none => some b
    | some a => if s.cycOf ((s.bankAt b).calSince.getD 0) < s.cycOf ((s.bankAt a).calSince.getD 0) then some b else some a) none

/-- An activation keeps runs from starting: from 20 ms before a scheduled instant to the end of its pause (R362). -/
def State.runBarred (s : State) : Bool :=
  let st := s.rd Reg.updStatus 3 0
  st == 7 || (match s.actReq with | some a => st == 6 && decide (a.at_ < s.ep + 20 * msec) | none => false)

/-- CAL_RUN_START (R332, R335 step 1): in Feast or Ordinary with no entry in progress, 100 µs after the last run. -/
def execCalRunStart (dt : Nat) (s : State) : Res :=
  let s := s.start dt
  let rested : Bool := match s.calLast with | none => true | some t => decide (t + 100 * usec ≤ s.now)
  if s.calRun.isNone && rested && !s.runBarred && decide (s.power ≤ 1) && s.move == .steady then
    match s.nextRun with
    | none => .next s
    | some b =>
      let B := s.bankAt b
      let s1 := { s with calRun := some ⟨b, s.now, B.calSince.getD s.now, B.calForced⟩ }
      let s2 := (s1.setBank b { B with calibrating := true, calSince := none, calForced := false, deferFrom := none }).setBit
        Reg.calPending b false
      let s3 := ((s2.setBit Reg.calStatus 5 true).wr Reg.calStatus 3 0 b).resetUnits b
      .next (s3.pauseAll (s3.groupsOf b) 3)
  else .next s

/-- The length of a run by mode (R335). -/
def runTicks (mode : Nat) : Nat := if mode = 0 then 4800 * usec else if mode = 1 then 6400 * usec else 9600 * usec

/-- The reference of the plausibility check: the factory Seasons, or the nominal trims (R336). -/
def State.refVal (s : State) (b item : Nat) : Int := s.interp s.factorySlots (s.tileTemp b) (seasonKey b (s.bankMode b) item)

def absDiff (a b : Int) : Nat := (a - b).natAbs

/-- REJECT_CAUSE of a run with the measured trims, 0 when it is accepted (R336). -/
def State.rejectCause (s : State) (b : Nat) (rcalOk toneOk : Bool) (trims : List (List Int)) : Nat :=
  let bad := fun (j lim : Nat) (scale : Nat) => (List.range 128).any (fun k =>
    decide (lim < scale * absDiff ((trims.getD k []).getD j (nominalVal j)) (s.refVal b (4 * k + j))))
  if bad 0 512 1 then 1
  else if bad 1 98304 100 then 2
  else if bad 2 12 1 then 3
  else if !rcalOk then 4
  else if !toneOk then 5
  else 0

/-- The run in progress is over: the chains restart, the groups resume, and a reload's required runs go on. -/
def State.closeRun (s : State) (b : Nat) : State :=
  let s1 := { s with calRun := none, calLast := some s.now, calModeBanks := s.calModeBanks.filter (fun x => x != b) }
  let s2 := (s1.setBank b { (s1.bankAt b) with calibrating := false }).setBit Reg.calStatus 5 false
  let s3 := (s2.restartChains b (List.range 16) s2.ep).resetUnits b
  s3.forAll (s3.groupsOf b) State.endPauses

/-- STATE becomes LOADED when a reload's bank reset is over and no required run is left, whatever runs in other banks (R54
step 5). -/
def State.reloadDone (s : State) : State :=
  if s.almState = 4 ∧ s.calModeBanks.isEmpty then
    ({ (s.wr Reg.almStatus 3 0 2) with reloadRearm := true } : State).rearmReloaded false
  else s

/-- CAL_RUN_END (R335 steps 6 and 7, R336): `trims` holds offset, gain, skew and threshold of each sub-converter as
measured, `corrections` gain and offset of each input and range. -/
def execCalRunEnd (dt : Nat) (rcalOk toneOk : Bool) (trims corrections : List (List Int)) (s : State) : Res :=
  let s := s.start dt
  match s.calRun with
  | none => .next s
  | some r =>
    let b := r.bank
    if r.startAt + runTicks (s.bankMode b) ≤ s.now then
      let cause := s.rejectCause b rcalOk toneOk trims
      let v := fun (k j : Nat) => clampVal j ((trims.getD k []).getD j (nominalVal j))
      let s1 := if cause = 0 then
          ((((s.keepTrims b).forAll (List.range 128) (fun s k => s.putTrim b k (v k 0) (v k 1) (v k 2) (v k 3))).putCorr b
            ((List.range 128).map (fun i => (i, (corrections.getD (i / 8) []).getD (i % 8) 0)))).wr
            (Reg.calBankStatus b) 11 7 17).countFld (Reg.calBankStatus b) 31 16 1
        else ((((s.setBit (Reg.calBankStatus b) 3 true).wr (Reg.calBankStatus b) 6 4 cause).inc Reg.calRejects).fault 18
          (maskBit b))
      let s2 := (s1.wr (Reg.calBankRefTemp b) 11 0 (unsigned 12 (s.tileTemp b))).wrEpoch (Reg.calBankLastAt b) s.ep
      let s3 : State := { s2 with calAsked := s2.calAsked.filter (fun x => x != b) }
      .next (s3.closeRun b).reloadDone
    else .next s

/-- The run in progress ends early with no value changed; its bank becomes pending again with its original instant,
unless a reload takes the bank (R337). -/
def State.abortRun (s : State) (again : Bool) : State :=
  match s.calRun with
  | none => s
  | some r =>
    let s1 := (s.setBit Reg.calStatus 8 true).closeRun r.bank
    if again then
      (({ s1 with calModeBanks := s.calModeBanks } : State).setBank r.bank { (s1.bankAt r.bank) with calSince := some r.since, calForced := r.forced }).setBit
        Reg.calPending r.bank true
    else { s1 with calAsked := s1.calAsked.filter (fun x => x != r.bank) }

/-! ### Seasons in flash (R340) -/

/-- SAVE or ERASE is refused. Without an enabled bank there are no working values to save. -/
def State.seasonRefused (s : State) (slot : Nat) (erase : Bool) : Bool :=
  let bs := (List.range 16).filter (fun b => s.bankMode b != 3)
  let temps := bs.map (fun b => signed 12 (s.rd (Reg.calBankRefTemp b) 11 0))
  let n : Int := temps.length
  let sum := temps.foldl (· + ·) 0
  decide (slot < 3) || s.seasonJob.isSome || s.rd Reg.updFlash 9 0 == 0 || bs.any (fun b => !s.bit (Reg.calBankStatus b) 7)
    || temps.any (fun t => decide (8 * n < n * t - sum ∨ 8 * n < sum - n * t))
    || ((List.range 8).any (fun k => k != slot && s.slotValid k && decide (n ≠ 0)
        && decide (n * s.slotTag k - sum ≤ 16 * n ∧ sum - n * s.slotTag k ≤ 16 * n)))
    || (!erase && temps.isEmpty)

/-- The values that a SAVE writes: the working values, and for what was not run the interpolation at the tag from the
other valid slots. -/
def State.seasonVals (s : State) (slot : Nat) (tag : Int) : Tbl Int :=
  let ks := s.validSlots.filter (fun k => k != slot)
  (List.range seasonSize).filterMap (fun key =>
    let b := key / 640 / 3
    let v := if key < 30720 ∧ s.bankMode b = key / 640 % 3 then s.workVal b (key % 640) else s.interp ks tag key
    if v = nominalVal (kindOf key) then none else some (key, v))

/-- SAVE or ERASE: refused with CMD_ERR, or the write begins. -/
def State.doSeason (s : State) (erase : Bool) : State :=
  let slot := s.rd Reg.calCtl 6 4
  if s.seasonRefused slot erase then s.setBit Reg.calStatus 7 true
  else
    let temps := ((List.range 16).filter (fun b => s.bankMode b != 3)).map (fun b => signed 12 (s.rd (Reg.calBankRefTemp b) 11 0))
    let tag := if temps.isEmpty then 0 else roundEven (temps.foldl (· + ·) 0) temps.length
    ({ s with seasonJob := some ⟨slot, erase, unsigned 12 tag, if erase then [] else s.seasonVals slot tag⟩ } : State).setBit
      Reg.calStatus 6 true

/-- SEASON_SAVE (R340). -/
def execSeasonSave (dt : Nat) (s : State) : Res := .next ((s.start dt).doSeason false)

/-- SEASON_ERASE (R340). -/
def execSeasonErase (dt : Nat) (s : State) : Res := .next ((s.start dt).doSeason true)

/-- A Season write in progress is abandoned: the slot stays as it was (R340). -/
def State.abandonSeason (s : State) : State :=
  if s.seasonJob.isSome then
    (({ s with seasonJob := none } : State).setBit Reg.calStatus 6 false).setBit Reg.calStatus 8 true
  else s

/-- SEASON_WRITE_COMPLETE (R340): the commit word is written, or the write is abandoned. -/
def execSeasonWriteComplete (dt : Nat) (v : Verdict) (s : State) : Res :=
  let s := s.start dt
  match s.seasonJob, v with
  | none, _ => .next s
  | some _, .fail => .next s.abandonSeason
  | some j, .pass =>
    let s1 := { s with seasonJob := none, seasons := tset s.seasons [] j.slot j.vals }
    let s2 := (s1.setBit Reg.calStatus 6 false).countFld (Reg.calSeason j.slot) 31 16 1
    let s3 := if j.erase then s2 else s2.wr (Reg.calSeason j.slot) 15 4 j.tag
    .next ((s3.setBit (Reg.calSeason j.slot) 0 (!j.erase)).setBit Reg.calStatus (16 + j.slot) (!j.erase))

end Sys2Proof.Machine
end

