-- ==== Sys2Proof/Machine/Intervals.lean ====
section
/-! DEFINITION. Interval units (R90 to R100): measurements, statistics, the regression path and its fall-back. -/

namespace Sys2Proof.Machine

/-! ### Settings -/

/-- EPC_IV_TIMEOUT in ticks, 0 meaning 2^36 − 1 core cycles. -/
def State.ivTimeout (s : State) (u : Nat) : Nat :=
  let v := s.rdq (Reg.epcIvTimeout u) 2 % 2 ^ 36
  (if v = 0 then 2 ^ 36 - 1 else v) * cycle

/-- EPC_IV_GATE in core cycles, at least 1250. -/
def State.ivGate (s : State) (u : Nat) : Nat := max 1250 (s.rd (Reg.epcIvGate u) 31 0)

/-- EPC_IV_N, 0 meaning 2^24. -/
def State.ivN (s : State) (u : Nat) : Nat :=
  if s.rd (Reg.epcIvN u) 23 0 = 0 then 2 ^ 24 else s.rd (Reg.epcIvN u) 23 0

/-- EPC_IV_STATUS.STATE: 0 idle, 1 statistics, 2 regression. -/
def State.ivState (s : State) (u : Nat) : Nat := s.rd (Reg.epcIvStatus u) 1 0

/-- Some interval unit runs. -/
def State.ivRuns (s : State) : Bool := (List.range 16).any (fun u => s.ivState u != 0)

/-- The start and stop sources are the same (R91). -/
def State.ivSame (s : State) (u : Nat) : Bool :=
  let k := s.rd (Reg.epcIvSrc u) 14 12
  k == s.rd (Reg.epcIvSrc u) 30 28 && s.rd (Reg.epcIvSrc u) 6 0 == s.rd (Reg.epcIvSrc u) 22 16
    && (decide (2 ≤ k) || s.rd (Reg.epcIvSrc u) 15 15 == s.rd (Reg.epcIvSrc u) 31 31)

/-- A status event bit set, with the unit's message when enabled: DONE 7, FB_ENTERED 8, FIT_READY 9 (R98). -/
def State.ivEvent (s : State) (u evt : Nat) : State :=
  let s := s.setBit (Reg.epcIvStatus u) evt true
  if s.bit (Reg.epcIvCtl u) 20 then s.signal (40 + u) else s

/-- The unit's EVENT of code `code`, when EVT_COND selects it (R98). -/
def State.ivTrigger (s : State) (u code t : Nat) : State :=
  if s.rd (Reg.epcIvCtl u) 18 16 = code then s.deliver (5, u) t false false else s

/-- The least K with count × (GATE ÷ 1250) ÷ 2^K at most 4096, up to 20 (R96). -/
def prescaleFor (count gate : Nat) : Nat :=
  ((List.range 20).find? (fun k => decide (count * gate ≤ 4096 * 2 ^ k * 1250))).getD 20

/-! ### Results -/

/-- The results of a run copied: COUNT, P, SUM, SUMSQ, MIN and MAX, then DONE (R94). -/
def State.ivCopy (s : State) (u : Nat) : State :=
  let x := s.ivAt u
  let n := s.rd (Reg.epcIvCount u) 24 0
  let s1 := (s.put (Reg.epcIvResN u) (BitVec.ofNat 32 n)).wrEpoch (Reg.epcIvPivot u) x.pivot
  let s2 := (s1.wrEpoch (Reg.epcIvSum u) x.sum).wrq (Reg.epcIvSumsq u) 4 x.sumsq
  let s3 := (s2.wrEpoch (Reg.epcIvMin u) x.least).wrEpoch (Reg.epcIvMax u) x.greatest
  (s3.setBit (Reg.epcIvStatus u) 15 s3.unsettled).ivEvent u 7

/-- The accumulators of a fresh run. -/
def IvUnit.cleared (x : IvUnit) : IvUnit :=
  { x with pivot := 0, sum := 0, sumsq := 0, least := 2 ^ 48 - 1, greatest := 0, waitStart := false }

/-- STOP: an open measurement is dropped and the partial results are copied; a gate ends without a fit (R94). -/
def State.ivStop (s : State) (u : Nat) : State :=
  if s.ivState u = 0 then s
  else
    let s1 := if s.ivState u = 1 ∧ !(s.ivAt u).waitStart then s.ivCopy u else s
    (s1.setIv u { (s1.ivAt u) with startAt := none, stops := [], gateFrom := none, counting := false, stamps := [] }).wr
      (Reg.epcIvStatus u) 1 0 0

/-- Every run ends as STOP does, and ABORTED is set (R100). -/
def State.ivAbort (s : State) : State :=
  s.forAll ((List.range 16).filter (fun u => s.ivState u != 0))
    (fun s u => (s.ivStop u).setBit (Reg.epcIvStatus u) 14 true)

/-- A gate opens at instant `t`, after the event count that AUTO asks for (R96). -/
def State.ivOpenGate (s : State) (u t : Nat) (count : Bool) : State :=
  s.setIv u { (s.ivAt u) with startAt := none, stops := [], gateFrom := some t, counting := count, evCount := 0,
                              stamps := [], merged := false }

/-- RUN (R81, R94, R97). -/
def State.doIvRun (s : State) (u : Nat) : State :=
  if !s.counting || !s.bit Reg.epcStatus 1 then s.setBit (Reg.epcIvStatus u) 13 true
  else
    let s1 := ((s.put (Reg.epcIvCount u) 0).put (Reg.epcIvDiscard u) 0).put (Reg.epcIvIgnored u) 0
    let s2 := s1.setIv u { (IvUnit.idle) with recentStart := [], recentStop := [] }
    if s.bit (Reg.epcIvCtl u) 4 then
      let s3 := (s2.wr (Reg.epcIvStatus u) 1 0 2).wr (Reg.epcIvStatus u) 6 4 7
      s3.ivOpenGate u s.ep (s.bit (Reg.epcIvPrescale u) 31)
    else (s2.wr (Reg.epcIvStatus u) 1 0 1).wr (Reg.epcIvStatus u) 6 4 0

/-- IV_RUN. -/
def execIvRun (dt : Nat) (u : Fin 16) (s : State) : Res := .next ((s.start dt).doIvRun u)

/-- IV_STOP. -/
def execIvStop (dt : Nat) (u : Fin 16) (s : State) : Res := .next ((s.start dt).ivStop u)

/-! ### Statistics (R93) -/

/-- One interval contributed: it becomes the pivot of a run that has none, and is counted in SPREAD when it lies 2^42
ticks or more from the pivot. The answer says whether it contributed. -/
def State.ivContribute (s : State) (u x : Nat) : State × Bool :=
  let n := s.rd (Reg.epcIvCount u) 24 0
  let U := s.ivAt u
  if s.ivN u ≤ n then (s, false)
  else
    let p := if n = 0 then x else U.pivot
    let d := ((x : Int) - p).natAbs
    if 2 ^ 42 ≤ d then (s.countFld (Reg.epcIvDiscard u) 31 16 1, false)
    else ((s.setIv u { U with pivot := p, sum := U.sum + x, sumsq := U.sumsq + d * d, least := min U.least x,
                              greatest := max U.greatest x }).put (Reg.epcIvCount u) (BitVec.ofNat 32 (n + 1)), true)

/-- Intervals contributed in order, with those that did contribute. -/
def State.ivContributeAll (s : State) (u : Nat) : List Nat → State × List Nat
  | [] => (s, [])
  | x :: r =>
    let a := s.ivContribute u x
    let b := a.1.ivContributeAll u r
    (b.1, if a.2 then x :: b.2 else b.2)

/-- A run is complete at instant `t`: results, DONE, and the next run or idle (R94). -/
def State.ivComplete (s : State) (u t : Nat) : State :=
  let s1 := (s.ivCopy u).ivTrigger u 5 t
  if s.bit (Reg.epcIvCtl u) 2 then s1.setIv u { (s1.ivAt u) with waitStart := true }
  else s1.wr (Reg.epcIvStatus u) 1 0 0

/-- When the measurement started at `t0` times out. -/
def State.ivEnd (s : State) (u t0 : Nat) : Nat := (t0 + s.ivTimeout u) % 2 ^ 72

/-- A measurement started at `t0` that contributes nothing is counted as a timeout (R92, R93); the EVENT's instant is start +
TIMEOUT (R98). -/
def State.ivDiscard (s : State) (u t0 : Nat) : State :=
  (s.countFld (Reg.epcIvDiscard u) 15 0 1).ivTrigger u 4 (s.ivEnd u t0)

/-- An interval lies outside the limits of its unit. -/
def State.ivOutside (s : State) (u : Nat) (xs : List Nat) : Bool :=
  xs.any (fun x => decide (x < s.rdq (Reg.epcIvLimLo u) 2 % 2 ^ 48 ∨ s.rdq (Reg.epcIvLimHi u) 2 % 2 ^ 48 < x))

/-- The conditions that a closed window with contributed intervals raises. -/
def State.ivEvents (s : State) (u at_ : Nat) (xs : List Nat) : State :=
  let s1 := s.ivTrigger u 1 at_
  if s.ivOutside u xs then s1.ivTrigger u 2 at_ else if xs.isEmpty then s1 else s1.ivTrigger u 3 at_

/-- The run is complete once it holds N intervals. -/
def State.ivCheckDone (s : State) (u at_ : Nat) : State :=
  if s.ivN u ≤ s.rd (Reg.epcIvCount u) 24 0 then s.ivComplete u at_ else s

/-- A measurement closes with its stops: the EVENT's instant is that of the last one, or of the close where a run completes
(R98). -/
def State.ivClose (s : State) (u closed : Nat) : State :=
  let U := s.ivAt u
  let t0 := U.startAt.getD 0
  let xs := U.stops.map (fun t => span72 t0 t % 2 ^ 48)
  let s1 := s.setIv u { U with startAt := none, stops := [], closedAt := some closed }
  let st := s.rd (Reg.epcIvCtl u) 15 12
  let at_ := U.stops.getLastD closed
  if st ≠ 0 ∧ xs.length < st then s1.ivDiscard u t0
  else
    let r := s1.ivContributeAll u (if st = 0 then xs else [xs.getD (st - 1) 0])
    (r.1.ivEvents u at_ r.2).ivCheckDone u closed

/-- The timeout of an open measurement passes: WINDOW closes with its stops, anything else is discarded (R92). -/
def State.ivExpire (s : State) (u : Nat) : State :=
  let U := s.ivAt u
  match U.startAt with
  | none => s
  | some t =>
    let e := s.ivEnd u t
    if s.bit (Reg.epcIvCtl u) 6 ∧ !U.stops.isEmpty then s.ivClose u e
    else (s.setIv u { U with startAt := none, stops := [], closedAt := some e }).ivDiscard u t

/-- The measurement in progress has timed out before instant `t`. -/
def State.ivLate (s : State) (u t : Nat) : State :=
  match (s.ivAt u).startAt with
  | some t0 => if after72 (s.ivEnd u t0) t then s.ivExpire u else s
  | none => s

/-- IV_TIMEOUT. -/
def execIvTimeout (dt : Nat) (u : Fin 16) (s : State) : Res :=
  let s := s.start dt
  match (s.ivAt u).startAt with
  | some t => if s.ivState u = 1 ∧ !after72 s.ep (s.ivEnd u t) then .next (s.ivExpire u) else .next s
  | none => .next s

/-! ### Regression (R96, R97) -/

/-- The fall-back to regression with its FB_CAUSE: the run ends as STOP does (R97). -/
def State.ivFall (s : State) (u cause : Nat) : State :=
  ((s.ivStop u).wr (Reg.epcIvStatus u) 1 0 2).wr (Reg.epcIvStatus u) 6 4 (1 + 2 * cause)

/-- The fall-back on the 16th stop: K is set from those stops, and the gate opens (R97). -/
def State.ivFallStops (s : State) (u : Nat) : State :=
  let s1 := (s.ivFall u 2).wr (Reg.epcIvPrescale u) 4 0 (prescaleFor 16 (s.ivGate u))
  (s1.ivOpenGate u s.ep false).ivEvent u 8

/-- The fall-back on the rate, of the source with the recent events `l`: the count of the 1250 core cycles from the first of
them goes on to its end, where K is set from it and the gate opens, as AUTO does (R96, R97). -/
def State.ivFallRate (s : State) (u : Nat) (l : List Nat) (onStart : Bool) : State :=
  let s1 := (s.ivFall u 1).ivOpenGate u (l.headD s.ep) true
  (s1.setIv u { (s1.ivAt u) with regOnStart := onStart, evCount := l.length }).ivEvent u 8

/-- An event on the source that the regression path stamps. -/
def State.ivStamp (s : State) (u t : Nat) : State :=
  let U := s.ivAt u
  match U.gateFrom with
  | none => s
  | some g =>
    if U.counting then
      (if span72 g t < 1250 * cycle then s.setIv u { U with evCount := U.evCount + 1 } else s)
    else if span72 g t < s.ivGate u * cycle ∧ U.stamps.length < 4096 then
      s.setIv u { U with evCount := U.evCount + 1,
                         stamps := if U.evCount % 2 ^ s.rd (Reg.epcIvPrescale u) 4 0 = 0 then U.stamps ++ [t] else U.stamps }
    else s

/-- Σ (2n − M + 1) t_n over stamps relative to the first. -/
def slopeSum (m : Nat) : Nat → List Nat → Int
  | _, [] => 0
  | n, t :: r => (2 * (n : Int) - m + 1) * t + slopeSum m (n + 1) r

/-- PERIOD in units of 2^−24 tick, rounded half to even, from M stamps k events apart (R96). -/
def fitPeriod (ts : List Nat) (k : Nat) : Nat :=
  let m := ts.length
  (roundEven (6 * slopeSum m 0 ts * 2 ^ 24) (m * (m * m - 1) * k)).toNat

/-- The square of the rms residual in units of 2^−8 tick, as a fraction. -/
def fitResidSq (ts : List Nat) : Nat × Nat :=
  let m : Int := ts.length
  let t : Int := ((ts.map (fun (x : Nat) => (x : Int))).foldl (· + ·) 0)
  let q : Int := ((ts.map (fun (x : Nat) => (x : Int) * (x : Int))).foldl (· + ·) 0)
  let a := slopeSum ts.length 0 ts
  ((2 ^ 16 * ((m * q - t * t) * (m * m - 1) - 3 * a * a)).toNat, (m * m * (m * m - 1)).toNat)

/-- The integer square root, by bits from the top. -/
def isqrt (x : Nat) : Nat → Nat → Nat
  | 0, r => r
  | n + 1, r => if (r + 2 ^ n) * (r + 2 ^ n) ≤ x then isqrt x n (r + 2 ^ n) else isqrt x n r

/-- RESID: the rule does not say how the root is rounded, so the step up from the floor is free. -/
def residOf (free : Bool) (num den : Nat) : Nat :=
  let r := isqrt (num / den) 64 0
  min (2 ^ 32 - 1) (if r * r * den = num then r else r + b2n free)

/-- The gate has closed: the fit, or NO_FIT; a merged event leaves the result undefined (R96). -/
def State.ivFit (s : State) (u closed : Nat) : State :=
  let U := s.ivAt u
  let m := U.stamps.length
  let s1 := if m = 4096 then s.setBit (Reg.epcIvStatus u) 11 true else s
  let s2 := if U.merged then s1.setBit (Reg.epcIvStatus u) 10 true else s1
  let s3 :=
    if m < 3 then s2.setBit (Reg.epcIvStatus u) 12 true
    else
      let f := s2.fresh
      let ts := U.stamps.map (span72 (U.stamps.headD 0))
      let k := s.rd (Reg.epcIvPrescale u) 4 0
      let q := fitResidSq ts
      let period := if U.merged then (Config.freeWide f.1).toNat else fitPeriod ts (2 ^ k)
      let resid := if U.merged then (Config.freeWord f.1).toNat else residOf (Config.freeBit f.1) q.1 q.2
      ((((f.2.wrEpoch (Reg.epcIvPeriod u) period).put (Reg.epcIvResid u) (BitVec.ofNat 32 resid)).put (Reg.epcIvStamps u)
        (BitVec.ofNat 32 (k * 65536 + m))).setBit (Reg.epcIvStatus u) 15 s.unsettled).ivEvent u 9
  let s4 := s3.ivTrigger u 5 closed
  if s.bit (Reg.epcIvCtl u) 2 then s4.ivOpenGate u closed (s.bit (Reg.epcIvPrescale u) 31)
  else (s4.setIv u { (s4.ivAt u) with gateFrom := none }).wr (Reg.epcIvStatus u) 1 0 0

/-- IV_PRESCALE_COUNT_END (R96). -/
def execIvPrescaleCountEnd (dt : Nat) (u : Fin 16) (s : State) : Res :=
  let s := s.start dt
  let U := s.ivAt u
  match U.gateFrom with
  | some t =>
    if s.ivState u = 2 ∧ U.counting ∧ 1250 * cycle ≤ span72 t s.ep then
      let s1 := s.wr (Reg.epcIvPrescale u) 4 0 (prescaleFor U.evCount (s.ivGate u))
      .next (s1.ivOpenGate u ((t + 1250 * cycle) % 2 ^ 72) false)
    else .next s
  | none => .next s

/-- IV_GATE_CLOSE (R96). -/
def execIvGateClose (dt : Nat) (u : Fin 16) (s : State) : Res :=
  let s := s.start dt
  let U := s.ivAt u
  match U.gateFrom with
  | some t =>
    if s.ivState u = 2 ∧ !U.counting ∧ (s.ivGate u * cycle ≤ span72 t s.ep ∨ U.stamps.length = 4096) then
      .next (s.ivFit u ((t + min (s.ivGate u * cycle) (span72 t s.ep)) % 2 ^ 72))
    else .next s
  | none => .next s

/-! ### Events (R91, R97) -/

/-- The recent events of a source with one more, within 1250 core cycles. -/
def recentWith (l : List Nat) (t : Nat) : List Nat := l.filter (fun x => decide (span72 x t < 1250 * cycle)) ++ [t]

/-- A start event: a new measurement, or ignored. With one source for both, an event after the first is a stop. -/
def State.ivStart (s : State) (u t : Nat) : State :=
  let s := s.ivLate u t
  let U := s.ivAt u
  let same := s.ivSame u
  let near : Bool := match U.closedAt with | some c => !after72 ((c + 2 * cycle - 1) % 2 ^ 72) t | none => false
  if U.startAt.isSome then (if same then s else s.countFld (Reg.epcIvIgnored u) 31 0 1)
  else if near then
    (if same && !after72 (U.closedAt.getD 0) t then s else s.countFld (Reg.epcIvIgnored u) 31 0 1)
  else if U.waitStart then
    (s.setIv u { U.cleared with startAt := some t, stops := [] }).put (Reg.epcIvCount u) 0
  else s.setIv u { U with startAt := some t, stops := [] }

/-- A stop event of an open measurement, later than its start. -/
def State.ivStopAt (s : State) (u t : Nat) : State :=
  let s := s.ivLate u t
  let U := s.ivAt u
  match U.startAt with
  | none => s
  | some t0 =>
    if !after72 t0 t then s
    else
      let ss := U.stops ++ [t]
      let s1 := s.setIv u { U with stops := ss }
      if s.bit (Reg.epcIvCtl u) 6 then (if ss.length = 16 then s1.ivFallStops u else s1)
      else if ss.length = max 1 (s.rd (Reg.epcIvCtl u) 11 8) then s1.ivClose u t
      else s1

/-- IV_START_EVENT: the oldest event under way from the start source. -/
def execIvStartEvent (dt : Nat) (u : Fin 16) (s : State) : Res :=
  let s := s.start dt
  match takeFor (.ivStart u) s.fabric with
  | none => .next s
  | some (d, rest) =>
    let s1 := ({ s with fabric := rest } : State)
    let l := recentWith (s1.ivAt u).recentStart d.instant
    let s2 := s1.setIv u { (s1.ivAt u) with recentStart := l }
    if s2.ivState u = 1 then
      (if 200 < l.length ∧ !s2.ivSame u then .next (s2.ivFallRate u l true) else .next (s2.ivStart u d.instant))
    else if s2.ivState u = 2 ∧ (s2.ivAt u).regOnStart then .next (s2.ivStamp u d.instant)
    else .next s2

/-- IV_STOP_EVENT: the oldest event under way from the stop source. -/
def execIvStopEvent (dt : Nat) (u : Fin 16) (s : State) : Res :=
  let s := s.start dt
  match takeFor (.ivStop u) s.fabric with
  | none => .next s
  | some (d, rest) =>
    let s1 := ({ s with fabric := rest } : State)
    let l := recentWith (s1.ivAt u).recentStop d.instant
    let s2 := s1.setIv u { (s1.ivAt u) with recentStop := l }
    if s2.ivState u = 1 then
      (if 200 < l.length then .next (s2.ivFallRate u l false) else .next (s2.ivStopAt u d.instant))
    else if s2.ivState u = 2 ∧ !(s2.ivAt u).regOnStart then .next (s2.ivStamp u d.instant)
    else .next s2

end Sys2Proof.Machine
end

