-- ==== Sys2Proof/Machine/Trigger.lean ====
section
/-! DEFINITION. Trigger units, pins, SOFT, Conjunctions and TRIG_OUT (R101 to R130): one meaning for each command of the
trigger family. -/

namespace Sys2Proof.Machine

/-! ### Holdoff and the one event per cycle (R109, R110) -/

/-- What becomes of a detection. -/
inductive Passes where
  | fires
  | held
  | merged
  deriving DecidableEq, Repr

/-- A detection in core cycle `cy` judged by holdoff and by the cycle of the last event put out. -/
def judge (mode time cy : Nat) (firedAt : Option Nat) (left : Nat) (lastOut : Option Nat) : Passes :=
  let byTime := match firedAt with | some c => decide (cy < c + time) | none => false
  let byCount := firedAt.isSome && decide (0 < left)
  let stop := if mode = 0 then false else if mode = 1 then byTime else if mode = 2 then byCount else byTime || byCount
  if stop then .held else if lastOut = some cy then .merged else .fires

/-- HOLD_TIME, 0 acting as 2^36 − 1, and HOLD_COUNT, 0 meaning 2^24. -/
def holdTime (v : Nat) : Nat := if v % 2 ^ 36 = 0 then 2 ^ 36 - 1 else v % 2 ^ 36
def holdCount (v : Nat) : Nat := if v % 2 ^ 24 = 0 then 2 ^ 24 else v % 2 ^ 24

/-- A detection merged into the event of its source that is already under way: the earliest instant is kept, with its marker, on
every way the event has taken; a ring line that has carried it is told of the earlier instant (R110, R117; log entries 100,
110). -/
def State.mergeInto (s : State) (src : Nat × Nat) (old t : Nat) (ring : Bool) : State :=
  let lines := s.linesOf src
  let mine := fun (d : Delivery) => d.src == src || (d.src.1 == 4 && lines.contains d.src.2 && !d.ring)
  let s1 := { s with fabric := s.fabric.map (fun d =>
    if mine d && d.instant == old then d.earliest t (if d.src == src then ring else false) else d) }
  if t < old then lines.foldl (fun s l => s.sendTrig l t) s1 else s1

/-- A detection of trigger unit `u` with trigger instant `t`, detected at instant `at_` (R104, R109, R110). -/
def State.unitDetect (s : State) (u t at_ : Nat) : State :=
  let b := u / 8
  let i := u % 8
  let cy := at_ / cycle
  let U := s.trigAt u
  match judge (s.actf (Reg.bnkTrgCtl b i) 13 12) (holdTime (s.act36 (Reg.bnkTrgHoldTime b i))) cy U.firedAt U.holdLeft
      U.lastOut with
  | .held => (s.setTrig u { U with holdLeft := U.holdLeft - 1 }).inc (Reg.bnkTrgHeld b i)
  | .merged =>
    let old := s.rdq (Reg.bnkTrgLast b i) 3
    ((((s.ivMerge 2 u none).mergeInto (0, u) old t false).wrEpoch (Reg.bnkTrgLast b i) (min old t)).inc (Reg.bnkTrgMerged b i)).fault 20
      (maskBit b)
  | .fires =>
    let s1 := s.setTrig u { U with firedAt := some cy, holdLeft := holdCount (s.actf (Reg.bnkTrgHoldCount b i) 23 0),
                                   lastOut := some cy }
    let s2 := (s1.count (Reg.bnkTrgFired b i) 2 36 1).wrEpoch (Reg.bnkTrgLast b i) t
    (s2.deliver (0, u) t false false).enqueue (s2.ivConsumers 2 u none) (0, u) t false false

/-! ### Detection (R102 to R106) -/

/-- The instant of a crossing of level `L` between a sample `x0` at `t` − `d` and `x1` at `t`: where the band-limited
reconstruction over the samples `w` is monotonic, where that equals `L`, which the spec's words leave open for want of the
interpolator's kernel; elsewhere by linear interpolation, to the nearest tick, ties to even (R106; log entry 20). -/
def crossAt (w : List Int) (d t : Nat) (L x0 x1 : Int) : Nat :=
  t - d + (if Config.monotonic w then Config.crossing w L d % (d + 1)
    else if x0 = x1 then d
    else (roundEven (d * (L - x0).natAbs) (x1 - x0).natAbs).toNat)

/-- The settings of a trigger unit that the detection reads. -/
structure UnitSet where
  type : Nat
  slope : Nat
  cond : Nat
  a : Int
  b : Int
  h : Int
  t1 : Nat
  t2 : Nat

/-- SLOPE as it acts: how 2 acts in a type whose row of R104 names only 0 and 1 is open (log entry 95). -/
def slopeFor (type sl : Nat) : Nat := if sl = 2 ∧ 3 ≤ type ∧ type ≤ 5 then b2n (Config.slopeTwo type) else sl

def State.unitSet (s : State) (u : Nat) : UnitSet :=
  let o := Reg.bnkTrgCtl (u / 8) (u % 8)
  { type := s.actf o 3 0, slope := slopeFor (s.actf o 3 0) (s.actf o 5 4), cond := s.actf o 9 8, a := s.levelA u, b := s.levelB u,
    h := s.hyst u, t1 := s.act36 (Reg.bnkTrgT1 (u / 8) (u % 8)) % 2 ^ 36 * 64,
    t2 := s.act36 (Reg.bnkTrgT2 (u / 8) (u % 8)) % 2 ^ 36 * 64 }

/-- COND of a span `d` (R104). -/
def UnitSet.meets (p : UnitSet) (d : Nat) : Bool :=
  if p.cond = 0 then d < p.t1 else if p.cond = 1 then p.t1 < d
  else if p.cond = 2 then p.t1 ≤ d && d ≤ p.t2 else d < p.t1 || p.t2 < d

/-- The limit at which a span that has not ended is detected: T1 for MORE, T2 for OUTSIDE. -/
def UnitSet.limit (p : UnitSet) : Option Nat := if p.cond = 1 then some p.t1 else if p.cond = 3 then some p.t2 else none

/-- BAD_LEVELS: a type that needs LEVEL_B < LEVEL_A while the active levels break that order (R103). -/
def UnitSet.bad (p : UnitSet) : Bool := (p.type = 2 || p.type = 4 || p.type = 5) && decide (p.a ≤ p.b)

/-- The crossings that a sample completes, and the arming after it (R102). -/
structure Cross where
  riseA : Bool
  fallA : Bool
  riseB : Bool
  fallB : Bool

def crossings (p : UnitSet) (U : TrigUnit) (x : Int) : Cross :=
  ⟨U.armRiseA && decide (p.a ≤ x), U.armFallA && decide (x < p.a), U.armRiseB && decide (p.b ≤ x),
    U.armFallB && decide (x < p.b)⟩

def rearmed (p : UnitSet) (U : TrigUnit) (c : Cross) (x : Int) : TrigUnit :=
  { U with
    armRiseA := (U.armRiseA && !c.riseA) || decide (x < p.a - p.h)
    armFallA := (U.armFallA && !c.fallA) || decide (p.a + p.h ≤ x)
    armRiseB := (U.armRiseB && !c.riseB) || decide (x < p.b - p.h)
    armFallB := (U.armFallB && !c.fallB) || decide (p.b + p.h ≤ x)
    last := some x }

/-- The stuck condition of R111 for a sample: none for the types that are never stuck. -/
def UnitSet.active (p : UnitSet) (x : Int) (pat : Bool) : Option Bool :=
  if p.type = 1 then (if p.slope = 0 then some (decide (p.a ≤ x)) else if p.slope = 1 then some (decide (x < p.a)) else none)
  else if p.type = 2 then
    (if p.slope = 0 then some (decide (p.b ≤ x ∧ x < p.a))
     else if p.slope = 1 then some (decide (x < p.b ∨ p.a ≤ x)) else none)
  else if p.type = 7 then some pat
  else none

/-- Whether a slope selects rising and falling crossings (0 rising, 1 falling, 2 either). -/
def wantsRise (sl : Nat) : Bool := sl != 1
def wantsFall (sl : Nat) : Bool := sl != 0

/-- The detection point of a span from `st` that a crossing at `tc` ends (R104): a limit that it passed before is the earlier
point. -/
def UnitSet.point (p : UnitSet) (st tc : Nat) : Nat :=
  if p.type = 4 then tc
  else if p.cond = 1 then st + p.t1
  else if p.cond = 3 ∧ p.t2 < tc - st then st + p.t2
  else tc

/-- What a sample does to a span of the time-qualified and runt types, with the instants of its crossings of LEVEL_A and LEVEL_B:
the start and detection point of a span that fires, the span that goes on, and whether that has been detected at its limit. Of SLEW
one sample may cross both levels. -/
def spanStep (p : UnitSet) (c : Cross) (ta tb : Nat) (span : Option Nat) (fired : Bool) :
    Option (Nat × Nat) × Option Nat × Bool :=
  let up := p.slope = 0
  let first := if p.type = 3 then (if up then c.riseA else c.fallA)
    else if p.type = 4 ∨ p.type = 5 then (if up then c.riseB else c.fallA)
    else (wantsRise p.slope && c.riseA) || (wantsFall p.slope && c.fallA)
  let second := if p.type = 3 then (if up then c.fallA else c.riseA)
    else if p.type = 4 then (if up then c.fallB else c.riseA)
    else if p.type = 5 then (if up then c.riseA else c.fallB)
    else first
  let drop := if p.type = 4 then (if up then c.riseA else c.fallB)
    else if p.type = 5 then (if up then c.fallB else c.riseA) else false
  let t1 := if (p.type = 4 ∨ p.type = 5) ∧ up then tb else ta
  let t2 := if p.type = 4 then (if up then tb else ta) else if p.type = 5 then (if up then ta else tb) else ta
  let hit := fun (st : Nat) => if p.meets (t2 - st) then some (st, p.point st t2) else none
  match span with
  | some st =>
    if second then
      (if p.type = 4 then (if drop then none else some (st, t2)) else if fired then none else hit st,
        if p.type = 6 then some t2 else none, false)
    else if drop then (none, none, false)
    else (none, some st, fired)
  | none =>
    if !first || (drop && p.type == 4) then (none, none, false)
    else if p.type = 5 ∧ second = true then (hit t1, none, false)
    else (none, some t1, false)

/-- One output of a stream as a trigger unit takes it: its instant, its channel index, its value, and the window of values around
it (R101, R106). -/
structure Seen where
  at_ : Nat
  chan : Nat
  val : Int
  win : List Int
  deriving DecidableEq, Repr

/-- One sample of a single-channel type, spacing `d`. -/
def State.unitSample (s : State) (u d : Nat) (y : Seen) : State :=
  let p := s.unitSet u
  let U := s.trigAt u
  let x := y.val
  let t := y.at_
  let c := crossings p U x
  let U1 := rearmed p U c x
  let was := U.last.getD x
  let ta := if c.riseA || c.fallA then crossAt y.win d t p.a was x else t
  let tb := if c.riseB || c.fallB then crossAt y.win d t p.b was x else t
  let act := p.active x false
  let since := match act with | some true => some (U.activeSince.getD t) | _ => none
  let U2 := { U1 with activeSince := since }
  if p.bad || p.type = 0 || 8 ≤ p.type then s.setTrig u U2
  else if p.type = 1 then
    let s1 := s.setTrig u U2
    if (wantsRise p.slope && c.riseA) || (wantsFall p.slope && c.fallA) then s1.unitDetect u ta ta else s1
  else if p.type = 2 then
    let s1 := s.setTrig u U2
    let enter := (c.riseB && decide (x < p.a)) || (c.fallA && decide (p.b ≤ x))
    let exit_ := (c.riseA && decide (p.b ≤ was)) || (c.fallB && decide (was < p.a))
    let tc := if (enter && c.riseB) || (exit_ && c.fallB) then tb else ta
    if (p.slope != 1 && enter) || (p.slope != 0 && exit_) then s1.unitDetect u tc tc else s1
  else
    let r := spanStep p c ta tb U.span U.spanFired
    let s1 := s.setTrig u { U2 with span := r.2.1, spanFired := r.2.2 }
    let s2 := match r.1 with
      | some f => s1.unitDetect u f.1 f.2
      | none => s1
    match r.2.1, p.limit with
    | some st, some lim =>
      if p.type ≠ 4 ∧ !r.2.2 ∧ st + lim < t then
        let s3 := s2.unitDetect u st (st + lim)
        s3.setTrig u { (s3.trigAt u) with spanFired := true }
      else s2
    | _, _ => s2

/-- The condition of one channel of a pattern after a sample, from what it was before (R105). -/
def patCond (p : UnitSet) (code : Nat) (was : Bool) (x : Int) : Bool :=
  if code = 1 then decide (p.a ≤ x) || (was && decide (p.a - p.h ≤ x))
  else if code = 2 then decide (x < p.b) || (was && decide (x < p.b + p.h))
  else true

/-- The code of a channel index in BNK_TRG_PATTERN: 1 at or above LEVEL_A, 2 below LEVEL_B, else "don't care" (R105). -/
def State.patCode (s : State) (u i : Nat) : Nat :=
  let v := fld (s.act (Reg.bnkTrgPattern (u / 8) (u % 8))) (2 * i + 1) (2 * i)
  if v = 3 then 0 else v

/-- What one output does to a pattern: the mask of conditions met, and where its condition becomes true, the crossing instant, none
where no earlier output stands before it (R105). -/
def State.patStep (s : State) (u d : Nat) (U : TrigUnit) (y : Seen) : TrigUnit × Option (Option Nat) :=
  let p := s.unitSet u
  let code := s.patCode u y.chan
  let had := U.pattern.testBit y.chan
  let has := patCond p code had y.val
  let before := (U.lasts.find? (fun q => q.1 == y.chan)).map (fun q => q.2)
  let U1 := { U with pattern := U.pattern - b2n had * 2 ^ y.chan + b2n has * 2 ^ y.chan
                     lasts := (y.chan, y.val) :: U.lasts.filter (fun q => q.1 != y.chan) }
  (U1, if has && !had then some (before.map (fun x => crossAt y.win d y.at_ (if code = 1 then p.a else p.b) x y.val)) else none)

/-- The outputs of one instant of the channels that a PATTERN unit cares for, with the output spacing of each: the pattern fires
where crossings complete it, at the latest of them (R105). -/
def State.patternAt (s : State) (u t : Nat) (ys : List (Nat × Seen)) : State :=
  let r := ys.foldl (fun (acc : TrigUnit × List (Option Nat)) y =>
    let z := s.patStep u y.1 acc.1 y.2
    (z.1, match z.2 with | some o => acc.2 ++ [o] | none => acc.2)) (s.trigAt u, [])
  let cares := (liveIdx (s.bankMode (u / 8))).filter (fun i => s.patCode u i != 0)
  let ok := !cares.isEmpty && cares.all (fun i => r.1.pattern.testBit i)
  let since := if ok then some (r.1.activeSince.getD t) else none
  let fires := ok && !r.1.patternTrue && !r.2.isEmpty && r.2.all Option.isSome
  let s1 := s.setTrig u { r.1 with patternTrue := ok, activeSince := since }
  let at_ := (r.2.filterMap id).foldl max 0
  if fires then s1.unitDetect u at_ at_ else s1

/-- The value a unit sees of an output: of a PEAK pair the minimum or the maximum (R178). -/
def seenValue (p : UnitSet) (raw : Bool) (fs : Nat) (x : Int) : Int :=
  if fs = 2 ∧ raw = false then
    (if (p.type = 1 ∨ p.type = 6) ∧ p.slope = 1 then signed 18 (x.toNat % 2 ^ 18) else signed 18 (x.toNat / 2 ^ 18))
  else x

/-- The window of the eight samples n − 4 to n + 3 of a run, as far as the run holds them (R106). -/
def windowAt (xs : List Int) (n : Nat) : List Int := (xs.drop (n - 4)).take (min n 4 + 4)

/-- The outputs that the inputs `vins` of a channel give from the first at or after `first` in the stream of a unit: the clamped
samples, or the valid outputs of the bank's filter engine, whose instants have FILT_DELAY taken off (R101, R107, R174, R175). What
they count is counted (R62, R177). -/
def State.streamRun (s : State) (u c first : Nat) (vins : List Int) : State × List Seen :=
  let raw := s.rawUnit u
  let d := if raw then spacing (s.bankMode (c / 16)) else max 1 (s.cdelta c)
  let t0 := if raw then gridUp 0 d first else s.outAt c first
  let cut := if raw then s.samples c d t0 vins else []
  let data := s.capture c t0 (if raw then [] else vins)
  let xs := (if raw then cut.map (fun x => x.1) else data.vals).map (seenValue (s.unitSet u) raw (s.cfs c))
  let ys := xs.zipIdx.map (fun x => (⟨t0 + x.2 * d, c % 16, x.1, windowAt xs x.2⟩ : Seen))
  let from_ := if raw then 0 else (s.bankAt (c / 16)).restartAt.getD (c % 16) 0 + s.cdelay c
  (if raw then s.countOvr c t0 d (cut.map (fun x => x.2)) else s.countData c t0 data,
    ys.filter (fun y => decide (from_ ≤ y.at_)))

/-- The outputs of several channels in instant order, with the output spacing of each. -/
def inOrder (x : Nat × Seen) : List (Nat × Seen) → List (Nat × Seen)
  | [] => [x]
  | y :: r => if x.2.at_ < y.2.at_ then x :: y :: r else y :: inOrder x r

/-- Outputs in instant order, gathered by instant. -/
def byInstant : List (Nat × Seen) → List (Nat × List (Nat × Seen))
  | [] => []
  | x :: r => match byInstant r with
    | (t, ys) :: q => if t = x.2.at_ then (t, x :: ys) :: q else (x.2.at_, [x]) :: (t, ys) :: q
    | [] => [(x.2.at_, [x])]

/-- The spacing of the outputs of a unit's stream of channel `c`. -/
def State.seenDelta (s : State) (u c : Nat) : Nat := if s.rawUnit u then spacing (s.bankMode (c / 16)) else max 1 (s.cdelta c)

/-- A run of a unit's stream: the outputs of its own channel one after the other, or for PATTERN those of every live channel that it
cares for, at each instant at which one has an output. -/
def State.unitRun (s : State) (u first : Nat) (vins : List (List Int)) : State :=
  let chans := (liveIdx (s.bankMode (u / 8))).map (fun i => 16 * (u / 8) + i)
  if (s.unitSet u).type = 7 then
    let r := (chans.zip vins).foldl (fun (acc : State × List (Nat × Seen)) x =>
      let z := acc.1.streamRun u x.1 first x.2
      (z.1, if s.patCode u (x.1 % 16) = 0 then acc.2
        else z.2.foldl (fun l y => inOrder (s.seenDelta u x.1, y) l) acc.2)) (s, [])
    (byInstant r.2).foldl (fun s x => s.patternAt u x.1 x.2) r.1
  else
    let c := (s.unitChan u).getD 0
    let r := s.streamRun u c first (vins.getD 0 [])
    r.2.foldl (fun s y => s.unitSample u (s.seenDelta u c) y) r.1

/-- A trigger unit sees its stream: it is declared, its bank delivers and is not calibrating, its input does not settle and the
fabric runs (R123, R129). Of a PATTERN unit only its own input's settling counts (log entry 111). -/
def State.unitSees (s : State) (u : Nat) : Bool :=
  match s.alm with
  | none => false
  | some a => match (a.units[u]?).join with
    | none => false
    | some c => s.ready (u / 8) && !(s.bankAt (u / 8)).calibrating && !s.settling (16 * (u / 8) + c.channel) && s.fabricRuns

/-- The unit is masked (R111). -/
def State.unitMasked (s : State) (u : Nat) : Bool := s.bit (Reg.bnkTrgStatus (u / 8) (u % 8)) 1

/-- A trigger unit detects: it sees its stream and is not masked. -/
def State.unitWatches (s : State) (u : Nat) : Bool := s.unitSees u && !s.unitMasked u

/-- TRIGGER_UNIT_FIRE: a run of the unit's stream from the first output at or after instant `first`, as the inputs of the samples
it spans: of the unit's channel, or for PATTERN of each live channel of the bank. A masked unit detects nothing and still follows its
condition (R111); where a unit does not see its stream its detection state is reset (R124). -/
def execTriggerUnitFire (dt : Nat) (b : Fin 16) (k : Fin 8) (first : Nat) (vins : List (List Int)) (s : State) : Res :=
  let s := s.start dt
  let u := 8 * b.val + k.val
  if s.unitSees u then
    let s1 := s.unitRun u first vins
    .next (if s.unitMasked u then s.setTrig u (s1.trigAt u) else s1)
  else .next (s.resetUnit u)

/-- The stuck limit in ticks (R114). -/
def State.stuckLimit (s : State) : Nat := min 10000000 (max 1 (s.rd Reg.epcTrgStuckLimit 23 0)) * usec

/-- TRIGGER_UNIT_STUCK: a unit with STUCK_EN whose condition has stayed active beyond the limit is masked (R111). -/
def execTriggerUnitStuck (dt : Nat) (b : Fin 16) (i : Fin 8) (s : State) : Res :=
  let s := s.start dt
  let u := 8 * b.val + i.val
  match (s.trigAt u).activeSince with
  | none => .next s
  | some t =>
    if s.unitWatches u ∧ s.actf (Reg.bnkTrgCtl b i) 16 16 = 1 ∧ t + s.stuckLimit < s.ep then
      let s1 := (s.setBit (Reg.bnkTrgStatus b i) 1 true).countFld (Reg.bnkTrgStatus b i) 31 16 1
      .next (s1.fault 19 (maskBit b))
    else .next s

/-- UNMASK of a unit: it ends a masking whose condition is no longer active, and the unit starts disarmed (R111). -/
def State.doTrgUnmask (s : State) (b i : Nat) : State :=
  let u := 8 * b + i
  if s.bit (Reg.bnkTrgStatus b i) 1 ∧ (s.trigAt u).activeSince = none then
    (s.setBit (Reg.bnkTrgStatus b i) 1 false).resetUnit u
  else s

def execTrgUnmask (dt : Nat) (b : Fin 16) (i : Fin 8) (s : State) : Res := .next ((s.start dt).doTrgUnmask b i)

/-- CLR of a unit: FIRED, HELD, MERGED and STUCK_COUNT (R121). -/
def State.doTrgClr (s : State) (b i : Nat) : State :=
  (((s.wrq (Reg.bnkTrgFired b i) 2 0).put (Reg.bnkTrgHeld b i) 0).put (Reg.bnkTrgMerged b i) 0).wr
    (Reg.bnkTrgStatus b i) 31 16 0

def execTrgClr (dt : Nat) (b : Fin 16) (i : Fin 8) (s : State) : Res := .next ((s.start dt).doTrgClr b i)

/-! ### Pins (R112 to R114, R129) -/

/-- The source kind and index of EPC_IV_SRC for a pin. -/
def pinIv (p : Nat) : Nat × Nat := if p < 8 then (0, p) else (1, p - 8)

/-- The level that is active at a pin. -/
def State.activeLevel (s : State) (p : Nat) : Bool := !s.bit (Reg.epcPinCtl p) 0

/-- The pin is at its active level (EPC_PIN_STAT.ACTIVE). -/
def State.pinActive (s : State) (p : Nat) : Bool := s.bit (Reg.epcPinStat p) 1 == s.activeLevel p

/-- The first edge into the active level at a wake pin of a sleeping device demands an exit and is kept as an EXT event; further
ones are merged into it (R129). -/
def State.wakeEvent (s : State) (p t : Nat) : State :=
  if (List.range 4).any (fun k => (s.pinAt (8 + k)).wakeKept.isSome) then s.inc (Reg.epcPinMerged p)
  else ((s.setPin p { (s.pinAt p) with wakeKept := some t }).inc (Reg.epcPinEvents p)).demandExit

/-- The Epoch that a wake edge in Fallow is stamped with: the always-on copy in whole always-on cycles, with the error of R86: one
tick, or up to 2 % of the time spent where the copy has run from the RC oscillator (R129). -/
def State.aonStamp (s : State) : Nat × State :=
  let f := s.fresh
  let el := (s.now - s.aonAt) / usec * usec
  let bound := if s.aonRc then el / 50 + 1 else 1
  ((s.aonEpoch.toNat + el + 2 ^ 72 + (Config.freeWide f.1).toNat % (2 * bound + 1) - bound) % 2 ^ 72, f.2)

/-- An edge at a pin to `level`, stamped `t`: it reaches the interval units of its direction, and an edge into the
active level of a TRIG_IN pin is an EXT event. Edges of one direction in one core cycle of the Epoch are merged (R112, R113). In
Fast it only reaches interval units, but for a wake pin; in Fallow only a wake pin is watched (R129). -/
def State.pinEdge (s : State) (p : Nat) (level : Bool) (t : Nat) : State :=
  let x := s.pinAt p
  let s1 := s.setBit (Reg.epcPinStat p) 1 level
  let into := level == s.activeLevel p
  let same := if level then x.lastRise == some (t / cycle) else x.lastFall == some (t / cycle)
  let x1 := { x with
    activeSince := if into then some s.now else none
    lastRise := if level then some (t / cycle) else x.lastRise
    lastFall := if level then x.lastFall else some (t / cycle) }
  let s2 := s1.setPin p x1
  let k := pinIv p
  let dir := if level then 0 else 1
  if s.bit (Reg.epcPinStat p) 2 then s2
  else if s.power ≤ 1 then
    if same then ((s2.ivMerge k.1 k.2 (some dir)).inc (Reg.epcPinMerged p)).fault 20 allBanks
    else
      let s3 := s2.enqueue (s2.ivConsumers k.1 k.2 (some dir)) (2, p) t false false
      if into then
        let s4 := s3.inc (Reg.epcPinEvents p)
        if 8 ≤ p then s4.deliver (2, p - 8) t false false else s4
      else s3
  else
    let s3 := if s.power ≠ 2 then s2
      else if same then s2.ivMerge k.1 k.2 (some dir)
      else s2.enqueue (s2.ivConsumers k.1 k.2 (some dir)) (2, p) t false false
    if into && decide (8 ≤ p) && s.bit (Reg.epcPinCtl p) 4 then s3.wakeEvent p t else s3

/-- EXT_PIN_EDGE: the pin's level becomes `level`, `ago` ticks before now; in Fallow it is stamped by the always-on copy. Whether a pulse shorter than 200 ps is taken,
and its stamp, is undefined: both are free (R112). -/
def execExtPinEdge (dt : Nat) (pin : Fin 12) (level : Bool) (ago : Nat) (short : Bool) (s : State) : Res :=
  let s := s.start dt
  if short then
    let f := s.fresh
    if Config.freeBit f.1 then .next (f.2.pinEdge pin level (Config.freeWide f.1).toNat) else .next f.2
  else if s.power = 3 then
    let f := s.aonStamp
    .next (f.2.pinEdge pin level f.1)
  else .next (s.pinEdge pin level (s.before ago))

/-- PIN_STUCK: a pin with STUCK_EN held active beyond the limit is masked (R114). -/
def execPinStuck (dt : Nat) (pin : Fin 12) (s : State) : Res :=
  let s := s.start dt
  match (s.pinAt pin).activeSince with
  | none => .next s
  | some t =>
    if s.bit (Reg.epcPinCtl pin) 1 ∧ s.pinActive pin ∧ !s.bit (Reg.epcPinStat pin) 2 ∧ t + s.stuckLimit < s.now
        ∧ s.fabricRuns then
      .next (((s.setBit (Reg.epcPinStat pin) 2 true).countFld (Reg.epcPinStat pin) 31 16 1).fault 19 allBanks)
    else .next s

/-- UNMASK of a pin at its inactive level (R114). -/
def State.doPinUnmask (s : State) (p : Nat) : State :=
  if s.pinActive p then s else s.setBit (Reg.epcPinStat p) 2 false

def execPinUnmask (dt : Nat) (pin : Fin 12) (s : State) : Res := .next ((s.start dt).doPinUnmask pin)

/-- CLR of a pin: EVENTS, MERGED and STUCK_COUNT. -/
def State.doPinClr (s : State) (p : Nat) : State :=
  ((s.put (Reg.epcPinEvents p) 0).put (Reg.epcPinMerged p) 0).wr (Reg.epcPinStat p) 31 16 0

def execPinClr (dt : Nat) (pin : Fin 12) (s : State) : Res := .next ((s.start dt).doPinClr pin)

/-- FIRE: one SOFT event at the Epoch of the start of its core cycle; a second one in that cycle is merged (R115). -/
def State.doSoftFire (s : State) : State :=
  if s.softAt = some (s.ep / cycle) then s
  else ({ s with softAt := some (s.ep / cycle) }).deliver (3, 0) (s.ep - s.ep % cycle) false false

def execSoftFire (dt : Nat) (s : State) : Res := .next (s.start dt).doSoftFire

/-- WAKE_PIN_EDGE: an edge into the active level of a TRIG_IN pin with WAKE while the device sleeps: stamped to one tick in Fast, by
the always-on copy in Fallow (R129). -/
def execWakePinEdge (dt : Nat) (pin : Fin 12) (ago : Nat) (s : State) : Res :=
  let s := s.start dt
  if 8 ≤ pin.val ∧ s.bit (Reg.epcPinCtl pin) 4 ∧ 2 ≤ s.power then
    if s.power = 2 then .next (s.pinEdge pin (s.activeLevel pin) (s.before ago))
    else
      let f := s.aonStamp
      .next (f.2.pinEdge pin (s.activeLevel pin) f.1)
  else .next s

/-- The levels of the pins under their ACTIVE_LOW as it stands: a pin that is active is so from now at the latest. -/
def State.pinSense (s : State) (p : Nat) : State :=
  let x := s.pinAt p
  s.setPin p { x with activeSince := if s.pinActive p then (match x.activeSince with | some t => some t | none => some s.now)
                                     else none }

/-- Stuck detection starts anew on the pins that are active, as it does at an exit to Feast (R129). -/
def State.sensePins (s : State) : State :=
  s.forAll (List.range 12) (fun s p =>
    if (s.pinAt p).activeSince.isSome then s.setPin p { (s.pinAt p) with activeSince := some s.now } else s)

/-! ### Conjunctions (R118 to R120) -/

def State.conjCfg (s : State) (j : Nat) : Option ConjCfg :=
  match s.alm with
  | none => none
  | some a => (a.conjs[j]?).join

/-- WINDOW and SLACK of a Conjunction in ticks. -/
def State.conjWindow (s : State) (j : Nat) : Nat := s.act36 (Reg.epcCjWindow j) % 2 ^ 36 * 64
def State.conjSlack (s : State) (j : Nat) : Nat := s.actf (Reg.epcCjSlack j) 15 0 * cycle

/-- Held events for which a test fails are discarded, and one discard is counted for each source (R118): a source that stands at
several positions holds one event. -/
def State.conjKeep (s : State) (j : Nat) (keep : Held → Bool) : State :=
  let C := s.conjAt j
  let srcs := match s.conjCfg j with | some c => c.srcs | none => []
  let gone := ((C.held.filter (fun h => !keep h)).map (fun h => srcs.getD h.pos (0xFF, 0))).eraseDups.length
  if gone = 0 then s
  else (s.setConj j { C with held := C.held.filter keep }).countFld (Reg.epcCjExpired j) 31 0 gone

/-- The events whose instant plus WINDOW plus SLACK the Epoch has passed are discarded. -/
def State.conjExpire (s : State) (j : Nat) : State :=
  s.conjKeep j (fun h => decide (s.ep ≤ h.instant + s.conjWindow j + s.conjSlack j))

/-- A Conjunction puts out an event, under holdoff and the one-event rule (R109, R110, R120). -/
def State.conjFire (s : State) (j t : Nat) (ring : Bool) : State :=
  let C := s.conjAt j
  match judge (s.actf (Reg.epcCjCtl j) 13 12) (holdTime (s.act36 (Reg.epcCjHoldTime j))) s.cyc C.firedAt C.holdLeft
      C.lastOut with
  | .held => (s.setConj j { C with holdLeft := C.holdLeft - 1 }).inc (Reg.epcCjHeld j)
  | .merged =>
    let old := s.rdq (Reg.epcCjLast j) 3
    (((s.ivMerge 3 j none).mergeInto (1, j) old t ring).wrEpoch (Reg.epcCjLast j) (min old t)).inc (Reg.epcCjMerged j)
  | .fires =>
    let s1 := s.setConj j { C with firedAt := some s.cyc, lastOut := some s.cyc,
                                   holdLeft := holdCount (s.actf (Reg.epcCjHoldCount j) 23 0) }
    let s2 := (s1.count (Reg.epcCjFired j) 2 36 1).wrEpoch (Reg.epcCjLast j) t
    (s2.deliver (1, j) t ring false).enqueue (s2.ivConsumers 3 j none) (1, j) t ring false

/-- The instants of positions 0 to n − 1 increase strictly. -/
def increasing : List Nat → Bool
  | a :: b :: r => decide (a < b) && increasing (b :: r)
  | _ => true

/-- The condition of AND or SEQUENCE over the held events in position order (R119): the output instant. -/
def conjMet (op n w : Nat) (hs : List Held) : Option Nat :=
  let ts := (List.range n).filterMap (fun p => (hs.find? (fun h => h.pos == p)).map (fun h => h.instant))
  if ts.length ≠ n ∨ n = 0 then none
  else
    let hi := ts.foldl max 0
    let lo := ts.foldl min (ts.headD 0)
    if op = 0 then (if hi - lo ≤ w then some hi else none)
    else if increasing ts && decide (hi - lo ≤ w) then some hi else none

/-- An event that a Conjunction receives: held as the most recent of its source, pairs too far apart and events too old
discarded, and the condition evaluated (R118, R119). A met condition uses up what is held also where holdoff holds the output
(log entry 112). -/
def State.conjTake (s : State) (j : Nat) (c : ConjCfg) (d : Delivery) : State :=
  if c.op = 1 then s.conjFire j d.instant d.ring
  else
    let s := s.conjExpire j
    let C := s.conjAt j
    let mine := (List.range c.srcs.length).filter (fun p => c.srcs.getD p (0xFF, 0) == d.src)
    let old := C.held.find? (fun h => mine.contains h.pos)
    let stale := match old with | some h => decide (d.instant < h.instant) | none => false
    let hs := if stale then C.held
      else C.held.filter (fun h => !mine.contains h.pos) ++ mine.map (fun p => ⟨p, d.instant, d.ring⟩)
    let s1 := s.setConj j { C with held := hs }
    let w := s1.conjWindow j
    let s2 := (s1.conjKeep j (fun h => !hs.any (fun k =>
      c.srcs.getD k.pos (0xFF, 0) != c.srcs.getD h.pos (0xFF, 0) && decide (h.instant + w < k.instant)))).conjExpire j
    let kept := (s2.conjAt j).held
    match conjMet c.op c.srcs.length w kept with
    | none => s2
    | some t => (s2.setConj j { (s2.conjAt j) with held := [] }).conjFire j t (kept.any (fun h => h.ring))

/-- CONJUNCTION_EVENT: the oldest event under way to the Conjunction arrives. -/
def execConjunctionEvent (dt : Nat) (j : Fin 16) (s : State) : Res :=
  let s := s.start dt
  match takeFor (.conj j) s.fabric, s.conjCfg j with
  | some (d, rest), some c =>
    let s1 := { s with fabric := rest }
    .next (if s1.fabricRuns then s1.conjTake j c d else s1)
  | _, _ => .next s

/-- CONJUNCTION_EXPIRY (R118). -/
def execConjunctionExpiry (dt : Nat) (j : Fin 16) (s : State) : Res := .next ((s.start dt).conjExpire j)

/-- CLR of a Conjunction: FIRED, HELD, MERGED and EXPIRED. -/
def State.doCjClr (s : State) (j : Nat) : State :=
  (((s.wrq (Reg.epcCjFired j) 2 0).put (Reg.epcCjHeld j) 0).put (Reg.epcCjMerged j) 0).put (Reg.epcCjExpired j) 0

def execCjClr (dt : Nat) (j : Fin 16) (s : State) : Res := .next ((s.start dt).doCjClr j)

/-! ### TRIG_OUT (R125, R126) -/

/-- WIDTH in ticks, 0 acting as 1. -/
def State.toutWidth (s : State) (o : Nat) : Nat := max 1 (s.rd (Reg.epcToutCtl o) 23 16) * cycle

/-- The level of an output while a pulse is high (R125). -/
def State.toutLevel (s : State) (o : Nat) : Bool := !s.bit (Reg.epcToutCtl o) 4

/-- The end of the gap that follows a pulse (R126). -/
def Pulse.clear (p : Pulse) : Nat := p.stop + 2 * cycle

/-- Events of an output that are not sent at their own time (R126). -/
def State.toutOverlap (s : State) (o n : Nat) : State := if n = 0 then s else s.countFld (Reg.epcToutMiss o) 15 0 n

/-- Pulses that have been scheduled and whose leading edge falls while a pulse from `a` to `e` is high, or in the gap after it: they
do not leave (R126; log entry 113). -/
def State.toutDrop (s : State) (o a e : Nat) : State :=
  let x := s.toutAt o
  let gone := x.pulses.filter (fun p => decide (a < p.start ∧ p.start < e + 2 * cycle))
  let s1 := gone.foldl (fun s p => s.emit (.pulseCut o p.start s.now)) s
  let s2 := s1.setTout o ⟨x.pulses.filter (fun p => !decide (a < p.start ∧ p.start < e + 2 * cycle))⟩
  (s2.put (Reg.epcToutPulses o) (s2.get (Reg.epcToutPulses o) - BitVec.ofNat 32 gone.length)).toutOverlap o gone.length

/-- A pulse of an output from time `a`; pulses long over are forgotten. -/
def State.toutPulse (s : State) (o a : Nat) : State :=
  let e := a + s.toutWidth o
  let s1 := s.toutDrop o a e
  let old := (s1.toutAt o).pulses.filter (fun p => !(p.told && decide (p.clear ≤ s.now)))
  ((s1.setTout o ⟨old ++ [⟨a, e, false⟩]⟩).inc (Reg.epcToutPulses o)).emit (.pulse o a e (s.toutLevel o))

/-- An event that an output sends as soon as possible (R126): it lengthens a running pulse, waits out the gap after one, or is merged
into the pulse that waits there. -/
def State.toutAsap (s : State) (o : Nat) : State :=
  let x := s.toutAt o
  match x.pulses.find? (fun p => decide (p.start ≤ s.now ∧ s.now < p.stop)),
      x.pulses.find? (fun p => decide (p.stop ≤ s.now ∧ s.now < p.clear)) with
  | some p, _ =>
    let e := s.now + s.toutWidth o
    let s1 := (s.toutDrop o p.start e).toutOverlap o 1
    (s1.setTout o ⟨(s1.toutAt o).pulses.map (fun q => if q = p then { q with stop := e } else q)⟩).emit
      (.pulse o p.start e (s.toutLevel o))
  | none, some p =>
    if x.pulses.any (fun q => q.start == p.clear) then s.toutOverlap o 1
    else (s.toutOverlap o 1).toutPulse o p.clear
  | none, none => s.toutPulse o s.now

/-- An event that an output places at its instant plus DELAY (R125, R126). -/
def State.toutAligned (s : State) (o t : Nat) : State :=
  let x := s.toutAt o
  let lead := t + s.rd (Reg.epcToutDelay o) 15 0 * cycle
  if lead < s.ep then (s.countFld (Reg.epcToutMiss o) 31 16 1).toutAsap o
  else
    let at_ := s.now + (lead - s.ep)
    if x.pulses.any (fun p => decide (p.start ≤ at_ ∧ at_ < p.clear)) then s.toutOverlap o 1 else s.toutPulse o at_

/-- TRIG_OUT_PULSE_START: the oldest event under way to the output. While the output is not enabled the event is not
put out (R125). -/
def execTrigOutPulseStart (dt : Nat) (o : Fin 4) (s : State) : Res :=
  let s := s.start dt
  match takeFor (.tout o) s.fabric with
  | none => .next s
  | some (d, rest) =>
    let s1 := { s with fabric := rest }
    if s1.bit (Reg.epcToutCtl o) 0 ∧ s1.fabricRuns then
      .next (if s1.bit (Reg.epcToutCtl o) 8 then s1.toutAligned o d.instant else s1.toutAsap o)
    else .next s1

/-- TRIG_OUT_PULSE_END: the first pulse that has reached its width and has not been put out as over (R126). -/
def execTrigOutPulseEnd (dt : Nat) (o : Fin 4) (s : State) : Res :=
  let s := s.start dt
  let x := s.toutAt o
  match x.pulses.find? (fun p => !p.told && decide (p.stop ≤ s.now)) with
  | some p =>
    .next ((s.setTout o ⟨x.pulses.map (fun q => if q = p then { q with told := true } else q)⟩).emit
      (.pin "TRIG_OUT" !(s.toutLevel o)))
  | none => .next s

/-- The output goes to its inactive level at once, and no pulse of it leaves: with ENABLE 0, no source, in Fast and Fallow, and in a
reset (R125). -/
def State.toutStop (s : State) (o : Nat) : State :=
  let live := (s.toutAt o).pulses.filter (fun p => decide (s.now < p.stop))
  if live.isEmpty then s.setTout o Tout.idle
  else ((live.foldl (fun s p => s.emit (.pulseCut o p.start s.now)) s).setTout o Tout.idle).emit (.pin "TRIG_OUT" !(s.toutLevel o))

def State.toutsStop (s : State) : State := s.forAll (List.range 4) State.toutStop

end Sys2Proof.Machine
end

