-- ==== Sys2Proof/Machine/Converters.lean ====
section
/-! DEFINITION. Converter start-up, settling and the sample PLL (R58 to R76). -/

namespace Sys2Proof.Machine

/-! ### Starting and stopping a bank (R73, R74) -/

/-- The converters of a bank stop: no valid sample, and every detection disarmed (R74, R124). `down` removes power. -/
def State.stopBank (s : State) (b : Nat) (down : Bool) : State :=
  let B := s.bankAt b
  let s1 := (s.setBank b { B with startAt := none, retryAt := none, full := B.full || down }).setBit
    (Reg.bnkConvStatus b) 0 false
  let s2 := if down then s1.setBit (Reg.bnkConvStatus b) 1 false else s1
  s2.resetUnits b

def State.stopBanks (s : State) (bs : List Nat) (down : Bool) : State := s.forAll bs (fun s b => s.stopBank b down)

/-- A bank starts: where its trims are not held they are loaded, which R73 lets happen at any time up to 900 µs after the start (step
4; log entry 114). -/
def State.powerUp (s : State) (b : Nat) (full : Bool) : State :=
  let s1 := s.startBank b full
  if (s1.bankAt b).full && (s1.bankAt b).startAt.isSome then s1.loadTrims b else s1

/-- READY becomes 1: the chains restart, and the groups that waited resume (R73, R75, R175). -/
def State.bankReady (s : State) (b : Nat) : State :=
  let s2 := s.setBank b { (s.bankAt b) with startAt := none, retryAt := none, full := false }
  let s3 := ((s2.wr (Reg.bnkConvStatus b) 4 3 0).setBit (Reg.bnkConvStatus b) 0 true)
  let s4 := (s3.restartChains b (List.range 16) s3.ep).resetUnits b
  (s4.forAll (s4.groupsOf b) State.endPauses).rearmReloaded false

/-- CONVERTER_READY (R73): only with the sample PLL locked. -/
def execConverterReady (dt : Nat) (b : Fin 16) (s : State) : Res :=
  let s := s.start dt
  if (s.bankAt b).startAt.isSome ∧ s.sampleLocked ∧ !s.ready b ∧ s.bankMode b ≠ 3 then .next (s.bankReady b) else .next s

/-- CONVERTER_START_TIMEOUT (R73): 2 ms after the start, with the next attempt 10 ms after it. Armed groups of the bank pause with
cause 9 (R152). -/
def execConverterStartTimeout (dt : Nat) (b : Fin 16) (s : State) : Res :=
  let s := s.start dt
  match (s.bankAt b).startAt with
  | some t =>
    if t + 2 * msec ≤ s.now ∧ !s.ready b then
      let s1 := s.setBank b { (s.bankAt b) with startAt := none, retryAt := some (t + 10 * msec) }
      let s2 := ((s1.setBit (Reg.bnkConvStatus b) 3 true).countFld (Reg.bnkConvRestarts b) 31 16 1).rearmReloaded true
      .next (s2.pauseAll (s2.groupsOf b) 9)
    else .next s
  | none => .next s

/-- CONVERTER_START_RETRY (R73). -/
def execConverterStartRetry (dt : Nat) (b : Fin 16) (s : State) : Res :=
  let s := s.start dt
  match (s.bankAt b).retryAt with
  | some t => if t ≤ s.now then .next (s.powerUp b false) else .next s
  | none => .next s

/-- OVR_CLEAR (R62). -/
def State.doOvrClear (s : State) (b : Nat) : State :=
  s.clearWords ((List.range 32).map (fun i => Reg.bnkOvr b 0 + 4 * i))

def execOvrClear (dt : Nat) (b : Fin 16) (s : State) : Res := .next ((s.start dt).doOvrClear b)

/-! ### Settling (R71, R72) -/

/-- SETTLING_END: the Eve fill, the chain and the trigger units of the channel start at this instant, as its hand-over laid down, and
a Stream group continues (R72, R124, R175). -/
def execSettlingEnd (dt : Nat) (b c : Fin 16) (s : State) : Res :=
  let s := s.start dt
  let B := s.bankAt b
  let t := B.settleEnd.getD c 0
  if t ≠ 0 ∧ t ≤ s.now then
    let s1 := s.setBank b { B with settleEnd := B.settleEnd.set c 0 }
    .next (match s1.groupOfChan (16 * b.val + c.val) with
      | some g => s1.endPauses g
      | none => s1)
  else .next s

/-! ### The sample PLL (R76, R80, R100) -/

/-- What the loss of the sample clock does to the banks and groups: CLOCK_LOST, no READY, a run ended early, and every
armed group paused with cause 17. -/
def State.clockLost (s : State) : State :=
  let s0 := { s with sampleLocked := false }
  let s1 := s0.forAll (List.range 16) (fun s b => (s.stopBank b false).setBit (Reg.bnkConvStatus b) 4 true)
  let s2 := (s1.pauseAll s1.enabledGroups 17).abortRun true
  if s2.bit Reg.epcStatus 6 then s2.ivAbort else s2

/-- SAMPLE_PLL_LOSS (R76). -/
def execSamplePllLoss (dt : Nat) (s : State) : Res :=
  let s := s.start dt
  if s.sampleLocked then .next (s.fault 10 allBanks).clockLost else .next s

/-- Some bank waits for the sample PLL to relock. -/
def State.clockWaits (s : State) : Bool := (List.range 16).any (fun b => s.bit (Reg.bnkConvStatus b) 4)

/-- Converters are to run: in Feast and Ordinary, and at an exit to Feast. -/
def State.wakes (s : State) : Bool := decide (s.power ≤ 1) || (match s.move with | .exiting _ => true | _ => false)

/-- SAMPLE_PLL_RELOCK (R76): steps 3, 5 and 6 of R73 run in every enabled bank, also at an exit from Fast. -/
def execSamplePllRelock (dt : Nat) (s : State) : Res :=
  let s := s.start dt
  if !s.sampleLocked && s.coreLocked && s.clockWaits then
    let s1 := { s with sampleLocked := true }
    let s2 := s1.forAll (List.range 16) (fun s b =>
      if s.bankMode b = 3 then s.setBit (Reg.bnkConvStatus b) 4 false
      else (s.countFld (Reg.bnkConvRestarts b) 15 0 1))
    .next (if s.wakes then s2.forAll (List.range 16) (fun s b => s.powerUp b false) else s2)
  else .next s

end Sys2Proof.Machine
end

