-- ==== Sys2Proof/Machine/Memory.lean ====
section
/-! DEFINITION. The commands of "Stack memory and its controllers" (R193 to R219): training, temperature, retraining,
scrub, parity errors, uncorrectable reads, failure and freeze, the regulators and the BAR2 view. -/

namespace Sys2Proof.Machine

/-! ### Where granules live (R196, R197) -/

/-- The record rows of a stack, and all its slots (R195). -/
def rowCount : Nat := 715827883
def slotCount : Nat := 805306368

/-- Where a slot lies in its stack (R195). -/
structure SlotPos where
  pc : Nat
  column : Nat
  bank : Nat
  row : Nat
  deriving DecidableEq, Repr

def slotPos (n : Nat) : SlotPos := ⟨n % 32, n / 32 % 32, n / 1024 % 48, n / 49152⟩

/-- The bank and row of a slot as one number: the DRAM row that an access opens (R206). -/
def dramRow (n : Nat) : Nat := (slotPos n).bank * 16384 + (slotPos n).row

/-- The stack and slot of a granule (R196, R197). -/
def unitOf (plain : Bool) (g : Nat) : Nat × Nat :=
  if plain then (g % 4, g / 4) else (((List.range 4).filter (fun k => k != g / 3 % 4)).getD (g % 3) 0, g / 3)

/-- The granule a stack's slot holds: none for parity, and none for the slot past the end of record space. -/
def granuleAt (plain : Bool) (k slot : Nat) : Option Nat :=
  if plain then (if 4 * slot + k < 2863136768 then some (4 * slot + k) else none)
  else if slot % 4 = k then none
  else
    let g := 3 * slot + (if slot % 4 < k then k - 1 else k)
    if g < 2 ^ 31 then some g else none

/-- Granules of record space (R5). -/
def State.spaceGranules (s : State) : Nat := if s.plain then 2863136768 else 2 ^ 31

/-- Some armed group writes a pre-trigger ring or sum area of the partition (R140, R182). -/
def State.areaArmed (s : State) (p : Nat) : Bool := s.enabledGroups.any (fun g => s.gpart g == p && s.gArmed g)

/-- A granule lies in the ring or sum area of a partition. -/
def State.inPre (s : State) (p g : Nat) : Bool :=
  let u := usable s.plain (s.pbase p) (s.pbase p + (s.psize p).2 * extent)
  decide (u.1 ≤ g ∧ g < u.2)

/-- A sequence of a partition has not been released (R138). -/
def Partition.holds (P : Partition) (q : Nat) : Bool :=
  decide (P.released ≤ q) && !P.ranges.any (fun x => x.1 ≤ q && q ≤ x.2)

/-- A granule of an unreleased record, an active sum area or an armed pre-trigger ring (R211, R217). -/
def State.heldGranule (s : State) (g : Nat) : Bool :=
  (List.range 32).any (fun p => (s.part p).recs.any (fun r => (s.part p).holds r.seq && s.inRec p r g)
    || (s.areaArmed p && s.inPre p g))

/-! ### Parity (R196, R215) -/

/-- The bitwise XOR of two granules, word by word. -/
def xorWords : List Native → List Native → List Native
  | a :: r, b :: t => (a ^^^ b) :: xorWords r t
  | _, _ => []

/-- The eight words of a granule as written. -/
def State.granuleWords (s : State) (g : Nat) : List Native := tgetAll s.mem.space 0 (8 * g) 8

/-- The data granule at a position of a stripe row; the position that holds none counts as 0. -/
def State.rowData (s : State) (a i : Nat) : List Native :=
  if 2 ^ 31 ≤ 3 * a + i then List.replicate 8 0 else s.granuleWords (3 * a + i)

/-- The parity granule of a stripe row: the XOR of its three data granules. -/
def State.parityOf (s : State) (a : Nat) : List Native := xorWords (xorWords (s.rowData a 0) (s.rowData a 1)) (s.rowData a 2)

/-- A granule rebuilt: the XOR of the other three units of its row (R215). -/
def State.rebuiltWords (s : State) (g : Nat) : List Native :=
  ((List.range 3).filter (fun i => i != g % 3)).foldl (fun w i => xorWords w (s.rowData (g / 3) i)) (s.parityOf (g / 3))

/-- The words that a read of a granule delivers: rebuilt where its stack has failed (R215, R216). -/
def State.readGranule (s : State) (g : Nat) : List Native :=
  if !s.plain ∧ (s.stack (unitOf false g).1).failed then s.rebuiltWords g else s.granuleWords g

/-- A record counts as holding a lost granule: listed, or covered by LOST_OVERFLOW (R218). -/
def State.recLost (s : State) (p : Nat) (r : DirEntry) : Bool :=
  r.overflow || s.lost.any (fun g => s.within p r.addr r.granules g)

/-! ### Failure and freeze (R216 to R218) -/

/-- LOST_OVERFLOW is set: every record committed and unreleased counts as holding a lost granule. -/
def State.setOverflow (s : State) : State :=
  (s.forAll (List.range 32) (fun s p =>
    s.setPart p { (s.part p) with recs := (s.part p).recs.map (fun r => { r with overflow := true }) })).setBit
    Reg.memMode 12 true

/-- Granules entered in the lost list, which holds 256. -/
def State.addLost (s : State) : List Nat → State
  | [] => s
  | g :: r =>
    if g ∈ s.lost then s.addLost r
    else if s.lost.length < 256 then ({ s with lost := s.lost ++ [g] } : State).addLost r
    else s.setOverflow.addLost r

/-- A controller freezes (R217): its registers, the commands held in its retry buffer, STKn_DATA severe at once, and every armed
group paused with cause 21. -/
def State.freeze (s : State) (k cause slot : Nat) (held : List Retry) : State :=
  if (s.stack k).frozen then s
  else
    let s1 := s.setStack k { (s.stack k) with frozen := true, pcBusy := none, retry := held }
    let s2 := (s1.wr (Reg.memStatus k) 2 0 5).wr (Reg.memStatus k) 15 10 0
    let s3 := ((s2.put (Reg.memFreezeCause k) (BitVec.ofNat 32 cause)).put (Reg.memFreezeSlot k)
      (BitVec.ofNat 32 (slot % 2 ^ 30))).wrEpoch (Reg.memFreezeAt k) s2.ep
    ((s3.fault (4 + k) allBanks).freezeSevere k).pauseAll s3.enabledGroups 21

/-- A stack fails (R216): STKn_DATA; the second failure in Guarded mode and any failure in Plain mode freeze its
controller and set LOST_OVERFLOW. The slot of a freeze without an access is a free value. -/
def State.failStack (s : State) (k : Nat) : State :=
  if (s.stack k).failed then s
  else
    let other := s.failedCount ≠ 0
    let s1 := s.setStack k { (s.stack k) with failed := true, pcBusy := none }
    let s2 := ((s1.wr (Reg.memStatus k) 2 0 (if (s.stack k).frozen then 5 else 4)).wr (Reg.memStatus k) 15 10 0).fault
      (4 + k) allBanks
    if s2.alm.isSome ∧ (s2.plain ∨ other) then
      let f := s2.fresh
      (f.2.setOverflow).freeze k (if s2.plain then 4 else 2) (fld (Config.freeWord f.1) 29 0) []
    else s2

/-- An uncorrectable read of a stack is counted; more than 16 within 1 ms fail the stack (R216). -/
def State.countUncorr (s : State) (k : Nat) : State :=
  let l := ((s.stack k).uncorr.filter (fun t => s.now < t + msec)) ++ [s.now]
  let s1 := (s.setStack k { (s.stack k) with uncorr := l }).inc (Reg.memUncorr k)
  if 16 < l.length then s1.failStack k else s1

/-- A stack's unit of a row cannot be read. -/
def State.unitBad (s : State) (bad : List Nat) (k : Nat) : Bool := bad.contains k || (s.stack k).failed

/-- A granule rebuilt for the engine of a Harvest port: noted by the descriptor it runs, for the REBUILT of the delivered copy
(R215, R231). -/
def State.noteRebuilt (s : State) (port : Nat) (g : Option Nat) : State :=
  match g, (s.engine (port - 16)).job with
  | some a, some j => if 16 ≤ port ∧ port ≤ 20 then
      s.setEngine (port - 16) { (s.engine (port - 16)) with job := some { j with rebuilt := addNew j.rebuilt a } } else s
  | _, _ => s

/-- The rewrite of a slot: by the scrub with a token of its own port, otherwise queued on the management port (R201, R211,
R215). -/
def State.rewrite (s : State) (k slot port : Nat) : State :=
  if port = scrubPort then s.pass scrubPort 1
  else { s with memReqs := s.memReqs ++ [⟨mgmtPort, s.now, false, .rewrite k slot⟩] }

/-- A read corrected by on-die ECC: it counts, and the granule is rewritten by the scrub, or where the stack reports a multi-bit
correction (R193, R211). -/
def State.correctedRead (s : State) (k slot port : Nat) (multiBit : Bool) : State :=
  let s1 := s.count (Reg.memCorrected k) 2 36 1
  if port = scrubPort ∨ multiBit = true then s1.rewrite k slot port else s1

/-- An uncorrectable read of slot `slot` of stack `k` for a port, after `tries` rereads, with the stacks whose units of the row are
also uncorrectable (R211, R215, R217). The system region has a second copy of what it holds (R195). A rebuild that needs a frozen
controller waits, and is not made. -/
def State.uncorrectable (s : State) (k slot : Nat) (others : List Nat) (port tries : Nat) : State :=
  let s1 := s.fault (4 + k) allBanks
  let held : List Retry := [⟨slot, false, port, tries, s.now, 3⟩]
  if rowCount ≤ slot then s1.countUncorr k
  else if s.plain then
    match granuleAt true k slot with
    | none => s1.countUncorr k
    | some g =>
      if s.heldGranule g then ((s.addLost [g]).freeze k 3 slot held).countUncorr k
      else (if port = scrubPort then (s1.writeGranule g (List.replicate 8 0)).rewrite k slot port else s1).countUncorr k
  else
    let bad := (List.range 4).filter (fun j => j == k || s.unitBad others j)
    if 1 < bad.length then
      ((s.addLost (bad.filterMap (fun j => granuleAt false j slot))).freeze k 1 slot held).countUncorr k
    else if (List.range 4).any (fun j => j != k && (s.stack j).frozen) then s1.countUncorr k
    else
      let s2 := if slot % 4 = k then s1 else (s1.count (Reg.memRebuilt k) 2 36 1).noteRebuilt port (granuleAt false k slot)
      (s2.rewrite k slot port).countUncorr k

/-! ### Requests that wait (R205, R206, R210, R213) -/

/-- The class of a port in the controllers' priority order, the first served first (R205). -/
def portClass (p : Nat) : Nat :=
  if p < 16 then 0 else if p = accPort then 1 else if p ≤ 20 then 2 else if p = mgmtPort then 3 else if p = 23 then 4 else 5

/-- The units that a request needs: of a read, those of its granules in record space that are not lost. -/
def State.reqUnits (s : State) (r : MemReq) : List (Nat × Nat) :=
  match r.why with
  | .rewrite k slot => [(k, slot)]
  | .read addr len _ => ((List.range (ceilDiv (addr % 36 + len) 36)).map (fun i => addr / 36 + i)).filter
      (fun g => decide (g < s.spaceGranules) && !s.lost.contains g) |>.map (unitOf s.plain)

/-- A controller takes a request for a slot: it runs, and does not retrain the slot's pseudo-channel (R210). -/
def State.takes (s : State) (k slot : Nat) : Bool := s.running k && (s.stack k).pcBusy != some (slotPos slot).pc

/-- A unit can be reached now: through its controller, or, where its stack has failed, through the other three (R215, R216). -/
def State.unitReady (s : State) (u : Nat × Nat) : Bool :=
  if (s.stack u.1).failed then (List.range 4).all (fun j => j == u.1 || s.takes j u.2) else s.takes u.1 u.2

/-- A read of granules waits: for a controller that is frozen, asleep or retraining the pseudo-channel (R210, R213, R217). -/
def State.readHeld (s : State) (addr len : Nat) : Bool := !(s.reqUnits ⟨0, 0, false, .read addr len []⟩).all s.unitReady

/-- A request can be served now. -/
def State.reqReady (s : State) (r : MemReq) : Bool := (s.reqUnits r).all s.unitReady

/-- A request hits the DRAM row that is open in its pseudo-channel (R206). -/
def State.rowHit (s : State) (r : MemReq) : Bool :=
  match s.reqUnits r with
  | [] => true
  | u :: _ => tget (s.stack u.1).openRow none (slotPos u.2).pc == some (dramRow u.2)

/-- The request to be served next among those that can be: of the first class in the priority order, one that has waited
longer than 1 µs before a hit of the open row, that before any other, and the oldest first (R205, R206). -/
def State.nextReq (s : State) : Option MemReq :=
  let rs := s.memReqs.filter s.reqReady
  let top := rs.foldl (fun m r => min m (portClass r.port)) 6
  let cs := rs.filter (fun r => portClass r.port == top)
  match cs.find? (fun r => decide (r.at_ + usec < s.now)), cs.find? s.rowHit with
  | some r, _ => some r
  | none, some r => some r
  | none, none => cs.head?

/-- The row of a served request stays open. -/
def State.openRows (s : State) (r : MemReq) : State :=
  (s.reqUnits r).foldl (fun s u => s.setStack u.1
    { (s.stack u.1) with openRow := tset (s.stack u.1).openRow none (slotPos u.2).pc (some (dramRow u.2)) }) s

/-! ### The BAR2 view (R219) -/

/-- The granules that uncommitted records of a partition may lie in: those captured and queued, and the record in
progress (R137). -/
def State.openGranules (s : State) (p : Nat) : Nat :=
  ((s.enabledGroups.filter (fun g => s.gpart g == p)).map (fun g =>
    ((s.grp g).queue.map (fun r => s.rounded r.granules)).sum + (if (s.grp g).cur.isSome then s.largest g else 0))).sum

/-- The content of a granule is undefined: of an uncommitted record, or of a ring or sum area (R137). -/
def State.undefinedGranule (s : State) (g : Nat) : Bool :=
  (List.range 32).any (fun p => s.inPre p g || s.within p (s.nextStart p) (s.openGranules p) g)

/-- The words that a read of a granule delivers, as 36 bytes in PACK36 order (R6). -/
def State.granuleBytes (s : State) (g : Nat) : List Byte := pack36Bytes (s.readGranule g)

/-- The bytes of BAR2 that record space occupies: 72 GiB, or 96 GiB in Plain mode (R219). -/
def State.spaceBytes (s : State) : Nat := if s.plain then 96 * 2 ^ 30 else 72 * 2 ^ 30

/-- One byte of BAR2, and the state after it: a free value is used for a byte whose content is undefined, and for one of the
granules past the last extent below 96 GiB in Plain mode (log entry 43). -/
def State.bar2Byte (s : State) (a : Nat) : Byte × State :=
  let g := a / 36
  if s.spaceBytes ≤ a ∨ g ∈ s.lost then (0xFF, s)
  else if s.spaceGranules ≤ g ∨ s.undefinedGranule g = true then (Config.freeByte s.fresh.1, s.fresh.2)
  else ((s.granuleBytes g).getD (a % 36) 0, s)

def State.bar2Bytes (s : State) (a : Nat) : Nat → List Byte × State
  | 0 => ([], s)
  | n + 1 =>
    let x := s.bar2Byte a
    let y := x.2.bar2Bytes (a + 1) n
    (x.1 :: y.1, y.2)

/-- What the granules of a read are found to be takes effect. -/
def State.readFinds (s : State) (g : Nat) : List GranuleFind → State
  | [] => s
  | f :: r =>
    let u := unitOf s.plain g
    let s1 := if s.spaceGranules ≤ g ∨ (s.stack u.1).failed then s
      else match f with
        | .clean => s
        | .corrected m => s.correctedRead u.1 u.2 mgmtPort m
        | .uncorrectable => s.uncorrectable u.1 u.2 [] mgmtPort 0
    s1.readFinds (g + 1) r

/-- A read holds a lost granule (R218). -/
def State.readLost (s : State) (addr len : Nat) : Bool :=
  s.lost.any (fun g => decide (addr < 36 * g + 36 ∧ 36 * g < addr + len))

/-- The completion of a read: poisoned where it holds a lost granule (R218, R219). -/
def State.completeRead (s : State) (addr len : Nat) : State :=
  let x := s.bar2Bytes addr len
  x.2.emit (if s.readLost addr len then .poisoned (List.replicate len 0xFF) else .data x.1)

/-- The granules of a request. -/
def MemReq.granules (r : MemReq) : Nat :=
  match r.why with
  | .read addr len _ => ceilDiv (addr % 36 + len) 36
  | .rewrite _ _ => 1

/-- A request served. -/
def State.finishReq (s : State) (r : MemReq) : State :=
  let s1 := ({ s with memReqs := s.memReqs.erase r } : State).openRows r
  match r.why with
  | .read addr len finds => (s1.readFinds (addr / 36) (finds.take r.granules)).completeRead addr len
  | .rewrite k slot => if (s1.stack k).failed then s1 else { s1 with scrubbed := tset s1.scrubbed 0 slot 1 }

/-- The tokens of a request asked for, once, when its port passes granules (R202, R203). -/
def State.askReq (s : State) (r : MemReq) : State :=
  if r.paid ∨ !s.mayPass r.port then s
  else ({ s with memReqs := s.memReqs.replace r { r with paid := true } } : State).pass r.port r.granules

/-- The requests that wait are served in their order, while their ports have passed their granules. -/
def State.serveMem (s : State) : Nat → State
  | 0 => s
  | n + 1 =>
    match s.nextReq with
    | none => s
    | some r =>
      let s1 := s.askReq r
      let r' := { r with paid := r.paid || s.mayPass r.port }
      if r'.paid ∧ 0 ≤ s1.tok r.port then (s1.finishReq r').serveMem n else s1

/-- The memory serves what waits: in Safe Hold the stacks leave self-refresh for it (R348). -/
def State.serveReqs (s : State) : State :=
  if s.memReqs.isEmpty then s else s.touchStacks.serveMem (2 * s.memReqs.length)

/-! ### Training and temperature -/

/-- STACK_TRAINED (R209): the third failed attempt fails the stack. -/
def execStackTrained (dt : Nat) (k : Fin 4) (v : Verdict) (s : State) : Res :=
  let s := s.start dt
  let x := s.stack k
  if s.rd (Reg.memStatus k) 2 0 ≤ 1 ∧ !x.failed ∧ !x.frozen then
    match v with
    | .pass =>
      let t := s.rd (Reg.memTemp k) 7 0
      .next ((s.wr (Reg.memStatus k) 2 0 2).setStack k
        { x with attempts := 0, trainTemp := if t = 0x80 then none else some (signed 8 t),
                 pcTemp := List.replicate 32 (signed 8 t) })
    | .fail =>
      let s1 := ((s.setStack k { x with attempts := x.attempts + 1 }).countFld (Reg.memTrain k) 31 16 1).fault 8 allBanks
      .next (if 3 ≤ x.attempts + 1 then s1.failStack k else s1)
  else .next s

/-- STACK_TEMP_READ (R193, R200, R208, R341). The first reading is the temperature the pseudo-channels were trained
at; an event is one entry into the condition. -/
def execStackTempRead (dt : Nat) (k : Fin 4) (celsius : Int) (s : State) : Res :=
  let s := s.start dt
  let c := clampI (-127) 127 celsius
  let top := s.rd (Reg.memTemp k) 15 8
  let s1 := s.wr (Reg.memTemp k) 7 0 (unsigned 8 c)
  let s2 := if top = 0x80 ∨ signed 8 top < c then s1.wr (Reg.memTemp k) 15 8 (unsigned 8 c) else s1
  let s3 := s2.setBit (Reg.memStatus k) 9 (85 < c)
  let x := s3.stack k
  let s4 := if x.trainTemp.isNone then s3.setStack k { x with trainTemp := some c, pcTemp := List.replicate 32 c }
    else s3
  let was := signed 8 (s.rd (Reg.memTemp k) 7 0)
  let s5 := if 95 < c ∧ was ≤ 95 then s4.fault 13 allBanks else s4
  .next (if 105 < c ∧ was ≤ 105 then s5.fault 14 allBanks else s5).serveReqs

/-- The temperature of a stack moved by more than 4 °C since a pseudo-channel was trained (R210). -/
def State.moved (s : State) (k pc : Nat) : Bool :=
  let t := signed 8 (s.rd (Reg.memTemp k) 7 0)
  let p := (s.stack k).pcTemp.getD pc t
  decide (4 < t - p ∨ 4 < p - t)

/-- RETRAIN_START (R210): one pseudo-channel at a time, pauses at least 20 µs apart. -/
def execRetrainStart (dt : Nat) (k : Fin 4) (pc : Fin 32) (s : State) : Res :=
  let s := s.start dt
  let x := s.stack k
  if s.running k ∧ x.pcBusy = none ∧ x.trainTemp.isSome ∧ s.moved k pc ∧ (x.lastPause = 0 ∨ x.lastPause + 20 * usec ≤ s.now)
  then .next (((s.setStack k { x with pcBusy := some pc.val, pcTries := 0 }).wr (Reg.memStatus k) 15 11 pc).setBit
    (Reg.memStatus k) 10 true)
  else .next s

/-- RETRAIN_END (R210): a failed attempt is repeated at once, and the third fails the stack. -/
def execRetrainEnd (dt : Nat) (k : Fin 4) (v : Verdict) (s : State) : Res :=
  let s := s.start dt
  let x := s.stack k
  match x.pcBusy with
  | none => .next s
  | some pc =>
    match v with
    | .pass => .next (((s.setStack k
        { x with pcBusy := none, pcTries := 0, lastPause := s.now,
                 pcTemp := x.pcTemp.set pc (signed 8 (s.rd (Reg.memTemp k) 7 0)) }).countFld (Reg.memTrain k) 15 0 1).wr
        (Reg.memStatus k) 15 10 0).serveReqs
    | .fail =>
      let s1 := ((s.setStack k { x with pcTries := x.pcTries + 1 }).countFld (Reg.memTrain k) 31 16 1).fault 8 allBanks
      .next (if 3 ≤ x.pcTries + 1 then s1.failStack k else s1)

/-! ### Patrol scrub (R205, R211) -/

/-- The time a row is given, so that a pass takes MEM_SCRUB_CTL.PERIOD: 1 to 168 hours. -/
def State.rowTime (s : State) : Nat := min 168 (max 1 (s.rd Reg.memScrubCtl 7 0)) * 3600 * second / rowCount

/-- Some port of a higher class holds a request: capture, accumulation, Harvest, or one that waits (R205). -/
def State.portsBusy (s : State) : Bool :=
  s.busy || !s.foldQueue.isEmpty || s.enabledGroups.any (fun g => !(s.grp g).acc.emitWait.isEmpty) || !s.memReqs.isEmpty

/-- The scrub is served now: a row is due, and no port of a higher class holds a request, or the row is the one granted in 4096
core cycles. -/
def State.scrubGranted (s : State) : Bool :=
  match s.scrubAt with
  | none => true
  | some t => decide (t + s.rowTime ≤ s.now) && (!s.portsBusy || decide (t + 4096 * cycle ≤ s.now))

/-- A write of the row waits (R211). -/
def State.rowQueued (s : State) (a : Nat) : Bool :=
  s.memReqs.any (fun r => match r.why with | .rewrite _ slot => slot == a | .read _ _ _ => false)

/-- The row reached moves on; at the last row the pass ends. -/
def State.scrubNext (s : State) : State :=
  let a := s.rd Reg.memScrubPos 31 0
  if a + 1 < rowCount then s.put Reg.memScrubPos (BitVec.ofNat 32 (a + 1))
  else { (s.put Reg.memScrubPos 0).inc Reg.memScrubPasses with scrubbed := [] }

/-- What a read of the row's unit on a stack is found to be. -/
def State.scrubUnit (s : State) (a : Nat) (finds : List GranuleFind) (bad : List Nat) (k : Nat) : State :=
  match finds.getD k .clean with
  | .clean => s
  | .corrected m => s.correctedRead k a scrubPort m
  | .uncorrectable => if s.anyFrozen then s else s.uncorrectable k a bad scrubPort 0

/-- SCRUB_ROW (R205, R211): the controllers serve what waits for tokens, then the scrub. The next row is skipped when it has been written since the pass began or a write of it waits, and is read
otherwise, with a token for each unit. -/
def execScrubRow (dt : Nat) (finds : List GranuleFind) (s : State) : Res :=
  let s := (s.start dt).serveReqs
  let a := s.rd Reg.memScrubPos 31 0
  let ks := (List.range 4).filter (fun k => !(s.stack k).failed)
  if s.power ≤ 1 ∧ s.alm.isSome ∧ ks.all (fun k => s.takes k a) ∧ s.scrubGranted ∧ s.mayPass scrubPort then
    if tget s.scrubbed 0 a ≠ 0 ∨ s.rowQueued a = true then .next ({ s with scrubAt := some s.now } : State).scrubNext
    else
      let bad := ks.filter (fun k => finds.getD k .clean == .uncorrectable)
      let s1 := ks.foldl (fun s k => s.scrubUnit a finds bad k)
        (({ s with scrubAt := some s.now } : State).pass scrubPort ks.length)
      .next (if s1.anyFrozen then s1 else s1.scrubNext)
  else .next s

/-! ### Parity and read errors (R214, R215) -/

/-- CA_PARITY_ALERT (R214): a failed replay is replayed again; the fourth failure raises STKn_CA and fails the stack. -/
def execCaParityAlert (dt : Nat) (k : Fin 4) (failures : Nat) (s : State) : Res :=
  let s := s.start dt
  if s.running k then
    let s1 := s.count (Reg.memCaReplays k) 1 32 (min 4 (failures + 1))
    .next (if 4 ≤ failures then (s1.fault k allBanks).failStack k else s1)
  else .next s

/-- READ_PARITY_ERROR (R214): when the fourth reread fails, the read is uncorrectable. -/
def execReadParityError (dt : Nat) (k : Fin 4) (rd : SlotRead) (failures : Nat) (s : State) : Res :=
  let s := s.start dt
  if s.running k ∧ rd.slot < slotCount then
    let s1 := s.count (Reg.memRdRetries k) 1 32 (min 4 (failures + 1))
    .next (if 4 ≤ failures then s1.uncorrectable k rd.slot [] rd.port 4 else s1)
  else .next s

/-- UNCORRECTABLE_READ (R215, R217): a read for a port; `others` are the stacks whose units of the row prove uncorrectable in the
rebuild. -/
def execUncorrectableRead (dt : Nat) (k : Fin 4) (rd : SlotRead) (others : List (Fin 4)) (s : State) : Res :=
  let s := s.start dt
  if s.running k ∧ rd.slot < slotCount then .next (s.uncorrectable k rd.slot (others.map (fun x => x.val)) rd.port 0) else .next s

/-! ### MEM_CTL and the regulators -/

/-- MEM_FAIL (R216): refused in Plain mode, while another stack is failed, or while no Almanac is loaded. -/
def State.doMemFail (s : State) (k : Nat) : State :=
  if s.plain ∨ s.alm.isNone ∨ (List.range 4).any (fun j => j != k && (s.stack j).failed)
  then s.setBit (Reg.memStatus k) 8 true else s.failStack k

def execMemFail (dt : Nat) (k : Fin 4) (s : State) : Res := .next ((s.start dt).doMemFail k)

/-- The counters at 0x010 to 0x030 of a stack. -/
def memCounters (k : Nat) : List Nat := (List.range 9).map (fun i => Reg.memCaReplays k + 4 * i)

/-- MEM_CLR. -/
def State.doMemClr (s : State) (k : Nat) : State := s.clearWords (memCounters k)

def execMemClr (dt : Nat) (k : Fin 4) (s : State) : Res := .next ((s.start dt).doMemClr k)

/-- A regulator register written: the cycles so far count at the old values, and a lower BURST truncates TOKENS
(R202). -/
def State.doRegulator (s : State) (p : Nat) (burst : Bool) (w : Word) : State :=
  ((s.settleTok p).put (if burst then Reg.memRegBurst p else Reg.memRegRate p) w).settleTok p

/-- REGULATOR_WRITE (R202). -/
def execRegulatorWrite (dt : Nat) (rq : Requester) (port : Fin 25) (burst : Bool) (value : Word) (s : State) : Res :=
  (s.start dt).hostWrite rq (if burst then Reg.memRegBurst port else Reg.memRegRate port) (fun s =>
    guardReserved (if burst then fld value 31 24 != 0 else fld value 31 16 != 0) (s.doRegulator port burst value).serveReqs)

/-! ### BAR2 commands (R219) -/

/-- BAR2_READ (R219): PF0, and PF1 unless its class is disabled. The read waits for tokens and for the controllers that hold its
granules: in self-refresh, in retraining, or frozen (R202, R210, R213, R217). -/
def execBar2Read (dt : Nat) (rq : Requester) (at_ : Span) (finds : List GranuleFind) (s : State) : Res :=
  let s := s.start dt
  match rq with
  | .pf0 | .pf1 =>
    let s := s.accessDemand rq
    if s.inReset then .next (s.emit (.data (List.replicate at_.len 0xFF)))
    else if rq = .pf1 ∧ s.priv 0 = 1 then .next ((s.refuse 0 5).emit .unsupported)
    else .next ({ s with memReqs := s.memReqs ++ [⟨mgmtPort, s.now, false, .read at_.addr at_.len finds⟩] } : State).serveReqs
  | _ => .next s

/-- BAR2_WRITE (R219): discarded and counted. -/
def execBar2Write (dt : Nat) (rq : Requester) (_addr _len : Nat) (s : State) : Res :=
  let s := s.start dt
  match rq with
  | .pf0 | .pf1 => let s := s.accessDemand rq
                   .next (if s.inReset then s else s.refuse (portOf rq true) 1)
  | _ => .next s

end Sys2Proof.Machine
end

