-- ==== Sys2Proof/Machine/Deliver.lean ====
section
/-! DEFINITION. What a Harvest transfer delivers (R229 to R241): the words of a record as the read path returns them, the
four formats, planes and the channel-major form, and the split of output bytes into PCIe writes. -/

namespace Sys2Proof.Machine

/-! ### The words of a record -/

/-- The words of `n` granules of a partition from address `a`, wrapping in its usable span. -/
def State.wordsFrom (s : State) (p a n : Nat) : List Native :=
  (List.range n).flatMap (fun k => tgetAll s.mem.space 0 (8 * s.wrapIn p (a + k)) 8)

/-- A record delivered as LOST (R231, R429): the directory gives the group and its range; the tag, generation and
Season are those of the stored header where its granules can be read. -/
def State.lostWords (s : State) (p : Nat) (r : DirEntry) : List Native :=
  let hdr := [r.addr, s.wrapIn p (r.addr + 1)]
  let ok := !r.overflow && !hdr.any (fun g => s.lost.contains g)
  let w := if ok then ((s.wordsFrom p r.addr 2).getD 14 0).toNat else 0xF
  (lostRec s.unsettled r.firstCh r.nch (bitsOf w 35 20) (bitsOf w 19 4) (bitsOf w 3 0)).words r.ag r.seq

/-- REBUILT set in a delivered header, with HDR_CRC over the delivered W0 to W14 (R156). -/
def markRebuilt (ws : List Native) : List Native :=
  let h := (ws.headD 0 ||| 16) :: (ws.drop 1).take 14
  h ++ [BitVec.ofNat 36 (crcWords h)] ++ ws.drop 16

/-- A granule of a record was rebuilt: noted while the descriptor ran, or a data unit of a failed stack (R215, R216). -/
def State.recRebuilt (s : State) (p : Nat) (r : DirEntry) (noted : List Nat) : Bool :=
  !s.plain && (List.range r.granules).any (fun k =>
    let g := s.wrapIn p (r.addr + k)
    noted.contains g || (s.stack (unitOf false g).1).failed)

/-! ### Formats (R234, R235) -/

/-- An element: its size in bytes and its value. -/
abbrev Elem := Nat × Nat

def elemBytes (swap : Bool) (e : Elem) : List Byte := if swap then beBytes e.1 e.2 else leBytes e.1 e.2

/-- The fields of a stored header that the formats need: KIND, HDR_WORDS, PACK, NCH and L = EVE_ACT + POST (R155). -/
structure HdrView where
  kind : Nat
  hdr : Nat
  pack : Nat
  nch : Nat
  len : Nat

def hdrView (ws : List Native) : HdrView :=
  let w := fun i => (ws.getD i 0).toNat
  ⟨bitsOf (w 0) 35 32, bitsOf (w 0) 22 16, bitsOf (w 8) 31 29, max 1 (bitsOf (w 8) 16 8), w 6 + w 7⟩

/-- A word as an element of 8 bytes, zero-extended. -/
def wideElem (w : Native) : Elem := (8, w.toNat)

/-- The samples of a payload word, each as its elements (R234). -/
def samplesOf (kind pack : Nat) (w : Native) : List (List Elem) :=
  let x := w.toNat
  if kind = 3 then [[(8, x)]]
  else if kind = 2 then [[(8, unsigned 64 (signed 36 x))]]
  else if pack = 0 then [0, 12, 24].map (fun k => [(2, unsigned 16 (signed 12 (x >>> k)))])
  else if pack = 1 then [0, 18].map (fun k => [(4, unsigned 32 (signed 18 (x >>> k)))])
  else [[(4, unsigned 32 (signed 18 x)), (4, unsigned 32 (signed 18 (x >>> 18)))]]

/-- The samples of each channel of a payload, in channel order, with the unused positions dropped (R158). A histogram's
words are shared out evenly. -/
def chanSamples (v : HdrView) (layout : Nat) (ws : List Native) : List (List (List Elem)) :=
  let per := if v.kind = 3 ∨ v.kind = 2 then 1 else perWord v.pack
  let len := if v.kind = 3 then ws.length / v.nch else v.len
  let all := ws.flatMap (samplesOf v.kind v.pack)
  if layout = 0 then
    (chunks (ceilDiv len per) v.nch ws).map (fun b => (b.flatMap (samplesOf v.kind v.pack)).take len)
  else (List.range v.nch).map (fun i => (List.range len).map (fun k => all.getD (k * v.nch + i) []))

/-- The payload elements of a record in the stored order. -/
def payloadElems (v : HdrView) (layout : Nat) (ws : List Native) : List Elem :=
  if v.kind = 3 then ws.map wideElem
  else if layout = 0 then (chanSamples v layout ws).flatMap (fun c => c.flatMap id)
  else ((ws.flatMap (samplesOf v.kind v.pack)).take (v.len * v.nch)).flatMap id

/-- A record of `words` with `payload` payload words in a FORMAT (R234): 0 PACK36, 1 WIDE64, 2 SPLIT16, 3 RAW. -/
def formatRec (fmt : Nat) (swap : Bool) (layout payload : Nat) (ws : List Native) : List Byte :=
  let v := hdrView ws
  if fmt = 0 ∨ fmt = 3 then pack36Bytes ws
  else
    let pay := (ws.drop v.hdr).take payload
    let head := (ws.take v.hdr).map wideElem
    let tail := ((ws.drop (v.hdr + payload)).take 2).map wideElem
    let body := if fmt = 1 then
        pay.map (fun w => if v.kind = 2 then (8, unsigned 64 (signed 36 w.toNat)) else wideElem w)
      else payloadElems v layout pay
    (head ++ body ++ tail).flatMap (elemBytes swap)

/-- A record delivered: its bytes, and the REBUILT and LOST of its copy (R231). -/
structure Delivered where
  bytes : List Byte
  rebuilt : Bool
  lost : Bool

/-- The words of a record as delivered, whether they stand in for a lost record, and whether a granule was rebuilt. -/
def State.recWords (s : State) (p : Nat) (r : DirEntry) (raw : Bool) (noted : List Nat) : List Native × Bool × Bool :=
  if s.recLost p r then (s.lostWords p r, true, false)
  else
    let ws := s.wordsFrom p r.addr (if raw then s.rounded r.granules else r.granules)
    let rb := !raw && s.recRebuilt p r noted
    (if rb then markRebuilt ws else ws, false, rb)

def State.deliverRec (s : State) (p : Nat) (r : DirEntry) (fmt : Nat) (swap : Bool) (noted : List Nat) : Delivered :=
  let x := s.recWords p r (fmt == 3) noted
  ⟨formatRec fmt swap r.layout (if x.2.1 then 0 else r.payload) x.1, x.2.2, x.2.1⟩

/-- The planes of a record (R241): header, annex and trailer first, then the samples of each live channel. -/
def planesOf (layout payload : Nat) (swap : Bool) (ws : List Native) : List (List Byte) :=
  let v := hdrView ws
  let pay := (ws.drop v.hdr).take payload
  let head := (ws.take v.hdr ++ (ws.drop (v.hdr + payload)).take 2).map wideElem
  let cs := if payload = 0 then List.replicate v.nch [] else chanSamples v layout pay
  head.flatMap (elemBytes swap) :: cs.map (fun c => (c.flatMap id).flatMap (elemBytes swap))

/-- A record in SPLIT16 with its payload in channel-major order (R241). -/
def deinterleaved (layout payload : Nat) (swap : Bool) (ws : List Native) : List Byte :=
  let v := hdrView ws
  let pay := (ws.drop v.hdr).take payload
  let body := if payload = 0 then [] else (chanSamples v layout pay).flatMap (fun c => c.flatMap id)
  ((ws.take v.hdr).map wideElem ++ body ++ ((ws.drop (v.hdr + payload)).take 2).map wideElem).flatMap (elemBytes swap)

/-! ### The funnel (R236, R237) -/

/-- Max_Payload_Size: 128, 256 or 512 bytes, as the host configures the function (R250). -/
def maxPayload : Nat := 128 * 2 ^ (Config.mpsCode.toNat % 3)

/-- Max_Read_Request_Size: 128 to 4096 bytes, as the host configures the function (R250). -/
def maxRead : Nat := 128 * 2 ^ (Config.mrrsCode.toNat % 6)

/-- A run of output bytes cut into PCIe writes (R236). -/
def splitRun (mps : Nat) : Nat → Nat → List Byte → List (Nat × List Byte)
  | 0, _, _ => []
  | n + 1, a, bs =>
    if bs.isEmpty then []
    else
      let l := bs.length
      let k := if a % 64 ≠ 0 then min l (64 - a % 64)
        else if l < 64 then l
        else min (l / 64 * 64) (mps - a % mps)
      (a, bs.take k) :: splitRun mps n (a + k) (bs.drop k)

/-- The runs of an output: one from DST, or cut at the wrap points of a ring that starts at position `p` (R237). -/
def runsOf (dst ringLog2 : Nat) : Nat → Nat → List Byte → List (Nat × List Byte)
  | 0, _, _ => []
  | n + 1, p, bs =>
    if bs.isEmpty then []
    else if ringLog2 = 0 then [(dst, bs)]
    else
      let k := min bs.length (2 ^ ringLog2 - p % 2 ^ ringLog2)
      (dst + p % 2 ^ ringLog2, bs.take k) :: runsOf dst ringLog2 n (p + k) (bs.drop k)

/-- Runs of bytes put out as PCIe writes. -/
def State.emitRuns (s : State) (runs : List (Nat × List Byte)) : State :=
  let ws := runs.flatMap (fun r => splitRun maxPayload (r.2.length + 1) r.1 r.2)
  { s with out := s.out ++ ws.map (fun w => Out.hostWrite w.1 w.2) }

/-- The reads that fetch `len` bytes of host memory, split as a run of output is (R236). -/
def State.emitReads (s : State) (a len : Nat) : State :=
  { s with out := s.out ++ (splitRun maxRead (len + 1) a (List.replicate len 0)).map (fun w => Out.hostRead w.1 w.2.length) }

/-- The zero-length read of the last byte of an output, which makes sure that its writes have arrived (R242). -/
def State.emitFlush (s : State) (runs : List (Nat × List Byte)) : State :=
  match runs.getLast? with
  | some r => s.emit (.hostRead (r.1 + r.2.length - 1) 0)
  | none => s

/-- Bytes padded with zeros to a multiple of 64 (R238). -/
def padded (strict : Bool) (bs : List Byte) : List Byte :=
  if strict then bs ++ List.replicate ((64 - bs.length % 64) % 64) 0 else bs

/-- Fresh free bytes: the content a rule calls undefined. -/
def State.freeBytes (s : State) : Nat → List Byte × State
  | 0 => ([], s)
  | n + 1 =>
    let f := s.fresh
    let r := f.2.freeBytes n
    (Config.freeByte f.1 :: r.1, r.2)

end Sys2Proof.Machine
end

