-- ==== Sys2Proof/Machine/Blocks.lean ====
section
/-! DEFINITION. How an update block is judged, however it arrives (R359). -/

namespace Sys2Proof.Machine

/-- The active image bank (UPD_STATUS.ACTIVE_BANK). -/
def State.activeBank (s : State) : Nat := s.rd Reg.updStatus 9 9

/-- The staged block at an offset of the bank being filled. -/
def State.stagedBlock (s : State) (off : Nat) : List Byte := tget (s.img s.stageBank).blocks [] (off / 4096)

/-- The offset and length of a block fit the package (R359). -/
def State.blockFits (s : State) (off len : Nat) : Bool :=
  decide (off % 4096 = 0 ∧ off < s.pkgLen ∧ len = min 4096 (s.pkgLen - off))

/-- What becomes of a block. -/
inductive BlockFate where
  | stage
  | already
  | badCrc
  | badState
  | badRange
  deriving DecidableEq, Repr

/-- A block of `bytes` at an offset with its CRC. -/
def State.blockFate (s : State) (off : Nat) (bytes : List Byte) (crc : Nat) : BlockFate :=
  if s.updState ≠ 2 then .badState
  else if !s.blockFits off bytes.length then .badRange
  else if crc32c bytes ≠ crc then .badCrc
  else
    let old := s.stagedBlock off
    if old.isEmpty then .stage else if crc32c old = crc then .already else .badState

/-- A block refused for its CRC: counted, and an event of UPDATE_CHECK. -/
def State.blockRefused (s : State) : State := (s.inc Reg.updBlkRefused).fault 31 allBanks

end Sys2Proof.Machine
end

