-- ==== Sys2Proof/Machine/Lantern.lean ====
section
/-! DEFINITION. The Lantern preview outputs (R374 to R388): layers and colour, commits, frames, pushes, restarts and DCS
packets. -/

namespace Sys2Proof.Machine

/-! ### Settings -/

/-- The shadowed settings: mode, configuration, rate and timing (R386). -/
def lntShadows : List Nat := [Reg.lntMode, Reg.lntCfg, Reg.lntRate, Reg.lntH, Reg.lntHblank, Reg.lntV, Reg.lntVblank]

/-- An output is enabled. -/
def State.lntOn (s : State) : Bool := s.rd Reg.lntCtl 1 0 != 0

/-- The outputs run: one is enabled, in Feast, out of Safe Hold and of a restart's hold (R387). -/
def State.lntRuns (s : State) : Bool :=
  s.lntOn && s.power == 0 && !s.bit Reg.fltAction 17 && !s.lnt.stopped && s.lnt.holdEnd.isNone

/-- Video mode is in force. -/
def State.lntVideo (s : State) : Bool := s.actf Reg.lntMode 0 0 == 1

/-- The active size. -/
def State.lntW (s : State) : Nat := s.actf Reg.lntH 11 0
def State.lntH (s : State) : Nat := s.actf Reg.lntV 11 0

/-- The frame period, and the push delay within 10 to 5000 µs. -/
def State.framePeriod (s : State) : Nat := s.rd Reg.lntFrameUs 15 0 * usec
def State.pushDelay (s : State) : Nat := min 5000 (max 10 (s.rd Reg.lntPushDelay 12 0)) * usec

/-- Lines and pixels of a frame with its blanking, from the settings in `rd`. -/
def frameLines (v vb : Word) : Nat := fld v 11 0 + fld vb 7 0 + fld vb 15 8 + fld vb 23 16
def framePixels (h hb : Word) : Nat := fld h 11 0 + fld hb 7 0 + fld hb 15 8 + fld hb 23 16

/-- What the check of new settings finds. -/
inductive LntCheck where
  | good
  | bad
  | open_
  deriving DecidableEq, Repr

/-- The shadow settings judged by R374, R375 and R384, and a Video-mode frame against 90 % of the link. What a frame needs
beside its active pixels is not stated: between the active pixels alone and the whole frame with its blanking and line
headers, the answer is open. -/
def State.lntCheck (s : State) : LntCheck :=
  let rate := s.rd Reg.lntRate 7 0
  let h := s.get Reg.lntH
  let v := s.get Reg.lntV
  let hb := s.get Reg.lntHblank
  let vb := s.get Reg.lntVblank
  let hact := fld h 11 0
  let vact := fld v 11 0
  let video := s.rd Reg.lntMode 0 0 == 1
  if rate < 8 ∨ 250 < rate ∨ hact = 0 ∨ 1920 < hact ∨ vact = 0 ∨ 1200 < vact ∨ (video ∧ fld vb 15 8 < 4) then .bad
  else if !video then .good
  else
    let bpp := if s.bit Reg.lntCfg 2 then 16 else 24
    -- Bits that 90 % of lanes × lane rate carry in a frame period.
    let room := 9 * 2 ^ s.rd Reg.lntCfg 1 0 * rate * s.rd Reg.lntFrameUs 15 0
    if room < vact * hact * bpp then .bad
    else if frameLines v vb * (framePixels h hb * bpp + 48) ≤ room then .good else .open_

/-- Some shadowed setting differs from the one in force. -/
def State.lntChanged (s : State) : Bool := s.shadowDiffers lntShadows

/-! ### Pixels (R376 to R378) -/

/-- A byte of an image bank's flash, where it is written. -/
def State.flashByte (s : State) (b a : Nat) : Option Byte := (tget (s.img b).blocks [] (a / 4096))[a % 4096]?

/-- Little-endian bytes of an image bank. -/
def State.flashLe (s : State) (b a n : Nat) : Nat := leNat ((List.range n).map (fun i => (s.flashByte b (a + i)).getD 0))

/-- OFFSET of part `i` of the package in an image bank (R356). -/
def State.partAt (s : State) (b i : Nat) : Nat := s.flashLe b (0x44 + 64 * i) 4

/-- A channel byte of the colour maps of the active bank; free where flash holds no CMAP (R377). -/
def State.cmapByte (s : State) (k : Nat) : Nat :=
  ((s.flashByte s.activeBank (s.partAt s.activeBank 4 + k)).getD (Config.freeByte (s.freeCtr + k))).toNat

/-- An entry of a colour map as RGB888. -/
def State.cmapEntry (s : State) (map e : Nat) : Nat :=
  let o := 768 * map + 3 * e
  s.cmapByte o * 65536 + s.cmapByte (o + 1) * 256 + s.cmapByte (o + 2)

/-- A rectangle of two registers: x, y, w, h. -/
def State.rectAt (s : State) (r0 r1 : Nat) : Nat × Nat × Nat × Nat := (s.rd r0 11 0, s.rd r0 27 16, s.rd r1 11 0, s.rd r1 27 16)

def State.traceRect (s : State) : Nat × Nat × Nat × Nat := s.rectAt (Reg.lntTraceRect 0) (Reg.lntTraceRect 1)

/-- The Trace layer at a pixel (R376). -/
def State.tracePixel (s : State) (x y : Nat) : Nat :=
  let r := s.traceRect
  if !s.bit Reg.lntTrace 31 then 0
  else if x < r.1 ∨ y < r.2.1 ∨ r.1 + r.2.2.1 ≤ x ∨ r.2.1 + r.2.2.2 ≤ y then 0
  else
    let g := s.rd Reg.lntTrace 4 0
    let map := s.rd Reg.lntTrace 10 8
    if !s.histOn g then s.cmapEntry map 0
    else
      let t := (x - r.1) * s.histTB g / max 1 r.2.2.1
      let a := 255 - (y - r.2.1) * 256 / max 1 r.2.2.2
      s.cmapEntry map (min 255 (tget (s.grp g).acc.grid 0 (256 * t + a) / 2 ^ s.rd Reg.lntTrace 20 16))

/-- Red, green and blue of an RGB888 value, and an RGB565 value widened by its high bits. -/
def rgb (v : Nat) : Nat × Nat × Nat := (v / 65536 % 256, v / 256 % 256, v % 256)
def rgbOf (r g b : Nat) : Nat := r * 65536 + g * 256 + b
def widen565 (v : Nat) : Nat :=
  let r := v / 2048 % 32
  let g := v / 32 % 64
  let b := v % 32
  rgbOf (r * 8 + r / 4) (g * 4 + g / 16) (b * 8 + b / 4)

/-- One channel of the ARGB blend. -/
def blend (a n t : Nat) : Nat := (roundEven (a * n + (255 - a) * t) 255).toNat

/-- The composed pixel (R378). -/
def State.pixel (s : State) (c : Option Commit) (x y : Nat) : Nat :=
  let tr := s.tracePixel x y
  match c with
  | none => tr
  | some c =>
    if !c.note then tr
    else
      let f := s.actf Reg.lntCfg 9 8
      let b := f + 2
      let v := leNat (tgetAll s.mem.note 0 (9216000 * c.slot + (y * s.lntW + x) * b) b)
      if f = 2 then
        let a := v / 2 ^ 24
        let n := rgb v
        let t := rgb tr
        rgbOf (blend a n.1 t.1) (blend a n.2.1 t.2.1) (blend a n.2.2 t.2.2)
      else
        let p := if f = 0 then widen565 v else v
        if s.bit Reg.lntKey 31 ∧ p = s.rd Reg.lntKey 23 0 then tr else p

/-- A pixel as it leaves on the link: RGB888, or narrowed to RGB565 by truncation. -/
def State.linkPixel (s : State) (v : Nat) : Nat :=
  if s.actf Reg.lntCfg 2 2 = 1 then
    (rgb v).1 / 8 * 2048 + (rgb v).2.1 / 4 * 32 + (rgb v).2.2 / 8
  else v

/-! ### The line FIFO (R201, R384) -/

/-- The port of the composition buffers. -/
def lanternPort : Nat := 23

/-- Bytes of Note slot that a line of `w` pixels reads: none where the commit in use shows no Note. -/
def State.noteLine (s : State) (w : Nat) : Nat :=
  match s.lnt.used with
  | some c => if c.note then w * (s.actf Reg.lntCfg 9 8 + 2) else 0
  | none => 0

/-- The time that a line of `w` pixels takes: in Command mode a packet with its header, DCS byte and checksum on the lanes at their
rate, in Video mode its share of the frame. -/
def State.lineTicks (s : State) (w : Nat) : Nat :=
  if s.lntVideo then s.framePeriod / max 1 (frameLines (s.act Reg.lntV) (s.act Reg.lntVblank))
  else (w * (if s.actf Reg.lntCfg 2 2 = 1 then 2 else 3) + 7) * 8 * usec
    / (2 ^ s.actf Reg.lntCfg 1 0 * max 1 (s.actf Reg.lntRate 7 0) * 10)

/-- The FIFO runs empty in line `j` of a push whose lines are `w` wide: the granules up to the end of that line are more than the
port has let pass by then (R202). -/
def State.underruns (s : State) (w j : Nat) : Bool :=
  decide (s.tok lanternPort + ((s.rate lanternPort * ((j + 1) * s.lineTicks w) / cycle : Nat) : Int)
    < 256 * ceilDiv ((j + 1) * s.noteLine w) 36)

/-- A line with repeated pixels: the last pixel sent stands for each that was not there in time; which those are is free. -/
def repeatPixels : Nat → Nat → List Nat → List Nat
  | _, _, [] => []
  | f, last, p :: t => let q := if Config.freeBit f then last else p
                       q :: repeatPixels (f + 1) q t

/-- A line of a push, as sent. -/
def State.pushLine (s : State) (x y w j : Nat) : List Nat :=
  let l := (List.range w).map (fun i => s.linkPixel (s.pixel s.lnt.used (x + i) (y + j)))
  if s.underruns w j then repeatPixels (s.freeCtr + j * w) (l.headD 0) l else l

/-- A rectangle sent, line by line: its granules pass the Lantern port, and each line with repeated pixels is counted. -/
def State.emitPush (s : State) (r : Nat × Nat × Nat × Nat) : State :=
  let s1 := s.emit (.push r.1 r.2.1 r.2.2.1 r.2.2.2
    ((List.range r.2.2.2).flatMap (s.pushLine r.1 r.2.1 r.2.2.1)))
  let late := ((List.range r.2.2.2).filter (s.underruns r.2.2.1)).length
  let n := ceilDiv (r.2.2.2 * s.noteLine r.2.2.1) 36
  let s2 := s1.setTok lanternPort (s.tok lanternPort - 256 * n)
  { (s2.countFld Reg.lntUnderrun 31 0 late) with freeCtr := s.freeCtr + (if late = 0 then 0 else r.2.2.1 * r.2.2.2) }

/-- The bounding rectangle of two, an empty one adding nothing. -/
def bounding (a b : Nat × Nat × Nat × Nat) : Nat × Nat × Nat × Nat :=
  if a.2.2.1 = 0 ∨ a.2.2.2 = 0 then b
  else if b.2.2.1 = 0 ∨ b.2.2.2 = 0 then a
  else
    let x := min a.1 b.1
    let y := min a.2.1 b.2.1
    (x, y, max (a.1 + a.2.2.1) (b.1 + b.2.2.1) - x, max (a.2.1 + a.2.2.2) (b.2.1 + b.2.2.2) - y)

/-- A rectangle cut to the active area. -/
def clipRect (w h : Nat) (r : Nat × Nat × Nat × Nat) : Nat × Nat × Nat × Nat :=
  (min r.1 w, min r.2.1 h, min (r.1 + r.2.2.1) w - min r.1 w, min (r.2.1 + r.2.2.2) h - min r.2.1 h)

/-! ### Commits (R380, R383, R386) -/

/-- A commit taken: its slot is in use. -/
def State.takeCommit (s : State) (c : Commit) : State :=
  ({ s with lnt := { s.lnt with used := some c, pend := none } } : State).put Reg.lntTakenSeq (BitVec.ofNat 32 c.seq)

/-- The LP-11 hold of a restart begins: two frame periods of the new timing (R386). -/
def State.beginHold (s : State) : State :=
  { s with lnt := { s.lnt with holdEnd := some (s.now + 2 * s.framePeriod), winOpen := false, pushing := false } }

/-- The new settings are in force. -/
def State.applyLnt (s : State) : State := s.handWords lntShadows

/-- A restart by a commit, judged: refused with CMD_ERR, or begun at the end of the frame in progress. -/
def State.askRestart (s : State) : State :=
  let f := s.fresh
  let ok := match s.lntCheck with | .good => true | .bad => false | .open_ => Config.freeBit f.1
  let s1 := if s.lntCheck = .open_ then f.2 else s
  if !ok then s1.setBit Reg.lntStatus 5 true
  else
    let s2 := { s1 with lnt := { s1.lnt with restart := true } }
    if s2.lnt.pushing || s2.lnt.winOpen || s2.lnt.holdEnd.isSome then s2 else s2.beginHold

/-- With no output enabled there is nothing to hold: accepted settings are in force at once. -/
def State.applyIfOff (s : State) : State :=
  if s.lnt.restart then { s.applyLnt with lnt := { s.lnt with restart := false, holdEnd := none } } else s

/-- LNT_COMMIT.GO (R380). -/
def State.doCommit (s : State) : State :=
  let seq := ((s.get Reg.lntCommitSeq).toNat + 1) % 2 ^ 32
  let c : Commit := ⟨seq, s.rd Reg.lntCommit 1 0, s.bit Reg.lntCommit 4, s.rectAt (Reg.lntCommitRect 0) (Reg.lntCommitRect 1)⟩
  let s0 := s.put Reg.lntCommitSeq (BitVec.ofNat 32 seq)
  let s1 := if s0.lnt.pend.isSome then s0.countFld Reg.lntStatus 15 8 1 else s0
  if !s.lntOn then (if s1.lntChanged then s1.askRestart.applyIfOff else s1).takeCommit c
  else
    let s3 := if s1.lnt.winOpen && s1.lnt.holdEnd.isNone then s1
      else (s1.setBit Reg.lntStatus 3 true).countFld Reg.lntStatus 23 16 1
    let s4 := { s3 with lnt := { s3.lnt with pend := some c } }
    if s4.lntChanged then s4.askRestart else s4

/-- LNT_COMMIT (R380). -/
def execLntCommit (dt : Nat) (s : State) : Res := .next (s.start dt).doCommit

/-! ### Frames and pushes (R380 to R383) -/

/-- A frame instant: the window opens. -/
def State.frameInstant (s : State) : State :=
  ({ s with lnt := { s.lnt with frameAt := some s.now, winOpen := true } } : State).inc Reg.lntFrames

/-- LNT_TE_EDGE (R380, R382): an edge of the selected input while a push runs is counted and otherwise ignored. -/
def execLntTeEdge (dt : Nat) (line : Fin 2) (s : State) : Res :=
  let s := s.start dt
  if !s.lntRuns || s.lntVideo || s.actf Reg.lntCfg 3 3 != line.val then .next s
  else if s.lnt.pushing then .next (s.inc Reg.lntTeMiss)
  else .next s.frameInstant

/-- TE_MISS_TIMEOUT (R382). -/
def execTeMissTimeout (dt : Nat) (s : State) : Res :=
  let s := s.start dt
  if s.lntRuns && !s.lntVideo && decide (s.lnt.frameAt.getD s.lnt.gapFrom + 2 * s.framePeriod ≤ s.now) then
    let s1 := s.inc Reg.lntTeMiss
    .next (if s1.lnt.pushing then s1 else s1.frameInstant)
  else .next s

/-- VIDEO_FRAME_START (R380): vertical sync. -/
def execVideoFrameStart (dt : Nat) (s : State) : Res :=
  let s := s.start dt
  if s.lntRuns && s.lntVideo then .next s.frameInstant else .next s

/-- P_f of the frame in progress: the push delay after T_f, or the first active line. -/
def State.pushAt (s : State) : Nat :=
  let t := s.lnt.frameAt.getD 0
  if s.lntVideo then
    let vb := s.act Reg.lntVblank
    t + (fld vb 7 0 + fld vb 15 8) * s.framePeriod / max 1 (frameLines (s.act Reg.lntV) vb)
  else t + s.pushDelay

/-- The pending commit is taken at P_f, unless it waits for a restart. -/
def State.takePending (s : State) : State :=
  match s.lnt.pend with
  | some c => if s.lnt.restart then s else s.takeCommit c
  | none => s

/-- A push begins: the slots of all commits before the one in use are free (R383). -/
def State.retire (s : State) : State :=
  match s.lnt.used with
  | some c => s.put Reg.lntRetiredSeq (BitVec.ofNat 32 (c.seq - 1))
  | none => s

/-- PUSH_START (R381). -/
def execPushStart (dt : Nat) (s : State) : Res :=
  let s := s.start dt
  if !s.lntRuns || !s.lnt.winOpen || s.lnt.pushing || decide (s.now < s.pushAt) then .next s
  else
    let took := s.lnt.pend.isSome && !s.lnt.restart
    let s1 := s.takePending
    let n := s1.lnt.traceCount + 1
    let due := s1.bit Reg.lntTrace 31 && decide (max 1 (s1.rd Reg.lntTraceEvery 7 0) ≤ n)
    let s2 := { s1 with lnt := { s1.lnt with winOpen := false, traceCount := if due then 0 else n } }
    let dirty := match s2.lnt.used with | some c => if took then c.rect else (0, 0, 0, 0) | none => (0, 0, 0, 0)
    let r := clipRect s2.lntW s2.lntH
      (if s2.lntVideo then (0, 0, s2.lntW, s2.lntH) else bounding dirty (if due then s2.traceRect else (0, 0, 0, 0)))
    if r.2.2.1 = 0 ∨ r.2.2.2 = 0 then
      (let s3 := if took then s2.retire else s2
       .next (if s3.lnt.restart then s3.beginHold else s3))
    else
      let s3 := s2.retire.emitPush r
      .next { s3 with lnt := { s3.lnt with pushing := true } }

/-- PUSH_END (R386): a restart asked for meanwhile begins its hold. -/
def execPushEnd (dt : Nat) (s : State) : Res :=
  let s := s.start dt
  if !s.lnt.pushing then .next s
  else
    let s1 := { s with lnt := { s.lnt with pushing := false, gapFrom := s.now } }
    .next (if s1.lnt.restart && s1.lnt.holdEnd.isNone then s1.beginHold else s1)

/-- RESTART_HOLD_END (R386): output resumes with the new settings at the next frame instant. -/
def execRestartHoldEnd (dt : Nat) (s : State) : Res :=
  let s := s.start dt
  match s.lnt.holdEnd with
  | some t =>
    if t ≤ s.now then
      let s1 := if s.lnt.restart then s.applyLnt else s
      .next { s1 with lnt := { s1.lnt with holdEnd := none, restart := false, frameAt := none, gapFrom := s.now } }
    else .next s
  | none => .next s

/-! ### Power states (R387) -/

/-- Both outputs stop and hold LP-11. -/
def State.stopLantern (s : State) : State :=
  { s with lnt := { s.lnt with stopped := true, pushing := false, winOpen := false, holdEnd := none } }

/-- Output resumes through the hold of a restart. -/
def State.resumeLantern (s : State) : State :=
  if s.lnt.stopped then
    (let s1 := { s with lnt := { s.lnt with stopped := false } }
     if s1.lntOn then s1.beginHold else s1)
  else s

/-! ### DCS packets (R388) -/

/-- LNT_DCS_SEND.GO: queued, or refused while one is busy. A WC outside 1 to 64 sends an unstated number of bytes. -/
def State.doDcs (s : State) : State :=
  if s.lnt.dcs.isSome then s.setBit Reg.lntStatus 5 true
  else
    let wc := s.rd Reg.lntDcsSend 6 0
    let f := s.fresh
    let ok : Bool := 1 ≤ wc ∧ wc ≤ 64
    let n := if ok then wc else (Config.freeByte f.1).toNat % 65
    let s1 := if ok then s else f.2
    { s1 with lnt := { s1.lnt with dcs := some (s.rd Reg.lntDcsSend 13 8, n) } }

def execDcsSend (dt : Nat) (s : State) : Res := .next (s.start dt).doDcs

/-- DCS_SENT (R388): between pushes, on an enabled output in Feast. -/
def execDcsSent (dt : Nat) (s : State) : Res :=
  let s := s.start dt
  match s.lnt.dcs with
  | some (ty, n) =>
    if s.lntOn && s.power == 0 && !s.bit Reg.fltAction 17 && !s.lnt.pushing then
      let bytes := ((List.range 16).flatMap (fun k => leBytes 4 (s.get (Reg.lntDcsBuf k)).toNat)).take n
      .next (({ s with lnt := { s.lnt with dcs := none } } : State).emit (.dcs ty bytes))
    else .next s
  | none => .next s

/-- LNT_STATUS as it reads. -/
def State.lntStatusWord (s : State) : Nat :=
  ((s.get Reg.lntStatus).toNat &&& 0xFFFF28) + b2n (s.lntRuns) + 2 * b2n s.lnt.holdEnd.isSome + 4 * b2n s.lnt.pend.isSome
    + 16 * b2n s.lnt.dcs.isSome

end Sys2Proof.Machine
end

