-- ==== Sys2Proof/Machine/Image.lean ====
section
/-! DEFINITION. An Almanac image as bytes: its layout (R35 to R46), the checks of R47 in the order of their codes, the
Almanac that an image gives, and the set of banks that a reload affects (R53). -/

namespace Sys2Proof.Machine

/-- What the checks of an image are judged against (R47, R51). -/
structure CheckCtx where
  hwType : Nat
  serial : Nat
  require : Bool
  slots : List (List Byte)
  stageLen : Option Nat
  inForce : Option Almanac
  ledger : List Byte
  unreleased : Bool
  forfeit : Bool
  host : Bool

/-- An entry of the section table (R36). -/
structure Ent where
  idx : Nat
  ty : Nat
  inst : Nat
  flags : Nat
  off : Nat
  len : Nat
  crc : Nat
  deriving DecidableEq, Repr

/-- The failure of a check: code, section index and byte offset. -/
abbrev Bad := Option (Nat × Nat × Nat)

/-- A test that names its section and offset when it fails. -/
def need (ok : Bool) (sect off : Nat) : List (Nat × Nat) := if ok then [] else [(sect, off)]

/-- The first failing field of a list under a code. -/
def failsAt (code : Nat) : List (Nat × Nat) → Bad
  | [] => none
  | (s, o) :: _ => some (code, s, o)

/-- The first failure of a list of checks. -/
def firstBad : List Bad → Bad
  | [] => none
  | some b :: _ => some b
  | none :: r => firstBad r

/-- One byte of a list as a number, 0 beyond its end. -/
def byteAt (bs : List Byte) (o : Nat) : Nat := (bs.getD o 0).toNat

/-- The first byte from `lo` below `hi` that is not 0. -/
def zeroIn (bs : List Byte) (sect base lo hi : Nat) : List (Nat × Nat) :=
  ((List.range (hi - lo)).filter (fun k => byteAt bs (lo + k) != 0)).map (fun k => (sect, base + lo + k))

def align8 (x : Nat) : Nat := ceilDiv x 8 * 8

/-! ### Header, table and trailer -/

def nsectOf (img : List Byte) : Nat := leAt img 6 2
def imageBytes (img : List Byte) : Nat := leAt img 8 4
def signedOf (img : List Byte) : Bool := byteAt img 0x0C % 2 == 1

def entOf (img : List Byte) (i : Nat) : Ent :=
  let a := 0x40 + 16 * i
  ⟨i, leAt img a 2, byteAt img (a + 2), byteAt img (a + 3), leAt img (a + 4) 4, leAt img (a + 8) 4, leAt img (a + 12) 4⟩

def entsOf (img : List Byte) : List Ent := (List.range (nsectOf img)).map (entOf img)

/-- Where the trailer starts: the next multiple of 8 after the last section (R38). -/
def trailerAt (img : List Byte) : Nat :=
  match (entsOf img).getLast? with
  | some e => align8 (e.off + e.len)
  | none => align8 (0x40 + 16 * nsectOf img)

/-- The bytes of a section. -/
def secBytes (img : List Byte) (e : Ent) : List Byte := (img.drop e.off).take e.len

def entOfType (img : List Byte) (ty : Nat) : Option Ent := (entsOf img).find? (fun e => e.ty == ty)

/-- Whether NSECT lies in its range (R35). -/
def nsectOk (img : List Byte) : Bool := 3 ≤ nsectOf img ∧ nsectOf img ≤ 64

/-- 0x01 MAGIC. -/
def badMagic (img : List Byte) : Bad :=
  failsAt 1 (need (leAt img 0 4 == 0x314D4C41) 0xFF 0 ++ need (leAt img 4 2 == 1) 0xFF 4)

/-- 0x02 LENGTH. -/
def badLength (c : CheckCtx) (img : List Byte) : Bad :=
  let n := imageBytes img
  let size := n ≤ 2 ^ 20 && (match c.stageLen with | some l => n == l | none => true)
  if !nsectOk img then failsAt 2 (need size 0xFF 8)
  else failsAt 2 (need size 0xFF 8 ++ need (0x40 + 16 * nsectOf img ≤ n) 0xFF 6 ++ need (n ≤ img.length) 0xFF 8
    ++ need (trailerAt img + 32 + (if signedOf img then 96 else 0) == n) 0xFF 8)

/-- One entry of the table against the entry before it and the end of the section before it (R37). -/
def badEntries (img : List Byte) (prev : Option Ent) (pos : Nat) : List Ent → List (Nat × Nat)
  | [] => []
  | e :: r =>
    let order := match prev with
      | none => true
      | some p => decide (p.ty < e.ty ∨ (p.ty = e.ty ∧ e.ty = 5 ∧ p.inst < e.inst))
    need order e.idx (0x40 + 16 * e.idx) ++ need (e.off == align8 pos) e.idx (0x44 + 16 * e.idx)
      ++ zeroIn img e.idx 0 pos e.off ++ badEntries img (some e) (e.off + e.len) r

/-- 0x03 TABLE. The bytes before the trailer are judged with the gaps. -/
def badTable (img : List Byte) : Bad :=
  if !nsectOk img then some (3, 0xFF, 6)
  else
    let last := match (entsOf img).getLast? with | some e => e.off + e.len | none => 0
    failsAt 3 (badEntries img none (0x40 + 16 * nsectOf img) (entsOf img) ++ zeroIn img 0xFF 0 last (trailerAt img))

/-- 0x04 SECTION_CRC. -/
def badCrc (img : List Byte) : Bad :=
  failsAt 4 ((entsOf img).flatMap (fun e => need (crc32c (secBytes img e) == e.crc) e.idx (0x4C + 16 * e.idx)))

def digestOf (img : List Byte) : List Byte := (img.drop (trailerAt img)).take 32

/-- 0x05 DIGEST. -/
def badDigest (img : List Byte) : Bad :=
  failsAt 5 (need (sha256 (img.take (trailerAt img)) == digestOf img) 0xFF (trailerAt img))

/-- The KEY section's bytes. -/
def keyOf (img : List Byte) : Option (Ent × List Byte) := (entOfType img 11).map (fun e => (e, secBytes img e))

/-- The signature over every byte up to the end of the digest holds for the KEY section (R38). -/
def signatureOk (img : List Byte) : Bool :=
  match keyOf img with
  | some (_, k) => ecdsaOk k (img.take (trailerAt img + 32)) ((img.drop (trailerAt img + 32)).take 96)
  | none => false

/-- The key matches a valid slot (R57). -/
def keyTrusted (c : CheckCtx) (img : List Byte) : Bool :=
  match keyOf img with
  | some (_, k) => c.slots.contains (sha384 k)
  | none => false

/-- 0x06 SIGNATURE. -/
def badSignature (c : CheckCtx) (img : List Byte) : Bad :=
  if signedOf img then
    match keyOf img with
    | none => some (6, 0xFF, 0x0C)
    | some _ => failsAt 6 (need (signatureOk img) 0xFF (trailerAt img + 32))
  else failsAt 6 (need (!c.require) 0xFF 0x0C)

/-- 0x07 UNTRUSTED. -/
def badTrust (c : CheckCtx) (img : List Byte) : Bad :=
  match keyOf img with
  | some (e, _) => failsAt 7 (need (!c.require || keyTrusted c img) e.idx e.off)
  | none => none

/-- 0x08 HW_BIND and 0x09 SERIAL_BIND. -/
def badBind (c : CheckCtx) (img : List Byte) : Bad :=
  let s := leAt img 0x20 8
  firstBad
    [failsAt 8 (need ((leAt img 0x10 8 ^^^ c.hwType) &&& leAt img 0x18 8 == 0) 0xFF 0x10),
     failsAt 9 (need (s == 0 || s == c.serial) 0xFF 0x20)]

/-- 0x0A MISSING: no byte of the image is named by an absence, so the table's start stands for it. -/
def badMissing (img : List Byte) : Bad :=
  failsAt 0x0A ([1, 2, 6].flatMap (fun t => need (entOfType img t).isSome 0xFF 0x40))

def listedType (t : Nat) : Bool := 1 ≤ t ∧ t ≤ 12

/-- 0x0B UNKNOWN_CRITICAL. -/
def badUnknown (img : List Byte) : Bad :=
  failsAt 0x0B ((entsOf img).flatMap (fun e => need (listedType e.ty || e.flags % 2 == 0) e.idx (0x43 + 16 * e.idx)))

/-! ### 0x0C FIELD (R40 to R46) -/

/-- The length a section must have. -/
def lenOk (e : Ent) (d : List Byte) : Bool :=
  match e.ty with
  | 1 => e.len == 64
  | 2 => e.len == 512
  | 3 => e.len == 896
  | 4 => e.len == 128
  | 5 => decide (4 ≤ e.len) &&
      e.len == 4 + 4 * (if byteAt d 1 = 1 then ceilDiv (byteAt d 0) 2 else byteAt d 0)
  | 6 => e.len == 520
  | 7 => e.len == 16
  | 8 => e.len == 16
  | 9 => decide (8 ≤ e.len) && e.len == 8 + 8 * byteAt d 3
  | 10 => e.len == 8
  | 11 => e.len == 97
  | 12 => decide (e.len ≤ 65536)
  | _ => true

/-- A source pair is listed, with its index in range (R41). -/
def srcOk (k i : Nat) : Bool :=
  if k = 0 then i < 128 else if k = 1 then i < 16 else if k = 2 then i < 4 else if k = 3 then i = 0
  else if k = 4 ∨ k = 5 then i < 16 else k = 0xFF ∧ i = 0

/-- A source pair's two bytes at an offset. -/
def srcAt (d : List Byte) (o : Nat) : Nat × Nat := (byteAt d o, byteAt d (o + 1))

/-- A source pair's check: the kind's byte when it is not listed, the index's otherwise. -/
def needSrc (d : List Byte) (s b o : Nat) : List (Nat × Nat) :=
  let k := byteAt d o
  if srcOk k (byteAt d (o + 1)) then [] else if k ≤ 5 ∨ k = 0xFF then [(s, b + o + 1)] else [(s, b + o)]

def fieldBank (d : List Byte) (s b : Nat) : List (Nat × Nat) :=
  (List.range 16).flatMap (fun k =>
    need (byteAt d (4 * k) ≤ 3) s (b + 4 * k)
      ++ need (byteAt d (4 * k + 1) ≤ 15 || byteAt d (4 * k + 1) == 0xFF) s (b + 4 * k + 1)
      ++ zeroIn d s b (4 * k + 2) (4 * k + 4))

def fieldGroup (d : List Byte) (s b : Nat) : List (Nat × Nat) :=
  (List.range 32).flatMap (fun g =>
    let o := 16 * g
    let en := byteAt d o
    need (en ≤ 1) s (b + o)
      ++ (if en = 1 then
          need (byteAt d (o + 1) ≤ 2) s (b + o + 1) ++ need (leAt d (o + 2) 2 ≤ 255) s (b + o + 2)
            ++ need (leAt d (o + 2) 2 ≤ leAt d (o + 4) 2 && leAt d (o + 4) 2 ≤ 255) s (b + o + 4)
            ++ need (byteAt d (o + 6) ≤ 31) s (b + o + 6) ++ need (byteAt d (o + 7) ≤ 1) s (b + o + 7)
            ++ needSrc d s b (o + 8) ++ need (byteAt d (o + 10) ≤ 1) s (b + o + 10)
        else [])
      ++ zeroIn d s b (o + 11) (o + 16))

def fieldConj (d : List Byte) (s b j : Nat) : List (Nat × Nat) :=
  let o := 512 + 20 * j
  let en := byteAt d o
  let n := byteAt d (o + 2)
  need (en ≤ 1) s (b + o)
    ++ (if en = 1 then need (byteAt d (o + 1) ≤ 2) s (b + o + 1) ++ need (1 ≤ n && n ≤ 8) s (b + o + 2) else [])
    ++ zeroIn d s b (o + 3) (o + 4)
    ++ (if en = 1 then (List.range 8).flatMap (fun p =>
          let q := o + 4 + 2 * p
          if p < n then needSrc d s b q
          else need (byteAt d q == 0xFF) s (b + q) ++ need (byteAt d (q + 1) == 0) s (b + q + 1)) else [])

def fieldTrigger (d : List Byte) (s b : Nat) : List (Nat × Nat) :=
  ((List.range 128).flatMap (fun u =>
      let o := 4 * u
      let en := byteAt d o
      need (en ≤ 1) s (b + o)
        ++ (if en = 1 then need (byteAt d (o + 1) ≤ 15) s (b + o + 1) ++ need (byteAt d (o + 2) ≤ 1) s (b + o + 2)
          else [])
        ++ zeroIn d s b (o + 3) (o + 4)))
    ++ (List.range 16).flatMap (fieldConj d s b)
    ++ (List.range 20).flatMap (fun k => needSrc d s b (832 + 2 * k)) ++ zeroIn d s b 872 896

/-- An entry of eight zero bytes is absent (R42). -/
def progAbsent (d : List Byte) (p : Nat) : Bool := leAt d (8 * p) 8 == 0

/-- The FILT_SET values that name a setting (R165). -/
def filtListed (fs : Nat) : Bool := fs ≤ 3 || isFilter fs

def fieldFilter (d : List Byte) (s b : Nat) : List (Nat × Nat) :=
  (List.range 16).flatMap (fun p =>
    let o := 8 * p
    if progAbsent d p then []
    else need (filtListed (byteAt d o)) s (b + o)
      ++ need (filtListed (byteAt d (o + 1)) && byteAt d o ≤ byteAt d (o + 1)) s (b + o + 1)
      ++ need (byteAt d (o + 2) ≤ 15 || byteAt d (o + 2) == 0xFF) s (b + o + 2) ++ zeroIn d s b (o + 3) (o + 8))

/-- The stored coefficients of a FIR section. -/
def firStored (d : List Byte) : List Int :=
  (List.range (if byteAt d 1 = 1 then ceilDiv (byteAt d 0) 2 else byteAt d 0)).map (fun i => signed 32 (leAt d (4 + 4 * i) 4))

def fieldFir (d : List Byte) (s b : Nat) : List (Nat × Nat) :=
  need (1 ≤ byteAt d 0 && byteAt d 0 ≤ 64) s b ++ need (byteAt d 1 ≤ 1) s (b + 1) ++ need (byteAt d 2 ≤ 35) s (b + 2)
    ++ zeroIn d s b 3 4
    ++ (((List.range (firStored d).length).zip (firStored d)).flatMap (fun x =>
      need (-131072 ≤ x.2 && x.2 ≤ 131071) s (b + 4 + 4 * x.1)))

def fieldNetwork (d : List Byte) (s b : Nat) : List (Nat × Nat) :=
  (List.range 4).flatMap (fun k =>
    need (byteAt d (4 * k) ≤ 6) s (b + 4 * k)
      ++ need (byteAt d (4 * k + 1) ≤ 3 || byteAt d (4 * k + 1) == 0xFF) s (b + 4 * k + 1)
      ++ zeroIn d s b (4 * k + 2) (4 * k + 4))

def fieldRing (d : List Byte) (s b : Nat) : List (Nat × Nat) :=
  need (byteAt d 0 ≤ 1) s b ++ need (1 ≤ byteAt d 1 && byteAt d 1 ≤ 3) s (b + 1)
    ++ need (1 ≤ byteAt d 2 && byteAt d 2 ≤ 64) s (b + 2) ++ need (byteAt d 3 ≤ 63) s (b + 3) ++ zeroIn d s b 4 8
    ++ (List.range (byteAt d 3)).flatMap (fun i => zeroIn d s b (11 + 8 * i) (16 + 8 * i))

def fieldPower (d : List Byte) (s b : Nat) : List (Nat × Nat) :=
  need (50 ≤ leAt d 0 2 && leAt d 0 2 ≤ 215) s b ++ need (byteAt d 2 ≤ 3) s (b + 2)
    ++ need (byteAt d 3 ≤ 1) s (b + 3) ++ zeroIn d s b 4 8

/-- The fields of one section, by its type. -/
def fieldSection (img : List Byte) (e : Ent) : List (Nat × Nat) :=
  let d := secBytes img e
  match e.ty with
  | 1 => fieldBank d e.idx e.off
  | 2 => fieldGroup d e.idx e.off
  | 3 => fieldTrigger d e.idx e.off
  | 4 => fieldFilter d e.idx e.off
  | 5 => fieldFir d e.idx e.off
  | 6 => need (byteAt d 0 ≤ 1) e.idx e.off ++ zeroIn d e.idx e.off 1 8
  | 7 => fieldNetwork d e.idx e.off
  | 8 => zeroIn d e.idx e.off 13 16
  | 9 => fieldRing d e.idx e.off
  | 10 => fieldPower d e.idx e.off
  | 11 => need (byteAt d 0 == 4) e.idx e.off
  | _ => []

/-- The fields of the header and of the section table. -/
def fieldTable (img : List Byte) : List (Nat × Nat) :=
  need (leAt img 0x0C 2 ≤ 1) 0xFF 0x0C ++ zeroIn img 0xFF 0 0x0E 0x10 ++ need (leAt img 0x10 8 < 2 ^ 36) 0xFF 0x10
    ++ zeroIn img 0xFF 0 0x2C 0x40
    ++ (entsOf img).flatMap (fun e =>
      need (if e.ty = 5 then e.inst ≤ 15 else e.inst = 0) e.idx (0x42 + 16 * e.idx)
        ++ need ((!listedType e.ty || e.flags % 2 == 1) && decide (e.flags ≤ 1)) e.idx (0x43 + 16 * e.idx)
        ++ need (lenOk e (secBytes img e)) e.idx (0x48 + 16 * e.idx))

/-- 0x0C FIELD. -/
def badField (img : List Byte) : Bad :=
  failsAt 0x0C (fieldTable img ++ (entsOf img).flatMap (fieldSection img))

/-! ### The Almanac that an image gives -/

/-- The bytes of the one section of a type, with a default where it is absent. -/
def secOr (img : List Byte) (ty : Nat) (dflt : List Byte) : List Byte :=
  match entOfType img ty with
  | some e => secBytes img e
  | none => dflt

/-- The TRIGGER section that stands for an absent one: nothing enabled and no route (R40). -/
def noTrigger : List Byte :=
  List.replicate 832 0 ++ (List.replicate 20 [0xFF, 0]).flatten ++ List.replicate 24 0

def bankCfgs (d : List Byte) : List BankCfg := (List.range 16).map (fun b => ⟨byteAt d (4 * b), byteAt d (4 * b + 1)⟩)

def groupCfgs (d : List Byte) : List (Option GroupCfg) :=
  (List.range 32).map (fun g =>
    let o := 16 * g
    if byteAt d o = 1 then
      some ⟨byteAt d (o + 1), leAt d (o + 2) 2, leAt d (o + 4) 2, byteAt d (o + 6), byteAt d (o + 7), byteAt d (o + 8),
        byteAt d (o + 9), byteAt d (o + 10) == 1⟩
    else none)

def unitCfgs (d : List Byte) : List (Option UnitCfg) :=
  (List.range 128).map (fun u =>
    if byteAt d (4 * u) = 1 then some ⟨byteAt d (4 * u + 1), byteAt d (4 * u + 2)⟩ else none)

def conjCfgs (d : List Byte) : List (Option ConjCfg) :=
  (List.range 16).map (fun j =>
    let o := 512 + 20 * j
    if byteAt d o = 1 then
      some ⟨byteAt d (o + 1), (List.range (byteAt d (o + 2))).map (fun p => srcAt d (o + 4 + 2 * p))⟩
    else none)

def progCfgs (d : List Byte) : List (Option ProgCfg) :=
  (List.range 16).map (fun p =>
    if progAbsent d p then none else some ⟨byteAt d (8 * p), byteAt d (8 * p + 1), byteAt d (8 * p + 2)⟩)

def firCfg (img : List Byte) (e : Ent) : FirCfg :=
  let d := secBytes img e
  ⟨e.inst, byteAt d 0, byteAt d 1 == 1, byteAt d 2, firStored d⟩

/-- The Almanac of an image, with the defaults of R40 for the sections it lacks. -/
def almanacOf (c : CheckCtx) (img : List Byte) : Almanac :=
  let tr := secOr img 3 noTrigger
  let mem := secOr img 6 (List.replicate 520 0)
  let net := secOr img 7 ((List.replicate 4 [1, 0xFF, 0, 0]).flatten)
  let ring := secOr img 9 [0, 3, 1, 0, 0, 0, 0, 0]
  let pow := secOr img 10 [215, 0, 3, 1, 0, 0, 0, 0]
  { banks := bankCfgs (secOr img 1 [])
    groups := groupCfgs (secOr img 2 [])
    units := unitCfgs tr
    conjs := conjCfgs tr
    touts := (List.range 4).map (fun k => srcAt tr (832 + 2 * k))
    rlines := (List.range 16).map (fun k => srcAt tr (840 + 2 * k))
    progs := progCfgs (secOr img 4 (List.replicate 128 0))
    firs := ((entsOf img).filter (fun e => e.ty == 5)).map (firCfg img)
    plain := byteAt mem 0 == 1
    parts := (List.range 32).map (fun p => (leAt mem (8 + 16 * p) 8, leAt mem (16 + 16 * p) 8))
    octets := (List.range 4).map (fun k => srcAt net (4 * k))
    privs := (List.range 13).map (byteAt (secOr img 8 (List.replicate 16 0)))
    role := byteAt ring 0
    genMax := byteAt ring 1
    units64 := byteAt ring 2
    decls := (List.range (byteAt ring 3)).map (fun i =>
      (byteAt ring (8 + 8 * i), byteAt ring (9 + 8 * i), byteAt ring (10 + 8 * i)))
    maxW := leAt pow 0 2
    deepest := byteAt pow 2
    retain := byteAt pow 3 == 1
    sections := (entsOf img).map (fun e => ⟨e.ty, e.inst, secBytes img e⟩)
    digest := digestOf img
    signed := signedOf img
    trusted := signedOf img && keyTrusted c img
    host := c.host }

/-! ### The checks over the whole structure -/

/-- The live channels of a range in an Almanac. -/
def Almanac.live (a : Almanac) (c : Nat) : Bool :=
  match a.banks[c / 16]? with
  | some b => (liveIdx b.mode).contains (c % 16)
  | none => false

def Almanac.chans (a : Almanac) (g : GroupCfg) : List Nat :=
  (List.range (g.lastCh + 1)).filter (fun c => g.firstCh ≤ c ∧ a.live c)

def Almanac.gcfg (a : Almanac) (g : Nat) : Option GroupCfg := (a.groups[g]?).join

/-- Where an entry of a section lies: its section index and the byte offset. -/
def placeOf (img : List Byte) (ty rel : Nat) : Nat × Nat :=
  match entOfType img ty with
  | some e => (e.idx, e.off + rel)
  | none => (0xFF, 0x40)

/-- A test about a byte of a section. -/
def needIn (img : List Byte) (ok : Bool) (ty rel : Nat) : List (Nat × Nat) := if ok then [] else [placeOf img ty rel]

/-- 0x0D CHANNEL. -/
def badChannel (img : List Byte) (a : Almanac) : Bad :=
  failsAt 0x0D
    ((List.range 32).flatMap (fun g => match a.gcfg g with
      | none => []
      | some c =>
        let cs := a.chans c
        let before := (List.range g).flatMap (fun h => match a.gcfg h with | some d => a.chans d | none => [])
        needIn img (!cs.isEmpty && a.live c.firstCh && !cs.any before.contains) 2 (16 * g + 2))
    ++ (List.range 128).flatMap (fun u => match (a.units[u]?).join with
      | none => []
      | some c => needIn img (a.live (16 * (u / 8) + c.channel)) 3 (4 * u + 1)))

/-- 0x0E PARTITION (R43). -/
def badPartition (img : List Byte) (a : Almanac) : Bad :=
  failsAt 0x0E
    ((List.range 32).flatMap (fun g => match a.gcfg g with
      | none => []
      | some c =>
        let before := (List.range g).filterMap (fun h => (a.gcfg h).map (fun d => d.partition))
        needIn img (!before.contains c.partition && (a.parts.getD c.partition (0, 0)).1 != 0) 2 (16 * g + 6))
    ++ (List.range 32).flatMap (fun p =>
      let x := a.parts.getD p (0, 0)
      let sum := ((a.parts.take (p + 1)).map (fun y => y.1)).sum
      needIn img (sum ≤ (if a.plain then 10922 else 8192)) 6 (8 + 16 * p)
        ++ needIn img (x.1 == 0 || decide (x.2 < x.1)) 6 (16 + 16 * p)))

/-- A source that names a disabled unit. -/
def Almanac.namesDisabled (a : Almanac) (src : Nat × Nat) : Bool :=
  (src.1 == 0 && (a.units[src.2]?).join.isNone) || (src.1 == 1 && (a.conjs[src.2]?).join.isNone)

/-- 0x0F ROUTE (R42). -/
def badRoute (img : List Byte) (a : Almanac) : Bad :=
  failsAt 0x0F
    ((List.range 16).flatMap (fun b => match a.banks[b]? with
      | none => []
      | some c => needIn img (c.prog == 0xFF || (a.progs[c.prog]?).join.isSome) 1 (4 * b + 1))
    ++ (List.range 32).flatMap (fun g => match a.gcfg g with
      | none => []
      | some c => needIn img (!a.namesDisabled (c.srcKind, c.srcIndex) && (c.mode == 1) == (c.srcKind == 0xFF)) 2
          (16 * g + 8))
    ++ (List.range 16).flatMap (fun j => match (a.conjs[j]?).join with
      | none => []
      | some c => (List.range c.srcs.length).flatMap (fun p =>
          let x := c.srcs.getD p (0xFF, 0)
          needIn img (x.1 != 1 && !a.namesDisabled x) 3 (516 + 20 * j + 2 * p)))
    ++ (List.range 4).flatMap (fun k => needIn img (!a.namesDisabled (a.touts.getD k (0xFF, 0))) 3 (832 + 2 * k))
    ++ (List.range 16).flatMap (fun k => needIn img (!a.namesDisabled (a.rlines.getD k (0xFF, 0))) 3 (840 + 2 * k))
    ++ (List.range 16).flatMap (fun p => match (a.progs[p]?).join with
      | none => []
      | some c => needIn img (c.fir == 0xFF || a.firs.any (fun f => f.inst == c.fir)) 4 (8 * p + 2)))

/-- The codes allowed for a port (R45). -/
def privOk (port code : Nat) : Bool :=
  if port ≤ 9 then code ≤ 1 else if port ≤ 11 then code = 0 ∨ code = 2 else code = 0 ∨ code = 3

/-- 0x10 PRIVILEGE. -/
def badPrivilege (img : List Byte) (a : Almanac) : Bad :=
  failsAt 0x10 ((List.range 13).flatMap (fun k => needIn img (privOk k (a.privs.getD k 0)) 8 k))

/-- The positions of a declaration's arc eastward (R46). -/
def arcOf (units first last : Nat) : List Nat :=
  let u := max 1 units
  (List.range ((last + u - first) % u + 1)).map (fun k => (first + k) % u)

def Almanac.declAt (a : Almanac) (i : Nat) : Nat × Nat × Nat := a.decls.getD i (0, 0, 0xFF)

def Almanac.arc (a : Almanac) (i : Nat) : List Nat := arcOf a.units64 (a.declAt i).1 (a.declAt i).2.1

/-- The nesting level of a declaration, 1 at the top. -/
def Almanac.level (a : Almanac) : Nat → Nat → Nat
  | 0, _ => 0
  | n + 1, i => let p := (a.declAt i).2.2
                if p = 0xFF then 1 else 1 + a.level n p

/-- The children of a declaration, and the number of its direct members. -/
def Almanac.kids (a : Almanac) (i : Nat) : List Nat :=
  (List.range a.decls.length).filter (fun j => (a.declAt j).2.2 == i)

def Almanac.members (a : Almanac) (i : Nat) : Nat :=
  let ks := a.kids i
  ks.length + ((a.arc i).filter (fun p => !ks.any (fun j => (a.arc j).contains p))).length

/-- One declaration is valid (R46). -/
def Almanac.declBad (a : Almanac) (img : List Byte) (i : Nat) : List (Nat × Nat) :=
  let d := a.declAt i
  let o := 8 + 8 * i
  needIn img (d.1 < a.units64) 9 o ++ needIn img (d.2.1 < a.units64) 9 (o + 1)
    ++ needIn img (d.2.2 == 0xFF || decide (d.2.2 < i)) 9 (o + 2)
    ++ needIn img (d.2.2 == 0xFF || (a.arc i).all (fun p => (a.arc d.2.2).contains p)) 9 o
    ++ needIn img ((List.range i).all (fun j => (a.declAt j).2.2 != d.2.2 || !(a.arc i).any (a.arc j).contains)) 9 o
    ++ needIn img (a.level 64 i ≤ 18) 9 (o + 2)
    ++ needIn img (1 ≤ a.members i && a.members i ≤ 16) 9 o

/-- 0x11 RING. -/
def badRing (img : List Byte) (a : Almanac) : Bad :=
  failsAt 0x11 (needIn img (a.role == 1 || a.decls.isEmpty) 9 3
    ++ (List.range a.decls.length).flatMap (a.declBad img))

/-- 0x12 NETWORK (R44). -/
def badNetwork (img : List Byte) (a : Almanac) : Bad :=
  failsAt 0x12 ((List.range 4).flatMap (fun k =>
    let x := a.octets.getD k (1, 0xFF)
    let y := a.octets.getD x.2 (1, 0xFF)
    needIn img (x.2 == 0xFF || (x.2 != k && y.2 == k && y.1 == x.1 && x.1 != 0)) 7 (4 * k + 1)))

/-- The bytes of a section of an Almanac. -/
def Almanac.sec (a : Almanac) (ty : Nat) : Option (List Byte) :=
  (a.sections.find? (fun x => x.ty == ty)).map (fun x => x.bytes)

/-- The first byte in which two lists differ. -/
def firstDiff : List Byte → List Byte → Nat
  | x :: r, y :: t => if x = y then 1 + firstDiff r t else 0
  | _, _ => 0

/-- A section that differs from the one in force. -/
def lockedIn (img : List Byte) (old new : Almanac) (ty : Nat) : List (Nat × Nat) :=
  match old.sec ty, new.sec ty with
  | some x, some y => needIn img (x == y) ty (firstDiff x y)
  | none, none => []
  | _, _ => [placeOf img ty 0]

/-- 0x13 LOCKED and 0x14 LEDGER. -/
def badLocked (c : CheckCtx) (img : List Byte) (a : Almanac) : Bad :=
  match c.inForce with
  | some old => failsAt 0x13 ([6, 7, 8, 9].flatMap (lockedIn img old a))
  | none =>
    let m := (a.sec 6).getD []
    failsAt 0x14 (needIn img (c.ledger.isEmpty || m == c.ledger || !c.unreleased || c.forfeit) 6 (firstDiff m c.ledger))

/-- Every check of R47 in the order of the codes. -/
def badImage (c : CheckCtx) (img : List Byte) : Bad :=
  match firstBad [badMagic img, badLength c img, badTable img] with
  | some b => some b
  | none =>
    match firstBad [badCrc img, badDigest img, badSignature c img, badTrust c img, badBind c img, badMissing img,
        badUnknown img, badField img] with
    | some b => some b
    | none =>
      let a := almanacOf c img
      firstBad [badChannel img a, badPartition img a, badRoute img a, badPrivilege img a, badRing img a,
        badNetwork img a, badLocked c img a]

/-- The checks that R361 makes of a package's ALMD: codes 0x01 to 0x0C. -/
def badAlmd (c : CheckCtx) (img : List Byte) : Bad :=
  match firstBad [badMagic img, badLength c img, badTable img] with
  | some b => some b
  | none => firstBad [badCrc img, badDigest img, badSignature c img, badTrust c img, badBind c img, badMissing img,
      badUnknown img, badField img]

/-! ### The affected set of a reload (R53) -/

/-- The banks that a group covers in an Almanac. -/
def Almanac.gbanks (a : Almanac) (g : Nat) : List Nat :=
  match a.gcfg g with
  | none => []
  | some c => (List.range 16).filter (fun b => (a.chans c).any (fun x => x / 16 == b))

/-- The program and the FIR set that a bank uses. -/
def Almanac.progOf (a : Almanac) (b : Nat) : Option ProgCfg × Option FirCfg :=
  match a.banks[b]? with
  | none => (none, none)
  | some c =>
    let p := if c.prog = 0xFF then none else (a.progs[c.prog]?).join
    (p, match p with
      | some q => a.firs.find? (fun f => f.inst == q.fir)
      | none => none)

/-- An entry's bytes within a section, zeros where the section is absent. -/
def Almanac.entry (a : Almanac) (ty o n : Nat) : List Byte :=
  match a.sec ty with
  | some d => (d.drop o).take n
  | none => List.replicate n 0

/-- A GROUP entry that differs directly changes every bank that the group covers in either image. -/
def groupChanged (old new : Almanac) (g : Nat) : Bool := old.entry 2 (16 * g) 16 != new.entry 2 (16 * g) 16

/-- A bank is directly changed. -/
def directly (old new : Almanac) (b : Nat) : Bool :=
  old.entry 1 (4 * b) 4 != new.entry 1 (4 * b) 4 || old.progOf b != new.progOf b
    || old.entry 3 (32 * b) 32 != new.entry 3 (32 * b) 32
    || (List.range 32).any (fun g => groupChanged old new g && ((old.gbanks g).contains b || (new.gbanks g).contains b))

/-- A group's trigger source is a route that differs, or a Conjunction fed by an affected bank. -/
def sourceHit (old new a : Almanac) (aff : List Nat) (g : Nat) : Bool :=
  match a.gcfg g with
  | none => false
  | some c =>
    if c.srcKind = 1 then
      old.conjs[c.srcIndex]? != new.conjs[c.srcIndex]?
        || (match (a.conjs[c.srcIndex]?).join with
          | some j => j.srcs.any (fun x => x.1 == 0 && aff.contains (x.2 / 8))
          | none => false)
    else c.srcKind = 4 && old.rlines[c.srcIndex]? != new.rlines[c.srcIndex]?

/-- One round of the closure. -/
def affectRound (old new : Almanac) (aff : List Nat) : List Nat :=
  let hit := fun (a : Almanac) (g : Nat) => (a.gbanks g).any aff.contains || sourceHit old new a aff g
  (List.range 16).filter (fun b => aff.contains b || (List.range 32).any (fun g =>
    ((old.gbanks g).contains b && hit old g) || ((new.gbanks g).contains b && hit new g)))

def affectClose (old new : Almanac) : Nat → List Nat → List Nat
  | 0, aff => aff
  | n + 1, aff => affectClose old new n (affectRound old new aff)

/-- The affected banks of a reload. Sixteen rounds close the set, since each adds a bank or nothing. -/
def affectedBanks (old new : Almanac) : List Nat :=
  affectClose old new 16 ((List.range 16).filter (directly old new))

end Sys2Proof.Machine
end

