-- ==== Sys2Proof/Machine/Procession.lean ====
section
/-! DEFINITION. Processions: their direct members in order, the unit that a path reaches, and where this unit stands among
them (R292, R293, R24). -/

namespace Sys2Proof.Machine

/-- A unit a path can reach: a procession by its declaration, or the device at a position. -/
inductive RUnit where
  | proc (i : Nat)
  | dev (pos : Nat)
  deriving DecidableEq, Repr

/-- The direct members of a declaration in eastward order (R292). -/
def Almanac.memberList (a : Almanac) (i : Nat) : List RUnit :=
  (a.arc i).filterMap (fun p => match (a.kids i).find? (fun j => (a.arc j).contains p) with
    | none => some (.dev p)
    | some j => if (a.declAt j).1 = p then some (.proc j) else none)

/-- The position of the first unit of a member, and its devices. -/
def Almanac.firstPos (a : Almanac) : RUnit → Nat
  | .proc i => (a.declAt i).1
  | .dev p => p

def Almanac.devices (a : Almanac) : RUnit → List Nat
  | .proc i => a.arc i
  | .dev p => [p]

/-- DEPTH of a unit: 0 for a device, 1 plus the greatest of the members for a procession (UNIT_INDEX). -/
def Almanac.depth (a : Almanac) : Nat → RUnit → Nat
  | 0, _ => 0
  | _ + 1, .dev _ => 0
  | n + 1, .proc i => 1 + ((a.memberList i).map (a.depth n)).foldl max 0

/-- The unit reached from a root by `n` steps of a path, 4 bits a step from the lowest (R292). -/
def Almanac.descend (a : Almanac) : Nat → Nat → RUnit → Option RUnit
  | 0, _, u => some u
  | _ + 1, _, .dev _ => none
  | n + 1, path, .proc i => match (a.memberList i)[path % 16]? with
    | some u => a.descend n (path / 16) u
    | none => none

/-- The procession roles are in force (R279). -/
def State.roles (s : State) : Bool := s.ringMember && s.bit Reg.rngStatus 1

/-- The declarations that enclose this unit while its roles are in force, outermost first. -/
def State.around (s : State) : List Nat := if s.roles then s.enclosing else []

/-- The innermost procession. -/
def State.innermost (s : State) : Option Nat := s.around.getLast?

/-- The processions this unit heads, from the innermost (RNG_DIVERGENT). -/
def State.heads (s : State) : List Nat := (s.around.filter (fun i => s.headOf i == s.ringPos)).reverse

/-- This unit's member index in a declaration. -/
def State.memberIn (s : State) (i : Nat) : Nat :=
  match s.alm with
  | none => 0
  | some a => (a.memberList i).findIdx (fun m => (a.devices m).contains s.ringPos)

/-- What a window names: RESULT, and the unit where it names one (RNG_WIN_CTL). -/
inductive WinTarget where
  | none (result : Nat)
  | at_ (u : RUnit)
  deriving DecidableEq, Repr

def WinTarget.result : WinTarget → Nat
  | .none r => r
  | .at_ (.dev _) => 1
  | .at_ (.proc _) => 2

/-- The unit that a window control word and a path resolve to (R293). The device at this unit's own position is always
there; the others are while this unit takes part in the ring. -/
def State.resolveWin (s : State) (ctl : Word) (path : Nat) : WinTarget :=
  if fld ctl 0 0 = 0 then .none 0
  else if 18 < fld ctl 20 16 then .none 4
  else
    let root := fld ctl 13 8
    if fld ctl 1 1 = 0 then
      (if fld ctl 20 16 ≠ 0 then .none 3
       else if root = s.ringPos ∨ (s.ringMember ∧ root < (match s.alm with | some a => a.units64 | none => 0)) then
         .at_ (.dev root)
       else .none 3)
    else match s.alm with
      | none => .none 3
      | some a =>
        if s.ringMember ∧ root < a.decls.length then
          (match a.descend (fld ctl 20 16) path (.proc root) with
           | some u => .at_ u
           | none => .none 3)
        else .none 3

end Sys2Proof.Machine
end

