-- ==== Sys2Proof/Machine/Harvest.lean ====
section
/-! DEFINITION. The commands of "Harvest engines" (R220 to R249, R430): doorbells and chains, the judging of
descriptors, transfers and completion, errors, disabling and the engine's controls. -/

namespace Sys2Proof.Machine

/-! ### Addresses and descriptors (R222, R224) -/

def endMark : Nat := 1

/-- The address names the engine's local memory. -/
def isLocal (a : Nat) : Bool := a.testBit 63

/-- A multiple of 64 that keeps the local-memory rule. -/
def addrOk (a : Nat) : Bool := a % 64 == 0 && (!isLocal a || (a / 2 ^ 15) % 2 ^ 48 == 0)

/-- The address of a descriptor. -/
def descAddrOk (a : Nat) : Bool := a != 0 && addrOk a

/-- A NEXT that keeps the rule: the end mark, or a descriptor's address. -/
def nextOk (n : Nat) : Bool := n == endMark || descAddrOk n

/-- A descriptor not yet read. -/
def Desc.unread (tag : Nat) : Desc := ⟨endMark, 0, 0, 0, 0, tag, 0, 0, 0, 0, 0, 0⟩

def descOf (b : List Byte) : Desc :=
  ⟨leAt b 0 8, leAt b 8 1, leAt b 9 1, leAt b 10 1, leAt b 11 1, leAt b 12 4, leAt b 16 8, leAt b 24 8, leAt b 32 8,
    leAt b 40 8, leAt b 48 1, leAt b 52 4⟩

def Desc.swap (d : Desc) : Bool := d.flags.testBit 0
def Desc.irq (d : Desc) : Bool := d.flags.testBit 1
def Desc.quiet (d : Desc) : Bool := d.flags.testBit 2
def Desc.cont (d : Desc) : Bool := d.flags.testBit 3
def Desc.devOffset (d : Desc) : Nat := d.srcB % 2 ^ 32
def Desc.blockCrc (d : Desc) : Nat := d.srcB / 2 ^ 32

/-- Bytes of an engine's local memory (R224). -/
def State.lread (s : State) (e a n : Nat) : List Byte := tgetAll s.mem.lmem 0 (32768 * e + a % 32768) n
def State.lwrite (s : State) (e a : Nat) (bs : List Byte) : State :=
  s.putLmem (32768 * e + a % 32768) bs

/-- The PCIe link is up. -/
def State.pcieUp (s : State) : Bool := s.bit Reg.prtPcieStatus 0

/-- An address that cannot be reached while the link is down. -/
def State.cutOff (s : State) (a : Nat) : Bool := !isLocal a && !s.pcieUp

/-- A 64-bit register pair. -/
def State.rd64 (s : State) (off : Nat) : Nat := s.rdq off 2
def State.wr64 (s : State) (off v : Nat) : State := s.wrq off 2 v

/-! ### The completion queue (R243, R244) -/

def State.cqLog2 (s : State) (e : Nat) : Nat := min 16 (max 4 (s.rd (Reg.hrvCqSize e) 4 0))

/-- The queue is full. -/
def State.cqFull (s : State) (e : Nat) : Bool :=
  decide (2 ^ s.cqLog2 e = ((s.get (Reg.hrvCqTail e)).toNat + 2 ^ 32 - (s.get (Reg.hrvCqHead e)).toNat) % 2 ^ 32)

/-- The engine's message: held while fewer than HRV_IRQ_GAP core cycles have passed since its last one. -/
def State.engineMsg (s : State) (e : Nat) : State :=
  let x := s.engine e
  let wait := match x.lastMsg with
    | some t => decide (s.cyc < t + s.rd (Reg.hrvIrqGap e) 15 0)
    | none => false
  if wait then s.setEngine e { x with held := true }
  else (s.signal (1 + e)).setEngine e { x with held := false, lastMsg := some s.cyc }

/-- A completion record written at the tail of the queue. -/
def State.writeCompletion (s : State) (e ch tag : Nat) (x : Ended) : State :=
  let t := (s.get (Reg.hrvCqTail e)).toNat
  let l := s.cqLog2 e
  let phase := 1 - (t / 2 ^ l) % 2
  let bs := leBytes 4 tag ++ [BitVec.ofNat 8 x.status, BitVec.ofNat 8 ch, BitVec.ofNat 8 e,
      BitVec.ofNat 8 (phase + x.flags)] ++ leBytes 8 x.bytes ++ leBytes 8 x.first ++ leBytes 8 x.next
  let base := s.rd64 (Reg.hrvCqAddr e)
  let a := base + 32 * (t % 2 ^ l)
  let s1 := if isLocal base then s.lwrite e a bs else s.emit (.hostWrite a bs)
  s1.put (Reg.hrvCqTail e) (BitVec.ofNat 32 (t + 1))

/-! ### Leaving a descriptor -/

/-- The stream that an engine's descriptor sends on is free of it; frames already sent stay to be acknowledged. -/
def State.leaveStream (s : State) (e : Nat) : State :=
  s.forAll (List.range 256) (fun s k =>
    let x := s.stream k
    if x.job = some e then s.setStream k { x with job := none, todo := [], chunks := [], lastFrame := none } else s)

/-- The engine is free, and the partition it read gets its granules back (R230). -/
def State.freeEngine (s : State) (e : Nat) (j : HJob) : State :=
  ((s.leaveStream e).setEngine e { (s.engine e) with job := none, last := j.ch }).prune j.part

/-- The place of a Note offset: its slot and the byte in it (R379). -/
def noteAddr (off : Nat) : Nat := bitsOf off 25 24 * 9216000 + off % 2 ^ 24

/-- Bytes of the destination of an abandoned host-to-device transfer: undefined (R239). -/
def State.spoilDest (s : State) (j : HJob) : State :=
  if j.phase = .run ∧ j.d.op = 3 then
    let f := s.freeBytes j.d.dstLen
    if j.d.sel = 1 then f.2.putStaging j.d.devOffset f.1
    else if j.d.sel = 3 then f.2.putNote (noteAddr j.d.devOffset) f.1
    else s
  else s

/-- A descriptor abandoned because its access needs the link, which is down (R248). -/
def State.lostLink (s : State) (e : Nat) (j : HJob) : State :=
  let c := s.hch e j.ch
  let on := s.bit (Reg.hrvChCtl e j.ch) 0
  let s1 := (s.spoilDest j).setHch e j.ch
    { c with st := if on then 4 else 0, linkLost := true, redo := true, disabling := false }
  (s1.wr64 (Reg.hrvChTail e j.ch) j.addr).freeEngine e j

/-- The channel waits at the tail of its chain, or is queued at once when a doorbell came late (R227). -/
def State.waitAt (s : State) (e : Nat) (j : HJob) : State :=
  let c := s.hch e j.ch
  let s1 := s.setHch e j.ch (if c.db = c.sampled then { c with st := 4 } else { c with st := 2, entry := .tail })
  (s1.wr64 (Reg.hrvChTail e j.ch) j.addr).freeEngine e j

/-- The record of a descriptor that has ended: none where it is quiet, none yet where the queue is full, lost where the
link is down. The flag says that the descriptor's end is settled. -/
def State.record (s : State) (e : Nat) (j : HJob) (x : Ended) : State × Bool :=
  if x.status = 0 ∧ j.d.quiet then (s, true)
  else if s.cutOff (s.rd64 (Reg.hrvCqAddr e)) then (s.lostLink e j, false)
  else if s.cqFull e then (s, false)
  else
    let s1 := s.writeCompletion e j.ch j.d.tag x
    (if j.d.irq ∨ x.status ≠ 0 then s1.engineMsg e else s1, true)

/-- What a channel's failure leaves in the registers (R246). -/
def State.haltRegs (s : State) (e ch status addr : Nat) : State :=
  let s1 := (s.wr64 (Reg.hrvErrAddr e) addr).put (Reg.hrvErrInfo e) (BitVec.ofNat 32 (status + 256 * ch))
  let s2 := if status < 0x20 then s1.countFld (Reg.hrvChErrors e ch) 15 0 1 else s1.countFld (Reg.hrvChErrors e ch) 31 16 1
  (s2.inc (Reg.hrvHalts e)).fault 23 allBanks

/-- A fetch of the descriptor at an address begins, or is lost with the link. -/
def State.fetchAt (s : State) (e ch a : Nat) : State :=
  let j : HJob := ⟨ch, a, .fetch, Desc.unread 0, 0, 0, 0, [], false, false⟩
  let s1 := (s.setHch e ch { (s.hch e ch) with st := 3 }).setEngine e { (s.engine e) with job := some j }
  if s.cutOff a then s1.lostLink e j else s1.wr64 (Reg.hrvChCur e ch) a

/-- The counters that the end of a descriptor advances. -/
def State.endCounts (s : State) (e : Nat) (j : HJob) (x : Ended) (errAddr : Nat) : State :=
  let c := s.hch e j.ch
  let s1 := (s.setHch e j.ch { c with lastStatus := x.status }).count (Reg.hrvChBytes e j.ch) 2 64 x.bytes
  let s2 := if x.status < 0x10 then (s1.inc (Reg.hrvChDone e j.ch)).inc (Reg.hrvDescs e) else s1
  if 0x10 ≤ x.status ∧ x.status < 0x30 then s2.haltRegs e j.ch x.status errAddr else s2

mutual

/-- A descriptor ends with a status: its counters, its record and what its channel does next. `k` bounds the nesting of one
end in another (a re-read that finds a bad NEXT ends the descriptor a second time). `next` is what a re-read of NEXT
returns, where the command carries one. Of a channel that is being disabled every end is DISABLED (R247). -/
def State.endDesc (s : State) (e : Nat) (j : HJob) (x : Ended) (errAddr : Nat) (next : Option Nat) : Nat → State
  | 0 => s
  | k + 1 =>
    let x : Ended := if (s.hch e j.ch).disabling then { x with status := 0x30 } else x
    let j1 := { j with phase := .ended x }
    ((s.endCounts e j x errAddr).setEngine e { (s.engine e) with job := some j1 }).settle e j1 x next k

/-- An ended descriptor is settled: its record written, its channel halted, disabled, or led on. -/
def State.settle (s : State) (e : Nat) (j : HJob) (x : Ended) (next : Option Nat) : Nat → State
  | 0 => s
  | k + 1 =>
    let r := s.record e j x
    let s1 := r.1
    let c := s1.hch e j.ch
    if !r.2 then s1
    else if x.status = 0x30 ∨ c.disabling then
      (s1.setHch e j.ch { c with st := if s1.bit (Reg.hrvChCtl e j.ch) 0 then 1 else 0, disabling := false }).freeEngine e j
    else if 0x10 ≤ x.status then (s1.setHch e j.ch { c with st := 5 }).freeEngine e j
    else if j.d.next ≠ endMark then
      if s1.bit (Reg.hrvCtl e) 0 then ((s1.freeEngine e j).fetchAt e j.ch j.d.next)
      else (s1.setHch e j.ch { c with st := 2, entry := .desc j.d.next }).freeEngine e j
    else if c.db = c.sampled ∨ !s1.bit (Reg.hrvCtl e) 0 then s1.waitAt e j
    else s1.reread e j next k

/-- NEXT of the descriptor at the tail of a chain is read again (R227): from local memory, from what the command carries, or
by a later command. With RUN clear its channel waits in QUEUED for the descriptor found (R249). -/
def State.reread (s : State) (e : Nat) (j : HJob) (next : Option Nat) : Nat → State
  | 0 => s
  | k + 1 =>
    let j1 := { j with phase := .reread }
    if s.cutOff j.addr then s.lostLink e j1
    else
      match (if isLocal j.addr then some (leNat (s.lread e j.addr 8)) else next) with
      | none => s.setEngine e { (s.engine e) with job := some j1 }
      | some n =>
        let c := s.hch e j.ch
        let s1 := (s.setHch e j.ch { c with sampled := c.db }).inc (Reg.hrvChRereads e j.ch)
        if n = endMark then s1.waitAt e j
        else if descAddrOk n then
          (if s1.bit (Reg.hrvCtl e) 0 then (s1.freeEngine e j).fetchAt e j.ch n
           else (s1.setHch e j.ch { (s1.hch e j.ch) with st := 2, entry := .desc n }).freeEngine e j)
        else s1.endDesc e { j with d := Desc.unread j.d.tag } ⟨0x15, 0, 0, 0, 0⟩ j.addr none k

end

/-- The nesting that any end of a descriptor needs. -/
def endDepth : Nat := 8

/-! ### Doorbells (R226) -/

/-- A doorbell. It demands Feast (R311). -/
def State.doDoorbell (s : State) (e ch : Nat) : State :=
  let s := s.demandExit
  let c := s.hch e ch
  if c.st = 0 then s
  else
    let c1 := { c with db := (c.db + 1) % 2 ^ 16 }
    s.setHch e ch
      (if c.st = 1 then { c1 with st := 2, entry := .head }
       else if c.st = 4 then
         if c.redo then (if s.pcieUp then { c1 with st := 2, entry := .desc (s.rd64 (Reg.hrvChTail e ch)) } else c1)
         else { c1 with st := 2, entry := .tail }
       else c1)

/-- HARVEST_DOORBELL (R226). -/
def execHarvestDoorbell (dt : Nat) (e : Fin 5) (c : Fin 64) (s : State) : Res := .next ((s.start dt).doDoorbell e c)

/-! ### Taking a channel and fetching (R227, R430) -/

/-- The next QUEUED channel in ascending order after the one served last. -/
def State.nextChannel (s : State) (e : Nat) : Option Nat :=
  ((List.range 64).map (fun k => ((s.engine e).last + 1 + k) % 64)).find? (fun c => (s.hch e c).st == 2)

/-- A channel's chain starts or goes on: a bad head fails before any fetch (R224). -/
def State.takeChannel (s : State) (e ch next : Nat) : State :=
  let c := s.hch e ch
  let s1 := s.setHch e ch { c with st := 3 }
  let start := fun (a : Nat) =>
    if descAddrOk a then s1.fetchAt e ch a
    else (s1.wr64 (Reg.hrvChCur e ch) a).endDesc e ⟨ch, a, .fetch, Desc.unread 0, 0, 0, 0, [], false, false⟩ ⟨0x15, 0, 0, 0, 0⟩ a none
      endDepth
  match c.entry with
  | .head => start (s.rd64 (Reg.hrvChHead e ch))
  | .desc a => start a
  | .tail => s1.reread e ⟨ch, s.rd64 (Reg.hrvChTail e ch), .reread, Desc.unread c.tag, 0, 0, 0, [], false, false⟩ (some next) endDepth

/-- ENGINE_TAKE_CHANNEL (R227): `next` is what a re-read of NEXT at HRV_CH_TAIL returns from host memory. -/
def execEngineTakeChannel (dt : Nat) (e : Fin 5) (next : Nat) (s : State) : Res :=
  let s := s.start dt
  if s.bit (Reg.hrvCtl e) 0 ∧ (s.engine e).job.isNone then
    match s.nextChannel e with
    | some c => .next (s.takeChannel e c next)
    | none => .next s
  else .next s

/-- The 72-bit sequence with the given low 64 bits within 2^63 of AQG_COMMIT_SEQ (R229). -/
def State.resolveSeq (s : State) (p low : Nat) : Int :=
  let q := (s.part p).seq
  let d : Nat := (low + 2 ^ 64 - q % 2 ^ 64) % 2 ^ 64
  if d < 2 ^ 63 then (q : Int) + d else (q : Int) + d - 2 ^ 64

/-- The sequences that a range names: from S0 below S1 + 1 (R229). -/
def State.resolveRange (s : State) (p first last : Nat) : Nat × Nat :=
  let lo := max (s.resolveSeq p first) (s.part p).released
  let hi := min (s.resolveSeq p last) ((s.part p).seq - 1 : Int) + 1
  (lo.toNat, max lo hi |>.toNat)

/-- The record of a reshuffle. -/
def State.oneRec (s : State) (d : Desc) : Option DirEntry :=
  let r := s.resolveRange d.sel d.srcA d.srcA
  (s.part d.sel).recs.find? (fun x => r.1 ≤ x.seq ∧ x.seq < r.2)

/-- A partition has an owner. -/
def State.owned (s : State) (p : Nat) : Bool := decide (p < 32) && s.enabledGroups.any (fun g => s.gpart g == p)

/-- The planes of a record as PLANE writes them. -/
def State.recPlanes (s : State) (d : Desc) (r : DirEntry) (noted : List Nat) : List (List Byte) :=
  let x := s.recWords d.sel r false noted
  planesOf r.layout (if x.2.1 then 0 else r.payload) d.swap x.1

/-- An OP that the spec lists, on an engine that may run it (R221). -/
def opAllowed (e op : Nat) : Bool := op ≤ 2 || (op ≤ 5 && e == 4)

/-- The FORMAT that an OP allows (R221), and SWAP with it (R235). -/
def formatAllowed (d : Desc) : Bool :=
  (if d.op = 0 then true else if d.op = 1 then d.format ≤ 3 else if d.op ≤ 3 then d.format == 3 else d.format == 2)
    && (d.op == 0 || !(d.swap && (d.format == 0 || d.format == 3)))

/-- Reserved bytes, and fields that the OP or the engine leaves 0 (R222, R237). -/
def reservedClean (e : Nat) (bs : List Byte) (d : Desc) : Bool :=
  leAt bs 0x31 3 == 0 && leAt bs 0x38 4 == 0 && d.flags < 16
    && (d.sel == 0 || d.op == 1 || (3 ≤ d.op && d.op ≤ 5)) && (d.stride == 0 || d.op == 4)
    && (e == 4 || d.op == 0 || d.dst < 2 ^ 16) && (d.op != 3 || d.dst == 0)
    && (d.ringLog2 == 0 || (12 ≤ d.ringLog2 && d.ringLog2 ≤ 40 && e == 4 && d.op != 3))

/-- The alignment rules of a ring and of STRICT (R237, R238). -/
def aligned (e : Nat) (strict : Bool) (d : Desc) : Bool :=
  if e ≠ 4 ∨ d.op = 0 then true
  else
    let st := !strict || (if d.op = 3 then d.srcA % 64 == 0 && d.dstLen % 64 == 0
      else d.dst % 64 == 0 && d.dstLen % 64 == 0)
    st && (d.op == 3 || d.ringLog2 == 0 || (d.dst % 2 ^ d.ringLog2 == 0 && decide (d.dstLen ≤ 2 ^ d.ringLog2)))

/-- The ranges of a descriptor (R224, R229, R233, R239, R241). What depends on the Almanac is judged only under one, since
without one the descriptor completes with BAD_STATE (R249). -/
def State.rangeOk (s : State) (e : Nat) (d : Desc) : Bool :=
  let loaded := s.alm.isSome
  if d.op = 0 then true
  else if d.op = 3 then
    if d.sel = 1 then decide (d.devOffset + d.dstLen ≤ 2 ^ 20)
    else if d.sel = 2 then decide (d.devOffset % 4096 = 0 ∧ 1 ≤ d.dstLen ∧ d.dstLen ≤ 4096)
      && (s.updState != 2 || s.blockFits d.devOffset d.dstLen)
    else if d.sel = 3 then decide (d.devOffset < 2 ^ 26 ∧ d.devOffset % 2 ^ 24 + d.dstLen ≤ 9216000)
    else false
  else
    (e != 4 || !isLocal d.dst) &&
      (if d.op = 2 then !loaded || decide (1 ≤ d.srcB ∧ d.srcA + d.srcB ≤ s.spaceGranules)
       else
        (!loaded || s.owned d.sel) && (d.op == 1 || d.srcA == d.srcB) &&
          (d.op != 4 || !loaded ||
            match s.oneRec d with
            | none => true
            | some r =>
              let ps := s.recPlanes d r []
              ps.all (fun b => decide (b.length ≤ 64 * d.stride)) && decide (ps.length * 64 * d.stride ≤ d.dstLen)))

/-- A descriptor that ends with BAD_STATE (R239, R240, R249, R359). -/
def State.stateBad (s : State) (d : Desc) : Bool :=
  if d.op = 3 then (d.sel == 1 && (s.almState == 1 || s.almState == 3 || s.almState == 4)) || (d.sel == 2 && s.updState != 2)
  else if d.op = 0 then false
  else s.alm.isNone || (4 ≤ d.op && s.anyArmed && !s.bit Reg.fltAction 17)

/-- The stream of a descriptor can take it: open, of the engine's octet, and no target of forwarded records (R257, R304). -/
def State.streamOk (s : State) (e : Nat) (d : Desc) : Bool :=
  let k := d.dst % 2 ^ 16
  decide (k < 256) && ((s.stream k).st == 1 || (s.stream k).st == 2) && s.rd (Reg.prtStCtl k) 13 12 == e
    && (s.stream k).owner.isNone

/-- The status a fetched descriptor is judged with, 0 where it may run (R430). -/
def State.judge (s : State) (e : Nat) (strict : Bool) (bs : List Byte) (d : Desc) : Nat :=
  if crc32c ((bs.drop 8).take 0x34) ≠ leAt bs 0x3C 4 then 0x10
  else if !opAllowed e d.op then 0x11
  else if !reservedClean e bs d || !formatAllowed d then 0x12
  else if !nextOk d.next then 0x15
  else if !aligned e strict d then 0x13
  else if !s.rangeOk e d then 0x14
  else if s.stateBad d then 2
  else if e ≠ 4 ∧ d.op ≠ 0 ∧ !s.streamOk e d then 0x23
  else 0

/-- FIRST of a descriptor that ends as it is judged (R243); nothing is delivered, so NEXT is the same (log entry 106). -/
def State.judgedFirst (s : State) (d : Desc) : Nat :=
  if d.op = 1 then (s.resolveRange d.sel d.srcA d.srcB).1 % 2 ^ 64
  else if d.op = 2 then d.srcA
  else if d.op = 3 then d.devOffset
  else 0

/-- The ring position that `n` bytes of an H4 descriptor start from and lead to (R237). -/
def State.ringFrom (s : State) (j : HJob) : Nat := if j.d.cont then s.rd64 (Reg.hrvChRingPos 4 j.ch) else 0

def State.ringMoved (s : State) (j : HJob) (n : Nat) : State :=
  if j.d.ringLog2 = 0 then s else s.wr64 (Reg.hrvChRingPos 4 j.ch) ((s.ringFrom j + n) % 2 ^ j.d.ringLog2)

/-- The transfer of a judged descriptor begins, a host-to-device one with its reads (R236), or the descriptor ends at once where
it has no output (R242). -/
def State.beginDesc (s : State) (e : Nat) (j : HJob) : State :=
  let d := j.d
  let r := if d.op = 2 ∨ d.op = 3 ∨ d.op = 0 then (0, 0) else s.resolveRange d.sel d.srcA (if d.op = 1 then d.srcB else d.srcA)
  let j1 := { j with phase := .run, part := if d.op = 2 ∨ d.op = 3 then 0 else d.sel, lo := r.1, hi := r.2 }
  let s1 := s.touchStacks
  if d.op = 0 then s1.endDesc e j ⟨0, 0, 0, 0, 0⟩ 0 none endDepth
  else if d.op ≠ 2 ∧ d.op ≠ 3 ∧ r.2 ≤ r.1 then
    (s1.ringMoved j 0).endDesc e j ⟨0, 0, if d.op = 1 then r.1 % 2 ^ 64 else 0, r.1 % 2 ^ 64, 0⟩ 0 none endDepth
  else
    let s2 := s1.setEngine e { (s1.engine e) with job := some j1 }
    if e = 4 then
      if !s.pcieUp then s2.lostLink e j1 else if d.op = 3 then s2.emitReads d.srcA d.dstLen else s2
    else
      let k := d.dst % 2 ^ 16
      s2.setStream k { (s2.stream k) with
        job := some e, chunks := [], lastFrame := none, bytes := 0, flags := 0,
        todo := (List.range (r.2 - r.1)).map (fun i => r.1 + i) }

/-- Harvest waits: in the pause of an activation and in a power-fail sequence (R319, R363). -/
def State.harvestWaits (s : State) : Bool := s.updState == 7 || s.pfAt.isSome

/-- DESCRIPTOR_FETCH (R430): the bytes that the fetch returns from host memory; a descriptor in local memory is read
there. -/
def execDescriptorFetch (dt : Nat) (e : Fin 5) (bytes : List Byte) (s : State) : Res :=
  let s := s.start dt
  match (s.engine e).job with
  | none => .next s
  | some j =>
    let c := s.hch e j.ch
    if j.phase ≠ .fetch ∨ c.disabling ∨ s.harvestWaits then .next s
    else
      let bs := if isLocal j.addr then s.lread e j.addr 64 else bytes
      let d := descOf bs
      let s1 := (s.setHch e j.ch { c with sampled := c.db, redo := false, tag := d.tag }).setBit (Reg.hrvChCtl e j.ch) 8 false
      let j1 := { j with d := d, strict := s.bit (Reg.hrvChCtl e j.ch) 1 }
      let st := s1.judge e j1.strict bs d
      if st = 0 then .next (s1.beginDesc e j1)
      else
        let at_ := s1.judgedFirst d
        .next (s1.endDesc e j1 ⟨st, 0, at_, at_, 0⟩ j.addr none endDepth)

/-! ### The output of a descriptor -/

/-- What a descriptor of H4 puts out: pieces at offsets of its destination, and what its completion says. -/
structure Haul where
  pieces : List (Nat × List Byte)
  granules : Nat
  done : Ended

/-- Whole records up to DST_LEN (R229, R232): bytes so far, the next sequence, granules, flags and whether one was left. -/
def State.haulRecs (s : State) (p fmt : Nat) (swap strict : Bool) (room : Nat) (noted : List Nat) :
    List DirEntry → List Byte × Nat × Nat × Nat × Bool → List Byte × Nat × Nat × Nat × Bool
  | [], h => h
  | r :: t, h =>
    let d := s.deliverRec p r fmt swap noted
    let b := h.1 ++ d.bytes
    if room < (padded strict b).length then (h.1, r.seq, h.2.2.1, h.2.2.2.1, true)
    else
      s.haulRecs p fmt swap strict room noted t (b, r.seq + 1, h.2.2.1 + r.granules,
        h.2.2.2.1 ||| 2 * b2n d.rebuilt ||| 4 * b2n d.lost, false)

/-- The records a descriptor reads. -/
def State.jobRecs (s : State) (j : HJob) : List DirEntry :=
  (s.part j.part).recs.filter (fun r => j.lo ≤ r.seq ∧ r.seq < j.hi)

/-- The output of a RECORDS descriptor (R229 to R232). -/
def State.haulRecords (s : State) (j : HJob) (strict : Bool) : Haul :=
  let d := j.d
  let h := s.haulRecs j.part d.format d.swap strict d.dstLen j.rebuilt (s.jobRecs j) ([], j.lo, 0, 0, false)
  let bs := padded strict h.1
  ⟨[(0, bs)], h.2.2.1, ⟨b2n h.2.2.2.2, bs.length, j.lo % 2 ^ 64, (if h.2.2.2.2 then h.2.1 else j.hi) % 2 ^ 64, h.2.2.2.1⟩⟩

/-- The output of a GRANULES descriptor, cut at whole granules (R233). -/
def State.haulGranules (s : State) (j : HJob) (strict : Bool) : Haul × State :=
  let d := j.d
  let cut := fun (n : Nat) => decide ((padded strict (List.replicate (36 * n) 0)).length ≤ d.dstLen)
  let m0 := min d.srcB (d.dstLen / 36)
  let m := if cut m0 then m0 else m0 - 1
  let x := s.bar2Bytes (36 * d.srcA) (36 * m)
  let bs := if m = 0 then [] else padded strict x.1
  let lost := s.lost.any (fun g => decide (d.srcA ≤ g ∧ g < d.srcA + m))
  (⟨[(0, bs)], m, ⟨b2n (decide (m < d.srcB)), bs.length, d.srcA, d.srcA + m, 4 * b2n lost⟩⟩, x.2)

/-- The output of a reshuffle (R240, R241). The planes are padded one by one under STRICT. -/
def State.haulReshuffle (s : State) (j : HJob) (strict : Bool) : Haul × State :=
  let d := j.d
  match s.jobRecs j with
  | [] => (⟨[], 0, ⟨0, 0, 0, j.hi % 2 ^ 64, 0⟩⟩, s)
  | r :: _ =>
    let x := s.recWords j.part r false j.rebuilt
    let flags := 2 * b2n x.2.2 + 4 * b2n x.2.1
    let pay := if x.2.1 then 0 else r.payload
    if d.op = 4 then
      let ps := (planesOf r.layout pay d.swap x.1).map (padded strict)
      (⟨ps.zipIdx.map (fun y => (64 * d.stride * y.2, y.1)), r.granules,
        ⟨0, (ps.map List.length).sum, 0, (r.seq + 1) % 2 ^ 64, flags⟩⟩, s)
    else
      let lay := match s.enabledGroups.find? (fun g => s.gpart g == j.part) with | some g => s.glayout g | none => 0
      let raw := padded strict (deinterleaved r.layout pay d.swap x.1)
      let f := if r.layout = lay then (raw, s) else s.freeBytes raw.length
      if d.dstLen < f.1.length then (⟨[], 0, ⟨1, 0, 0, r.seq % 2 ^ 64, 0⟩⟩, s)
      else (⟨[(0, f.1)], r.granules, ⟨0, f.1.length, 0, (r.seq + 1) % 2 ^ 64, flags⟩⟩, f.2)

/-- The output of an H4 descriptor to host memory. -/
def State.haul (s : State) (j : HJob) : Haul × State :=
  if j.d.op = 1 then (s.haulRecords j j.strict, s)
  else if j.d.op = 2 then s.haulGranules j j.strict
  else s.haulReshuffle j j.strict

/-- The read port of an engine: 16 to 19 of the Ethernet engines, 20 of H4 (R201). -/
def hrvPort (e : Nat) : Nat := 16 + e

/-- The output written: its PCIe writes, the flush read that follows them, its tokens and the ring position (R201, R236, R237,
R242). -/
def State.deliverHost (s : State) (j : HJob) (h : Haul) : State :=
  let k := j.d.ringLog2
  let p := s.ringFrom j
  let runs := h.pieces.flatMap (fun x => runsOf (if k = 0 then j.d.dst + x.1 else j.d.dst) k (x.2.length + 1) (p + x.1) x.2)
  ((((s.emitRuns runs).emitFlush runs).pass (hrvPort 4) h.granules).ringMoved j h.done.bytes)

/-- The reads of a record wait; those of a lost record are none. -/
def State.recHeld (s : State) (p : Nat) (r : DirEntry) : Bool :=
  !s.recLost p r && (List.range r.granules).any (fun k => s.readHeld (36 * s.wrapIn p (r.addr + k)) 36)

/-- A read of an H4 descriptor waits for a controller (R217, R230) or for the tokens of its port (R202). -/
def State.jobWaits (s : State) (j : HJob) : Bool :=
  !s.mayPass (hrvPort 4) ||
    (if j.d.op = 2 then s.readHeld (36 * j.d.srcA) (36 * min j.d.srcB (j.d.dstLen / 36))
     else (s.jobRecs j).any (s.recHeld j.part))

/-- The bytes of a host-to-device transfer, as many as it moves. -/
def h2dBytes (n : Nat) (bs : List Byte) : List Byte := (bs ++ List.replicate n 0).take n

/-- A host-to-device transfer reaches its destination (R239). A block that is to be staged leaves the descriptor running until
it is. -/
def State.deliverDevice (s : State) (j : HJob) (bytes : List Byte) (next : Option Nat) : State :=
  let d := j.d
  let bs := h2dBytes d.dstLen bytes
  let ok : Ended := ⟨0, d.dstLen, d.devOffset, d.devOffset + d.dstLen, 0⟩
  let bad := fun (st : Nat) => (⟨st, 0, d.devOffset, d.devOffset, 0⟩ : Ended)
  let fin := fun (s : State) (x : Ended) => s.endDesc 4 j x j.addr next endDepth
  if d.sel = 1 then
    if s.stateBad d then fin s (bad 2) else fin (s.putStaging d.devOffset bs) ok
  else if d.sel = 3 then
    fin ((s.pass (hrvPort 4) (ceilDiv d.dstLen 36)).putNote (noteAddr d.devOffset) bs) ok
  else
    match s.blockFate d.devOffset bs d.blockCrc with
    | .stage =>
      if s.blkJob.isSome then s
      else ({ s with blkJob := some ⟨d.devOffset, bs, .h2d⟩ } : State).setEngine 4
        { (s.engine 4) with job := some { j with blk := true } }
    | .already => fin s ok
    | .badCrc => fin s.blockRefused (bad 3)
    | .badState => fin s (bad 2)
    | .badRange => fin s (bad 0x14)

/-- The descriptor on a stream: complete when the acknowledged NEXT has passed the frame that carries DESC_END (R242,
R264). -/
def State.streamDone (s : State) (e : Nat) (j : HJob) : Option Ended :=
  let x := s.stream (j.d.dst % 2 ^ 16)
  match x.lastFrame with
  | none => none
  | some f =>
    if x.job = some e ∧ f < x.acked then
      some (if j.d.op = 2 then ⟨0, x.bytes, j.d.srcA, j.d.srcA + j.d.srcB, x.flags⟩
        else ⟨0, x.bytes, j.lo % 2 ^ 64, j.hi % 2 ^ 64, x.flags⟩)
    else none

/-- DESCRIPTOR_COMPLETE (R242), while Harvest does not wait and the channel is not being disabled: `bytes` is what a
host-to-device transfer read, and `next` what a re-read of NEXT returns from host memory. -/
def execDescriptorComplete (dt : Nat) (e : Fin 5) (bytes : List Byte) (next : Nat) (s : State) : Res :=
  let s := s.start dt
  match (s.engine e).job with
  | none => .next s
  | some j =>
    match j.phase with
    | .fetch => .next s
    | .reread => .next (if (s.hch e j.ch).disabling then s else s.reread e j (some next) endDepth)
    | .ended x => .next (s.settle e j x (some next) endDepth)
    | .run =>
      if (s.hch e j.ch).disabling ∨ s.harvestWaits then .next s
      else if e.val ≠ 4 then
        match s.streamDone e j with
        | some x => .next (s.endDesc e j x j.addr (some next) endDepth)
        | none => .next s
      else if j.d.op = 3 then
        .next (if j.blk ∨ (j.d.sel = 3 ∧ !s.mayPass (hrvPort 4)) then s else s.deliverDevice j bytes (some next))
      else if s.jobWaits j then .next s
      else
        let h := s.haul j
        .next ((h.2.deliverHost j h.1).endDesc e j h.1.done j.addr (some next) endDepth)

/-- CQ_HEAD_WRITE (R244). -/
def State.doCqHead (s : State) (e : Nat) (w : Word) : State :=
  let s1 := s.put (Reg.hrvCqHead e) w
  match (s1.engine e).job with
  | none => s1
  | some j => match j.phase with
    | .ended x => s1.settle e j x none endDepth
    | _ => s1

def execCqHeadWrite (dt : Nat) (e : Fin 5) (value : Word) (s : State) : Res := .next ((s.start dt).doCqHead e value)

/-- HRV_IRQ_GAP_EXPIRY (R244). -/
def execHrvIrqGapExpiry (dt : Nat) (e : Fin 5) (s : State) : Res :=
  let s := s.start dt
  .next (if (s.engine e).held then s.engineMsg e else s)

/-! ### Errors, disabling and the link (R246 to R248) -/

/-- RESUME (R246): the descriptor at HRV_CH_CUR is fetched again. -/
def State.doResume (s : State) (e ch : Nat) : State :=
  let c := s.hch e ch
  if c.st = 5 then
    (s.setHch e ch { c with st := 2, entry := .desc (s.rd64 (Reg.hrvChCur e ch)) }).setBit (Reg.hrvChCtl e ch) 8 true
  else s

def execChannelResume (dt : Nat) (e : Fin 5) (c : Fin 64) (s : State) : Res := .next ((s.start dt).doResume e c)

/-- ENABLE set (R247): a DISABLED channel is IDLE; one that is being disabled is IDLE once that is done. -/
def State.doEnable (s : State) (e ch : Nat) : State :=
  let c := s.hch e ch
  let s1 := s.setBit (Reg.hrvChCtl e ch) 0 true
  if c.st = 0 then s1.setHch e ch { c with st := 1 } else s1

def execChannelEnable (dt : Nat) (e : Fin 5) (c : Fin 64) (s : State) : Res := .next ((s.start dt).doEnable e c)

/-- ENABLE cleared (R247): a channel that holds a descriptor waits for its outstanding requests. -/
def State.doDisable (s : State) (e ch : Nat) : State :=
  let c := s.hch e ch
  let s1 := (s.setBit (Reg.hrvChCtl e ch) 0 false).setBit (Reg.hrvChCtl e ch) 8 false
  if c.st = 0 then s1
  else if c.st = 3 then s1.setHch e ch { c with disabling := true }
  else s1.setHch e ch { c with st := 0 }

def execChannelDisable (dt : Nat) (e : Fin 5) (c : Fin 64) (s : State) : Res := .next ((s.start dt).doDisable e c)

/-- The end of a channel that is being disabled: the bytes of a running descriptor that reached their destination are a
free number, since those in flight may or may not arrive. -/
def State.disableDone (s : State) (e : Nat) (j : HJob) : State :=
  match j.phase with
  | .fetch => s.endDesc e j ⟨0x30, 0, 0, 0, 0⟩ 0 none endDepth
  | .run =>
    let f := (s.spoilDest j).fresh
    let n := (Config.freeWide f.1).toNat % 2 ^ 64
    let g := f.2.fresh
    let first := if j.d.op = 1 then j.lo % 2 ^ 64 else if j.d.op = 2 then j.d.srcA else if j.d.op = 3 then j.d.devOffset else 0
    g.2.endDesc e j ⟨0x30, n, first, (Config.freeWide g.1).toNat % 2 ^ 64, 0⟩ 0 none endDepth
  | .ended x => s.settle e j x none endDepth
  | .reread => (s.setHch e j.ch { (s.hch e j.ch) with st := if s.bit (Reg.hrvChCtl e j.ch) 0 then 1 else 0,
                                                      disabling := false }).freeEngine e j

/-- CHANNEL_DISABLE_DONE (R247). A block that is being written to flash is staged all the same. -/
def execChannelDisableDone (dt : Nat) (e : Fin 5) (c : Fin 64) (s : State) : Res :=
  let s := s.start dt
  match (s.engine e).job with
  | none => .next s
  | some j => if j.ch = c.val ∧ (s.hch e c).disabling then .next (s.disableDone e j) else .next s

/-- HARVEST_BUS_ERROR (R246): the descriptor read (0x20), a host-to-device source read (0x21) or the flush read (0x22)
fails at an address. The output before a failed flush has been written. Of a channel that is being disabled it is the answer to
its outstanding request (R247). -/
def execHarvestBusError (dt : Nat) (e : Fin 5) (status : Nat) (addr : Nat) (s : State) : Res :=
  let s := s.start dt
  match (s.engine e).job with
  | none => .next s
  | some j =>
    let none_ : Ended := ⟨status, 0, 0, 0, 0⟩
    if (s.hch e j.ch).disabling then .next (s.disableDone e j)
    else if status = 0x20 ∧ !isLocal j.addr ∧ (j.phase = .fetch ∨ j.phase = .reread) then
      .next (s.endDesc e j none_ addr none endDepth)
    else if status = 0x21 ∧ j.phase = .run ∧ j.d.op = 3 ∧ !j.blk then
      .next ((s.spoilDest j).endDesc e j { none_ with first := j.d.devOffset, next := j.d.devOffset } addr none endDepth)
    else if status = 0x22 ∧ e.val = 4 ∧ j.phase = .run ∧ j.d.op ≠ 3 ∧ !s.jobWaits j then
      let h := s.haul j
      .next ((h.2.deliverHost j h.1).endDesc e j { h.1.done with status := status } addr none endDepth)
    else .next s

/-- The descriptor in hand uses PCIe: its address, its completion queue, or the data of H4. -/
def State.usesPcie (s : State) (e : Nat) (j : HJob) : Bool :=
  !isLocal j.addr || !isLocal (s.rd64 (Reg.hrvCqAddr e)) || (e == 4 && j.phase == .run)

/-- The link is down: every running channel that uses it abandons its descriptor, and each channel's doorbell count is kept to
compare with (R248). -/
def State.dropPcie (s : State) : State :=
  let s1 := (s.hrv.map (fun x => x.1)).foldl (fun s i =>
    s.setHch (i / 64) (i % 64) { (s.hch (i / 64) (i % 64)) with downDb := (s.hch (i / 64) (i % 64)).db }) s
  s1.forAll (List.range 5) (fun s e => match (s.engine e).job with
    | some j => if s.usesPcie e j then s.lostLink e j else s
    | none => s)

/-- The link is up: a waiting channel whose doorbell count changed while it was down runs its descriptor again at once (R248). -/
def State.regainPcie (s : State) : State :=
  s.forAll (List.range 320) (fun s i =>
    let c := s.hch (i / 64) (i % 64)
    if c.redo ∧ c.st = 4 ∧ c.db ≠ c.downDb then
      s.setHch (i / 64) (i % 64) { c with st := 2, entry := .desc (s.rd64 (Reg.hrvChTail (i / 64) (i % 64))) }
    else s)

/-! ### The engine's controls (R249) -/

/-- The MODE of an octet, 0 while no Almanac is loaded. -/
def State.octetMode (s : State) (o : Nat) : Nat := match s.alm with | some a => (a.octets.getD o (0, 0xFF)).1 | none => 0

/-- RUN set: refused on H0 to H3 without an Almanac or with their octet off. -/
def State.doHrvRun (s : State) (e : Nat) : State :=
  if e ≠ 4 ∧ s.octetMode e = 0 then s.setBit (Reg.hrvStatus e) 1 true else s.setBit (Reg.hrvCtl e) 0 true

def execHarvestRun (dt : Nat) (e : Fin 5) (s : State) : Res := .next ((s.start dt).doHrvRun e)

/-- HARVEST_STOP (R249): the descriptor in hand runs to its completion. -/
def execHarvestStop (dt : Nat) (e : Fin 5) (s : State) : Res := .next ((s.start dt).setBit (Reg.hrvCtl e) 0 false)

/-- The counters of an engine and of its channels. -/
def hrvCounters (e : Nat) : List Nat :=
  [Reg.hrvDescs e, Reg.hrvHalts e] ++ (List.range 64).flatMap (fun c =>
    [Reg.hrvChDone e c, Reg.hrvChBytes e c, Reg.hrvChBytes e c + 4, Reg.hrvChRereads e c, Reg.hrvChErrors e c])

def execHrvClr (dt : Nat) (e : Fin 5) (s : State) : Res := .next ((s.start dt).clearWords (hrvCounters e))

end Sys2Proof.Machine
end

