-- ==== Sys2Proof/Machine/Targets.lean ====
section
/-! DEFINITION. What the power-state controller aims for, and the fields of PWR_STATUS that follow from the rest of the
state (R308 to R310, R319). -/

namespace Sys2Proof.Machine

/-- The exit latency of a state in ns (R307). -/
def exitNs (st : Nat) : Nat := if st = 0 then 0 else if st = 1 then 2000 else if st = 2 then 35000 else 18000000

/-- An armed group of a mode. -/
def State.armedMode (s : State) (m : Nat) : Bool := s.enabledGroups.any (fun g => s.gArmed g && s.gmode g == m)

/-- Egress is active: an engine has RUN set, or a stream is OPEN or WAITING (R309). -/
def State.egressActive (s : State) : Bool :=
  (List.range 5).any (fun e => s.bit (Reg.hrvCtl e) 0) || s.streams.any (fun x => x.2.st == 1 || x.2.st == 2)

/-- The tolerances of the active services hold an exit latency (R309). -/
def State.tolerates (s : State) (ns : Nat) : Bool :=
  (!s.anyArmed || decide (ns ≤ (s.get Reg.pwrTolCapture).toNat))
    && (!s.egressActive || decide (ns ≤ (s.get Reg.pwrTolEgress).toNat))
    && decide (ns ≤ (s.get Reg.pwrTolControl).toNat)

/-- Ordinary is allowed (R310): no armed group needs a pre-trigger ring, streams, or holds its sums in DRAM. -/
def State.ordinaryOk (s : State) : Bool :=
  s.enabledGroups.all (fun g => !s.gArmed g ||
    (decide (s.eveReq g ≤ eveTicks / s.delta g) && s.gmode g != 1
      && !(s.gmode g == 2 && (s.grp g).acc.place == 2) && s.ringSamples g == 0))

/-- Some partition holds an unreleased record. -/
def State.unreleased (s : State) : Bool :=
  (List.range 32).any (fun p => decide ((s.part p).released < (s.part p).seq))

/-- DEEPEST and RETAIN of the Almanac in force (PWR_LIMITS). -/
def State.deepest (s : State) : Nat := match s.alm with | some a => a.deepest | none => 3
def State.retainSet (s : State) : Bool := match s.alm with | some a => a.retain | none => true
def State.maxW (s : State) : Nat := match s.alm with | some a => a.maxW | none => 215

/-- Stack retention is in force, or would be in Fallow (R310). -/
def State.retained (s : State) : Bool := s.retainSet || s.unreleased || s.anyArmed

/-- A state is allowed beside its latency (R308, R310). -/
def State.stateAllowed (s : State) (st : Nat) : Bool :=
  if st = 0 then true
  else if s.alm.isNone ∨ s.bit Reg.pwrCtl 0 then false
  else if s.deepest < st then false
  else if (s.rd Reg.almStatus 3 0 = 3 ∨ s.rd Reg.almStatus 3 0 = 4) ∧ 1 < st then false
  else if s.armedMode 1 then (if st = 1 then false else s.bit Reg.pwrCtl 1)
  else if st = 1 then s.ordinaryOk else true

/-- The target state: the deepest that is allowed and whose exit latency the tolerances hold (R309). -/
def State.target (s : State) : Nat :=
  if s.stateAllowed 3 && s.tolerates (exitNs 3) then 3
  else if s.stateAllowed 2 && s.tolerates (exitNs 2) then 2
  else if s.stateAllowed 1 && s.tolerates (exitNs 1) then 1 else 0

/-- PWR_STATUS.PF_STAGE: stage 2 begins 50 µs after P (R319). -/
def State.pfStage (s : State) : Nat :=
  let st := s.rd Reg.pwrStatus 6 4
  match s.pfAt with
  | some p => if st = 1 ∧ p + 50 * usec ≤ s.now then 2 else st
  | none => st

end Sys2Proof.Machine
end

