-- ==== Sys2Proof/Machine/Read.lean ====
section
/-! DEFINITION. What each register reads as: the stored word, or the fields that follow from the rest of the state, and
the access rules of reads (R8, R9, R389 to R397). -/

namespace Sys2Proof.Machine

/-- A number as a register word, and one 32-bit part of it. -/
def w32 (x : Nat) : Word := BitVec.ofNat 32 x
def part32 (x p : Nat) : Word := partOf x p

/-! ### Unit headers (R24, R390) -/

/-- Live inputs of a bank for its header: 16 before an Almanac is loaded. -/
def State.headerInputs (s : State) (b : Nat) : Nat := if s.alm.isNone then 16 else (liveIdx (s.bankMode b)).length

/-- A word of the header of the device, or of bank `b`. -/
def State.headerWord (s : State) (bank : Option Nat) (o : Nat) : Word :=
  if o = 0 then (match bank with | some _ => 0 | none => 1)
  else if o = 4 then w32 (match bank with | some b => b | none => if s.ringMember then s.ringPos else 0)
  else if o = 8 then w32 (match bank with | some b => s.headerInputs b | none => 16)
  else if o = 0xC then w32 (match bank with
    | some b => s.headerInputs b
    | none => ((List.range 16).map s.headerInputs).sum)
  else if o < 0x30 then w32 (leAt s.digest (o - 0x10) 4)
  else if o = 0x30 then s.unitStatusWord bank
  else if o = 0x34 then part32 s.fltStatus 0
  else if o = 0x38 then part32 s.fltStatus 1
  else
    let lv := s.around.length
    let head := bank.isNone && (match s.innermost with | some i => s.headOf i == s.ringPos | none => false)
    let mem := match bank with
      | some b => b % 16
      | none => match s.innermost with | some i => s.memberIn i | none => 0
    if s.alm.isNone then 0 else w32 (2 ^ 31 * b2n head + 65536 * s.ringPos + 16 * lv + mem)

/-! ### Blocks -/

/-- A word with a stored part under a mask and fields computed from the state. -/
def State.mix (s : State) (off mask fields : Nat) : Word := w32 (((s.get off).toNat &&& mask) ||| fields)

/-- The PCIe device ID in every stepping, which GLB_ID reports too (R15). -/
def deviceId : Nat := 0xA256

/-- The vendor and device ID of each PCIe function (R15, R251); Olcen's vendor ID is not given. -/
def pciId : Nat := deviceId * 65536 + Config.vendorId.toNat

/-- The class code of each PCIe function (R251). -/
def pciClass : Nat := 0x118000

/-- The bytes of BAR0/1, BAR2/3 and BAR4/5 of PF0 and of PF1, and their MSI-X vectors (R251). -/
def pciBars (pf1 : Bool) : Nat × Nat × Nat × Nat :=
  (32 * 2 ^ 20, 128 * 2 ^ 30, if pf1 then 0 else 2 * 2 ^ 30, if pf1 then 0 else 64)

def State.readGlb (s : State) (o : Nat) (h : Hit) : Word :=
  if o = 0x40 then w32 (deviceId * 65536 + 16 * Config.stepLetter.toNat + Config.stepDigit.toNat)
  else if h.row.base = 0x44 then part32 hwType h.part
  else if h.row.base = 0x50 then part32 Config.serial.toNat h.part
  else if h.row.base = 0x60 then
    w32 (((List.range 32).map (fun v => if s.irqPend (32 * h.part + v) then maskBit v else 0)).sum)
  else if o = 0x80 then 0
  else s.get o

def State.readPwr (s : State) (off o : Nat) : Word :=
  if o = 0 then s.mix off 0xC03 (4 * s.target + 16 * s.pfStage + 512 * b2n s.retained)
  else if o = 0x88 then w32 (s.maxW + 256 * s.deepest + 1024 * b2n s.retainSet)
  else s.get off

def State.readAlm (s : State) (off o : Nat) : Word :=
  if o = 0 then
    let st := s.almState
    let c := match s.check with | some j => some j.purpose | none => none
    let load := match c with | some (.startLoad h) => h | _ => false
    let reload := (match c with | some .reload => true | _ => false) || s.reloadWait.isSome || st == 3 || st == 4
    s.mix off 0x300 (b2n load + 2 * b2n reload)
  else s.get off

/-- EPC: the Epoch, the interval units, Conjunctions and pins. -/
def State.readEpc (s : State) (off o : Nat) (h : Hit) : Word :=
  if h.row.base = 0 then (if s.counting then part32 (s.ep - s.ep % cycle) h.part else 0)
  else if o = 0x24 then s.mix off 0xF7F (128 * b2n s.unsettled)
  else if h.row.base = 0x1000 then s.mix off 0x17FF54 (b2n (s.ivState h.inst != 0))
  else if 0x2000 ≤ o ∧ o < 0x2400 then
    (match s.conjCfg h.inst with
     | none => 0
     | some c => if h.row.base = 0x2000 then s.mix off 0x3000 (1 + 16 * c.op + 256 * c.srcs.length) else s.get off)
  else if h.row.base = 0x2404 then s.mix off 0xFFFF0006 (b2n (s.pinActive h.inst))
  else s.get off

def State.readCal (s : State) (off o : Nat) (h : Hit) : Word :=
  if o = 0 then
    s.mix off 0x71 (match s.seasonJob with | some j => if j.erase then 4 else 2 | none => 0)
  else if o = 0x18 then
    w32 ((s.calAsked.map maskBit).sum)
  else if h.row.base = 0x100 then
    let b := h.inst
    s.mix off 0xFFFF0FF8 (s.calState b)
  else if h.row.base = 0x114 then w32 (s.deferredMs h.inst)
  else s.get off

/-- Blocks staged, and the lowest offset that is not (R358, R359). -/
def State.stagedCount (s : State) : Nat := if s.pkgLen = 0 then 0 else (s.img s.stageBank).blocks.length
def State.nextMissing (s : State) : Nat :=
  match (List.range (ceilDiv s.pkgLen 4096)).find? (fun k => (s.stagedBlock (4096 * k)).isEmpty) with
  | some k => 4096 * k
  | none => 0x7FFFFFF

def State.readUpd (s : State) (off o : Nat) (h : Hit) : Word :=
  if o = 0 then
    let st := s.updState
    w32 (b2n (st == 1) + 4 * b2n (st == 3) + 8 * b2n (match s.actReq with | some a => !a.back | none => false) + 256 * b2n (st == 9)
      + 512 * b2n s.dist.isSome)
  else if o = 4 then s.mix off 0xFF6E0F (32768 * b2n s.dist.isSome + 4096 * b2n s.recovery)
  else if o = 0xC then w32 s.stagedCount
  else if o = 0x10 then w32 s.nextMissing
  else if o = 0x30 then (if (s.img 0).valid then w32 (s.img 0).version else 0)
  else if o = 0x34 then (if (s.img 1).valid then w32 (s.img 1).version else 0)
  else if o = 0x38 then
    w32 (b2n (s.img 0).valid + 2 * b2n (s.img 0).confirmed + 4 * b2n (s.img 1).valid + 8 * b2n (s.img 1).confirmed)
  else if o = 0x78 then w32 (b2n (match s.blkJob with | some j => j.src == .win | none => false))
  else if h.row.base = 0xF0 then s.mix off 0xFFFF0103 0
  else s.get off

def State.readLnt (s : State) (off o : Nat) : Word :=
  if o = 0x50 then s.mix off 0x13 0
  else if o = 0x70 then w32 s.lntStatusWord
  else if o = 0x94 then s.mix off 0x3F7F (2 ^ 31 * b2n s.lnt.dcs.isSome)
  else s.get off

/-- Ethernet port `q` exists: its octet has ports, and the mode gives it number `q` (R255). -/
def State.ethPorts (s : State) (octet : Nat) : Nat :=
  let m := s.octetMode octet
  if m = 1 then 1 else if m = 2 then 2 else if m = 3 then 4 else if 4 ≤ m then 8 else 0

/-- The lanes of port `k` of an octet in a mode, and the signalling rate of each in Mbit/s (R255). -/
def ethLanes (mode k : Nat) : List Nat :=
  if mode = 1 then List.range 8 else if mode = 2 then (List.range 4).map (fun i => 4 * k + i)
  else if mode = 3 then [2 * k, 2 * k + 1] else [k]

def laneRate (mode : Nat) : Nat := if mode = 5 then 53125 else if mode = 6 then 25781 else 106250

def State.ethExists (s : State) (q : Nat) : Bool := decide (q % 8 < s.ethPorts (q / 8))

/-- Ethernet port `q` is up. -/
def State.ethUp (s : State) (q : Nat) : Bool := s.bit (Reg.prtEthStatus q) 0

/-- The streams that a port carries now. -/
def State.carried (s : State) (q : Nat) : Nat := (s.streams.filter (fun x => x.2.st == 1 && x.2.port == q)).length

/-- A stream's octet. -/
def State.stOctet (s : State) (k : Nat) : Nat := s.rd (Reg.prtStCtl k) 13 12

def State.readPrt (s : State) (off o : Nat) (h : Hit) : Word :=
  if o = 0x10 then w32 (((List.range 14).map (fun p => s.priv p * 4 ^ p)).sum)
  else if o = 0x38 then s.mix off 0xFFFFFF00 (0x3A + Config.smbAddr.toNat)
  else if h.row.base = 0x40 then
    let e := h.inst
    let ups := ((List.range 8).map (fun k => if s.ethUp (8 * e + k) then 256 * 2 ^ k else 0)).sum
    let moved := s.streams.any (fun x => x.2.st == 1 && x.2.port / 8 == e && s.stOctet x.1 != e)
    w32 (s.octetMode e + ups + 65536 * b2n moved)
  else if 0x1000 ≤ o ∧ o < 0x1800 then
    (if !s.ethExists h.inst then 0
     else if h.row.base = 0x1030 then (if s.now = 0 then s.get off else Config.fecCount h.inst s.now)
     else if h.row.base = 0x1004 then s.mix off 0xFFFF0003 (256 * min 255 (s.carried h.inst))
     else s.get off)
  else if h.row.base = 0x4000 then s.mix off 0x3700 0
  else if h.row.base = 0x4004 then
    let x := s.stream h.inst
    s.mix off 8 (x.st + 256 * x.port + 65536 * x.inc)
  else if h.row.base = 0x403C then w32 ((s.stream h.inst).acked)
  else s.get off

def State.readRng (s : State) (off o : Nat) : Word :=
  if o = 8 then s.mix off 0x400000BF (2 ^ 31 * b2n s.posWrite.isSome)
  else if o = 0x60 then s.mix off 0xE (b2n (s.marks.any (fun m => m.byMark && decide (s.ep < m.instant))))
  else s.get off

/-- Registers of channel `c` of a bank's filter engine. -/
def State.readFlt (s : State) (off base c : Nat) : Word :=
  let fs := s.cfs c
  let m := s.cm c
  if base = 0x2004 then s.act (fltOff c)
  else if base = 0x2008 then w32 (s.cdelay c)
  else if base = 0x200C then w32 (roundEven (256 * s.spanOf (c / 16) fs m) (2 * max 1 m)).toNat
  else if base = 0x2010 then (if isFilter fs then w32 (2 ^ 24 * cicG (cicR fs m) + cicK (cicR fs m)) else 0)
  else if base = 0x2018 then
    (match s.firOf (c / 16) fs m with
     | some f => w32 (65536 * f.shift + 256 * b2n f.sym + f.ntaps)
     | none => 0)
  else s.get off

def State.readBnk (s : State) (off o b : Nat) (h : Hit) : Word :=
  if o = 0x100 then
    s.mix off 0x1B (64 * s.bankMode b
      + ((List.range 16).map (fun c => if s.settling (16 * b + c) then 65536 * 2 ^ c else 0)).sum)
  else if h.row.base = 0x200 then (if s.alm.isNone ∨ s.live (16 * b + h.inst) then s.get off else 0)
  else if h.row.base = 0x240 then
    (if s.alm.isNone ∨ s.live (16 * b + h.inst) then s.act (Reg.bnkFe b h.inst) else 0)
  else if 0x1000 ≤ o ∧ o < 0x1800 then
    let u := 8 * b + h.inst
    (match s.alm with
     | none => 0
     | some a => match (a.units[u]?).join with
       | none => 0
       | some _ =>
         if h.row.base = 0x1000 then s.mix off 0x1333F 0
         else if h.row.base = 0x1030 then
           s.mix off 0xFFFF000A (b2n (s.trigAt u).activeSince.isSome + 4 * b2n (s.shadowDiffers (trigWords u))
             + 16 * b2n (s.unitSet u).bad)
         else s.get off)
  else if 0x2000 ≤ o ∧ o < 0x2200 then
    (if s.live (16 * b + h.inst) then s.readFlt off h.row.base (16 * b + h.inst) else 0)
  else if o = 0x2200 then
    (match s.alm with
     | none => 0
     | some _ => match s.prog b with
       | none => w32 0xFF0000
       | some p => w32 (65536 * p.fir + 256 * p.lastSet + p.firstSet))
  else if o = 0x2204 then s.mix off 0x3F1 (65536 * s.budgetNow b)
  else if h.row.base = 0x2400 then
    let c := 16 * b + h.inst / 32
    (if s.live c then
      (match s.firOf b (s.cfs c) (s.cm c) with
       | some f => w32 (unsigned 18 (f.coefs.getD (h.inst % 32) 0))
       | none => 0)
     else 0)
  else s.get off

def State.readAqg (s : State) (off o g : Nat) (h : Hit) : Word :=
  match s.gcfg g with
  | none => 0
  | some c =>
    let x := s.grp g
    let p := s.gpart g
    let P := s.part p
    if o = 0 then s.mix off 0x700 (b2n x.armNext + 2 * b2n x.disarming)
    else if o = 8 then s.aqgStatusWord g
    else if o = 0xC then
      w32 (1 + 2 * c.mode + 8 * c.layout + 16 * b2n c.annex + 256 * c.partition + 65536 * c.srcIndex + 2 ^ 24 * c.srcKind)
    else if o = 0x10 then w32 (s.gfirst g + 256 * c.lastCh + 65536 * s.gnch g)
    else if h.row.base = 0x38 then part32 (s.eveV g) h.part
    else if h.row.base = 0x40 then part32 P.seq h.part
    else if h.row.base = 0x50 then part32 P.released h.part
    else if h.row.base = 0x60 then part32 P.commitAddr h.part
    else if h.row.base = 0x68 then part32 P.tailAddr h.part
    else if h.row.base = 0x70 then part32 (s.areaSize p - s.occupied p) h.part
    else if h.row.base = 0x78 then part32 (s.pbase p) h.part
    else if h.row.base = 0x80 then part32 ((s.psize p).1 * extent) h.part
    else if h.row.base = 0x88 then part32 ((s.psize p).2 * extent) h.part
    else if o = 0xAC then s.mix off 6 (b2n (s.heldSteward.contains g))
    else if o = 0x400 then s.mix off 0x1330 (b2n x.acc.flush)
    else if o = 0x404 then
      w32 (x.acc.place + 4 * b2n (!x.acc.emitWait.isEmpty) + 8 * b2n x.acc.folding + 65536 * x.acc.blocks)
    else if o = 0x40C then w32 x.acc.count
    else if h.row.base = 0x410 then part32 x.acc.first h.part
    else if o = 0x500 then s.mix off 0xFF1F31 0
    else if o = 0x510 then (if s.histOn g && s.gArmed g then w32 (s.histTB g) else 0)
    else s.get off

/-- A word of a retry-buffer entry (MEM_DIAG): `o` is its offset in the entry. -/
def Retry.word (e : Retry) (now o : Nat) : Nat :=
  if o = 0 then e.slot % 2 ^ 30
  else if o = 4 then 2 ^ 31 + 2 ^ 30 * b2n e.write + e.port % 32 * 2 ^ 24 + e.replays % 8
  else if o = 8 then min (2 ^ 32 - 1) ((now - e.at_) / cycle)
  else e.severity % 4

def State.readMem (s : State) (off o k : Nat) : Word :=
  if o = 4 then 0
  else if 0x8000 ≤ o then
    (if (s.stack k).frozen then
      (match (s.stack k).retry[(o - 0x8000) / 16]? with
       | some e => w32 (e.word s.now (o % 16))
       | none => 0)
     else 0)
  else s.get off

def State.readMemc (s : State) (off o : Nat) (h : Hit) : Word :=
  if o = 0 then
    s.mix off 0x1000 (b2n s.plain + 2 * b2n s.usableMem + 4 * b2n (!s.plain && s.alm.isSome && s.failedCount == 1)
      + ((List.range 4).map (fun k => 16 * 2 ^ k * b2n (s.stack k).failed + 256 * 2 ^ k * b2n (s.stack k).frozen)).sum)
  else if o = 0x10 then w32 s.lost.length
  else if h.row.base = 0x108 then w32 (s.tok h.inst).toNat
  else if h.row.base = 0x400 then
    (match s.lost[h.inst]? with
     | some a => w32 a
     | none => 0xFFFFFFFF)
  else s.get off

def State.readHrv (s : State) (off o e : Nat) (h : Hit) : Word :=
  let E := s.engine e
  if o = 0 then s.mix off 1 0
  else if o = 4 then
    let chs := (List.range 64).map (s.hch e)
    s.mix off 2 (b2n (s.bit (Reg.hrvCtl e) 0 || E.job.isSome) + 4 * b2n (chs.any (fun c => c.st == 3))
      + 8 * b2n (chs.any (fun c => c.linkLost)) + 16 * b2n (s.cqFull e)
      + 256 * (match E.job with | some j => j.ch | none => 0))
  else if h.row.base = 0x1000 then s.mix off 3 0
  else if h.row.base = 0x1004 then 0
  else if h.row.base = 0x1008 then
    let c := s.hch e h.inst
    w32 (c.st + 8 * b2n c.redo + 16 * b2n c.linkLost + 256 * c.lastStatus + 65536 * c.db)
  else s.get off

/-! ### Any offset -/

/-- Bytes of a byte store as a word. -/
def wordAt (t : Tbl Byte) (a : Nat) : Word := w32 (leNat (tgetAll t 0 a 4))

/-- The requesters to which the MSI-X range reads 0: PF1 and the ring (R389, R399). -/
def noMsix : Requester → Bool
  | .pf1 => true
  | .ring _ => true
  | _ => false

/-- The live value of the word at an aligned offset of BAR0, with the rights of a requester (R389, R397). -/
def State.readWord (s : State) (rq : Requester) (off : Nat) : Word :=
  match blkAt off with
  | none => 0
  | some (b, bi, o) =>
    if b = .glb ∧ o < 0x40 then s.headerWord none o
    else if b = .bnk ∧ o < 0x40 then s.headerWord (some bi) o
    else if b = .hrv ∧ 0x8000 ≤ o then (if rq = .pf0 then wordAt s.mem.lmem (32768 * bi + (o - 0x8000)) else 0)
    else if b = .upd ∧ 0x1000 ≤ o ∧ o < 0x2000 then (if rq = .pf0 then wordAt s.mem.updWin (o - 0x1000) else 0)
    else if b = .msix ∧ noMsix rq = true then 0
    else if b = .snp ∧ o < 0x3FF000 then tget s.snap 0 off
    else match regAt off with
      | none => 0
      | some h => match b with
        | .glb => s.readGlb o h
        | .pwr => s.readPwr off o
        | .alm => s.readAlm off o
        | .epc => s.readEpc off o h
        | .cal => s.readCal off o h
        | .upd => s.readUpd off o h
        | .lnt => s.readLnt off o
        | .prt => s.readPrt off o h
        | .rng => s.readRng off o
        | .bnk => s.readBnk off o bi h
        | .aqg => s.readAqg off o bi h
        | .mem => s.readMem off o bi
        | .memc => s.readMemc off o h
        | .hrv => s.readHrv off o bi h
        | .flt => s.get off
        | .msix => s.get off
        | .snp => s.get off

/-- The split quantity an offset belongs to: the offset of its low part, its number of parts and the part (R9). -/
def splitAt (off : Nat) : Option (Nat × Nat × Nat) :=
  match blkAt off with
  | some (.glb, _, o) => if o = 0x34 then some (off, 2, 0) else if o = 0x38 then some (off - 4, 2, 1) else splitReg off
  | some (.bnk, _, o) => if o = 0x34 then some (off, 2, 0) else if o = 0x38 then some (off - 4, 2, 1) else splitReg off
  | _ => splitReg off
where
  splitReg (off : Nat) : Option (Nat × Nat × Nat) :=
    match regAt off with
    | some h => if 1 < h.row.parts then some (off - 4 * h.part, h.row.parts, h.part) else none
    | none => none

/-- A value kept for a requester and an offset, and the list with one replaced. -/
def kept (l : List ((Requester × Nat) × Word)) (rq : Requester) (off : Nat) : Option Word :=
  (l.find? (fun x => x.1 == (rq, off))).map (fun x => x.2)

def keepWord (l : List ((Requester × Nat) × Word)) (rq : Requester) (off : Nat) (w : Word) :
    List ((Requester × Nat) × Word) := ((rq, off), w) :: l.filter (fun x => x.1 != (rq, off))

/-- The upper parts of a split quantity latched for a requester (R9, R394). -/
def State.latchUpper (s : State) (rq : Requester) (base : Nat) : Nat → State
  | 0 => s
  | n + 1 =>
    let o := base + 4 * (n + 1)
    ({ s with latches := keepWord s.latches rq o (s.readWord rq o) } : State).latchUpper rq base n

/-- A 32-bit read: of a low part with its latches, of an upper part from the latch, or of any other word (R9). -/
def State.read32 (s : State) (rq : Requester) (off : Nat) : Word × State :=
  match splitAt off with
  | none => (s.readWord rq off, s)
  | some (base, n, p) =>
    if p = 0 then (s.readWord rq off, s.latchUpper rq base (n - 1))
    else ((kept s.latches rq off).getD 0, s)

/-- What a read that a power or reset condition blocks returns in each word (R270, R397). -/
def State.blockedWord (s : State) (rq : Requester) : Word :=
  if s.inReset ∨ (rq = .smbus ∧ s.power = 3) then 0xFFFFFFFF else 0

/-- One word of a read under the reach of R397. -/
def State.reachWord (s : State) (rq : Requester) (off : Nat) : Word × State :=
  if s.blockOpen rq off then s.read32 rq off else (s.blockedWord rq, s)

/-- A read of `width` bytes (R8, R393). -/
def State.readAccess (s : State) (rq : Requester) (off width : Nat) : Nat × State :=
  if width = 4 ∧ off % 4 = 0 then
    let r := s.reachWord rq off
    (r.1.toNat, r.2)
  else if width = 8 ∧ off % 8 = 0 then
    let r := s.reachWord rq off
    let q := r.2.reachWord rq (off + 4)
    (r.1.toNat + 2 ^ 32 * q.1.toNat, q.2)
  else (256 ^ width - 1, s)

end Sys2Proof.Machine
end

