-- ==== Sys2Proof/Machine/Links.lean ====
section
/-! DEFINITION. The links and stacks as power, reset and Safe Hold move them: Ethernet ports and the ring ports going down
and the bypass, the PCIe link of the power-fail sequence, self-refresh, and the election of the Epoch source (R212, R275,
R279 to R281, R287, R313, R319, R348). -/

namespace Sys2Proof.Machine

/-! ### Stacks (R212) -/

/-- Every queued write is completed before self-refresh entry is issued (R212). -/
def State.drainWrites (s : State) : State :=
  s.forAll s.enabledGroups (fun s g => s.commitReady g (s.grp g).queue.length)

/-- Self-refresh entry of every running stack, its writes completed and its banks precharged; a retraining in progress ends
without its result. -/
def State.stacksSleep (s : State) : State :=
  s.drainWrites.forAll ((List.range 4).filter s.running) (fun s k =>
    (((s.setStack k { (s.stack k) with srFrom := s.now, pcBusy := none, openRow := [] }).wr (Reg.memStatus k) 2 0 3).wr
      (Reg.memStatus k) 15 10 0).countFld (Reg.memSr k) 15 0 1)

/-- Every stack in self-refresh has been there for 350 ns. -/
def State.residencyOver (s : State) : Bool :=
  (List.range 4).all (fun k => s.rd (Reg.memStatus k) 2 0 != 3 || decide ((s.stack k).srFrom + 350 * usec / 1000 ≤ s.now))

/-- Self-refresh exit; a stack that has been without power must be trained again. -/
def State.stacksWake (s : State) : State :=
  s.forAll (List.range 4) (fun s k =>
    let st := s.rd (Reg.memStatus k) 2 0
    if st = 3 then s.wr (Reg.memStatus k) 2 0 2 else if st = 0 then s.wr (Reg.memStatus k) 2 0 1 else s)

/-- The stacks lose power: nothing of record space is held, the unreleased records of the ledger are lost, and each stack must be
trained again. A failed stack stays failed. -/
def State.stacksOff (s : State) : State :=
  ({ s with mem.space := [], lostDue := s.lostDue || s.unreleased } : State).forAll ((List.range 4).filter (fun k => !(s.stack k).failed)) (fun s k =>
    s.wr (Reg.memStatus k) 15 0 0)

/-- No stack waits for self-refresh exit or training. -/
def State.stacksUp (s : State) : Bool := (List.range 4).all (fun k => 2 ≤ s.rd (Reg.memStatus k) 2 0 && s.rd (Reg.memStatus k) 2 0 != 3)

/-! ### Ethernet (R259, R275) -/

/-- Every Ethernet port goes down without raising ETH_LINK, its streams waiting; the down events count where `count`. -/
def State.ethAllDown (s : State) (count : Bool) : State :=
  let s1 := s.forAll ((List.range 32).filter s.ethUp) (fun s q =>
    let s := s.setBit (Reg.prtEthStatus q) 0 false
    if count then s.countFld (Reg.prtEthStatus q) 31 16 1 else s)
  { s1 with streams := s1.streams.map (fun x => if x.2.st = 1 then (x.1, { x.2 with st := 2 }) else x) }

/-! ### The ring (R279, R287) -/

/-- The unit's position is set, in no conflict, in order and below UNITS (R279). -/
def State.roleOk (s : State) : Bool :=
  s.ringMember && s.bit Reg.rngPos 7 && !s.bit Reg.rngStatus 5 && !s.bit Reg.rngStatus 6
    && (match s.alm with | some a => decide (s.ringPos < a.units64) | none => false)

/-- What a port's neighbour reports of the Epoch source: its position and our distance to it by that port. -/
def State.offer (s : State) (d : Nat) : Option (Nat × Nat) :=
  let p := s.rport d
  match p.source with
  | some q => if s.bit (Reg.rngPortStatus d) 0 ∧ p.heardAt.isSome ∧ p.hops < 63 then some (q, p.hops + 1) else none
  | none => none

/-- The offer of the lower position, then of the smaller distance, the West one on a tie (R287). -/
def betterOffer (e w : Option (Nat × Nat)) : Option (Nat × Nat) :=
  match e, w with
  | some a, some b => if a.1 < b.1 ∨ (a.1 = b.1 ∧ a.2 < b.2) then some a else some b
  | some a, none => some a
  | none, x => x

/-- The timing parent: 0 East, 1 West. -/
def State.parent (s : State) : Option Nat :=
  match s.offer 0, s.offer 1 with
  | none, none => none
  | e, w => if betterOffer e w = w then some 1 else some 0

/-- The unit may be the Epoch source: a member with a valid position not in conflict. -/
def State.candidate (s : State) : Bool := s.ringMember && s.bypassOpen && s.bit Reg.rngPos 7 && !s.bit Reg.rngStatus 5

/-- RNG_STATUS after a change of what the neighbours report: the roles, the source, the distance and ALIGN (R279, R287,
R290). -/
def State.elect (s : State) : State :=
  let s0 := (s.setBit Reg.rngStatus 0 s.ringMember).setBit Reg.rngStatus 1 s.roleOk
  if !s0.ringMember || !s0.bypassOpen then (s0.wr Reg.rngStatus 28 15 0).wr Reg.rngStatus 7 2 0
  else
    let put := fun (s : State) (own : Bool) (pos hops align : Nat) =>
      ((((s.setBit Reg.rngStatus 2 own).wr Reg.rngStatus 20 15 pos).wr Reg.rngStatus 26 21 hops).wr Reg.rngStatus 28 27
        align)
    let following := if s0.bit Reg.rngStatus 3 then 2 else 1
    match betterOffer (s0.offer 0) (s0.offer 1) with
    | some (q, h) =>
      if s0.candidate && decide (s0.ringPos ≤ q) then put s0 true s0.ringPos 0 0 else put s0 false q h following
    | none =>
      if s0.candidate && s0.rd Reg.rngStatus 28 27 == 0 then put s0 true s0.ringPos 0 0
      else put s0 false 0 0 (if s0.rd Reg.rngStatus 28 27 = 0 then 0 else 3)

/-- A ring port leaves its segment: no peer, no generation. -/
def State.portClear (s : State) (d : Nat) : State :=
  (s.wr (Reg.rngPortStatus d) 14 0 0).setRport d RPort.idle

/-- The ring ports go off and the bypass closes; the segments' downs count where `count`. -/
def State.ringOff (s : State) (count : Bool) : State :=
  let s1 := s.forAll [0, 1] (fun s d =>
    let s1 := if count && s.bit (Reg.rngPortStatus d) 0 then s.countFld (Reg.rngPortStatus d) 31 16 1 else s
    s1.portClear d)
  ({ s1 with bypassOpen := false, ringReady := none, alignGood := 0, stepDue := none } : State).elect

/-- The ring ports of a member start, ready to train (R280, R281). -/
def State.ringOn (s : State) : State :=
  if s.ringMember then ({ s with ringReady := some s.now } : State).elect else s.elect

/-! ### PCIe (R319, R320) -/

/-- The link goes down for the power-fail sequence: nothing raised and nothing counted, the channels as R248 says. -/
def State.pcieQuietDown (s : State) : State := (s.wr Reg.prtPcieStatus 8 0 0).dropPcie

/-! ### Everything that is off in Fallow -/

/-- Ethernet down and the ring bypassed, as on entry to Fallow. -/
def State.linksDown (s : State) (count : Bool) : State := (s.ethAllDown count).ringOff count

/-- Safe Hold, steps 2 and 3: the stacks asleep, the converters and the outputs stopped, the network down (R348). -/
def State.holdSteps (s : State) : State :=
  ({ s with holdDone := true } : State).stacksSleep.stopBanks (List.range 16) true |>.linksDown true |>.stopLantern

end Sys2Proof.Machine
end

