-- ==== Sys2Proof/Machine/TestPort.lean ====
section
/-! DEFINITION. The test access port: IDCODE, the boundary-scan instructions and the boundary-scan register (R422 to R424). -/

namespace Sys2Proof.Machine

/-- The instruction that a code stands for: an unlisted code acts as BYPASS (R423). -/
def tapCode (c : Nat) : Nat := if c ≤ 2 ∨ (4 ≤ c ∧ c ≤ 7) then c else 0xFF

/-- An instruction that may be in force only while RST_N is low: every one but IDCODE and BYPASS (R422). -/
def tapNeedsReset (c : Nat) : Bool := c != 1 && c != 0xFF

/-- RST_N is held low: a reset is asked for or asserted. -/
def State.rstLow (s : State) : Bool := s.resetStep == .requested || s.resetStep == .asserted

/-- TAP_INSTRUCTION (R423). -/
def execTapInstruction (dt : Nat) (code : Fin 256) (s : State) : Res :=
  let s := s.start dt
  let c := tapCode code
  if tapNeedsReset c && !s.rstLow then .fault .testMode else .next { s with tap := c }

/-- TEST_LOGIC_RESET (R423): IDCODE is loaded. -/
def execTestLogicReset (dt : Nat) (s : State) : Res := .next { (s.start dt) with tap := 1 }

/-- The IDCODE register: the stepping letter, 0xA256, Olcen's manufacturer identity code, and 1 (R422). -/
def idcode : Nat := Config.stepLetter.toNat * 2 ^ 28 + 0xA256 * 2 ^ 12 + 2 * Config.makerCode.toNat + 1

/-! ### Balls (R14, R401, R403) -/

/-- The letters that name rows. -/
def rowLetters : List Char :=
  ['A', 'B', 'C', 'D', 'E', 'F', 'G', 'H', 'J', 'K', 'L', 'M', 'N', 'P', 'T', 'U', 'V', 'W', 'Y']

/-- The name of a row by its index. -/
def rowName (i : Nat) : List Char :=
  if i < 19 then [rowLetters.getD i 'A'] else [rowLetters.getD (i / 19 - 1) 'A', rowLetters.getD (i % 19) 'A']

/-- Row index and column of AIN_P (leg 0) or AIN_N (leg 1) of a channel. -/
def inputBall (c leg : Nat) : Nat × Nat :=
  let b := c % 64 / 16
  let along := 3 * (c % 16) + leg
  if c / 64 = 0 then (2 * b, 14 + along)
  else if c / 64 = 1 then (13 + along, 74 - 2 * b)
  else if c / 64 = 2 then (73 - 2 * b, 14 + along)
  else (13 + along, 1 + 2 * b)

/-! ### The boundary-scan register (R424) -/

/-- A pin or pair of pins that has cells, or an enable cell: of an octet's transmit pairs and of those of PCIe. -/
inductive ScanPin where
  | ovenReady | ppsIn | rstN | pwrFailN | wakeN | recoveryN | smbClk | smbDat | mntUartTx | mntUartRx | perstN | faultN
  | smbAddr (k : Nat)
  | lntTe (k : Nat)
  | trigIn (p : Nat)
  | evtIn (p : Nat)
  | trigOut (o : Nat)
  | nlTx (n : Nat)
  | nlRx (n : Nat)
  | peTx (m : Nat)
  | peRx (m : Nat)
  | lbERx (k : Nat)
  | lbWRx (k : Nat)
  | lantern (k : Nat)
  | octetEnable (o : Nat)
  | pcieEnable
  deriving DecidableEq, Repr

/-- Cells of a pin or pair: their number, and the row index and column of its ball, the P ball of a pair. -/
structure ScanCells where
  pin : ScanPin
  count : Nat
  row : Nat
  col : Nat
  deriving DecidableEq, Repr

/-- The low-speed pins: of the SW corner by R405, of the NW corner by R404. -/
def scanLow : List ScanCells :=
  [⟨.perstN, 1, 8, 4⟩, ⟨.lntTe 0, 1, 9, 1⟩, ⟨.lntTe 1, 1, 9, 2⟩, ⟨.ovenReady, 1, 66, 7⟩, ⟨.ppsIn, 1, 66, 8⟩,
   ⟨.rstN, 1, 67, 1⟩, ⟨.pwrFailN, 1, 67, 2⟩, ⟨.faultN, 3, 67, 3⟩, ⟨.wakeN, 1, 67, 4⟩, ⟨.recoveryN, 1, 67, 5⟩,
   ⟨.smbClk, 1, 67, 7⟩, ⟨.smbDat, 3, 67, 8⟩, ⟨.smbAddr 0, 1, 67, 10⟩, ⟨.smbAddr 1, 1, 67, 11⟩, ⟨.mntUartTx, 2, 68, 1⟩,
   ⟨.mntUartRx, 1, 68, 2⟩]

/-- Pairs of columns 1/2, 4/5, 7/8 and 10/11 of rows `r`, `r + d`, …, in index order. -/
def scanPairs (pin : Nat → ScanPin) (count r d n : Nat) : List ScanCells :=
  (List.range n).map (fun i => ⟨pin i, count, r + d * (i / 4), 1 + 3 * (i % 4)⟩)

/-- The row index and column of the P ball of a network transmit pair (R404). -/
def nlTxBall (n : Nat) : Nat × Nat := (if n < 16 then 2 * (n / 4) else 73 - 2 * ((n - 16) / 4), 62 + 3 * (n % 4))

/-- The network pairs (R404). -/
def scanNet : List ScanCells :=
  (List.range 32).flatMap (fun n =>
    let b := nlTxBall n
    [⟨.nlTx n, 1, b.1, b.2⟩, ⟨.nlRx n, 2, if n < 16 then b.1 + 1 else b.1 - 1, b.2⟩])

/-- The enable cells: the rule gives them no ball, and each stands at the first of its transmit pairs in ball order. -/
def scanEnables : List ScanCells :=
  ⟨.pcieEnable, 1, 0, 1⟩ :: [0, 4, 20, 28].map (fun n => ⟨.octetEnable (n / 8), 1, (nlTxBall n).1, (nlTxBall n).2⟩)

/-- Every pin with its cells, before they are put in order. -/
def scanPins : List ScanCells :=
  scanEnables ++ scanLow ++ scanPairs .evtIn 1 61 2 8 ++ scanPairs .trigIn 1 64 0 4 ++ scanPairs .trigOut 2 65 0 4
    ++ scanNet ++ scanPairs .peTx 1 0 2 16 ++ scanPairs .peRx 2 1 2 16 ++ scanPairs .lbERx 2 72 0 4
    ++ scanPairs .lbWRx 2 70 0 4 ++ scanPairs .lantern 4 10 1 10

/-- An entry put into a list in ascending ball order: row index first, then column. -/
def scanInsert (c : ScanCells) : List ScanCells → List ScanCells
  | [] => [c]
  | d :: r => if c.row < d.row || (c.row == d.row && decide (c.col ≤ d.col)) then c :: d :: r else d :: scanInsert c r

/-- The cells of the register in order, each by its pin and its number there. -/
def scanOrder : List (ScanPin × Nat) :=
  (scanPins.foldr scanInsert []).flatMap (fun c => (List.range c.count).map (fun k => (c.pin, k)))

/-- What cell `k` of a pin holds. -/
def State.scanCell (s : State) (p : ScanPin) (k : Nat) : Bool :=
  s.scanReg.getD (scanOrder.findIdx (fun x => x == (p, k))) false

end Sys2Proof.Machine
end

