-- ==== Sys2Proof/Machine/Resets.lean ====
section
/-! DEFINITION. The resets (R324 to R327, R353): what each kind keeps, the request, the assertion and the release of a warm
or Fundamental reset, and the cold reset with its ledger (R321, R322). -/

namespace Sys2Proof.Machine

/-! ### What survives -/

/-- The bits of a word that survive a warm or Fundamental reset. -/
def keepMask (off : Nat) : Word :=
  match regAt off with
  | none => 0
  | some h => partOf h.row.keep h.part

/-- A register word after a warm or Fundamental reset. -/
def warmWord (off : Nat) (w : Word) : Word := (w &&& keepMask off) ||| (regDefault off &&& ~~~keepMask off)

/-- Register words after a reset that leaves of each what `f` says; what equals the reset value is not listed. -/
def resetWords (f : Nat → Word → Word) (t : Tbl Word) : Tbl Word :=
  t.filterMap (fun x => if f x.1 x.2 = regDefault x.1 then none else some (x.1, f x.1 x.2))

/-- UPD_STATUS.STATE at the start after a reset (R366): of an erasure, an activation after its commit word, a rollback,
and a vote. A schedule survives in the always-on domain unless the reset is cold. -/
def State.updStart (s : State) (cold : Bool) : Nat :=
  let st := s.updState
  if st = 1 then 0
  else if st = 6 ∧ cold then 4
  else if st = 7 then (match s.actReq with | some a => if a.back then 0 else 8 | none => 8)
  else if st = 9 then
    (if s.verifyFor.isSome then 3 else if (s.rdq Reg.updVoteNo 2).testBit s.ringPos then 5 else 4)
  else st

/-- The bits that flash, fuses and pins hold through a cold reset: RNG_POS, the Seasons, the update state, the key slots, the
spare blocks, OVEN_READY and the levels of the pins. -/
def coldMask (off : Nat) : Word :=
  if off = Reg.rngPos ∨ off = Reg.updFlash ∨ off = Reg.updFloor ∨ off = Reg.almKeys then 0xFFFFFFFF
  else if off = Reg.updStatus then 0xE0F
  else if off = Reg.calStatus then 0xFF0000
  else if Reg.calSeason 0 ≤ off ∧ off < Reg.calSeason 8 then 0xFFFFFFFF
  else if off = Reg.epcStatus then 0x20
  else if (List.range 12).any (fun p => off = Reg.epcPinStat p) then 2
  else 0

def coldWord (off : Nat) (w : Word) : Word := (w &&& coldMask off) ||| (regDefault off &&& ~~~coldMask off)

/-- The position that a committed write has put in flash takes effect (R279). -/
def State.takePosition (s : State) : State :=
  match s.posNext with
  | some v => ({ s with posNext := none } : State).put Reg.rngPos (BitVec.ofNat 32 v)
  | none => s

/-! ### A warm or Fundamental reset (R325) -/

/-- The sums that a reset discards, each with its DISCARD record where there is room for it; what cannot be committed stays among the
group's uncommitted records (R189). -/
def State.discardSums (s : State) : State :=
  s.forAll (s.enabledGroups.filter s.gArmed) (fun s g => (s.settlePorts g).discardSum g)

/-- Every run of an interval unit ends with the reset, and its unit is kept (R100). -/
def State.cutRuns (s : State) : State :=
  ({ s with ivCut := s.ivCut ++ (List.range 16).filter (fun u => s.ivState u != 0) } : State).ivAbort

/-- ABORTED of the interval units whose runs the reset ended stays (R100). -/
def State.showCut (s : State) (l : List Nat) : State := s.forAll l (fun s u => s.setBit (Reg.epcIvStatus u) 14 true)

/-- The request A: no record starts, the sums are discarded, the uncommitted records are abandoned and the gap state of each armed
group is stored. A request during another is part of it. -/
def State.requestReset (s : State) (cause : Nat) : State :=
  if s.rstLow then s
  else
    let s0 := s.discardSums.cutRuns
    let gaps := if s.alm.isNone then s.gaps else s0.gapStates
    let s1 := s0.forAll (s.enabledGroups.filter s.gArmed) (fun s g =>
      let s1 := s.abandon g
      s1.setGrp g { (s1.grp g) with st := .paused, queue := [], pauses := [⟨22, s1.ep⟩] })
    (({ s1 with resetStep := .requested, resetAt := s.now, gaps := gaps, restartDue := s1.restartDue || !gaps.isEmpty, faultHeld := s.faultN,
                move := .steady } : State).wr Reg.glbResetCause 3 0 cause).countFld Reg.glbResetCause 31 16 1

/-- MEM_STATUS.STATE of a stack after the internal reset: failed, in self-refresh with its training kept, or untrained. -/
def State.stackStart (s : State) (k : Nat) : Nat :=
  if (s.stack k).failed then 4 else if s.rd (Reg.memStatus k) 2 0 ≤ 1 then 0 else 3

/-- FLT_PREV and FLT_PREV_SEVERE take what the collector held (R353). -/
def State.keepFaults (s : State) : State := (s.wrq Reg.fltPrev 2 s.fltStatus).wrq Reg.fltPrevSevere 2 s.fltSevere

/-- A stream after a reset: closed, with its incarnation and its flash floor (R258). -/
def Stream.kept (x : Stream) : Stream := { Stream.idle with inc := x.inc, floor := x.floor }

/-- Everything outside the always-on domain, flash and the stacks returns to its reset state. -/
def State.clearCore (s : State) : State :=
  { s with
    mem := { s.mem with active := [], lmem := [], staging := [], note := [], updWin := [] }, latches := [], heldWords := [], epoch := 0, counting := false, coreLocked := false,
    sampleLocked := false, relockAt := none, ppsPrev := none, ppsLast := 0, loadAt := none, ppsGood := 0, iv := [], ivCut := [], trig := [], conj := [],
    pins := s.pins.filterMap (fun p => if p.2.activeSince.isNone ∧ p.2.lastRise.isNone ∧ p.2.lastFall.isNone then none
                                       else some (p.1, { p.2 with wakeKept := none })),
    touts := [], fabric := [], softAt := none, rlineAt := [], alm := none, check := none, nextAlm := none,
    reloadWait := none, reloadAt := 0, reloadGaps := [], reloadRearm := false, lateGaps := [], banks := [], groups := [], tokens := [],
    foldQueue := [], foldAt := none, heldSteward := [], tileRaw := [], calRun := none, calLast := none,
    calModeBanks := [], calAsked := [], ovrSeen := [], satSeen := [], feCorr := [], seasonJob := none, scrubbed := [], scrubAt := none, memReqs := [], fltWin := [], fltGrace := [], fltBanks := [],
    safeHoldAt := none, holdDue := false, holdDone := false, move := .steady, idleSince := s.now, marks := [],
    hrv := [], eng := [],
    streams := s.streams.filterMap (fun x => if x.2.kept = Stream.idle then none else some (x.1, x.2.kept)),
    heldRel := [], telem := [], telemSeq := 0, mgmtWin := [], margins := [], rports := [], ringReady := none,
    bypassOpen := false, alignGood := 0, seen := [], ctlTag := 0, ctlReqs := [], ctlSeen := [], fwd := [],
    posWrite := none, calNext := none, digest := [], digests := [], diverge := [], digestOn := false,
    blkJob := none, eraseAt := none, verifyFor := none, dist := none, vote := none, voteAll := false, actWait := none,
    confirmFrom := none, lnt := Lantern.idle, recovery := false, booted := false,
    stepDue := none, winWait := [], markId := 0 }

/-- The state after the update state machine's reset: a schedule that survives stays, and an interrupted erasure leaves
its bank invalid and empty. -/
def State.updReset (s : State) (st : Nat) : State :=
  let s1 := s.wr Reg.updStatus 3 0 st
  { s1 with actReq := if st = 6 then s1.actReq else none }

/-- The always-on copy of the Epoch, taken while it counts (R86). -/
def State.copyEpoch (s : State) : State :=
  if s.counting then { s with aonEpoch := s.epoch, aonAt := s.now, aonRc := s.bit Reg.epcStatus 4 } else s

/-- The register words through a reset that keeps what `f` keeps. -/
def State.resetRegs (s : State) (f : Nat → Word → Word) : State := { s with mem.regs := resetWords f s.mem.regs }

/-- The stacks at the end of a warm reset: their STATE, and no transfer, error or attempt under way. -/
def State.stacksAfter (s : State) (states : List Nat) : State :=
  s.forAll (List.range 4) (fun s k =>
    ((s.wr (Reg.memStatus k) 2 0 (states.getD k 0)).setStack k
      { (s.stack k) with frozen := false, pcBusy := none, uncorr := [], lastReq := 0, attempts := 0, retry := [], openRow := [] }))

/-- A calibration run or a Season write that the reset ended: CAL_STATUS says so, and the bank of the run is pending, with its
original instant (R337; `asked` are the banks asked for before the reset). -/
def State.endRunByReset (s : State) (run : Option CalRun) (asked : List Nat) (aborted : Bool) : State :=
  let s1 := s.setBit Reg.calStatus 8 (aborted || s.bit Reg.calStatus 8)
  match run with
  | some r =>
    let s2 := ({ s1 with calAsked := asked.filter (fun b => b == r.bank) } : State).becomePending r.bank r.forced
    s2.setBank r.bank { (s2.bankAt r.bank) with calSince := some r.since }
  | none => s1

/-- The internal reset asserted (R325, step 3). -/
def State.assertReset (s : State) : State :=
  let s1 := s.copyEpoch.keepFaults.toutsStop.cutRuns
  let s2 := (((s1.resetRegs warmWord).clearCore).stacksAfter ((List.range 4).map s1.stackStart)).updReset (s.updStart false)
  { (((s2.takePosition.setPower 0).forAll (List.range 12) State.pinSense)).endRunByReset s.calRun s.calAsked (s.calRun.isSome || s.seasonJob.isSome)
    |>.showCut s1.ivCut with resetStep := .asserted }

/-- RST_N_ASSERT (R324). -/
def execRstNAssert (dt : Nat) (s : State) : Res := .next ((s.start dt).requestReset 1)

/-- The write of GLB_RESET: only its key asks for a reset. -/
def State.doGlbReset (s : State) (w : Word) : State := if w = 0xA2560001 then s.requestReset 2 else s

/-- GLB_RESET_WRITE (R324). -/
def execGlbResetWrite (dt : Nat) (rq : Requester) (value : Word) (s : State) : Res :=
  (s.start dt).hostWrite rq Reg.glbReset (fun s => .next (s.doGlbReset value))

/-- WATCHDOG_EXPIRY (R327): 2 s after the service cores last signalled. -/
def execWatchdogExpiry (dt : Nat) (s : State) : Res :=
  let s := s.start dt
  if s.resetStep ≠ .asserted ∧ s.progressAt + 2 * second ≤ s.now then .next (s.requestReset 3) else .next s

/-- The PCIe side of a Fundamental reset: link, configuration space and both functions (R253, R254, R324). -/
def State.resetPcie (s : State) : State :=
  let s1 := s.wr Reg.prtPcieStatus 8 0 0
  let s2 := s1.clearWords ((List.range 256).map Reg.msixAddrDataCtl ++ [Reg.msixPba 0, Reg.msixPba 1])
  { s2 with msixOn := false, pcieReady := false, perst := true }

/-- FUNDAMENTAL_RESET (R324): PERST_N is asserted. -/
def execFundamentalReset (dt : Nat) (s : State) : Res := .next (((s.start dt).requestReset 4).resetPcie)

/-- WARM_RESET_ASSERT (R325): every controller has reached self-refresh (R213). -/
def execWarmResetAssert (dt : Nat) (s : State) : Res :=
  let s := s.start dt
  if s.resetStep = .requested ∧ (List.range 4).all (fun k => !s.running k) then .next s.assertReset else .next s

/-- The events that the collector raises again when a reset completes (R353). -/
def State.raiseAgain (s : State) : State :=
  let c := s.rd Reg.glbResetCause 3 0
  let prev := s.rdq Reg.fltPrev 2
  let s1 := if c = 3 then s.fault 32 allBanks else s
  let s2 := if c = 5 ∧ prev.testBit 15 then s1.fault 15 allBanks else s1
  let s3 := if c = 5 ∧ prev.testBit 16 then s2.fault 16 allBanks else s2
  s3.forAll ((List.range 4).filter (fun k => (s3.stack k).failed)) (fun s k => s.fault (4 + k) allBanks)

/-- RESET_RELEASE (R325, step 4): 10 µs after the request at the earliest, with every rail within tolerance. A test
instruction that needs RST_N low is then in force without it (R422). -/
def execResetRelease (dt : Nat) (s : State) : Res :=
  let s := s.start dt
  if s.resetStep = .asserted ∧ s.resetAt + 10 * usec ≤ s.now ∧ s.tripped.isEmpty then
    if tapNeedsReset s.tap then .fault .testMode
    else
      .next ({ s with resetStep := .released, progressAt := s.now } : State).raiseAgain
  else .next s

/-! ### The cold reset (R321, R322, R324) -/

/-- A partition at a cold start: from the journal, or at its floor when the journal is not valid. The record directory was
in the stacks. -/
def State.coldPart (s : State) (p : Nat) : Partition :=
  let f := (s.part p).floor
  if s.journal.valid then
    { (tget s.journal.parts Partition.factory p) with recs := [], floor := f }
  else { Partition.factory with seq := f, released := f, floor := floorFor f f }

/-- What a cold reset keeps: flash, the pins, and the ledger of a valid journal. -/
def State.coldBase (s : State) : State :=
  { State.reset with
    pending := s.pending, out := s.out, now := s.now, freeCtr := s.freeCtr, mem := { Memory.empty with regs := resetWords coldWord s.mem.regs },
    pins := s.pins.filterMap (fun p => if p.2.activeSince.isNone ∧ p.2.lastRise.isNone ∧ p.2.lastFall.isNone then none
                                       else some (p.1, { p.2 with wakeKept := none }))
    seasons := s.seasons, journal := s.journal, imgs := s.imgs, pkgLen := s.pkgLen, stageBank := s.stageBank, keys := s.keys, eventLog := s.eventLog, posNext := s.posNext,
    streams := s.streams.filterMap (fun x =>
      let y := { Stream.idle with inc := x.2.floor, floor := x.2.floor }
      if y = Stream.idle then none else some (x.1, y)),
    perst := s.perst, perstAt := s.perstAt, resetStep := .asserted, resetAt := s.now, progressAt := s.now,
    idleSince := s.now, lostDue := s.journal.valid, coldStart := true,
    gaps := if s.journal.valid then s.journal.gaps else [],
    restartDue := s.journal.valid && !s.journal.gaps.isEmpty,
    lost := if s.journal.valid then s.journal.lost else [],
    ledgerMem := if s.journal.valid then s.journal.memory else [] }

/-- The machine under a cold reset: everything but flash and the pins starts anew, and the ledger comes from the journal. -/
def State.coldReset (s : State) : State :=
  let s := s.toutsStop
  let s1 := s.coldBase.forAll (List.range 32) (fun t p => t.setPart p (s.coldPart p))
  let s2 := if s.journal.valid then s1 else s1.setBit Reg.pwrStatus 10 true
  (s2.updReset (s.updStart true)).takePosition.forAll (List.range 12) State.pinSense

/-- COLD_RESET (R324). -/
def execColdReset (dt : Nat) (s : State) : Res := .next (s.start dt).coldReset

end Sys2Proof.Machine
end

