-- ==== Sys2Proof/Machine/Transport.lean ====
section
/-! DEFINITION. The Harvest Transport: streams and their ports (R257 to R259), messages (R260 to R262), DATA, ACK, RESEND,
timeouts and RELEASE (R263 to R266). -/

namespace Sys2Proof.Machine

/-! ### Messages (R260, R262) -/

/-- A big-endian field of a message. -/
def beAt (bs : List Byte) (o n : Nat) : Nat := beNat ((bs.drop o).take n)

/-- UNIT_ID of a stream's messages: the owner's serial number on a stream that forwards another unit's records, which
answers under the same identity (R304, R267). -/
def unitId (owner : Option Nat) : Nat := match owner with | some p => (Config.serialAt p).toNat | none => Config.serial.toNat

/-- The common header. -/
def msgHeader (uid ty stream inc : Nat) : List Byte :=
  beBytes 2 0x4854 ++ beBytes 1 1 ++ beBytes 1 ty ++ beBytes 8 uid ++ beBytes 2 stream ++ beBytes 2 inc

/-- A message with its header and its CRC. -/
def messageOf (uid ty stream inc : Nat) (body : List Byte) : List Byte :=
  let m := msgHeader uid ty stream inc ++ body
  m ++ beBytes 4 (crc32c m)

/-- A message under this device's own identity. -/
def message (ty stream inc : Nat) (body : List Byte) : List Byte := messageOf Config.serial.toNat ty stream inc body

/-- The length that a received message of a type must have, where the type fixes it. -/
def msgLength (ty : Nat) : Option Nat :=
  if ty = 2 ∨ ty = 3 ∨ ty = 7 then some 0x20 else if ty = 4 then some 0x3C else none

/-- A received message that R262 does not drop: magic, version, unit, length and CRC. -/
def msgOkFor (uid : Nat) (bs : List Byte) : Bool :=
  let n := bs.length
  let ty := beAt bs 3 1
  decide (0x14 ≤ n) && beAt bs 0 2 == 0x4854 && beAt bs 2 1 == 1 && beAt bs 4 8 == uid
    && (ty == 2 || ty == 3 || ty == 4 || ty == 7 || ty == 9)
    && (match msgLength ty with | some k => n == k | none => true)
    && beAt bs (n - 4) 4 == crc32c (bs.take (n - 4))

/-- A received message under this device's own identity. -/
def msgOk (bs : List Byte) : Bool := msgOkFor Config.serial.toNat bs

def State.dropMsg (s : State) (q : Nat) : State := s.inc (Reg.prtEthDropped q)

/-- A port that sends and accepts frames: up and enabled. -/
def State.portOn (s : State) (q : Nat) : Bool := s.ethExists q && s.ethUp q && s.bit (Reg.prtEthCtl q) 0

/-- A frame leaves a port; one that answers a management message goes to that message's sender. -/
def State.sendFrame (s : State) (q : Nat) (k : Option Nat) (dst : Option NetAddr) (bs : List Byte) : State :=
  if s.portOn q then (s.count (Reg.prtEthTx q) 2 64 1).emit (.frame q k dst bs) else s

/-! ### Streams and their ports (R257 to R259) -/

/-- The ports a stream may use, from port `k` of its octet on: those of the octet, then those of the failover partner. -/
def State.portOrder (s : State) (octet k : Nat) : List Nat :=
  let of := fun (o : Nat) =>
    let n := s.ethPorts o
    (List.range n).map (fun i => 8 * o + (k + i) % n)
  let partner := match s.alm with | some a => (a.octets.getD octet (0, 0xFF)).2 | none => 0xFF
  of octet ++ (if partner < 4 then of partner else [])

/-- The stream settles on the first of its ports that is up, or waits; its unacknowledged frames go out again. -/
def State.placeStream (s : State) (k from_ : Nat) : State :=
  let x := s.stream k
  match (s.portOrder (s.stOctet k) from_).find? s.ethUp with
  | some q => s.setStream k { x with st := 1, port := q, resend := x.sent.map (fun f => f.seq), advAt := s.now }
  | none => s.setStream k { x with st := 2 }

/-- What the completion of an abandoned stream descriptor says: the bytes sent, and the first sequence or granule not
wholly acknowledged (R243). -/
def streamEnd (j : HJob) (x : Stream) : Ended :=
  let left := x.sent ++ x.chunks
  if j.d.op = 2 then
    ⟨0x23, x.bytes, j.d.srcA, (match left with | f :: _ => j.d.srcA + f.offset / 36 | [] => j.d.srcA), x.flags⟩
  else
    ⟨0x23, x.bytes, j.lo % 2 ^ 64,
      (match left, x.todo with | f :: _, _ => f.recSeq | [], q :: _ => q % 2 ^ 64 | [], [] => j.hi % 2 ^ 64), x.flags⟩

/-- The descriptor that sends on a stream ends with STREAM (R257, R264). -/
def State.failStream (s : State) (k : Nat) : State :=
  let x := s.stream k
  match x.job with
  | none => s
  | some e => match (s.engine e).job with
    | none => s
    | some j => if j.phase = .run then s.endDesc e j (streamEnd j x) j.addr none endDepth else s

/-- OPEN (R257, R258): a new incarnation with the floor kept ahead of it, on the home port. -/
def State.doOpen (s : State) (k : Nat) : State :=
  let oct := s.stOctet k
  let home := s.rd (Reg.prtStCtl k) 10 8
  if s.ethPorts oct ≤ home then s.setBit (Reg.prtStStatus k) 3 true
  else
    let s1 := s.failStream k
    let x := s1.stream k
    let inc := (x.inc + 1) % 2 ^ 16
    let d := (x.floor + 2 ^ 16 - inc) % 2 ^ 16
    let floor := if d ≤ 128 ∨ 2 ^ 15 ≤ d then (x.floor + 256) % 2 ^ 16 else x.floor
    (s1.setStream k { Stream.idle with st := 1, inc := inc, floor := floor, port := 8 * oct + home,
                                       advAt := s1.now, sendAt := s1.now }).placeStream k home

/-- STREAM_OPEN (R257). -/
def execStreamOpen (dt : Nat) (k : Fin 256) (s : State) : Res := .next ((s.start dt).doOpen k)

/-- CLOSE (R257): the incarnation and its floor are kept. -/
def State.doClose (s : State) (k : Nat) : State :=
  let s1 := s.failStream k
  let x := s1.stream k
  s1.setStream k { Stream.idle with inc := x.inc, floor := x.floor }

/-- STREAM_CLOSE (R257). -/
def execStreamClose (dt : Nat) (k : Fin 256) (s : State) : Res := .next ((s.start dt).doClose k)

/-- ETH_PORT_DOWN (R259): ETH_LINK is raised and the port's streams move. -/
def execEthPortDown (dt : Nat) (q : Fin 32) (s : State) : Res :=
  let s := s.start dt
  if s.ethExists q && s.ethUp q then
    let s1 := (((s.wr (Reg.prtEthStatus q) 1 0 2).countFld (Reg.prtEthStatus q) 31 16 1).fault 25 allBanks)
    .next ((s1.streams.filter (fun x => x.2.st == 1 && x.2.port == q.val)).foldl
      (fun s x => s.placeStream x.1 (q.val % 8 + 1)) s1)
  else .next s

/-- Ethernet ports may be up: an Almanac is loaded, and neither Fallow, Safe Hold nor the held stage of a power-fail
sequence keeps them down (R275, R319, R348, R370). -/
def State.ethAllowed (s : State) : Bool :=
  s.alm.isSome && !s.recovery && !s.inReset && decide (s.power ≤ 2) && !s.holdDone && s.rd Reg.pwrStatus 6 4 != 3

/-- ETH_PORT_UP (R259): waiting streams take the port up. -/
def execEthPortUp (dt : Nat) (q : Fin 32) (s : State) : Res :=
  let s := s.start dt
  if s.ethExists q && !s.ethUp q && s.ethAllowed then
    let s1 := s.wr (Reg.prtEthStatus q) 1 0 1
    .next ((s1.streams.filter (fun x => x.2.st == 2)).foldl
      (fun s x => s.placeStream x.1 (s.rd (Reg.prtStCtl x.1) 10 8)) s1)
  else .next s

/-! ### DATA (R261, R263) -/

/-- PRT_ST_MTU as it acts. -/
def State.mtu (s : State) (k : Nat) : Nat :=
  let m := s.rd (Reg.prtStMtu k) 13 0
  if 1024 ≤ m ∧ m ≤ 9072 ∧ m % 16 = 0 then m else 9072

/-- PRT_ST_WINDOW as it acts. -/
def State.window (s : State) (k : Nat) : Nat := min 4096 (max 1 (s.rd (Reg.prtStWindow k) 15 0))

/-- The frames of one record: each but the last holds the whole MTU. `flags` stand on every frame. -/
def framesOf (mtu recSeq part fmt flags : Nat) (desc : Bool) : Nat → Nat → List Byte → List Frame
  | 0, _, _ => []
  | n + 1, off, bs =>
    let last : Bool := decide (bs.length ≤ mtu)
    ⟨0, recSeq, off, part, fmt, flags + b2n last + 2 * b2n (last && desc), bs.take mtu⟩ ::
      (if last then [] else framesOf mtu recSeq part fmt flags desc n (off + mtu) (bs.drop mtu))

/-- The frames of the next record of a stream's RECORDS descriptor, or of the granules of a GRANULES descriptor: read from
record space, with the tokens they take. None where nothing is left, or where a read waits for a controller or for tokens. -/
def State.cutRecord (s : State) (k e : Nat) (j : HJob) : State :=
  let x := s.stream k
  if !s.mayPass (hrvPort e) then s
  else if j.d.op = 2 then
    if x.lastFrame.isSome || s.readHeld (36 * j.d.srcA) (36 * j.d.srcB) then s
    else
      let b := s.bar2Bytes (36 * j.d.srcA) (36 * j.d.srcB)
      let f := b.2.fresh
      let lost := s.lost.any (fun g => decide (j.d.srcA ≤ g ∧ g < j.d.srcA + j.d.srcB))
      let w := (Config.freeWide f.1).toNat
      let fs := framesOf (s.mtu k) (w % 2 ^ 64) (w / 2 ^ 64 % 32) j.d.format 0 true (b.1.length + 1) 0 b.1
      (f.2.pass (hrvPort e) j.d.srcB).setStream k { x with chunks := fs, flags := 4 * b2n lost }
  else
    match x.todo with
    | [] => s
    | q :: rest =>
      match (s.part j.part).recs.find? (fun r => r.seq == q) with
      | none => s.setStream k { x with todo := rest }
      | some r =>
        if s.recHeld j.part r then s
        else
          let d := s.deliverRec j.part r j.d.format j.d.swap j.rebuilt
          let fs := framesOf (s.mtu k) (q % 2 ^ 64) j.part j.d.format (8 * b2n d.lost) rest.isEmpty (d.bytes.length + 1) 0
            d.bytes
          (s.pass (hrvPort e) r.granules).setStream k
            { x with todo := rest, chunks := fs, flags := x.flags ||| 2 * b2n d.rebuilt ||| 4 * b2n d.lost }

/-- A stream with no frame ready takes the next record of its descriptor. -/
def State.refillChunks (s : State) (k : Nat) : State :=
  let x := s.stream k
  if x.chunks.isEmpty then
    match x.job with
    | none => s
    | some e => match (s.engine e).job with
      | none => s
      | some j => if j.phase = .run ∧ !(s.hch e j.ch).disabling then s.cutRecord k e j else s
  else s

/-- A DATA message: the header to FRAME_CRC, which covers it and the payload. -/
def dataMessage (uid k inc : Nat) (resent : Bool) (f : Frame) : List Byte :=
  let h := msgHeader uid 1 k inc ++ beBytes 8 f.seq ++ beBytes 8 f.recSeq ++ beBytes 8 f.offset ++ beBytes 1 f.part
    ++ beBytes 1 f.fmt ++ beBytes 1 (f.flags + 4 * b2n resent) ++ beBytes 1 0
  h ++ beBytes 4 (crc32c (h ++ f.payload)) ++ f.payload

/-- The instant from which the next frame keeps the stream within PRT_ST_RATE. -/
def State.nextSend (s : State) (k bytes : Nat) : Nat :=
  let r := s.rd (Reg.prtStRate k) 15 0
  if r = 0 then s.now else s.now + bytes * 51200 / r

/-- The address that a port's IP version takes from four registers: IPv4 in the first; for IPv6 the first holds the lowest
32 bits (log entry 60). -/
def State.address (s : State) (q base : Nat) : Nat :=
  if s.bit (Reg.prtEthCtl q) 2 then s.rdq base 4 else (s.get base).toNat

/-- The receiver of a stream, at the IP version of the port that carries it. -/
def State.receiver (s : State) (q k : Nat) : NetAddr :=
  ⟨some (s.rdq (Reg.prtStDstMac k) 2 % 2 ^ 48), s.address q (Reg.prtStDstIp0 k), s.rd (Reg.prtStDstUdp k) 15 0⟩

/-- A frame leaves on its stream. -/
def State.sendData (s : State) (k : Nat) (resent : Bool) (f : Frame) : State :=
  let x := s.stream k
  let s1 := s.sendFrame x.port (some k) (s.receiver x.port k) (dataMessage (unitId x.owner) k x.inc resent f)
  s1.setStream k { (s1.stream k) with sendAt := s1.nextSend k f.payload.length }

/-- DATA moves: in Feast, outside the pause of an activation and a power-fail sequence (R275, R319, R363). -/
def State.dataRuns (s : State) : Bool := s.power == 0 && s.updState != 7 && s.pfAt.isNone && !s.inReset

/-- The channel whose descriptor a stream sends is being disabled: no further frame of it is sent (R247). -/
def State.sendStopped (s : State) (x : Stream) : Bool :=
  match x.job with
  | some e => (match (s.engine e).job with | some j => (s.hch e j.ch).disabling | none => false)
  | none => false

/-- A frame that is to be sent again goes first; else the next new frame within window and credit (R263, R264). -/
def State.doSend (s : State) (k : Nat) : State :=
  let x := s.stream k
  match x.resend with
  | q :: rest =>
    let s1 := s.setStream k { x with resend := rest }
    (match x.sent.find? (fun f => f.seq == q) with
     | some f => (s1.sendData k true f).inc (Reg.prtStResent k)
     | none => s1)
  | [] =>
    if s.sendStopped x ∨ min (s.window k) (x.credit.getD (s.window k)) ≤ x.next - x.acked then s
    else
      let s1 := s.refillChunks k
      let y := s1.stream k
      match y.chunks with
      | [] => s1
      | c :: rest =>
        if y.owner.isSome ∧ rest.isEmpty ∧ !c.flags.testBit 0 ∧ c.payload.length < s1.mtu k then s1 else
        let f := { c with seq := y.next }
        (s1.setStream k { y with chunks := rest, next := y.next + 1, sent := y.sent ++ [f],
                                 bytes := y.bytes + f.payload.length,
                                 lastFrame := if f.flags.testBit 1 then some f.seq else y.lastFrame,
                                 advAt := if y.sent.isEmpty then s1.now else y.advAt }).sendData k false f

/-- DATA_SEND (R263). -/
def execDataSend (dt : Nat) (k : Fin 256) (s : State) : Res :=
  let s := s.start dt
  let x := s.stream k
  if x.st = 1 ∧ s.dataRuns ∧ s.portOn x.port ∧ x.sendAt ≤ s.now then .next (s.doSend k) else .next s

/-- RTO and RETRY_MAX as they act. -/
def State.rto (s : State) (k : Nat) : Nat := max 10 (s.rd (Reg.prtStRto k) 15 0) * usec
def State.retryMax (s : State) (k : Nat) : Nat := max 1 (s.rd (Reg.prtStRto k) 23 16)

/-- RETRANSMIT_TIMEOUT (R264): every frame from NEXT on is sent again, or the stream is abandoned. -/
def execRetransmitTimeout (dt : Nat) (k : Fin 256) (s : State) : Res :=
  let s := s.start dt
  let x := s.stream k
  if x.st = 1 ∧ s.dataRuns ∧ !x.sent.isEmpty ∧ x.advAt + s.rto k ≤ s.now then
    if s.retryMax k ≤ x.retries then
      let s1 := s.failStream k
      .next (s1.setStream k { (s1.stream k) with st := 3, sent := [], resend := [] })
    else .next (s.setStream k { x with retries := x.retries + 1, resend := x.sent.map (fun f => f.seq), advAt := s.now })
  else .next s

/-! ### ACK, RESEND and RELEASE (R263 to R266) -/

/-- The source of a message is the receiver of its stream. -/
def State.fromReceiver (s : State) (q k ip udp : Nat) : Bool :=
  s.address q (Reg.prtStDstIp0 k) == ip && s.rd (Reg.prtStDstUdp k) 15 0 == udp

/-- The stream of a message is carried by this port now, under this incarnation. -/
def State.carriedHere (s : State) (q k inc : Nat) : Bool :=
  decide (k < 256) && (s.stream k).st == 1 && (s.stream k).port == q && (s.stream k).inc == inc

/-- RELEASE_ACK: RELEASED of an owner's partition is not known here, for its answer carries no value by the rules. -/
def State.sendReleaseAck (s : State) (h : HeldRelease) (status : Nat) : State :=
  let x := s.stream h.stream
  let f := s.fresh
  let rel := match x.owner with | some _ => (Config.freeWide f.1).toNat | none => (s.part h.part).released
  (match x.owner with | some _ => f.2 | none => s).sendFrame h.port (some h.stream)
    (s.receiver h.port h.stream) (messageOf (unitId x.owner) 5 h.stream x.inc
    (beBytes 4 h.req ++ beBytes 1 status ++ beBytes 3 0 ++ beBytes 16 rel))

/-- A RELEASE that passed its checks: RANGE, or entered in the ledger and acknowledged (R266). -/
def State.serveRelease (s : State) (h : HeldRelease) : State :=
  if h.last < h.first ∨ (s.part h.part).seq ≤ h.last then s.sendReleaseAck h 1
  else match s.release h.part h.first h.last with
    | none => s.sendReleaseAck h 1
    | some s1 => s1.sendReleaseAck h 0

/-- The releases that were held are served (R320, R363). -/
def State.serveHeld (s : State) : State :=
  s.heldRel.foldl State.serveRelease ({ s with heldRel := [] } : State).serveHeldSteward

/-- A message of a stream on the transport port of octet q ÷ 8. -/
def State.refuseHt (s : State) (q what : Nat) : State := s.refuse (6 + q / 8) what

/-- An ACK of a stream (R263). -/
def State.doAck (s : State) (q k nxt credit : Nat) : State :=
  let x := s.stream k
  if nxt < x.acked ∨ x.next < nxt then s.dropMsg q
  else
    let adv : Bool := decide (x.acked < nxt)
    s.setStream k { x with acked := nxt, credit := some credit, sent := x.sent.filter (fun f => nxt ≤ f.seq),
                           resend := x.resend.filter (fun f => nxt ≤ f), retries := if adv then 0 else x.retries,
                           advAt := if adv then s.now else x.advAt }

/-- A RESEND of a stream: the frames it names that have been sent and not passed (R264). -/
def State.doResend (s : State) (k first count : Nat) : State :=
  let x := s.stream k
  s.setStream k { x with resend := (x.sent.filter (fun f => first ≤ f.seq ∧ f.seq < first + count)).foldl
                           (fun l f => addNew l f.seq) x.resend }

/-- A RELEASE of an owner's partition goes to the owner as a CTL write (R304); the spec does not give the register it
names, nor its data, so both are free. -/
def State.passRelease (s : State) (p : Nat) (h : HeldRelease) : State :=
  let f := s.fresh
  let x := (Config.freeWide f.1).toNat
  f.2.sendCtl opWrite (some p) (x % 2 ^ 25) (x / 2 ^ 25) (x.testBit 71) (.release h) [p] 64

/-- A RELEASE: passed to the owner of forwarded records, refused under the mask, held, or served (R266, R273). -/
def State.doReleaseMsg (s : State) (q k : Nat) (bs : List Byte) : State :=
  let h : HeldRelease := ⟨k, q, beAt bs 0x10 4, beAt bs 0x14 1, beAt bs 0x18 16, beAt bs 0x28 16⟩
  if 32 ≤ h.part ∨ !(s.get (Reg.prtStPartMask k)).toNat.testBit h.part then (s.refuseHt q 4).sendReleaseAck h 2
  else match (s.stream k).owner with
    | some p => s.passRelease p h
    | none => if s.releasesHeld then { s with heldRel := s.heldRel ++ [h] } else s.serveRelease h

/-- An ACK, RESEND or RELEASE that arrives on a port (R262, R265, R273). -/
def State.streamMsg (s : State) (q ty ip udp : Nat) (bs : List Byte) : State :=
  let k := beAt bs 0xC 2
  if !msgOkFor (unitId (if k < 256 then (s.stream k).owner else none)) bs || beAt bs 3 1 != ty then s.dropMsg q
  else if s.priv (6 + q / 8) = 1 then s.refuseHt q 5
  else if 256 ≤ k ∨ !s.fromReceiver q k ip udp then s.refuseHt q 3
  else if !s.carriedHere q k (beAt bs 0xE 2) then
    (let s1 := s.refuseHt q 3
     if ty = 4 then s1.sendReleaseAck ⟨k, q, beAt bs 0x10 4, beAt bs 0x14 1 % 32, 0, 0⟩ 2 else s1)
  else if ty = 2 then s.doAck q k (beAt bs 0x10 8) (beAt bs 0x18 4)
  else if ty = 3 then s.doResend k (beAt bs 0x10 8) (beAt bs 0x18 4)
  else s.doReleaseMsg q k bs

/-- ACK_MESSAGE (R263): from IP address `ip` and UDP port `udp`. -/
def execAckMessage (dt : Nat) (q : Fin 32) (ip udp : Nat) (bytes : List Byte) (s : State) : Res :=
  let s := s.start dt
  .next (if s.portOn q then s.streamMsg q 2 ip udp bytes else s)

/-- RESEND_MESSAGE (R264). -/
def execResendMessage (dt : Nat) (q : Fin 32) (ip udp : Nat) (bytes : List Byte) (s : State) : Res :=
  let s := s.start dt
  .next (if s.portOn q then s.streamMsg q 3 ip udp bytes else s)

/-- RELEASE_MESSAGE (R266). -/
def execReleaseMessage (dt : Nat) (q : Fin 32) (ip udp : Nat) (bytes : List Byte) (s : State) : Res :=
  let s := s.start dt
  .next (if s.portOn q then s.streamMsg q 4 ip udp bytes else s)

end Sys2Proof.Machine
end

