-- ==== Sys2Proof/Machine/Ports.lean ====
section
/-! DEFINITION. The host and network ports beside the transport: the PCIe link and MSI-X (R253, R254), Ethernet frames (R256),
telemetry and management (R268, R269), SMBus and UART (R270, R271) and lane margins (R274). -/

namespace Sys2Proof.Machine

/-! ### PCIe and MSI-X (R253, R254) -/

/-- A pending message of a vector that can carry it is sent. -/
def State.flushVector (s : State) (v : Nat) : State :=
  if s.msixOn && s.bit (Reg.msixPba (v / 32)) (v % 32) && s.deliverable v then
    (s.setBit (Reg.msixPba (v / 32)) (v % 32) false).emit (.msix v)
  else s

def State.flushVectors (s : State) : State := s.forAll (List.range 64) State.flushVector

/-- PCIE_LINK_DOWN (R253): without PERST_N. -/
def execPcieLinkDown (dt : Nat) (s : State) : Res :=
  let s := s.start dt
  if s.pcieUp && !s.perst then
    .next (((s.wr Reg.prtPcieStatus 8 0 0).countFld Reg.prtPcieStatus 31 16 1).fault 24 allBanks).dropPcie
  else .next s

/-- The code of a link width in lanes. -/
def widthCode (lanes : Nat) : Nat :=
  if lanes = 1 then 1 else if lanes = 2 then 2 else if lanes = 4 then 3 else if lanes = 8 then 4
  else if lanes = 16 then 5 else 0

/-- PCIE_LINK_UP (R248, R253): the link trains at generation `gen` and `width` lanes; the recovery ROM trains at 2.5 GT/s
(R370). 64 GT/s uses Flit mode. -/
def execPcieLinkUp (dt : Nat) (gen width : Nat) (s : State) : Res :=
  let s := s.start dt
  if !s.pcieUp && !s.perst && s.rd Reg.pwrStatus 6 4 != 3 && decide (1 ≤ gen ∧ gen ≤ 6 ∧ widthCode width ≠ 0) then
    let g := if s.recovery then 1 else gen
    .next (s.wr Reg.prtPcieStatus 8 0 (256 * b2n (g == 6) + 16 * widthCode width + 2 * g + 1)).regainPcie.flushVectors
  else .next s

/-- PERST_DEASSERT (R253): link training starts. -/
def execPerstDeassert (dt : Nat) (s : State) : Res :=
  let s := s.start dt
  .next (if s.perst then { s with perst := false, perstAt := s.now } else s)

/-- PCIE_READY (R253). -/
def execPcieReady (dt : Nat) (s : State) : Res :=
  let s := s.start dt
  .next (if s.perst then s else ({ s with pcieReady := true } : State).flushVectors)

/-- MSIX_UNMASK (R254): the vector is unmasked, and MSI-X is enabled for PF0 or not; while it is not enabled nothing is
held. -/
def execMsixUnmask (dt : Nat) (v : Fin 64) (enable : Bool) (s : State) : Res :=
  let s := s.start dt
  let s1 := ({ s with msixOn := enable } : State).setBit (Reg.msixAddrDataCtl (4 * v + 3)) 0 false
  .next (if enable then s1.flushVectors else s1.clearWords [Reg.msixPba 0, Reg.msixPba 1])

/-! ### Telemetry (R268) -/

/-- Whole degrees of a tile sensor, which counts eighths. -/
def State.tileByte (s : State) (t : Nat) : Nat := unsigned 8 (roundEven (signed 12 (s.rd (Reg.calTileTemp t) 11 0)) 8)

/-- A telemetry body sampled now, and the state that has used a free value for the die temperature. -/
def State.sampleBody (s : State) : List Byte × State :=
  let f := s.fresh
  let parts := (List.range 32).flatMap (fun p =>
    if s.owned p then beBytes 16 (s.part p).seq ++ beBytes 16 (s.part p).released else List.replicate 32 0)
  (beBytes 16 (if s.counting then s.ep else 0) ++ beBytes 8 s.fltStatus ++ beBytes 4 (s.unitStatusWord none).toNat
    ++ beBytes 2 s.telemSeq ++ beBytes 1 s.power ++ beBytes 1 0
    ++ (List.range 4).flatMap (fun t => beBytes 1 (s.tileByte t))
    ++ (List.range 4).flatMap (fun k => beBytes 1 (s.rd (Reg.memTemp k) 7 0))
    ++ [Config.freeByte f.1] ++ beBytes 7 0
    ++ (List.range 9).flatMap (fun r => beBytes 2 (s.rd (Reg.pwrRail r) 15 0))
    ++ beBytes 4 (s.get Reg.pwrPower).toNat ++ beBytes 10 0 ++ parts, f.2)

/-- The telemetry collector, at the IP version of the sending port. -/
def State.collector (s : State) (q : Nat) : NetAddr :=
  ⟨none, s.address q (Reg.prtTelemDstIp 0), s.rd Reg.prtTelemCtl 15 0⟩

/-- TELEMETRY_SEND (R268): from the lowest port of the octet that is up. -/
def execTelemetrySend (dt : Nat) (o : Fin 4) (s : State) : Res :=
  let s := s.start dt
  match ((List.range 8).map (fun k => 8 * o.val + k)).find? s.portOn with
  | none => .next s
  | some q =>
    if s.bit Reg.prtTelemCtl 16 ∧ s.power ≤ 2 ∧ !s.inReset then
      let b := s.sampleBody
      let s1 := { b.2 with telem := b.1, telemSeq := (s.telemSeq + 1) % 2 ^ 16 }
      .next (s1.sendFrame q none (s1.collector q) (message 6 0xFFFF 0 b.1))
    else .next s

/-- The latest telemetry body, sampled now where none has been sent. -/
def State.latestBody (s : State) : List Byte × State := if s.telem.isEmpty then s.sampleBody else (s.telem, s)

/-! ### Management over Ethernet (R269, R273) -/

/-- MGMT_RESP. -/
def State.mgmtResp (s : State) (q req status : Nat) (vals : List Nat) : State :=
  s.sendFrame q none none (message 8 0xFFFF 0 (beBytes 4 req ++ beBytes 1 status ++ beBytes 1 0 ++ beBytes 2 vals.length
    ++ vals.flatMap (beBytes 4)))

/-- Consecutive registers read in ascending order with OBSERVER rights. -/
def State.readRun (s : State) (rq : Requester) (off : Nat) : Nat → List Nat × State
  | 0 => ([], s)
  | n + 1 =>
    let r := s.readAccess rq off 4
    let t := r.2.readRun rq (off + 4) n
    (r.1 :: t.1, t.2)

/-- A MGMT_READ served: RANGE for a bad offset or range, and for a COUNT outside 1 to 512. -/
def State.doMgmtRead (s : State) (q : Nat) (bs : List Byte) : State :=
  let req := beAt bs 0x10 4
  let off := beAt bs 0x14 4
  let n := beAt bs 0x18 2
  if off % 4 ≠ 0 ∨ n = 0 ∨ 512 < n ∨ 0x2000000 < off + 4 * n then s.mgmtResp q req 1 []
  else
    let o : Fin 4 := ⟨q / 8 % 4, Nat.mod_lt _ (by decide)⟩
    let r := s.readRun (.eth o) off n
    r.2.mgmtResp q req 0 r.1

/-- The running second of a port and the messages it has served in it. -/
def State.mgmtCount (s : State) (q : Nat) : Nat × Nat :=
  let w := tget s.mgmtWin (0, 0) q
  if w.2 = 0 ∨ w.1 + second ≤ s.now then (s.now, 0) else w

/-- A management message on a port: dropped, dropped beyond 1,000 in a second, without answer while the port is disabled, or
served. -/
def State.mgmtMsg (s : State) (q ty : Nat) (bs : List Byte) : State :=
  let w := s.mgmtCount q
  if !msgOk bs || beAt bs 3 1 != ty then s.dropMsg q
  else if 1000 ≤ w.2 then s.inc Reg.prtMgmtDropped
  else
    let s1 := { s with mgmtWin := tset s.mgmtWin (0, 0) q (w.1, w.2 + 1) }
    if s1.priv (2 + q / 8) = 1 then s1.refuse (2 + q / 8) 5
    else if ty = 7 then s1.doMgmtRead q bs
    else (s1.refuse (2 + q / 8) 2).mgmtResp q (if bs.length < 0x18 then 0 else beAt bs 0x10 4) 2 []

/-- MGMT_READ (R269). -/
def execMgmtRead (dt : Nat) (q : Fin 32) (bytes : List Byte) (s : State) : Res :=
  let s := s.start dt
  .next (if s.portOn q then s.mgmtMsg q 7 bytes else s)

/-- MGMT_WRITE (R273). -/
def execMgmtWrite (dt : Nat) (q : Fin 32) (bytes : List Byte) (s : State) : Res :=
  let s := s.start dt
  .next (if s.portOn q then s.mgmtMsg q 9 bytes else s)

/-! ### Ethernet frames (R256) -/

/-- The CRC-32 of IEEE 802.3. -/
def fcsBits : Nat → Nat → Nat
  | 0, c => c
  | n + 1, c => fcsBits n (if c % 2 = 1 then (c / 2) ^^^ 0xEDB88320 else c / 2)

def fcs (bs : List Byte) : Nat := (bs.foldl (fun c b => fcsBits 8 (c ^^^ b.toNat)) 0xFFFFFFFF) ^^^ 0xFFFFFFFF

/-- The IP packet of a frame: what follows the MAC header and the VLAN tag that the port carries, and its EtherType. -/
def etherPayload (vlan : Option Nat) (f : List Byte) : Option (Nat × List Byte) :=
  let ty := beAt f 12 2
  match vlan with
  | none => if ty = 0x8100 then none else some (ty, f.drop 14)
  | some v => if ty = 0x8100 ∧ beAt f 14 2 % 4096 = v then some (beAt f 16 2, f.drop 18) else none

/-- The source and destination address and the UDP datagram of an IP packet. -/
def udpOf (v6 : Bool) (ty : Nat) (p : List Byte) : Option (Nat × Nat × List Byte) :=
  if v6 then
    (if ty = 0x86DD ∧ beAt p 0 1 / 16 = 6 ∧ beAt p 6 1 = 17 then some (beAt p 8 16, beAt p 24 16, p.drop 40) else none)
  else if ty = 0x0800 ∧ beAt p 0 1 / 16 = 4 ∧ 5 ≤ beAt p 0 1 % 16 ∧ beAt p 9 1 = 17 then
    some (beAt p 12 4, beAt p 16 4, p.drop (4 * (beAt p 0 1 % 16)))
  else none

/-- A frame accepted by a port: source address, source UDP port and payload. -/
def State.acceptFrame (s : State) (q : Nat) (f : List Byte) : Option (Nat × Nat × List Byte) :=
  let n := f.length
  let c := s.get (Reg.prtEthCtl q)
  if n < 18 ∨ 9216 < n ∨ leAt f (n - 4) 4 ≠ fcs (f.take (n - 4)) ∨ beAt f 0 6 ≠ s.rdq (Reg.prtEthMac q) 2 % 2 ^ 48 then none
  else
    match etherPayload (if c.toNat.testBit 1 then some (fld c 27 16) else none) (f.take (n - 4)) with
    | none => none
    | some (ty, p) =>
      match udpOf (c.toNat.testBit 2) ty p with
      | none => none
      | some (src, dst, u) =>
        let l := beAt u 4 2
        if dst ≠ s.address q (Reg.prtEthIp0 q) ∨ beAt u 2 2 ≠ s.rd (Reg.prtEthUdp q) 15 0 ∨ l < 8 ∨ u.length < l then none
        else some (src, beAt u 0 2, (u.take l).drop 8)

/-- A transport or management message by its type; any other is dropped. -/
def State.anyMsg (s : State) (q ip udp : Nat) (bs : List Byte) : State :=
  let ty := beAt bs 3 1
  if ty = 7 ∨ ty = 9 then s.mgmtMsg q ty bs else if ty = 2 ∨ ty = 3 ∨ ty = 4 then s.streamMsg q ty ip udp bs else s.dropMsg q

/-- ETH_FRAME_RECEIVE (R256). -/
def execEthFrameReceive (dt : Nat) (q : Fin 32) (frame : List Byte) (s : State) : Res :=
  let s := s.start dt
  if s.portOn q then
    match s.acceptFrame q frame with
    | some x => .next (s.anyMsg q x.1 x.2.1 x.2.2)
    | none => .next (s.dropMsg q)
  else .next s

/-! ### SMBus (R270) -/

/-- A command NACKed: counted, and refused as an unknown command. -/
def State.smbNack (s : State) (what : Nat) : State :=
  ((if s.inReset then s else (s.countFld Reg.prtSmbStatus 31 16 1).refuse 1 what)).emit .nack

/-- An SMBus command served, or NACKed while the Almanac disables the port. -/
def State.smbServe (s : State) (f : State → State) : State := if s.priv 1 = 1 then s.smbNack 5 else f s

/-- The CRC-8 of SMBus packet error checking, bit by bit: polynomial x^8 + x^2 + x + 1 (PRESUMED; log entry 129). -/
def pecBits : Nat → Nat → Nat
  | 0, c => c
  | n + 1, c => pecBits n (if 128 ≤ c then (2 * c % 256) ^^^ 7 else 2 * c)

def pecOf (bs : List Byte) : Byte := BitVec.ofNat 8 (bs.foldl (fun c b => pecBits 8 (c ^^^ b.toNat)) 0)

/-- The answer to a block read of command `code`, whose written bytes are `sent`; PEC over the whole transfer follows it where
the host asks for it (R270). -/
def smbAnswer (code : Nat) (sent bs : List Byte) : Out :=
  let addr := 2 * (0x3A + Config.smbAddr.toNat)
  let head := leBytes 1 addr ++ leBytes 1 code ++ sent ++ leBytes 1 (addr + 1) ++ leBytes 1 bs.length ++ bs
  .smbus bs (pecOf head)

/-- SMBUS_REGISTER_READ (R270). -/
def execSmbusRegisterRead (dt : Nat) (off : Nat) (s : State) : Res :=
  .next ((s.start dt).smbServe (fun s =>
    let r := s.readAccess .smbus off 4
    r.2.emit (smbAnswer 1 (leBytes 1 4 ++ leBytes 4 off) (leBytes 4 r.1))))

/-- SMBUS_TELEMETRY_READ (R270): bytes 0x10 to 0x2F of the message, the first 32 of the body. -/
def execSmbusTelemetryRead (dt : Nat) (s : State) : Res :=
  .next ((s.start dt).smbServe (fun s => let b := s.latestBody; b.2.emit (smbAnswer 2 [] (b.1.take 32))))

/-- SMBUS_SENSOR_READ (R270): bytes 0x30 to 0x55, sampled afresh in Fallow. -/
def execSmbusSensorRead (dt : Nat) (s : State) : Res :=
  .next ((s.start dt).smbServe (fun s =>
    let b := if s.power = 3 then s.sampleBody else s.latestBody
    b.2.emit (smbAnswer 3 [] ((b.1.drop 32).take 38))))

/-- SMBUS_OTHER_COMMAND (R270). -/
def execSmbusOtherCommand (dt : Nat) (command : Nat) (isWrite : Bool) (s : State) : Res :=
  let s := s.start dt
  .next (if isWrite || command == 0 || decide (3 < command) then s.smbNack (if s.priv 1 = 1 then 5 else 6) else s)

/-! ### UART (R271) -/

/-- The bytes of a text. -/
def text (t : String) : List Byte := t.toList.map (fun c => BitVec.ofNat 8 c.toNat)
def textOf (cs : List Char) : List Byte := cs.map (fun c => BitVec.ofNat 8 c.toNat)

/-- The name of an ALM_STATUS.STATE. -/
def almName (st : Nat) : String :=
  if st = 0 then "EMPTY" else if st = 1 then "CHECKING" else if st = 2 then "LOADED" else if st = 3 then "SCHEDULED"
  else if st = 4 then "RELOADING" else "FAILED"

/-- The status line, ended by CR. -/
def State.statusLine (s : State) : List Byte :=
  text "A256 " ++ textOf [Char.ofNat (65 + Config.stepLetter.toNat)] ++ textOf (hexDigits 1 Config.stepDigit.toNat)
    ++ text " ALM=" ++ text (if s.recovery then "RECOVERY" else almName s.almState)
    ++ text " UNIT=" ++ textOf (hexDigits 8 (s.unitStatusWord none).toNat)
    ++ text " FLT=" ++ textOf (hexDigits 9 s.fltStatus)
    ++ text " RST=" ++ textOf (hexDigits 1 (s.rd Reg.glbResetCause 3 0)) ++ [13]

/-- A line for the UART outside the recovery ROM: refused and unanswered under code 3. -/
def State.uartServe (s : State) (f : State → State) : State := if s.priv 12 = 3 then s.refuse 12 5 else f s

/-- UART_STATUS (R271). -/
def execUartStatus (dt : Nat) (s : State) : Res :=
  .next ((s.start dt).uartServe (fun s => s.emit (.uart s.statusLine)))

/-- UART_OTHER_LINE (R271). -/
def execUartOtherLine (dt : Nat) (line : List Byte) (s : State) : Res :=
  let s := s.start dt
  .next (if s.recovery || line == text "STATUS" then s
    else s.uartServe (fun s => (s.refuse 12 6).emit (.uart (text "REFUSED" ++ [13]))))

/-! ### Lane margins (R274) -/

/-- MARGIN_MEASURE (R274): eye height and width in percent. -/
def execMarginMeasure (dt : Nat) (lane : Fin 56) (height width : Nat) (s : State) : Res :=
  let s := s.start dt
  let m := tget s.margins (0, 0) lane
  let low : Bool := decide (height < s.rd Reg.prtMarginMin 7 0)
  let m1 := if low then (min 3 (m.1 + 1), 0) else (0, min 3 (m.2 + 1))
  let s1 := ({ s with margins := tset s.margins (0, 0) lane m1 } : State).wr (Reg.prtMargin lane) 15 0
    (min 255 width * 256 + min 255 height)
  if m1.1 = 3 ∧ !s1.bit (Reg.prtMargin lane) 16 then .next ((s1.setBit (Reg.prtMargin lane) 16 true).fault 35 allBanks)
  else if m1.2 = 3 then .next (s1.setBit (Reg.prtMargin lane) 16 false)
  else .next s1

end Sys2Proof.Machine
end

