-- ==== Sys2Proof/Machine/Accum.lean ====
section
/-! DEFINITION. The commands of "Filtering and decimation" (R166, R175, R177) and of "Accumulation and persistence"
(R184, R185, R188, R191). -/

namespace Sys2Proof.Machine

/-! ### Filters -/

/-- What follows a stored filter word: the shadow of a channel in no group takes effect at the next core edge, and a
withheld hand-over is judged again (R154, R176). -/
def State.doFltWrite (s : State) (b c : Nat) (w : Word) : State :=
  let s1 := (s.writeFlt b c w).handLooseChan (16 * b + c)
  match s1.groupOfChan (16 * b + c) with
  | some g => s1.recheckHand g
  | none => s1

/-- BNK_FLT_WRITE (R166). The registers of a disabled bank and of an input that is not live ignore writes. -/
def execBnkFltWrite (dt : Nat) (rq : Requester) (b c : Fin 16) (value : Word) (s : State) : Res :=
  (s.start dt).hostWrite rq (Reg.bnkFlt b c) (fun s =>
    if s.live (16 * b.val + c.val) then guardReserved (fld value 31 25 != 0) (s.doFltWrite b c value) else .next s)

/-- The first valid output after a restart has been produced (R175). -/
def State.primed (s : State) (b c : Nat) : Bool :=
  decide ((s.bankAt b).restartAt.getD c 0 + 2 * s.cdelay (16 * b + c) ≤ s.ep) && s.ready b

/-- FILTER_PRIMED (R175): capture and triggers of the channel's group resume on it. -/
def execFilterPrimed (dt : Nat) (b c : Fin 16) (s : State) : Res :=
  let s := s.start dt
  if s.primed b c then
    match s.groupOfChan (16 * b.val + c.val) with
    | some g => .next ((s.endPauses g).fillCheck g)
    | none => .next s
  else .next s

/-- CLR_SAT (R177). -/
def execClrSat (dt : Nat) (b : Fin 16) (s : State) : Res := .next ((s.start dt).clearSat b)

/-! ### Folds (R184, R207) -/

/-- The time of a fold: 128 GS/s, or the accumulation allowance divided by the bytes moved (R184, R207). -/
def State.foldTicks (s : State) (g : Nat) : Nat :=
  let n := s.gnch g * s.glen g
  let quarterBytes := if (s.gset g).1 = 0 then 42 else 45
  max (40 * n) (ceilDiv (n * quarterBytes * 256 * cycle) (4 * 36 * max 1 (s.rate accPort)))

/-- The granules that a fold moves through the accumulation port: the sums read and written, and the staging read (R184,
R201). -/
def State.foldGranules (s : State) (g : Nat) : Nat :=
  let w := s.gnch g * s.glen g
  2 * ceilDiv w 8 + ceilDiv (s.gnch g * ceilDiv (s.glen g) (perWord (s.gset g).2.1)) 8

/-- FOLD_START: the oldest staged record is served once the accumulation port passes granules, and takes its tokens (R184,
R202). -/
def execFoldStart (dt : Nat) (s : State) : Res :=
  let s := s.start dt
  match s.foldQueue with
  | g :: _ =>
    if s.foldAt = none ∧ s.mayPass accPort ∧ s.writable then
      .next (({ s with foldAt := some s.now } : State).pass accPort (s.foldGranules g))
    else .next s
  | [] => .next s

/-- The sums of a fold written back, and re-arm. -/
def State.foldDone (s : State) (g : Nat) : State :=
  let x := s.grp g
  let a := x.acc
  let s1 := s.setGrp g { x with acc := match a.staged with
    | some y => { a.add y.cur y.flags y.ovr y.ovrCh y.vals with staged := none, folding := false }
    | none => { a with folding := false } }
  let e := (s1.grp g).prevEnd.getD s1.ep
  let s2 := ((s1.histEvery g).afterSum g).startRearm g e
  if (s2.grp g).disarming then s2.finishDisarm g else s2

/-- FOLD_END (R184): the fold's time has passed, and so have its granules. -/
def execFoldEnd (dt : Nat) (s : State) : Res :=
  let s := s.start dt
  match s.foldAt, s.foldQueue with
  | some t, g :: rest =>
    if t + s.foldTicks g ≤ s.now ∧ 0 ≤ s.tok accPort then
      .next (({ s with foldAt := none, foldQueue := rest } : State).foldDone g)
    else .next s
  | _, _ => .next s

/-- EMISSION_TOKENS_READY (R188). -/
def execEmissionTokensReady (dt : Nat) (g : Fin 32) (s : State) : Res :=
  let s := s.start dt
  if (s.grp g).acc.emitWait.isEmpty then .next s
  else
    let s1 := s.tryEmit g 8
    .next (if (s1.grp g).disarming then s1.finishDisarm g else s1)

/-- FLUSH: at once when no record is in progress or waits for its fold, otherwise after that (R185). -/
def State.doFlush (s : State) (g : Nat) : State :=
  if s.gmode g = 2 ∧ s.gArmed g then
    if (s.grp g).cur.isNone ∧ (s.grp g).acc.staged.isNone then s.emitSum g
    else s.setGrp g { (s.grp g) with acc := { (s.grp g).acc with flush := true } }
  else s

/-- ACC_FLUSH (R185). -/
def execAccFlush (dt : Nat) (g : Fin 32) (s : State) : Res := .next ((s.start dt).doFlush g)

/-- HIST_EMIT (R191). -/
def State.doHistEmit (s : State) (g : Nat) : State := if s.gArmed g then s.emitHist g else s

def execHistEmit (dt : Nat) (g : Fin 32) (s : State) : Res := .next ((s.start dt).doHistEmit g)

end Sys2Proof.Machine
end

