-- ==== Sys2Proof/Machine/Clocks.lean ====
section
/-! DEFINITION. The reference, the PLLs, holdover, the Epoch count and its loads, and PPS discipline (R78 to R89, R352). -/

namespace Sys2Proof.Machine

/-! ### The reference and the PLLs -/

/-- The always-on clock moves between its sources: a copy that has run from the RC oscillator is no longer exact. -/
def State.aonSource (s : State) (rc : Bool) : State :=
  ({ s with aonRc := s.aonRc || rc } : State).setBit Reg.epcStatus 4 rc

/-- The reference in use ends: not present, no frequency, and the always-on clock on the RC oscillator. -/
def State.refGone (s : State) : State :=
  (((s.setBit Reg.epcStatus 0 false).wr Reg.epcStatus 3 2 0).aonSource true)

/-- REF_QUALIFIED (R78): of the frequency that EPC_REF_CTL.FREQ selects, or of either where it detects. -/
def execRefQualified (dt : Nat) (hundred : Bool) (s : State) : Res :=
  let s := s.start dt
  let f := s.rd Reg.epcRefCtl 1 0
  if !s.bit Reg.epcStatus 0 ∧ (f = 0 ∨ f = (if hundred then 2 else 1)) then
    .next ((((s.setBit Reg.epcStatus 0 true).wr Reg.epcStatus 3 2 (if hundred then 2 else 1))).aonSource false)
  else .next s

/-- The Epoch taken up at core PLL lock: 0 after a cold reset, otherwise the always-on copy, exact to one tick, or in error
by up to 2 % of the time where the copy ran from the RC oscillator (R86). -/
def State.reloadEpoch (s : State) : State :=
  if !s.aonHas then { s with epoch := 0, counting := true, aonHas := true }
  else
    let f := s.fresh
    let el := s.now - s.aonAt
    let bound := if s.aonRc then el / 50 + 1 else 1
    let e := (Config.freeWide f.1).toNat % (2 * bound + 1)
    let t := s.aonEpoch.toNat + el + 2 ^ 72 + e - bound
    let s1 := { f.2 with epoch := BitVec.ofNat 72 t, counting := true }
    if s.aonRc then s1.setBit Reg.epcStatus 8 true else s1

/-- CORE_PLL_LOCK (R80): the first lock to a qualified reference since the release. -/
def execCorePllLock (dt : Nat) (s : State) : Res :=
  let s := s.start dt
  if s.bit Reg.epcStatus 0 ∧ !s.coreLocked ∧ !s.inReset ∧ (!s.bit Reg.epcStatus 1 ∨ !s.counting)
      ∧ !(s.power == 3 && s.move == .steady) then
    .next (({ s with coreLocked := true } : State).setBit Reg.epcStatus 1 true).reloadEpoch
  else .next s

/-- SAMPLE_PLL_LOCK (R80). At an exit from Fallow the whole of R73 is timed from here (R74). -/
def execSamplePllLock (dt : Nat) (s : State) : Res :=
  let s := s.start dt
  if s.coreLocked && s.bit Reg.epcStatus 1 && !s.sampleLocked && !s.clockWaits then
    -- Clock start ends here, and with it begins the confirmation window after a reset (R365).
    let s1 := { s with sampleLocked := true,
                       confirmFrom := if s.updState = 8 ∧ s.confirmFrom.isNone then some s.now else s.confirmFrom }
    .next (match s1.move with
      | .exiting _ => if s1.power = 3 then s1.forAll (List.range 16) (fun s b => s.powerUp b true) else s1
      | _ => s1)
  else .next s

/-- REF_LOST_BEFORE_LOCK (R81): also of a reference that is lost again before the relock that ends holdover. -/
def execRefLostBeforeLock (dt : Nat) (s : State) : Res :=
  let s := s.start dt
  if s.bit Reg.epcStatus 0 ∧ (!s.coreLocked ∨ s.bit Reg.epcStatus 6) then .next s.refGone else .next s

/-- REF_LOSS (R83): holdover. -/
def execRefLoss (dt : Nat) (s : State) : Res :=
  let s := s.start dt
  if s.bit Reg.epcStatus 0 ∧ s.coreLocked ∧ !s.bit Reg.epcStatus 6 then
    .next ((((s.refGone.setBit Reg.epcStatus 6 true).wrEpoch Reg.epcLossAt s.ep).inc Reg.epcRefLosses).fault 12 allBanks)
  else .next s

/-- REF_RELOCK (R84): HOLDOVER clears, and the device stays unsettled for 10 ms. -/
def execRefRelock (dt : Nat) (s : State) : Res :=
  let s := s.start dt
  if s.bit Reg.epcStatus 6 ∧ s.bit Reg.epcStatus 0 ∧ s.coreLocked then
    .next (({ s with relockAt := some s.now } : State).setBit Reg.epcStatus 6 false)
  else .next s

/-- UNSETTLED_CLEAR (R84). -/
def execUnsettledClear (dt : Nat) (s : State) : Res :=
  let s := s.start dt
  match s.relockAt with
  | some t => if t + 10 * msec ≤ s.now then .next { s with relockAt := none } else .next s
  | none => .next s

/-- OVEN_READY_CHANGE (R82). -/
def execOvenReadyChange (dt : Nat) (level : Bool) (s : State) : Res := .next ((s.start dt).setBit Reg.epcStatus 5 level)

/-- CORE_PLL_LOSS (R352): the banks behave as at a sample PLL loss, the Epoch counts on and is DISCONTINUOUS, and
PLL_CORE escalates to Safe Hold. -/
def execCorePllLoss (dt : Nat) (s : State) : Res :=
  let s := s.start dt
  if s.coreLocked then
    let s1 := { s with coreLocked := false }
    .next ((s1.setBit Reg.epcStatus 8 true).clockLost.fault 11 allBanks)
  else .next s

/-! ### Epoch loads (R87, R88) -/

/-- The unit is a ring member and not the Epoch source. -/
def State.follows (s : State) : Bool := s.bit Reg.rngStatus 0 && !s.bit Reg.rngStatus 2

/-- An Epoch load is refused (R87). -/
def State.loadRefused (s : State) : Bool :=
  s.anyArmed || s.ivRuns || !s.marks.isEmpty || s.almState == 3 || s.follows || !s.counting || s.bit Reg.epcCtl 1
    || s.loadAt.isSome

/-- LOAD_NOW: pending until the next frame boundary, or refused. -/
def State.doLoadNow (s : State) : State :=
  if s.loadRefused then s.setBit Reg.epcStatus 11 true
  else ({ s with loadAt := some (s.now + (8192 - s.ep % 8192)) } : State).setBit Reg.epcCtl 0 true

/-- LOAD_NOW (R87). -/
def execLoadNow (dt : Nat) (s : State) : Res := .next (s.start dt).doLoadNow

/-- LOAD_PPS: pending until the next accepted PPS edge, or refused. -/
def State.doLoadPps (s : State) : State :=
  if s.loadRefused then s.setBit Reg.epcStatus 11 true else s.setBit Reg.epcCtl 1 true

/-- LOAD_PPS (R88). -/
def execLoadPps (dt : Nat) (s : State) : Res := .next (s.start dt).doLoadPps

/-- PPS_LOAD_CANCEL (R88). -/
def State.doPpsCancel (s : State) : State := s.setBit Reg.epcCtl 1 false

def execPpsLoadCancel (dt : Nat) (s : State) : Res := .next (s.start dt).doPpsCancel

/-- The multiple of `m` nearest to an integer, the lower of two equally near. -/
def nearestMul (m : Nat) (x : Int) : Int :=
  let lo := x.fdiv m * m
  if 2 * (x - lo) ≤ m then lo else lo + m

/-! ### PPS (R88, R89) -/

/-- The phase error of a stamp: less the offset and the nearest whole second. -/
def State.ppsErr (s : State) (t : Nat) : Int :=
  let x := (t : Int) - signed 32 (s.rd Reg.epcPpsOffset 31 0)
  x - nearestMul second x

/-- DISCIPLINE as it acts: MONITOR at most on a ring member that is not the source (R89). -/
def State.discipline (s : State) : Nat := if s.follows then min 1 (s.rd Reg.epcCtl 5 4) else s.rd Reg.epcCtl 5 4

/-- FOFFSET after a step of the loop: the rule gives the loop's order and time constant and not its gains, so the value
within ±1 ppm is free. -/
def loopOut (f : Nat) : Nat := unsigned 24 (clampI (-1099511) 1099511 (signed 24 (Config.freeWord f).toNat))

/-- An accepted edge stamped `t`, `ago` ticks before now. DESIGN CHOICE (log 115): for the edge of a PPS load too, e is that of
the stamp before the load. -/
def State.ppsAccept (s : State) (t ago : Nat) : State :=
  let e := s.ppsErr t
  let s1 := (s.wrEpoch Reg.epcPpsAt t).put Reg.epcPpsErr
    (BitVec.ofNat 32 (unsigned 32 (clampI (-(2 ^ 31)) (2 ^ 31 - 1) e)))
  let s2 := s1.countFld Reg.epcPpsCount 15 0 1
  let s3 := if s.discipline = 2 then
      (let f := s2.fresh
       f.2.wr Reg.epcFoffset 23 0 (loopOut f.1))
    else s2
  let good := if e.natAbs ≤ 8 then s3.ppsGood + 1 else 0
  let s4 := { s3 with ppsGood := good, ppsPrev := some (s.now - ago), ppsLast := s.now - ago }
  let s5 := if 8 ≤ good then s4.setBit Reg.epcStatus 9 true
    else if 64 < e.natAbs then s4.setBit Reg.epcStatus 9 false else s4
  s5.setBit Reg.epcStatus 10 false

/-- A pending PPS load acts at an accepted edge stamped `t`: the multiple of 8192 ticks nearest to EPC_SET − t is added,
and the next edge is accepted without the spacing test (R88, R89). -/
def State.ppsLoad (s : State) (t : Nat) : State :=
  if s.bit Reg.epcCtl 1 then
    let m := nearestMul 8192 ((s.rdq Reg.epcSet 3 % 2 ^ 72 : Nat) - (t : Int))
    let s1 := s.moveEpoch (((s.ep : Int) + m) % 2 ^ 72).toNat
    { ((s1.setBit Reg.epcCtl 1 false).setBit Reg.epcStatus 8 false).wrEpoch Reg.epcPpsAt
        (((t : Int) + m) % 2 ^ 72).toNat with ppsPrev := none }
  else s

/-- An edge `ago` ticks before now lies 1 s ± 1 ms after the accepted edge before it; the first is exempt (R89). -/
def State.ppsSpaced (s : State) (ago : Nat) : Bool :=
  match s.ppsPrev with
  | none => true
  | some p => decide (p + second - msec ≤ s.now - ago ∧ s.now - ago ≤ p + second + msec)

/-- PPS_EDGE (R89): an edge of the selected polarity, `ago` ticks before now. A pending load makes the next accepted edge
its own. The first edge, and the first after a load, is accepted without the spacing test; an OFF input stamps nothing. -/
def execPpsEdge (dt : Nat) (ago : Nat) (s : State) : Res :=
  let s := s.start dt
  if s.discipline = 0 then .next s
  else
    let t := s.before ago
    if s.ppsSpaced ago ∧ (s.ppsErr t).natAbs ≤ s.rd Reg.epcPpsGate 31 0 then .next ((s.ppsAccept t ago).ppsLoad t)
    else .next (s.countFld Reg.epcPpsCount 31 16 1)

/-- PPS_MISSING (R89): no accepted edge for 1.5 s, measured from the input's enabling where it has had none. -/
def execPpsMissing (dt : Nat) (s : State) : Res :=
  let s := s.start dt
  if s.discipline ≠ 0 ∧ s.ppsLast + second + second / 2 ≤ s.now then
    .next (({ (s.setBit Reg.epcStatus 10 true) with ppsGood := 0 } : State).setBit Reg.epcStatus 9 false)
  else .next s

end Sys2Proof.Machine
end

