-- ==== Sys2Proof/Machine/Almanac.lean ====
section
/-! DEFINITION. Loading and reloading an Almanac (R47 to R57), with what a first load writes: the forfeit of R51, the LOST
records of R323 and the RESTART records of R326. -/

namespace Sys2Proof.Machine

/-! ### Commands refused and checks failed (R47) -/

/-- A code in ALM_STATUS and ALM_ERR_OFFSET. -/
def State.almError (s : State) (code sect off : Nat) : State :=
  ((s.wr Reg.almStatus 23 16 code).wr Reg.almStatus 15 8 sect).put Reg.almErrOffset (BitVec.ofNat 32 off)

/-- A command refused: the code names no byte of an image. -/
def State.almRefuse (s : State) (code : Nat) : State := s.almError code 0xFF 0

/-- The key hashes in valid slots, and the REQUIRE policy (R57). -/
def State.keySlots (s : State) : List (List Byte) :=
  ((List.range 4).filter (fun k => s.bit Reg.almKeys k)).map (fun k => tget s.keys [] k)
def State.requireKeys (s : State) : Bool := s.bit Reg.almKeys 4

/-- The staged host image: the first LEN bytes of the staging buffer, at most all of it. -/
def State.stagedImage (s : State) : List Byte :=
  tgetAll s.mem.staging 0 0 (min (2 ^ 20) (s.rd Reg.almStageLen 20 0))

/-- What an image is checked against. -/
def State.checkCtx (s : State) (host : Bool) (inForce : Option Almanac) : CheckCtx :=
  { hwType := hwType, serial := Config.serial.toNat, require := s.requireKeys, slots := s.keySlots,
    stageLen := if host then some (s.rd Reg.almStageLen 20 0) else none, inForce := inForce, ledger := s.ledgerMem,
    unreleased := s.unreleased, forfeit := s.bit Reg.almCtl 9, host := host }

/-- Checking of an image begins. -/
def State.beginCheck (s : State) (image : List Byte) (why : CheckFor) : State :=
  ({ s with check := some ⟨image, why, s.now⟩ } : State).wr Reg.almStatus 3 0 1

/-- Commands reach the ALM block: the internal reset is not asserted and the recovery ROM does not run. -/
def State.almOpen (s : State) : Bool := !s.inReset && !s.recovery

/-! ### Starting a load -/

/-- The ALMD part of the active bank's package (R49, R356): nothing while the bank is not valid. -/
def State.defaultImage (s : State) : List Byte :=
  let b := s.activeBank
  if (s.img b).valid then
    (List.range (min (2 ^ 20) (s.flashLe b (0x48 + 64 * 3) 4))).map (fun k => (s.flashByte b (s.partAt b 3 + k)).getD 0)
  else []

/-- DEFAULT_ALMANAC_LOAD (R49, R425 step 7): once the boot check is over and every stack has trained or failed. -/
def execDefaultAlmanacLoad (dt : Nat) (s : State) : Res :=
  let s := s.start dt
  if s.booted && s.almOpen && s.resetStep == .released && s.almState == 0 && !s.bit Reg.almBoot 0 && s.stacksUp then
    .next (s.beginCheck s.defaultImage (.startLoad false))
  else .next s

/-- ALM_CTL.LOAD: valid only in EMPTY or FAILED. -/
def State.doLoad (s : State) : State :=
  if s.almState = 0 ∨ s.almState = 5 then s.beginCheck s.stagedImage (.startLoad true) else s.almRefuse 0x15

/-- ALMANAC_LOAD (R49). -/
def execAlmanacLoad (dt : Nat) (s : State) : Res :=
  let s := s.start dt
  .next (if s.almOpen then s.doLoad else s)

/-! ### What a successful start load does -/

/-- ALM_DIGEST and ALM_TAG of an image (R39). -/
def State.putDigest (s : State) (a : Almanac) : State :=
  ((List.range 8).foldl (fun s k => s.put (Reg.almDigest k) (BitVec.ofNat 32 (leAt a.digest (4 * k) 4))) s).put Reg.almTag
    (BitVec.ofNat 32 (256 * byteAt a.digest 0 + byteAt a.digest 1))

/-- ALM_STATUS of the image in force after a success. -/
def State.almSuccess (s : State) (a : Almanac) : State :=
  (((s.almError 0 0 0).setBit Reg.almStatus 4 a.signed).setBit Reg.almStatus 5 a.trusted).setBit Reg.almStatus 6 a.host

/-- Unreleased sequences of a partition, ascending (R321, R323). -/
def Partition.unreleased (P : Partition) : List Nat :=
  ((List.range (P.seq - P.released)).map (fun k => P.released + k)).filter
    (fun q => !P.ranges.any (fun r => r.1 ≤ q && q ≤ r.2))

/-- How many sequences a partition has not released. -/
def Partition.unreleasedCount (P : Partition) : Nat :=
  P.seq - P.released - ((P.ranges.map (fun r => r.2 + 1 - r.1)).sum)

/-- Every record area takes the bounds of the MEMORY section in force and starts empty; the unreleased sequences are
forfeited (R51). -/
def State.rebase (s : State) : State :=
  let n := ((List.range 32).map (fun p => (s.part p).unreleasedCount)).sum
  let s1 := s.forAll (List.range 32) (fun s p =>
    let P := s.part p
    let a := (s.area p).1
    s.setPart p { P with released := P.seq, ranges := [], recs := [], commitAddr := a, tailAddr := a })
  if n = 0 then s1
  else
    let s2 := (s1.count Reg.almForfeit 2 36 n).setBit Reg.memMode 12 false
    { s2 with lost := [], lostDue := false, eventLog := if s2.rd Reg.updFlash 9 0 = 0 then s2.eventLog else s2.eventLog ++ [n] }

/-- The LOST record of one sequence written at an address. It sets neither COMMIT_EVT nor GAP_EVT and counts only in PWR_LOST: the
spec does not say (log entry 104). -/
def State.writeLost (s : State) (p q a : Nat) : State :=
  let P := s.part p
  let r := lostRec s.unsettled P.lastFirst P.lastNch 0 0 0xF
  let s1 := s.writeGranules p 3 a (r.words P.lastAg q)
  (s1.setPart p { P with recs := P.recs ++ [⟨q, a, 3, P.lastAg, P.lastFirst, P.lastNch, false, 0, 0⟩] }).count Reg.pwrLost 2 36 1

/-- The LOST records of a list of sequences, back to back from an address; the address one past the last. -/
def State.writeLosts (s : State) (p : Nat) (l : List Nat) (a : Nat) : State × Nat :=
  l.foldl (fun (x : State × Nat) q => (x.1.writeLost p q x.2, x.1.wrapIn p (x.2 + 3))) (s, a)

/-- The LOST records of a partition whose content was lost (R323). -/
def State.lostPart (s : State) (p : Nat) : State :=
  let P := s.part p
  let qs := P.unreleased
  let s0 := s.setPart p { P with recs := [] }
  if qs.isEmpty then s0.setPart p { P with recs := [], tailAddr := s.nextStart p }
  else
    let x := s0.writeLosts p qs P.tailAddr
    x.1.setPart p { (x.1.part p) with commitAddr := x.2 }

/-- The RESTART record of a group that was armed or streaming at the reset or the power loss (R326). -/
def State.restartRec (s : State) (x : GapState) : State :=
  let r := s.spanRec x 22 x.upto (2 * b2n (s.coldStart || s.unsettled))
  if (s.psize x.part).1 = 0 then s
  else if s.roomIn x.part r then s.commitIn x.g x.part r
  else { s with lateGaps := s.lateGaps ++ [(22, x)] }

/-- LOST records, then RESTART records, once record space can be written. -/
def State.afterStart (s : State) : State :=
  if s.usableMem then
    let s1 := if s.lostDue then s.forAll (List.range 32) State.lostPart else s
    let s2 := if s.restartDue then s1.gaps.foldl State.restartRec s1 else s1
    { s2 with lostDue := false, restartDue := false, gaps := [], lost := if s.lostDue then [] else s2.lost }
  else s

/-- A start load succeeds (R51, R52). -/
def State.startLoaded (s : State) (a : Almanac) : State :=
  let mem := (a.sec 6).getD []
  let s0 : State := { s with alm := some a, check := none, ledgerMem := mem,
                             journal := ⟨false, [], [], [], []⟩ }
  let s1 := (((s0.putDigest a).almSuccess a).put Reg.almReloadCount 0).wr Reg.almStatus 3 0 2
  let s2 := if mem = s.ledgerMem then s1 else s1.rebase
  let s3 := ({ s2 with groups := [] } : State).forAll s2.enabledGroups (fun s g => s.setGrp g { Group.idle with st := .idle })
  let s4 := { s3.afterStart with coldStart := false }
  (s4.refill.forAll (List.range 16) (fun s b => s.powerUp b true)).ringOn

/-! ### Reload (R53 to R56) -/

/-- The instant of ALM_RELOAD_AT. -/
def State.reloadInstant (s : State) : Nat := s.rdq Reg.almReloadAt 3 % 2 ^ 72

/-- The staged image is checked for a reload. -/
def State.checkReload (s : State) : State := ({ s with reloadWait := none } : State).beginCheck s.stagedImage .reload

/-- ALM_CTL.RELOAD: refused with STATE or LATE, taken at once, or taken after the exit it demands (R54). The spec does not say
what becomes of a second RELOAD written while the exit that the first demands is awaited, STATE still being LOADED: the model
refuses it with STATE (log entry 103). -/
def State.doReload (s : State) : State :=
  let at_ := s.reloadInstant
  if s.almState ≠ 2 ∨ s.reloadWait.isSome then s.almRefuse 0x15
  else if at_ ≠ 0 ∧ at_ < s.ep + 2 * usec then s.almRefuse 0x17
  else
    let deep : Bool := decide (2 ≤ s.power) || (match s.move with | .entering t _ => decide (2 ≤ t) | _ => false)
    let s1 := if deep then s.demandExit else s
    let s2 := { s1 with reloadAt := at_ }
    if 2 ≤ s2.power then { s2 with reloadWait := some s2.now } else s2.checkReload

/-- ALMANAC_RELOAD (R54). -/
def execAlmanacReload (dt : Nat) (s : State) : Res :=
  let s := s.start dt
  .next (if s.almOpen then s.doReload else s)

/-- RELOAD_ASLEEP_TIMEOUT (R47). -/
def execReloadAsleepTimeout (dt : Nat) (s : State) : Res :=
  let s := s.start dt
  match s.reloadWait with
  | some t => if t + 20 * msec ≤ s.now then .next (({ s with reloadWait := none } : State).almRefuse 0x16) else .next s
  | none => .next s

/-- A checked reload waits for its instant, or is late. While it waits the device enters no state deeper than Ordinary: an entry
under way is reversed, and a deeper state is left (R54, R310). -/
def State.schedule (s : State) (a : Almanac) : State :=
  if s.reloadAt ≠ 0 ∧ s.reloadAt < s.ep / cycle * cycle + cycle then
    (({ s with check := none } : State).almRefuse 0x17).wr Reg.almStatus 3 0 2
  else
    let aff := match s.alm with | some old => affectedBanks old a | none => []
    let deep : Bool := decide (2 ≤ s.power) || (match s.move with | .entering t _ => decide (2 ≤ t) | _ => false)
    let s1 := (({ s with check := none, nextAlm := some a } : State).wr Reg.almStatus 3 0 3).put Reg.almAffected
      (BitVec.ofNat 32 ((aff.map maskBit).sum))
    if deep then s1.demandExit else s1

/-- ALMANAC_CHECK_END (R47 to R54). A start load ends after the stacks have trained or failed (R425). -/
def execAlmanacCheckEnd (dt : Nat) (s : State) : Res :=
  let s := s.start dt
  match s.check with
  | none => .next s
  | some j =>
    let host : Bool := match j.purpose with | .startLoad h => h | .reload => true
    let inForce := match j.purpose with | .startLoad _ => none | .reload => s.alm
    let ctx := s.checkCtx host inForce
    match badImage ctx j.image with
    | some (code, sect, off) =>
      let s1 := (({ s with check := none } : State).almError code sect off).inc Reg.almCheckCount
      .next ((s1.wr Reg.almStatus 3 0 (if j.purpose = .reload then 2 else 5)).fault 30 allBanks)
    | none =>
      let a := almanacOf ctx j.image
      if j.purpose = .reload then .next (s.schedule a)
      else if s.stacksUp then .next (s.startLoaded a)
      else .next s

/-- ALM_CTL.CANCEL (R54). -/
def State.doCancelReload (s : State) : State :=
  if s.almState = 3 then ({ s with nextAlm := none } : State).wr Reg.almStatus 3 0 2 else s.almRefuse 0x15

/-- RELOAD_CANCEL (R54). -/
def execReloadCancel (dt : Nat) (s : State) : Res :=
  let s := s.start dt
  .next (if s.almOpen then s.doCancelReload else s)

/-- The banks of ALM_AFFECTED. -/
def State.affected (s : State) : List Nat := setBits 16 (s.rd Reg.almAffected 15 0)

/-- A waiting emission that finds no room by T is discarded with the records in it (R189). -/
def State.dropEmission (s : State) (g : Nat) : State :=
  let s := s.tryEmit g 8
  let x := s.grp g
  match x.acc.emitWait with
  | [] => s
  | r :: _ =>
    let s1 := s.count (Reg.aqgAccDiscarded g) 2 36 r.accum
    let s2 := s1.writeGap g 20 r.first s.ep r.tag
    s2.setGrp g { (s2.grp g) with acc := { (s2.grp g).acc with emitWait := [], emitPaid := false } }

/-- The start of a STRUCTURE record, with the tag in force there: the earliest instant held neither in a committed record nor in
the span of an earlier intercalary record (R55). -/
def State.structureFrom (s : State) (g missing tag covered : Nat) : Nat × Nat :=
  let x := s.grp g
  match x.queue with
  | r :: _ => (r.first, r.tag)
  | [] => if x.pauses.isEmpty then (max missing covered, tag) else (s.ep, s.tag)

/-- A group that stops at T: captured records commit, the record in progress is abandoned, a sum is discarded, a pause
record is closed, and the span of its STRUCTURE record is kept (R55). -/
def State.stopAtReload (s : State) (g : Nat) : State :=
  if !s.gArmed g then s.setGrp g { Group.idle with st := .idle }
  else
    let s0 := (s.settlePorts g).commitReady g (s.grp g).queue.length
    let s1 := (((s0.abandon g).dropStaged g).discardSum g).dropEmission g
    let x := s1.grp g
    let from_ := s0.structureFrom g (s0.missingFrom g) (s0.missingTag g) x.covered
    let s2 := match x.pauses with
      | [] => s1
      | p :: _ => s1.writeGap g p.cause x.gapFrom s1.ep x.gapTag
    let y := s2.grp g
    let gap : GapState := ⟨g, s2.gpart g, s2.gfirst g, s2.gnch g, s2.delta g, from_.1, s2.ep,
      satAdd (2 ^ 18 - 1) (y.queue.map (fun r => r.early)).sum y.early,
      satAdd (2 ^ 18 - 1) (y.queue.map (fun r => r.dead)).sum y.dead, from_.2⟩
    ({ s2 with reloadGaps := s2.reloadGaps ++ [gap] } : State).setGrp g { Group.idle with st := .idle }

/-- The groups that cover a bank of a list. -/
def State.groupsOver (s : State) (bs : List Nat) : List Nat := s.enabledGroups.filter (fun g => (s.gbanks g).any bs.contains)

/-- RELOAD_COMMIT (R54 step 2): a run in an affected bank ends first (R55, R337); the tag, the digest and the TRIG_OUT routes
are the new image's from T. -/
def execReloadCommit (dt : Nat) (s : State) : Res :=
  let s := s.start dt
  match s.nextAlm, s.alm with
  | some new, some old =>
    if s.almState = 3 ∧ s.reloadAt ≤ s.ep ∧ s.power ≤ 1 then
      let aff := s.affected
      let inRun : Bool := match s.calRun with | some r => aff.contains r.bank | none => false
      let s1 := if inRun then s.abortRun false else s
      let s2 := ({ s1 with reloadGaps := [], reloadRearm := false } : State).forAll (s1.groupsOver aff) State.stopAtReload
      let s3 := (({ s2 with alm := some { old with touts := new.touts, digest := new.digest } } : State).putDigest new).wr
        Reg.almStatus 3 0 4
      let cut := (List.range 4).filter (fun o => new.touts.getD o (0xFF, 0) == (0xFF, 0))
      .next ((s3.stopBanks aff true).forAll cut State.toutStop)
    else .next s
  | _, _ => .next s

/-- The register words of the affected banks, reset (R324). -/
def bankWords (aff : List Nat) (t : Tbl Word) : Tbl Word :=
  t.filterMap (fun (x : Nat × Word) =>
    if 0x100000 ≤ x.1 ∧ x.1 < 0x200000 ∧ aff.contains ((x.1 - 0x100000) / 0x10000) then
      (if warmWord x.1 x.2 = regDefault x.1 then none else some (x.1, warmWord x.1 x.2))
    else some x)

/-- The active words that an affected bank's reset leaves: none of its own. -/
def bankActives (aff : List Nat) (t : Tbl Word) : Tbl Word :=
  t.filter (fun (x : Nat × Word) =>
    !(decide (0x100000 ≤ x.1 ∧ x.1 < 0x200000) && aff.contains ((x.1 - 0x100000) / 0x10000)))

/-- The Bank reset of the affected banks (R324). -/
def State.resetBanks (s : State) (aff : List Nat) : State :=
  ({ s with mem.regs := bankWords aff s.mem.regs, mem.active := bankActives aff s.mem.active,
            calAsked := s.calAsked.filter (fun b => !aff.contains b) } : State).forAll aff (fun s b =>
    ((s.setBank b BankSt.idle).setBit Reg.calPending b false).resetUnits b)

/-- The shadows of a group, and its SHADOW_GEN, at their reset values (R56). -/
def State.resetShadows (s : State) (g : Nat) : State := s.clearWords (s.groupWords g ++ [Reg.aqgShadowGen g])

/-- The new structure applied when the Bank reset ends. -/
def State.applyNew (s : State) (old new : Almanac) (aff : List Nat) : State :=
  let s1 := s.forAll (s.groupsOver aff) State.resetShadows
  let s2 := ({ s1 with alm := some new, nextAlm := none } : State).resetBanks aff
  let s3 := s2.forAll (s2.groupsOver aff) State.resetShadows
  let s4 := s3.forAll ((List.range 16).filter (fun j => old.conjs[j]? != new.conjs[j]?)) State.resetConj
  let s5 := s4.forAll (List.range 32) (fun s g =>
    if (s.gcfg g).isNone then s.setGrp g Group.idle
    else if (s.grp g).st = .disabled then s.setGrp g { Group.idle with st := .idle } else s)
  let s6 := s5.forAll aff (fun s b => (s.setTok b (s.burst b * 256)).powerUp b true)
  let moved := aff.filter (fun b => (old.banks[b]?).map (fun c => c.mode) != (new.banks[b]?).map (fun c => c.mode)
    && s6.bankMode b != 3)
  { (s6.forAll moved (fun s b => s.becomePending b true)) with calModeBanks := moved }

/-- RELOAD_BANK_RESET_END (R54 step 3). -/
def execReloadBankResetEnd (dt : Nat) (s : State) : Res :=
  let s := s.start dt
  match s.nextAlm, s.alm with
  | some new, some old =>
    if s.almState = 4 then
      let s1 := ((s.applyNew old new s.affected).almSuccess new).inc Reg.almReloadCount
      .next s1.reloadDone
    else .next s
  | _, _ => .next s

end Sys2Proof.Machine
end

