-- ==== Sys2Proof/Machine/Power.lean ====
section
/-! DEFINITION. Power states, the ceiling, the supplies and the power-fail sequence (R307 to R321, R212). -/

namespace Sys2Proof.Machine

/-! ### Entering a deeper state (R311, R313) -/

/-- PWR_DWELL as it acts. -/
def State.dwell (s : State) : Nat := max 1 (s.rd Reg.pwrDwell 19 0) * usec

/-- A Calends mark with SNAP, a reload or an activation lies less than 40 µs ahead (R311, R362). -/
def State.nearInstant (s : State) : Bool :=
  s.marks.any (fun m => m.snap && decide (m.instant < s.ep + 40 * usec))
    || (match s.actReq with | some a => decide (a.at_ < s.ep + 40 * usec) | none => false)

/-- The device may leave Feast (R308, R311, R332, R348, R349). -/
def State.mayEnter (s : State) : Bool :=
  s.power == 0 && s.move == .steady && s.alm.isSome && s.resetStep != .requested && !s.inReset && s.safeHoldAt.isNone
    && s.pfAt.isNone && !s.busy && !s.nearInstant && s.updState != 7 && decide (s.idleSince + s.dwell ≤ s.now)

/-- An entry into a state counted. -/
def State.countEntry (s : State) (st : Nat) : State := (s.setPower st).inc (Reg.pwrEntries (st - 1))

/-- POWER_STATE_ENTRY (R311): Ordinary at once; Fast and Fallow ask for self-refresh. No run of calibration may be under
way in them. -/
def execPowerStateEntry (dt : Nat) (s : State) : Res :=
  let s := s.start dt
  let t := s.target
  if !s.mayEnter || t == 0 then .next s
  else if t = 1 then .next (s.countEntry 1).stopLantern
  else if s.calRun.isSome then .next s
  else .next { s with move := .entering t s.now }

/-- A group as the converters stop: a Stream group pauses with cause 7, and a Triggered or Accumulate group stays armed and
fills again (R314). -/
def State.sleepGroup (s : State) (g : Nat) : State :=
  if s.gmode g = 1 then s.beginCause g 7
  else
    let x := s.grp g
    if x.st = .armed then
      let s := s.settlePorts g
      s.setGrp g { x with st := .filling, fillFrom := s.ep }
    else s

/-- Steps 2 to 4 of the entry to Fast (R313). -/
def State.enterFast (s : State) : State :=
  let s1 := s.stacksSleep
  let s2 := s1.forAll (s1.enabledGroups.filter s1.gArmed) State.sleepGroup
  (s2.stopBanks (List.range 16) false).stopLantern.toutsStop

/-- What Fallow adds: PLLs off, the Epoch in its always-on copy, the ring bypassed, Ethernet down, and the stacks off where
retention is not kept (R313). -/
def State.enterFallow (s : State) : State :=
  let s1 := if s.counting then { s with aonEpoch := s.epoch, aonAt := s.now, aonRc := s.bit Reg.epcStatus 4 } else s
  let s2 := (({ s1.ivAbort with coreLocked := false, sampleLocked := false, counting := false } : State).stopBanks
    (List.range 16) true).linksDown true
  if s2.retained then s2 else s2.stacksOff

/-- SELF_REFRESH_ENTRY (R212): the step at S of an entry, of a warm reset, or of Safe Hold. -/
def execSelfRefreshEntry (dt : Nat) (s : State) : Res :=
  let s := s.start dt
  if s.resetStep = .requested then .next s.stacksSleep
  else if s.safeHoldAt.isSome ∧ !s.holdDone then .next s.holdSteps
  else
    match s.move with
    | .entering t _ =>
      let s1 := s.enterFast
      let s2 := if t = 3 then s1.enterFallow else s1
      .next (({ s2 with move := .steady } : State).countEntry t)
    | _ => .next s

/-- SELF_REFRESH_EXIT (R212): at the exit from Fast or Fallow, and after a reset, no earlier than 350 ns after S. -/
def execSelfRefreshExit (dt : Nat) (s : State) : Res :=
  let s := s.start dt
  let exiting : Bool := match s.move with | .exiting _ => decide (2 ≤ s.power) | _ => false
  if (exiting || (s.resetStep == .released && s.coreLocked && !s.recovery && s.power == 0 && s.safeHoldAt.isNone
      && s.pfAt.isNone)) && s.residencyOver then .next s.stacksWake.serveReqs
  else .next s

/-! ### Exit to Feast (R311, R314) -/

/-- POWER_STATE_EXIT (R311). -/
def execPowerStateExit (dt : Nat) (s : State) : Res := .next (s.start dt).demandExit

/-- WAKE_N_EDGE (R311). -/
def execWakeNEdge (dt : Nat) (s : State) : Res := .next (s.start dt).demandExit

/-- The stopped parts of the state deliver again (R307). -/
def State.exitDone (s : State) : Bool :=
  if s.power = 1 then true
  else s.stacksUp && (List.range 16).all (fun b => (s.bankAt b).startAt.isNone)
    && (s.power != 3 || (s.coreLocked && s.counting && s.sampleLocked))

/-- The timers of the streams start again, and the Lantern and the ring ports resume (R275, R281, R387). -/
def State.resumeLinks (s : State) (ring : Bool) : State :=
  let s1 := { s with streams := s.streams.map (fun (x : Nat × Stream) => if x.2.st = 1 then (x.1, { x.2 with advAt := s.now }) else x) }
  let s2 := s1.resumeLantern
  if ring then s2.ringOn else s2

/-- The wake event reaches its consumers with its marker (R129). -/
def State.deliverWake (s : State) : State :=
  s.forAll ((List.range 4).map (fun k => 8 + k)) (fun s p =>
    match (s.pinAt p).wakeKept with
    | none => s
    | some t => (s.setPin p { (s.pinAt p) with wakeKept := none }).deliver (2, p - 8) t false true)

/-- POWER_EXIT_COMPLETE (R314): V restarts, the Stream groups that waited resume, a kept wake event is delivered, and a RELOAD
that waited for the exit is acted on (R54). -/
def execPowerExitComplete (dt : Nat) (s : State) : Res :=
  let s := s.start dt
  match s.move with
  | .exiting _ =>
    if s.exitDone then
      let was := s.power
      let s1 := ({ s with move := .steady, idleSince := s.now,
                          scrubAt := if s.power = 1 then s.scrubAt else some s.now } : State).setPower 0
      let s2 := if was = 1 then s1
        else s1.forAll (s1.enabledGroups.filter (fun g => s1.gArmed g && s1.gmode g != 1 && (s1.grp g).st == .filling))
          (fun s g =>
            let s := s.settlePorts g
            s.setGrp g { (s.grp g) with fillFrom := s.settledAt g, able := s.ep })
      let s3 := (s2.resumeLinks (was == 3)).endAllPauses.sensePins.deliverWake
      .next (if s3.reloadWait.isSome then s3.checkReload else s3)
    else .next s
  | _ => .next s

/-! ### Policy (R309 to R311) -/

/-- POWER_POLICY_WRITE (R311): PWR_CTL or a tolerance. -/
def execPowerPolicyWrite (dt : Nat) (rq : Requester) (off : Nat) (value : Word) (s : State) : Res :=
  let s := s.start dt
  if off = Reg.pwrCtl then s.hostWrite rq off (fun s => guardReserved (fld value 31 2 != 0) (s.put off value))
  else if off = Reg.pwrTolCapture ∨ off = Reg.pwrTolEgress ∨ off = Reg.pwrTolControl then
    s.hostWrite rq off (fun s => .next (s.put off value).demandExit)
  else .next s

/-! ### The power ceiling (R315) -/

/-- THROTTLE set or cleared: the tokens so far count at the rates so far. -/
def State.setThrottle (s : State) (on : Bool) : State :=
  ((s.forAll [16, 17, 18, 19, 20, 21] State.settleTok).setBit Reg.pwrStatus 11 on).pwrEvent 2

/-- POWER_MEASURE (R315): every 100 µs; the average is over the last hundred. -/
def execPowerMeasure (dt : Nat) (milliwatts : Nat) (s : State) : Res :=
  let s := s.start dt
  let raw := (s.powerRaw ++ [milliwatts]).drop (s.powerRaw.length - 99)
  let avg := raw.sum / raw.length
  let s1 := (({ s with powerRaw := raw } : State).put Reg.pwrPower (BitVec.ofNat 32 milliwatts)).put Reg.pwrPowerAvg
    (BitVec.ofNat 32 avg)
  let lim := s.maxW * 1000
  if lim < avg then
    let s2 := { s1 with throttleOk := none }
    .next (if s.bit Reg.pwrStatus 11 then s2 else (s2.fault 17 allBanks).setThrottle true)
  else if s.bit Reg.pwrStatus 11 ∧ avg * 100 ≤ lim * 95 then
    let from_ := s.throttleOk.getD s.now
    .next (if from_ + 100 * msec ≤ s.now then ({ s1 with throttleOk := none } : State).setThrottle false
      else { s1 with throttleOk := some from_ })
  else .next { s1 with throttleOk := none }

/-! ### Supplies (R316, R318) -/

/-- The nominal voltage of a rail in mV. -/
def railNominal (r : Nat) : Nat := [900, 900, 900, 1200, 1200, 1100, 1800, 1800, 1800].getD r 0

/-- How far a reading lies from nominal. -/
def railOff (r mv : Nat) : Nat := (mv - railNominal r) + (railNominal r - mv)

/-- RAIL_WARN (R318): more than 4 % from nominal. -/
def execRailWarn (dt : Nat) (r : Fin 9) (millivolts : Nat) (s : State) : Res :=
  let s := s.start dt
  if railNominal r < 25 * railOff r millivolts then
    .next (((s.wr (Reg.pwrRail r) 15 0 (min 65535 millivolts)).setBit (Reg.pwrRail r) 18 true).fault 17 allBanks)
  else .next s

/-- The trip registered: the reading, the bit and the event. -/
def State.tripRail (s : State) (r mv : Nat) : State :=
  let past : Bool := decide (railNominal r < mv)
  let s1 := (s.wr (Reg.pwrRail r) 15 0 (min 65535 mv)).setBit (Reg.pwrRail r) (16 + b2n past) true
  ({ s1 with tripped := addNew s1.tripped r } : State).fault (15 + b2n past) allBanks

/-- Every armed group pauses with cause 6, and its gap state is stored (R318). -/
def State.tripPause (s : State) : State :=
  let gaps := if s.alm.isNone then s.gaps else s.gapStates
  ({ s with gaps := gaps } : State).pauseAll s.enabledGroups 6

/-- The action of a rail's group (R318). -/
def State.tripAction (s : State) (r : Nat) : State :=
  if r = 1 then
    -- The always-on domain: everything stops until the cold reset.
    let s1 := s.assertReset
    { s1 with aonHas := false, coldStart := true }
  else if r = 0 ∨ r = 5 ∨ r = 6 then
    let s1 := s.tripPause
    if s.rd Reg.pwrStatus 6 4 = 3 then s1 else s1.stacksOff
  else
    let s1 := s.tripPause.stacksSleep
    if s1.rstLow then s1
    else
      let s2 := (s1.requestReset 5)
      s2.assertReset

/-- RAIL_TRIP (R318): more than 5 % from nominal for 1 µs. -/
def execRailTrip (dt : Nat) (r : Fin 9) (millivolts : Nat) (s : State) : Res :=
  let s := s.start dt
  if railNominal r < 20 * railOff r millivolts ∧ !s.tripped.contains r.val then
    .next ((s.tripRail r millivolts).tripAction r)
  else .next s

/-- RAIL_RETURN (R318): within tolerance for 1 ms. The cold or the warm reset follows; the warm one of an `other` rail is
already held. -/
def execRailReturn (dt : Nat) (r : Fin 9) (millivolts : Nat) (s : State) : Res :=
  let s := s.start dt
  if s.tripped.contains r.val ∧ 100 * railOff r millivolts ≤ 3 * railNominal r then
    let s1 := ({ s with tripped := s.tripped.filter (fun x => x != r.val) } : State).wr (Reg.pwrRail r) 15 0
      (min 65535 millivolts)
    if r.val = 1 then .next s1.coldReset
    else if r.val = 0 ∨ r.val = 5 ∨ r.val = 6 then .next (s1.requestReset 5)
    else .next s1
  else .next s

/-! ### The power-fail sequence (R319 to R321, R349) -/

/-- The last sample of a group's record has been taken. -/
def State.sampled (s : State) (g : Nat) (c : Cur) : Bool :=
  (s.gchans g).all (fun ch => decide (s.outAt ch c.trig + c.post * max 1 (s.cdelta ch) ≤ s.ep + max 1 (s.cdelta ch)))

/-- Capture stops at P: a record whose last sample has been taken may still commit, and every other group pauses. -/
def State.failPause (s : State) : State :=
  s.forAll (s.enabledGroups.filter s.gArmed) (fun s g =>
    match (s.grp g).cur with
    | some c => if s.sampled g c then s else s.beginCause g 6
    | none => s.beginCause g 6)

/-- PWR_FAIL_ASSERT (R319): instant P, which also ends a calibration run early (R337). In Fast and Fallow only the journal is written. -/
def execPwrFailAssert (dt : Nat) (s : State) : Res :=
  let s := s.start dt
  if s.pfAt.isSome then .next s
  else
    let s1 := (({ s with pfAt := some s.now } : State).countFld Reg.pwrPfCount 15 0 1).pwrEvent 1
    if 2 ≤ s.power then .next (s1.wr Reg.pwrStatus 6 4 2)
    else .next (((((s1.wr Reg.pwrStatus 6 4 1).fault 17 allBanks).demandExit).failPause).abortRun true)

/-- A partition as the journal holds it: its directory stays in the stacks. -/
def journalParts (t : Tbl Partition) : Tbl Partition :=
  t.filterMap (fun x =>
    let y := { x.2 with recs := [] }
    if y = Partition.factory then none else some (x.1, y))

/-- The gap states that the journal holds: those of the running groups up to P, or those a reset has stored (R319). -/
def State.journalGaps (s : State) (p : Nat) : List GapState :=
  if s.alm.isNone ∨ s.rstLow then s.gaps
  else
    let upto := if s.counting then s.ep - (s.now - p) else s.aonEpoch.toNat + (p - s.aonAt)
    s.gapStates.map (fun x => { x with upto := upto })

/-- Step 5: converters and SerDes stop and the links go down unraised and uncounted. -/
def State.failHeld (s : State) : State :=
  (((s.stopBanks (List.range 16) false).stopLantern).pcieQuietDown.linksDown false).wr Reg.pwrStatus 6 4 3

/-- JOURNAL_WRITTEN (R319, steps 3 to 5): 1.1 ms after P at the earliest; then the stacks enter self-refresh, an escalation
that waited takes effect (R349), and a Season write and the staging of a block are abandoned (R340, R366). -/
def execJournalWritten (dt : Nat) (s : State) : Res :=
  let s := s.start dt
  match s.pfAt with
  | none => .next s
  | some p =>
    if s.rd Reg.pwrStatus 6 4 = 3 ∨ s.now < p + 1100 * usec then .next s
    else
      let s0 := s.forAll (s.enabledGroups.filter (fun g => s.gArmed g && !(s.grp g).pauses.any (fun x => x.cause == 6)))
        (fun s g => s.beginCause g 6)
      let s1 := { s0 with journal := ⟨true, journalParts s0.parts, s0.journalGaps p, s0.lost, s0.ledgerMem⟩, blkJob := none }
      let s2 := s1.abandonSeason.stacksSleep
      let s3 := if s2.holdDue then ({ s2 with holdDue := false } : State).safeHold else s2
      .next ({ s3.failHeld with holdDone := s3.safeHoldAt.isSome })

/-- PWR_FAIL_RIDE_THROUGH (R320, R349): instant D; stacks in self-refresh have been there for 350 ns (R212). -/
def execPwrFailRideThrough (dt : Nat) (s : State) : Res :=
  let s := s.start dt
  match s.pfAt with
  | none => .next s
  | some p =>
    if s.now < p + 100 * usec ∨ !s.tripped.isEmpty ∨ !s.residencyOver then .next s
    else
      let held : Bool := s.rd Reg.pwrStatus 6 4 == 3
      let s1 := ((({ s with pfAt := none, journal := { s.journal with valid := false } } : State).wr Reg.pwrStatus 6 4 0)
        ).countFld Reg.pwrPfCount 31 16 1
      if s1.holdDue then .next (({ s1 with holdDue := false } : State).safeHold.serveHeld)
      else if s1.rstLow ∨ s1.safeHoldAt.isSome then .next s1.serveHeld
      else if 2 ≤ s1.power then .next (if held && s1.power == 2 then s1.resumeLinks true else s1).serveHeld
      else
        let s2 := if held then
            (s1.stacksWake.forAll (List.range 16) (fun s b => s.powerUp b false)).resumeLinks true
          else s1
        .next s2.endAllPauses.serveHeld.serveReqs

end Sys2Proof.Machine
end

