-- ==== Sys2Proof/Machine/Ctl.lean ====
section
/-! DEFINITION. Calends marks as this unit holds and issues them (R298, R299), the positions a head drives, and the events
of the ring block. -/

namespace Sys2Proof.Machine

/-- An event of RNG_IRQ: 0 SNAP, 1 DIVERGE, 2 STALL. An enabled one signals vector 6. -/
def State.rngEvent (s : State) (k : Nat) : State :=
  let s1 := s.setBit Reg.rngIrq (16 + k) true
  if s1.bit Reg.rngIrq k then s1.signal 6 else s1

/-- The outermost procession this unit heads, and the other positions of its arc. -/
def State.headed (s : State) : Option Nat := s.heads.getLast?
def State.others (s : State) : List Nat :=
  match s.headed with
  | none => []
  | some i => (s.arcOfDecl i).filter (fun p => p != s.ringPos)

/-- A mark received by this unit (R298, R299, R311): held, or counted as missed where its instant has passed. A mark with
SNAP less than 40 µs ahead asks for Feast. -/
def State.holdMark (s : State) (m : Mark) : State :=
  if m.instant < s.ep then ((s.setBit Reg.snpStatus 1 true).countFld Reg.snpStatus 31 16 1)
  else
    let s1 : State := { s with marks := s.marks ++ [m] }
    if m.snap && decide (m.instant < s.ep + 40 * usec) then s1.demandExit else s1

/-- A mark issued at an instant: it carries the SNAPSHOT_ID plus 1 of this unit, which holds it too. -/
def State.issueMark (s : State) (instant : Nat) (snap byMark : Bool) : State :=
  let id := (s.snapSeq + 1) % 2 ^ 32
  (({ s with snapSeq := id } : State).holdMark ⟨instant, id, snap, s.ringPos, byMark⟩).sendBoth 0 everyUnit 1
    (instant % 2 ^ 72 + id * 2 ^ 72 + b2n snap * 2 ^ 104)

end Sys2Proof.Machine
end

