-- ==== Sys2Proof/Machine/Segments.lean ====
section
/-! DEFINITION. The ring's segments, positions, bypass and Epoch alignment (R276 to R282, R287 to R290, R306). -/

namespace Sys2Proof.Machine

/-! ### Segments (R276 to R278) -/

/-- The highest generation at which the units bypassed within a segment leave its loss in budget: 0 with more than 4 (R277,
R282). -/
def bypassTop (bypassed : Nat) : Nat := if bypassed ≤ 2 then 3 else if bypassed ≤ 4 then 2 else 0

/-- The highest generation that both ends and the bypassed units between them allow; LB2 at most with an A064 at an end (R277,
R306). -/
def State.segTop (s : State) (peerMax bypassed : Nat) (a064 : Bool) : Nat :=
  let own := match s.alm with | some a => a.genMax | none => 0
  let g := min (bypassTop bypassed) (min own peerMax)
  if a064 then min 2 g else g

/-- An arc this unit heads holds a neighbour that is an A064 (R306). -/
def State.setForeign (s : State) : State :=
  s.setBit Reg.rngStatus 7 ([0, 1].any (fun d =>
    let w := Reg.rngPortStatus d
    s.bit w 0 && s.bit w 3 && s.bit w 14 && s.heads.any (fun i => (s.arcOfDecl i).contains (s.rd w 13 8))))

/-- SEGMENT_TRAIN_END (R277): the attempt at the highest generation not yet tried, over `bypassed` units in a row. A segment that fails at LB1 stays down
and starts again. -/
def execSegmentTrainEnd (dt : Nat) (d : Dir) (v : Verdict) (peer : FarEnd) (bypassed : Nat) (s : State) : Res :=
  let s := s.start dt
  let k := dirNat d
  let p := s.rport k
  let g := s.segTop peer.genMax bypassed peer.a064 - p.tries
  if !s.bypassOpen || s.bit (Reg.rngPortStatus k) 0 || g == 0 then .next s
  else match v with
    | .pass => .next (((((s.wr (Reg.rngPortStatus k) 2 0 (1 + 2 * g)).setBit (Reg.rngPortStatus k) 3 peer.a064).setRport k
        { p with tries := 0, downAt := none, raised := false }).elect).setForeign)
    | .fail => .next (s.setRport k { p with tries := if g = 1 then 0 else p.tries + 1 })

/-- SEGMENT_DOWN (R278). -/
def execSegmentDown (dt : Nat) (d : Dir) (s : State) : Res :=
  let s := s.start dt
  let k := dirNat d
  if s.bit (Reg.rngPortStatus k) 0 then
    .next (((((s.portClear k).countFld (Reg.rngPortStatus k) 31 16 1).setRport k
      { RPort.idle with downAt := some s.now }).elect).setForeign)
  else .next s

/-- SEGMENT_DOWN_TIMEOUT (R278). -/
def execSegmentDownTimeout (dt : Nat) (d : Dir) (s : State) : Res :=
  let s := s.start dt
  let k := dirNat d
  let p := s.rport k
  match p.downAt with
  | some t => if !p.raised && decide (t + 20 * msec < s.now)
    then .next ((s.setRport k { p with raised := true }).fault (26 + k) allBanks) else .next s
  | none => .next s

/-- LINK_FRAME_CRC_FAIL (R276, R286): a TRIG frame is lost; any other is replayed, with the `later` frames sent after it that
carry no TRIG. -/
def execLinkFrameCrcFail (dt : Nat) (d : Dir) (frame : BadFrame) (s : State) : Res :=
  let s := s.start dt
  let k := dirNat d
  if s.bit (Reg.rngPortStatus k) 0 then
    .next (if frame.trig then s.countFld (Reg.rngPortErrs k) 31 16 1 else s.countFld (Reg.rngPortErrs k) 15 0 (1 + frame.later))
  else .next s

/-! ### Positions and the bypass (R279 to R281) -/

/-- COMMIT of RNG_POS_SET: VALID and POS go to flash. One asked for while another is written acts once. -/
def State.doPosCommit (s : State) : State :=
  if s.posWrite.isSome then s
  else ({ s with posWrite := some (128 * s.rd Reg.rngPosSet 7 7 + s.rd Reg.rngPosSet 5 0) } : State).setBit Reg.rngPosSet 30 false

/-- POSITION_COMMIT (R279). -/
def execPositionCommit (dt : Nat) (rq : Requester) (s : State) : Res :=
  (s.start dt).hostWrite rq Reg.rngPosSet (fun s => .next s.doPosCommit)

/-- POSITION_FLASH_WRITE_DONE (R279). -/
def execPositionFlashWriteDone (dt : Nat) (s : State) : Res :=
  let s := s.start dt
  match s.posWrite with
  | some v => .next (({ s with posWrite := none, posNext := some v } : State).setBit Reg.rngPosSet 30 true)
  | none => .next s

/-- BYPASS_OPEN (R281): 1 ms after the ring ports are ready to train. -/
def execBypassOpen (dt : Nat) (s : State) : Res :=
  let s := s.start dt
  match s.ringReady with
  | some t =>
    if !s.bypassOpen && s.ringMember && !s.inReset && decide (t + msec ≤ s.now) then
      .next (({ s with bypassOpen := true } : State).forAll [0, 1] (fun s d =>
        s.setRport d { RPort.idle with downAt := some s.now })).elect
    else .next s
  | none => .next s

/-! ### ALIGN frames (R287 to R290) -/

/-- The place of a neighbour: none where it is not known. -/
def State.peerPos (s : State) (d : Nat) : Option Nat :=
  let w := Reg.rngPortStatus d
  if s.bit w 0 ∧ s.bit w 14 then some (s.rd w 13 8) else none

/-- Three positions met going eastward ascend with at most one wrap. -/
def eastward (w p e : Nat) : Bool := decide ((w < p ∧ p < e) ∨ (p < e ∧ e ≤ w) ∨ (e ≤ w ∧ w < p))

/-- POS_CONFLICT and ORDER_ERR as the neighbours' positions show them (R279). -/
def State.judgePlace (s : State) : State :=
  if !s.bit Reg.rngPos 7 then (s.setBit Reg.rngStatus 5 false).setBit Reg.rngStatus 6 false
  else
    let same := [0, 1].any (fun d => s.peerPos d == some s.ringPos)
    let bad := match s.peerPos 1, s.peerPos 0 with
      | some w, some e => !same && !eastward w s.ringPos e
      | _, _ => false
    (s.setBit Reg.rngStatus 5 same).setBit Reg.rngStatus 6 bad

/-- What an ALIGN frame says of the neighbour is taken. -/
def State.takePeer (s : State) (k : Nat) (peer : AlignBody) : State :=
  let s1 := s.setRport k { (s.rport k) with source := peer.source.map (fun x => x.val), hops := peer.hops, heardAt := some s.now }
  let s2 := (s1.setBit (Reg.rngPortStatus k) 3 peer.a064).setBit (Reg.rngPortStatus k) 14 peer.pos.isSome
  ((s2.wr (Reg.rngPortStatus k) 13 8 (match peer.pos with | some x => x.val | none => 0)).judgePlace.elect).setForeign

/-- The Epoch moved by a number of ticks. -/
def State.shiftEpoch (s : State) (m : Int) : State := s.moveEpoch (((s.ep : Int) + m) % 2 ^ 72).toNat

/-- An Epoch load on the source reaches this member, which steps anyway (R289). -/
def State.takeLoad (s : State) (m : Int) : State :=
  if m = 0 then s
  else
    let s1 := s.shiftEpoch m
    if s.anyArmed then s1.setBit Reg.epcStatus 8 true else s1

/-- R87 allows this member a step of its Epoch. -/
def State.mayStep (s : State) : Bool :=
  !(s.anyArmed || s.ivRuns || !s.marks.isEmpty || s.almState == 3 || s.bit Reg.epcCtl 1 || s.loadAt.isSome)

/-- Half of an integer; of an odd one either neighbour, for the rule gives no rounding. -/
def halfFree (x : Int) (up : Bool) : Int := x.fdiv 2 + (if x % 2 ≠ 0 ∧ up = true then 1 else 0)

/-- The offset that a joining member is to step by, or none. -/
def State.oweStep (s : State) (o : Option Int) : State := { s with stepDue := o }

/-- One good measurement more in a row, or none, held at 64. -/
def State.setGood (s : State) (n : Nat) : State := { s with alignGood := min 64 n }

/-- The registers of a measurement: θ, δ and the loop's FOFFSET, which is free. -/
def State.putMeasure (s : State) (k : Nat) (theta delta : Int) (free : Nat) : State :=
  ((s.put Reg.rngAlignErr (BitVec.ofNat 32 (unsigned 32 (clampI (-(2 ^ 31)) (2 ^ 31 - 1) theta)))).put
    (Reg.rngPortDelay k) (BitVec.ofNat 32 (clampI 0 (2 ^ 32 - 1) delta).toNat)).wr Reg.epcFoffset 23 0 (loopOut free)

/-- 64 good measurements in a row align the member. -/
def State.nowAligned (s : State) : State :=
  ((((s.oweStep none).setBit Reg.rngStatus 3 true).wr Reg.rngStatus 28 27 2).setBit Reg.rngStatus 4 false).setBit
    Reg.epcStatus 8 false

/-- A θ above 64 ticks: not aligned, and locking. -/
def State.lostAlign (s : State) (theta : Int) : State :=
  if 64 < theta.natAbs then (s.setBit Reg.rngStatus 3 false).wr Reg.rngStatus 28 27 1 else s

/-- A θ above 4096 ticks owes a step, which waits where R87 does not allow it. -/
def State.judgeStep (s : State) (theta : Int) : State :=
  if 4096 < theta.natAbs then
    let s1 := s.oweStep (some theta)
    if s1.mayStep then s1 else (s1.setBit Reg.rngStatus 4 true).setBit Reg.epcStatus 8 true
  else (s.oweStep none).setBit Reg.rngStatus 4 false

/-- The signed time from one stamp to another, modulo 2^72 (R85). -/
def diff72 (a b : Nat) : Int := if after72 a b then span72 a b else -(span72 b a : Int)

/-- A measurement of θ and δ at the timing parent's port: reported, steered on, and judged for LOCKED and for a step. -/
def State.measure (s : State) (k : Nat) (t1 t2 t3 t4 : Nat) : State :=
  let asym := signed 32 (s.get (Reg.rngPortAsym k)).toNat
  let a := diff72 t1 t2
  let b := diff72 t3 t4
  let f := s.fresh
  let g := f.2.fresh
  let h := g.2.fresh
  let theta := halfFree (a - b - asym) (Config.freeBit f.1)
  let delta := halfFree (a + b + asym) (Config.freeBit g.1)
  let good := if theta.natAbs ≤ 16 then s.alignGood + 1 else 0
  let s1 := (h.2.putMeasure k theta delta h.1).setGood good
  if 64 ≤ good then s1.nowAligned else (s1.lostAlign theta).judgeStep theta

/-- ALIGN_FLIT (R287 to R289): a frame that arrived `ago` ticks before now. -/
def execAlignFlit (dt : Nat) (d : Dir) (ago : Nat) (peer : AlignBody) (s : State) : Res :=
  let s := s.start dt
  let k := dirNat d
  if s.ringUp k then
    let s1 := s.takePeer k peer
    if s1.follows && s1.parent == some k && s1.counting then
      let s2 := s1.takeLoad peer.load
      match peer.took, (s.rport k).sentAt with
      | some t4, some t3 => .next (s2.measure k peer.departed (s2.before ago) t3 t4)
      | _, _ => .next s2
    else .next s1
  else .next s

/-- ALIGN_SEND (R288): the departure is stamped, and the frame tells of this unit's position, source and distance. -/
def execAlignSend (dt : Nat) (d : Dir) (s : State) : Res :=
  let s := s.start dt
  let k := dirNat d
  if s.ringUp k then
    let pos := if s.bit Reg.rngPos 7 then some s.ringPos else none
    let src := if s.bit Reg.rngStatus 2 ∨ s.rd Reg.rngStatus 28 27 = 1 ∨ s.rd Reg.rngStatus 28 27 = 2
      then some (s.rd Reg.rngStatus 20 15) else none
    .next ((s.setRport k { (s.rport k) with sentAt := some s.ep }).emit (.align d s.ep pos src (s.rd Reg.rngStatus 26 21)))
  else .next s

/-- No ALIGN frame has come by a port for longer than the neighbour may take to send one. -/
def State.silent (s : State) (d : Nat) : Bool :=
  match (s.rport d).heardAt with
  | some t => decide (t + 100 * usec < s.now)
  | none => true

/-- ALIGN_LOSS (R290): FOFFSET stays as it is, the count goes on, and ALIGN reads HOLD. -/
def execAlignLoss (dt : Nat) (s : State) : Res :=
  let s := s.start dt
  if s.follows && s.bypassOpen && s.silent 0 && s.silent 1 then
    .next (({ s with alignGood := 0 } : State).forAll [0, 1] (fun s d => s.setRport d { (s.rport d) with heardAt := none })).elect
  else .next s

/-- The multiple of 8192 ticks nearest to an integer; of two equally near either. -/
def nearestFrame (x : Int) (up : Bool) : Int :=
  let lo := x.fdiv 8192 * 8192
  if x - lo < 4096 ∨ (x - lo = 4096 ∧ up = false) then lo else lo + 8192

/-- EPOCH_STEP (R289). -/
def execEpochStep (dt : Nat) (s : State) : Res :=
  let s := s.start dt
  match s.stepDue with
  | some theta =>
    if s.follows && s.counting && s.mayStep then
      let f := s.fresh
      .next ((({ f.2 with stepDue := none } : State).shiftEpoch (nearestFrame (-theta) (Config.freeBit f.1))).setBit
        Reg.rngStatus 4 false)
    else .next s
  | none => .next s

end Sys2Proof.Machine
end

