-- ==== Sys2Proof/Machine/Marks.lean ====
section
/-! DEFINITION. Flits as they arrive, trigger events and Calends marks of the ring, snapshots, configuration digests, the
resolution of windows, and record forwarding (R283 to R286, R293, R298 to R305). -/

namespace Sys2Proof.Machine

/-! ### Flits that arrive (R283, R285) -/

/-- A flit of a class that arrives by a port and is not a copy back at its origin: its header and body. -/
def State.recvFlit (s : State) (d : Dir) (cls : Nat) (flit : List Native) : Option (FlitHdr × Nat) :=
  let n := flitNat flit
  let h := hdrOf n
  if s.ringUp (dirNat d) && h.cls == cls && !(s.bit Reg.rngPos 7 && h.src == s.ringPos) then some (h, bodyOf n) else none

/-- A flit with hops left is repeated by the other port. -/
def State.repeatFlit (s : State) (d : Dir) (h : FlitHdr) (body : Nat) : State :=
  if 0 < h.hops then s.sendFlit (1 - dirNat d) { h with hops := h.hops - 1 } body else s

/-- A flit is for this unit. -/
def State.forMe (s : State) (h : FlitHdr) : Bool := h.dst == everyUnit || (s.bit Reg.rngPos 7 && h.dst == s.ringPos)

/-- Something from the ring noted as taken, by line, origin and instant; line 16 stands for marks. -/
def State.noteSeen (s : State) (l src t : Nat) : State :=
  { s with seen := (l, src, t, s.now) :: s.seen.filter (fun x => decide (s.now ≤ x.2.2.2 + 4 * usec)) }

/-- It was taken less than 4 µs ago. -/
def State.hasSeen (s : State) (l src t : Nat) : Bool :=
  s.seen.any (fun x => x.1 == l && x.2.1 == src && x.2.2.1 == t && decide (s.now ≤ x.2.2.2 + 4 * usec))

/-- One event of a TRIG flit: a second copy is discarded; in Fast and Fallow the fabric is inactive (R117, R129, R285). -/
def State.takeTrig (s : State) (src l t : Nat) : State :=
  if s.hasSeen l src t || !s.fabricRuns then s else (s.noteSeen l src t).lineEvent l t true

/-- TRIG_FLIT (R285). -/
def execTrigFlit (dt : Nat) (d : Dir) (flit : List Native) (s : State) : Res :=
  let s := s.start dt
  match s.recvFlit d 0 flit with
  | none => .next s
  | some (h, b) =>
    let s1 := s.forAll (List.range (bitsOf b 229 228)) (fun s k =>
      s.takeTrig h.src (bitsOf b (219 + 4 * k) (216 + 4 * k)) (bitsOf b (71 + 72 * k) (72 * k)))
    .next (s1.repeatFlit d h b)

/-! ### Marks (R298) -/

/-- This unit issues marks: the head of its outermost procession, or a unit in no procession. -/
def State.issuer (s : State) : Bool :=
  match s.around with
  | [] => true
  | i :: _ => s.headOf i == s.ringPos

/-- The unit at a position is the head whose marks this unit takes. -/
def State.marksFrom (s : State) (pos : Nat) : Bool :=
  match s.around with
  | [] => false
  | i :: _ => s.headOf i == pos

/-- CAL_FLIT (R298): a second copy of a mark is discarded. -/
def execCalFlit (dt : Nat) (d : Dir) (flit : List Native) (s : State) : Res :=
  let s := s.start dt
  match s.recvFlit d 1 flit with
  | none => .next s
  | some (h, b) =>
    let t := bitsOf b 71 0
    let s1 := if s.marksFrom h.src && !s.hasSeen 16 h.src t then
        (s.noteSeen 16 h.src t).holdMark ⟨t, bitsOf b 103 72, b.testBit 104, h.src, false⟩
      else s
    .next (s1.repeatFlit d h b)

/-- RNG_CAL_LEAD in ticks, and the instant a mark issued now names. -/
def State.calLead (s : State) : Nat := s.rd Reg.rngCalLead 9 0 * usec

def State.markInstant (s : State) : Nat :=
  let at_ := s.rdq Reg.rngCalAt 3 % 2 ^ 72
  if at_ = 0 then s.ep + s.calLead else at_

/-- MARK: refused for an instant nearer than the lead, a lead below 2 µs, a mark still pending, and on a unit that issues no
marks. -/
def State.doMark (s : State) : State :=
  let t := s.markInstant
  if !s.issuer || decide (t < s.ep + s.calLead) || decide (s.calLead < 2 * usec) || s.marks.any (fun m => decide (s.ep < m.instant))
  then s.setBit Reg.rngCalCtl 3 true
  else s.issueMark t true true

/-- CALENDS_MARK (R298). -/
def execCalendsMark (dt : Nat) (s : State) : Res := .next (s.start dt).doMark

/-- RNG_CAL_PERIOD in ticks. -/
def State.calPeriod (s : State) : Nat := max 1 (s.rd Reg.rngCalPeriod 15 0) * msec

/-- A write of RNG_CAL_CTL.PERIODIC begins or ends the periods. -/
def State.setPeriodic (s : State) (on : Bool) : State :=
  { s with calNext := if on then (match s.calNext with | some t => some t | none => some (s.now + s.calPeriod)) else none }

/-- CALENDS_PERIODIC (R298). -/
def execCalendsPeriodic (dt : Nat) (s : State) : Res :=
  let s := s.start dt
  match s.calNext with
  | some t =>
    if t ≤ s.now then
      let s1 : State := { s with calNext := some (t + s.calPeriod) }
      .next (if s1.issuer then s1.issueMark s1.markInstant (s1.bit Reg.rngCalCtl 2) false else s1)
    else .next s
  | none => .next s

/-! ### The snapshot (R299, R300) -/

/-- The fields of a register that are set by the Almanac or kept over resets, read-only in effect and not RO by their access
code (R12): they are not in a snapshot. -/
def notRo (b : Blk) (base : Nat) : Nat :=
  match b with
  | .glb => if base = 0x84 then 0xFFFFFFFF else 0
  | .pwr => if base = 0x88 ∨ base = 0x90 ∨ base = 0x98 then 2 ^ 64 - 1 else 0
  | .flt => if base = 0x40 ∨ base = 0x48 then 2 ^ 64 - 1 else 0
  | .alm => if base = 0x50 then 2 ^ 64 - 1 else 0
  | .epc => if base = 0x2000 then 0xF31 else 0
  | .bnk => if base = 0x100 then 0xC0 else if base = 0x2200 then 0xFFFFFF else 0
  | .aqg => if base = 0xC ∨ base = 0x10 then 0xFFFFFFFF
            else if base = 0x78 ∨ base = 0x80 ∨ base = 0x88 then 2 ^ 64 - 1 else 0
  | .memc => if base = 0 then 1 else 0
  | _ => 0

/-- The bits of a word of BAR0 that a snapshot covers: its RO and W1C fields. A unit header is read-only. -/
def snapMask (off : Nat) : Nat :=
  match blkAt off with
  | none => 0
  | some (b, _, o) =>
    if (b = .glb ∨ b = .bnk) ∧ o < 0x40 then 0xFFFFFFFF
    else if b = .snp then 0
    else match regAt off with
      | none => 0
      | some h =>
        let hide := h.row.rw ||| h.row.w1s ||| h.row.rsv ||| notRo b h.row.base
        0xFFFFFFFF - ((hide >>> (32 * h.part)) % 2 ^ 32)

/-- The BAR0 offsets of which SNP offset `o` holds the snapshot. -/
def snapSource (o : Nat) : Option Nat :=
  if o < 0x350000 then some o
  else if 0x380000 ≤ o ∧ o < 0x3A8000 then some (0x400000 + (o - 0x380000) / 0x8000 * 0x10000 + (o - 0x380000) % 0x8000)
  else none

/-- The snapshot word of an SNP offset. -/
def State.snapWord (s : State) (o : Nat) : Word :=
  match snapSource o with
  | some off => s.readWord .pf0 off &&& BitVec.ofNat 32 (snapMask off)
  | none => 0

/-- Every word of SNP below its header, ascending by BAR0 offset; words of 0 are not listed. -/
def State.snapAll (s : State) : Tbl Word :=
  (List.range (0x3A8000 / 4)).filterMap (fun k =>
    let w := s.snapWord (4 * k)
    if w = 0 then none else some (0x800000 + 4 * k, w))

/-- A SNAP mark's instant: the fields are copied, and the header names the mark. -/
def State.takeSnap (s : State) (m : Mark) : State :=
  let s1 : State := { s with snap := s.snapAll }
  ((((s1.put Reg.snpId (BitVec.ofNat 32 m.id)).wrEpoch Reg.snpAt m.instant).setBit Reg.snpStatus 0 true).wr Reg.snpStatus 13 8
    m.head).rngEvent 0

/-! ### Digests (R301, R302) -/

/-- An active word as four bytes; of a register that reads 0, zeros. -/
def State.activeBytes (s : State) (off : Nat) (on : Bool) : List Byte := leBytes 4 (if on then (s.act off).toNat else 0)

/-- The active words of the shadowed registers of a bank, ascending by offset. -/
def State.bankDigestBytes (s : State) (b : Nat) : List Byte :=
  (List.range 16).flatMap (fun c => s.activeBytes (Reg.bnkFe b c) (s.live (16 * b + c)))
    ++ (List.range 8).flatMap (fun i =>
      let on := match s.alm with | some a => ((a.units[8 * b + i]?).join).isSome | none => false
      (trigWords (8 * b + i)).flatMap (fun o => s.activeBytes o on))
    ++ (List.range 16).flatMap (fun c => s.activeBytes (Reg.bnkFlt b c) (s.live (16 * b + c)))

/-- The device's configuration digest. -/
def State.deviceDigest (s : State) : List Byte :=
  let img := match s.alm with | some a => a.digest | none => List.replicate 32 0
  sha256 (img ++ ((List.range 16).filter (fun b => s.bankMode b != 3)).flatMap s.bankDigestBytes
    ++ s.enabledGroups.flatMap (fun g => (groupOwnWords g).flatMap (fun o => s.activeBytes o true)))

/-- The digest a unit would have if every device in it had the digest `dev`. -/
def Almanac.uniform (a : Almanac) (dev : List Byte) : Nat → RUnit → List Byte
  | 0, _ => dev
  | _ + 1, .dev _ => dev
  | n + 1, .proc i => sha256 ((a.memberList i).flatMap (a.uniform dev n))

/-- The direct members of a declaration in force. -/
def State.membersOf (s : State) (i : Nat) : List RUnit := match s.alm with | some a => a.memberList i | none => []

/-- The digest a member is expected to have. -/
def State.expected (s : State) (m : RUnit) : List Byte := match s.alm with | some a => a.uniform s.digest 20 m | none => []

/-- Counts of periods in a row of the members of a declaration, and whether each diverges in this one. -/
def State.divergeOf (s : State) (i m : Nat) : Nat × Nat := tget s.diverge (0, 0) (64 * i + m)

/-- The longest run of periods in which a member of a declaration has diverged, and a member that does so in this one. -/
def State.divergeRun (s : State) (i : Nat) : Nat := ((List.range (s.membersOf i).length).map (fun m => (s.divergeOf i m).1)).foldl max 0
def State.divergesNow (s : State) (i : Nat) : Option Nat :=
  (List.range (s.membersOf i).length).find? (fun m => (s.divergeOf i m).2 == 1)

/-- The position of the first unit of a member. -/
def State.memberPos (s : State) (i m : Nat) : Nat :=
  match s.alm, (s.membersOf i)[m]? with
  | some a, some u => a.firstPos u
  | _, _ => 0

/-- RNG_DIVERGENT_k names a member. -/
def State.nameDivergent (s : State) (k i m : Nat) : State :=
  (((s.wr (Reg.rngDivergent k) 3 0 m).wr (Reg.rngDivergent k) 13 8 (s.memberPos i m)).setBit (Reg.rngDivergent k) 16 true).wr
    (Reg.rngDivergent k) 23 18 i

/-- RNG_DIVERGENT_k of declaration `i`: its periods, and the member once they are 3. -/
def State.divergentReg (s : State) (k i : Nat) : State :=
  let n := s.divergeRun i
  if n = 0 then s.put (Reg.rngDivergent k) 0
  else
    let s1 := s.wr (Reg.rngDivergent k) 28 24 (min 31 n)
    match (if n < 3 then none else s.divergesNow i) with
    | some m => s1.nameDivergent k i m
    | none => s1

/-- RNG_DIG_STATUS and RNG_DIVERGENT_k of the processions this unit heads. -/
def State.digRegs (s : State) : State :=
  let hs := s.heads
  let s1 := (s.setBit Reg.rngDigStatus 0 (hs.any (fun i => (s.divergesNow i).isSome))).wr Reg.rngDigStatus 7 4
    (min 15 ((hs.map s.divergeRun).foldl max 0))
  (hs.zipIdx).foldl (fun s x => s.divergentReg x.2 x.1) (s1.clearWords (((List.range 18).drop hs.length).map Reg.rngDivergent))

/-- A member diverges in this period; in its third in a row RING_DIGEST is raised. -/
def State.markDiverge (s : State) (i m : Nat) : State :=
  let x := s.divergeOf i m
  if x.2 = 1 then s
  else
    let s1 : State := { s with diverge := tset s.diverge (0, 0) (64 * i + m) (x.1 + 1, 1) }
    if x.1 + 1 = 3 then (s1.fault 28 allBanks).rngEvent 1 else s1

/-- A member's digest has arrived and is compared with the expectation. -/
def State.putMember (s : State) (i m : Nat) (dg : List Byte) : State :=
  let s1 : State := { s with digests := tset s.digests [] (64 * i + m) dg }
  match (s.membersOf i)[m]? with
  | some u => if s.expected u = dg then { s1 with diverge := tset s1.diverge (0, 0) (64 * i + m) (0, 0) } else s1.markDiverge i m
  | none => s1

/-- The digest of a procession this unit heads, once every member's is there. -/
def State.procDigest (s : State) (i : Nat) : Option (List Byte) :=
  let ds := (List.range (s.membersOf i).length).map (fun m => tget s.digests [] (64 * i + m))
  if ds.any (fun d => d.isEmpty) then none else some (sha256 ds.flatten)

/-- A digest of this unit, or of the outermost procession it heads, for the head of declaration `i`. -/
def State.sendDigest (s : State) (i : Nat) (dg : List Byte) : State :=
  s.sendOne (s.markId % 512) (s.headOf i) 2 (leNat dg)

/-- The digests of the processions this unit heads, from the innermost of a list outward: each that is complete is a member
of the next, and the outermost goes to the head of the procession that encloses it. -/
def State.cascade (s : State) : List Nat → State
  | [] => s
  | i :: rest => match s.procDigest i with
    | none => s
    | some dg => match rest with
      | j :: _ => (s.putMember j 0 dg).cascade rest
      | [] => match (s.around.filter (fun j => s.headOf j != s.ringPos)).getLast? with
        | some j => s.sendDigest j dg
        | none => s

/-- The period of the mark before ends: a member whose digest has not arrived diverges in it, and one that did not diverge
counts from 0 again. -/
def State.endPeriod (s : State) : State :=
  if !s.digestOn then s
  else
    let all := s.heads.flatMap (fun i => (List.range (s.membersOf i).length).map (fun m => (i, m)))
    let s1 := all.foldl (fun s x =>
      if (tget s.digests [] (64 * x.1 + x.2)).isEmpty then s.markDiverge x.1 x.2 else s) s
    let s2 := s1.digRegs
    { s2 with diverge := s2.diverge.filterMap (fun (x : Nat × Nat × Nat) => if x.2.2 = 1 then some (x.1, x.2.1, 0) else none) }

/-- The digest of this unit as of a mark, and its way to the head of the innermost procession. -/
def State.takeDigest (s : State) : State :=
  let dg := s.deviceDigest
  let s1 : State := { s with digest := dg, digests := [], digestOn := true }
  match s1.heads with
  | i :: _ => (((s1.putMember i 0 dg).cascade s1.heads)).digRegs
  | [] => match s1.around.getLast? with
    | some j => s1.sendDigest j dg
    | none => s1

/-- SNAPSHOT_INSTANT (R299, R301, R302): the earliest mark whose instant has come. -/
def execSnapshotInstant (dt : Nat) (s : State) : Res :=
  let s := s.start dt
  match s.marks.filter (fun m => decide (m.instant ≤ s.ep)) with
  | [] => .next s
  | x :: r =>
    let m := r.foldl (fun a b => if b.instant < a.instant then b else a) x
    let s1 := ({ s with marks := s.marks.filter (fun y => y != m), markId := m.id } : State).wrEpoch Reg.rngCalLast m.instant
    let s2 := if m.snap then s1.takeSnap m else s1
    .next s2.endPeriod.takeDigest

/-- The member of a procession this unit heads whose first unit is at a position. -/
def State.memberAt (s : State) (pos : Nat) : Option (Nat × Nat) :=
  match s.alm with
  | none => none
  | some a =>
    if pos = s.ringPos then none
    else (s.heads.flatMap (fun i => (List.range (a.memberList i).length).map (fun m => (i, m)))).find? (fun x =>
      match (a.memberList x.1)[x.2]? with
      | some u => a.firstPos u == pos
      | none => false)

/-- A digest of the latest mark from a member's first unit; the first copy counts. -/
def State.takeDig (s : State) (h : FlitHdr) (b : Nat) : State :=
  if h.cf != s.markId % 512 || !s.digestOn then s
  else match s.memberAt h.src with
    | none => s
    | some (i, m) =>
      if !(tget s.digests [] (64 * i + m)).isEmpty then s
      else
        let done := (s.procDigest i).isSome
        let s1 := s.putMember i m (leBytes 32 b)
        (if done then s1 else s1.cascade (s.heads.dropWhile (fun j => j != i))).digRegs

/-- DIG_FLIT (R302). -/
def execDigFlit (dt : Nat) (d : Dir) (flit : List Native) (s : State) : Res :=
  let s := s.start dt
  match s.recvFlit d 2 flit with
  | none => .next s
  | some (h, b) => .next ((if s.forMe h then s.takeDig h b else s).repeatFlit d h b)

/-! ### Windows (R293) -/

/-- What a window resolves to under the control word and the path it was last resolved with. -/
def State.winTarget (s : State) (w : Nat) : WinTarget :=
  let o := Reg.rngWinPath w
  s.resolveWin (s.act (Reg.rngWinCtl w)) ((s.act o).toNat + 2 ^ 32 * (s.act (o + 4)).toNat + 2 ^ 64 * (s.act (o + 8)).toNat)

/-- A window resolved: RESULT says how. -/
def State.doResolve (s : State) (w : Nat) : State :=
  let o := Reg.rngWinPath w
  let s1 := s.handWords [Reg.rngWinCtl w, o, o + 4, o + 8]
  s1.wr (Reg.rngWinCtl w) 30 28 (s1.winTarget w).result

/-- WINDOW_RESOLVE (R293). -/
def execWindowResolve (dt : Nat) (w : Fin 64) (s : State) : Res := .next ((s.start dt).doResolve w)

/-! ### Record forwarding (R303 to R305) -/

/-- Forwarding of a partition's state, and its next sequence as RNG_FWD_NEXT reads. -/
def State.setFwd (s : State) (p : Nat) (on : Bool) (next : Nat) : State :=
  ({ s with fwd := tset s.fwd Fwd.idle p ⟨on, next⟩ } : State).wrEpoch (Reg.rngFwdNext p) next

/-- A write of RNG_FWD_p: EN starts forwarding anew at the lowest unreleased sequence and ends a stall. -/
def State.doForward (s : State) (p : Nat) : State :=
  if s.bit (Reg.rngFwd p) 0 then (s.setFwd p true (s.part p).released).setBit (Reg.rngFwd p) 1 false
  else s.setFwd p false (tget s.fwd Fwd.idle p).next

/-- FORWARD_ENABLE (R303). -/
def execForwardEnable (dt : Nat) (p : Fin 32) (s : State) : Res := .next ((s.start dt).doForward p)

/-- The REC flits of a record for a stream of the unit at a position. -/
def State.sendRecord (s : State) (pos stream p seq : Nat) (bs : List Byte) : State :=
  let s1 := s.sendOne (256 + stream) pos 4 (p + seq % 2 ^ 72 * 2 ^ 5 + bs.length * 2 ^ 77)
  (chunks 32 (bs.length + 1) bs).foldl (fun s b => s.sendOne stream pos 4 (leNat b)) s1

/-- FORWARD_RECORD (R303, R305): `reach` says that the target is reachable and its stream takes the records. -/
def execForwardRecord (dt : Nat) (p : Fin 32) (reach : Bool) (s : State) : Res :=
  let s := s.start dt
  let f := tget s.fwd Fwd.idle p
  let w := Reg.rngFwd p
  let next := max f.next (s.part p).released
  if !f.on || s.bit w 1 then .next s
  else if !reach || !(s.ringUp 0 || s.ringUp 1) then .next ((s.setBit w 1 true).rngEvent 2)
  else if !s.dataRuns then .next s
  else match (s.part p).recs.find? (fun r => r.seq == next) with
    | none => .next s
    | some r =>
      let s := s.touchStacks
      if s.recHeld p r ∨ !s.mayPass (hrvPort (s.rd w 5 4)) then .next s
      else
        let b := (s.deliverRec p r 0 false []).bytes
        let s1 := s.pass (hrvPort (s.rd w 5 4)) r.granules
        .next ((s1.sendRecord (s.rd w 13 8) (s.rd w 23 16) p next b).setFwd p true (next + 1))

/-- One or more forwarded bytes added to the frames of their stream; the piece lies within one frame. -/
def Stream.addFwd (x : Stream) (mtu : Nat) (bs : List Byte) : Stream :=
  let bs := bs.take (x.fwdLen - x.fwdGot)
  if bs.isEmpty then x
  else
    let got := x.fwdGot + bs.length
    let last := b2n (decide (got = x.fwdLen))
    let fresh : Frame := ⟨0, x.fwdSeq % 2 ^ 64, x.fwdGot, x.fwdPart, 0, last, bs⟩
    let cs := match x.chunks.getLast? with
      | some c => if x.fwdGot ≠ 0 ∧ c.recSeq = x.fwdSeq % 2 ^ 64 ∧ !c.flags.testBit 0 ∧ c.payload.length < mtu
        then x.chunks.dropLast ++ [{ c with payload := c.payload ++ bs, flags := last }] else x.chunks ++ [fresh]
      | none => [fresh]
    { x with chunks := cs, fwdGot := got }

/-- Stream `k` takes forwarded records of the unit at a position: open, accepting, and of no other owner (R304). -/
def State.takesFrom (s : State) (k src : Nat) : Bool :=
  let x := s.stream k
  (x.st == 1 || x.st == 2) && (s.get (Reg.rngFwdAccept (k / 32))).toNat.testBit (k % 32)
    && (x.owner == some src || (x.owner.isNone && x.job.isNone))

/-- A REC flit for this unit: the first of a record, or 32 bytes of it. The stream is the low part of CF. -/
def State.takeRec (s : State) (h : FlitHdr) (b : Nat) : State :=
  let k := h.cf % 256
  let x := s.stream k
  if !s.takesFrom k h.src then s
  else if h.cf.testBit 8 then
    s.setStream k { x with owner := some h.src, fwdPart := bitsOf b 4 0, fwdSeq := bitsOf b 76 5, fwdLen := bitsOf b 140 77,
                           fwdGot := 0 }
  else
    let bs := leBytes 32 b
    s.setStream k (((x.addFwd (s.mtu k) (bs.take 16))).addFwd (s.mtu k) (bs.drop 16))

/-- REC_FLIT (R304). -/
def execRecFlit (dt : Nat) (d : Dir) (flit : List Native) (s : State) : Res :=
  let s := s.start dt
  match s.recvFlit d 4 flit with
  | none => .next s
  | some (h, b) => .next ((if s.forMe h then s.takeRec h b else s).repeatFlit d h b)

end Sys2Proof.Machine
end

