-- ==== Sys2Proof/Machine/Update.lean ====
section
/-! DEFINITION. Jubilee updates (R355 to R373): download, verification, activation, confirmation and rollback, the vote and
the distribution of a procession's head, the boot check, the recovery ROM and the key slots. -/

namespace Sys2Proof.Machine

/-! ### Codes, events and flash (R355, R361) -/

/-- UPD_STATUS.ERROR. -/
def State.updError (s : State) (code : Nat) : State := s.wr Reg.updStatus 23 16 code

def State.setUpd (s : State) (st : Nat) : State := s.wr Reg.updStatus 3 0 st

/-- An event of UPD_IRQ: 0 DONE, 1 ROLLBACK, 2 WEAR. An enabled one signals vector 7. -/
def State.updEvent (s : State) (k : Nat) : State :=
  let s1 := s.setBit Reg.updIrq (16 + k) true
  if s1.bit Reg.updIrq k then s1.signal 7 else s1

/-- The flags and the manifest's copies of an image bank set. -/
def State.setFlags (s : State) (b : Nat) (valid confirmed : Bool) (version floor : Nat) : State :=
  s.setImg b { (s.img b) with valid := valid, confirmed := confirmed, version := version, floor := floor }

/-- A bank loses VALID and CONFIRMED. -/
def State.invalidate (s : State) (b : Nat) : State := s.setFlags b false false 0 0

/-- The commit word: the bank that runs (R366). -/
def State.commitWord (s : State) (b : Nat) : State := s.wr Reg.updStatus 9 9 b

/-! ### The package (R356, R357, R361) -/

/-- Bytes of an image bank; what has not been written reads as 0. -/
def State.flashBytes (s : State) (b a n : Nat) : List Byte :=
  (List.range n).map (fun k => (s.flashByte b (a + k)).getD 0)

/-- OFFSET and LENGTH of part `i`. -/
def State.partOff (s : State) (b i : Nat) : Nat := s.flashLe b (0x44 + 64 * i) 4
def State.partLen (s : State) (b i : Nat) : Nat := s.flashLe b (0x48 + 64 * i) 4

/-- The names of the parts: MGMT, SDMC, STKT, ALMD, CMAP. -/
def partNames : List Nat := [0x544D474D, 0x434D4453, 0x544B5453, 0x444D4C41, 0x50414D43]

/-- A byte other than 0 in a range of a bank. -/
def State.firstNonzero (s : State) (b lo hi : Nat) : Option Nat :=
  ((List.range (hi - lo)).find? (fun k => (s.flashByte b (lo + k)).getD 0 != 0)).map (fun k => lo + k)

/-- A breach of R356's table or R357 in parts from `i` on, `pos` being the end of what came before: its byte offset. -/
def State.badParts (s : State) (b : Nat) : Nat → Nat → Nat → Option Nat
  | 0, _, pos => if s.flashLe b 8 4 = pos then none else some 8
  | n + 1, i, pos =>
    let e := 0x40 + 64 * i
    let o := s.partOff b i
    let l := s.partLen b i
    if s.flashLe b e 4 ≠ partNames.getD i 0 then some e
    else if o % 4096 ≠ 0 ∨ o < pos ∨ 2 ^ 26 < o then some (e + 4)
    else if l = 0 ∨ (i = 3 ∧ 2 ^ 20 < l) then some (e + 8)
    else match s.firstNonzero b pos o with
      | some a => some a
      | none => s.badParts b n (i + 1) (o + l)

/-- The manifest's signature is valid for its KEY. -/
def State.manifestSigned (s : State) (b : Nat) : Bool :=
  ecdsaOk (s.flashBytes b 0x180 97) (s.flashBytes b 0 0x1E8) (s.flashBytes b 0x1E8 96)

/-- The hash of part `i` is that of the manifest. -/
def State.partHashOk (s : State) (b i : Nat) : Bool :=
  sha384 (s.flashBytes b (s.partOff b i) (s.partLen b i)) == s.flashBytes b (0x50 + 64 * i) 48

/-- The first failed check of the staged package: code and byte offset (R361). -/
def State.badPackage (s : State) : Option (Nat × Nat) :=
  let b := s.stageBank
  let fail := fun (ok : Bool) (code off : Nat) => if ok then [] else [(code, off)]
  let magic := fail (s.flashLe b 0 4 == 0x3142554A) 1 0 ++ fail (s.flashLe b 4 2 == 1) 1 4 ++ fail (s.flashLe b 6 2 == 5) 1 6
  let len := s.flashLe b 8 4
  let table := match s.badParts b 5 0 0x1000 with | some a => [(4, a)] | none => []
  let hashes := (List.range 5).flatMap (fun i => fail (s.partHashOk b i) 0xA (0x50 + 64 * i))
  let almd := match badAlmd (s.checkCtx false none) (s.flashBytes b (s.partOff b 3) (s.partLen b 3)) with
    | some (_, _, o) => [(0xB, s.partOff b 3 + o)]
    | none => []
  (magic ++ fail (len ≤ 2 ^ 26 && len == s.pkgLen) 2 8 ++ fail (s.nextMissing == 0x7FFFFFF) 3 s.nextMissing ++ table
    ++ fail (s.manifestSigned b) 5 0x1E8
    ++ fail (s.keySlots.contains (sha384 (s.flashBytes b 0x180 97))) 6 0x180
    ++ fail ((hwType ^^^ s.flashLe b 0x10 8) &&& s.flashLe b 0x18 8 == 0) 7 0x10
    ++ fail (s.flashLe b 0x20 8 == 0 || s.flashLe b 0x20 8 == Config.serial.toNat) 8 0x20
    ++ fail ((s.get Reg.updFloor).toNat ≤ s.flashLe b 0xC 4) 9 0xC
    ++ hashes ++ almd).head?

/-! ### Download (R358, R359) -/

/-- The bank that a download goes to: the inactive one; in the recovery ROM an invalid one, A when both are (R358, R370). -/
def State.targetBank (s : State) : Nat :=
  if s.recovery then (if !(s.img 0).valid then 0 else if !(s.img 1).valid then 1 else 1 - s.activeBank)
  else 1 - s.activeBank

/-- The code that refuses a BEGIN, 0 when it is accepted. -/
def State.beginCode (s : State) : Nat :=
  let st := s.updState
  if (st = 0 ∨ st = 4 ∨ st = 5) ∧ s.actReq.isNone then 0 else if st = 8 then 0x11 else 0x10

/-- UPD_CTL.BEGIN. -/
def State.doBegin (s : State) : State :=
  if s.beginCode = 0 then
    let b := s.targetBank
    ((({ s with stageBank := b, pkgLen := s.rd Reg.updPkgLen 26 0, eraseAt := some s.now, voteAll := false } : State).invalidate
      b).setUpd 1).updError 0
  else s.updError s.beginCode

/-- UPD_BEGIN (R358). -/
def execUpdBegin (dt : Nat) (s : State) : Res := .next (s.start dt).doBegin

/-- UPD_ERASE_COMPLETE (R358). -/
def execUpdEraseComplete (dt : Nat) (s : State) : Res :=
  let s := s.start dt
  if s.updState = 1 then
    .next ((({ s with eraseAt := none } : State).setImg s.stageBank ImgBank.blank).setUpd 2)
  else .next s

/-- UPD_CTL.ABANDON. -/
def State.doAbandon (s : State) : State :=
  let st := s.updState
  if (st = 2 ∨ st = 4 ∨ st = 5) ∧ s.actReq.isNone then
    ((({ s with pkgLen := 0, voteAll := false } : State).invalidate s.stageBank).setUpd 0).updError 0
  else s.updError 0x10

/-- UPD_ABANDON (R358). -/
def execUpdAbandon (dt : Nat) (s : State) : Res := .next (s.start dt).doAbandon

/-- The block in UPD_WIN, at UPD_BLK_OFFSET. -/
def State.winBlock (s : State) : Nat × List Byte :=
  let off := s.rd Reg.updBlkOffset 26 0
  (off, tgetAll s.mem.updWin 0 0 (min 4096 (s.pkgLen - off)))

/-- A block is being staged (R360: a further one is refused). -/
def State.blkBusy (s : State) : Bool := s.blkJob.isSome

/-- UPD_BLK_GO: the block in UPD_WIN is judged and staged. -/
def State.doBlkGo (s : State) : State :=
  if s.blkBusy then s
  else
    let x := s.winBlock
    match s.blockFate x.1 x.2 (s.get Reg.updBlkCrc).toNat with
    | .stage => { s with blkJob := some ⟨x.1, x.2, .win⟩ }
    | .badCrc => s.blockRefused
    | _ => s

/-- UPD_BLK_GO (R359). -/
def execUpdBlkGo (dt : Nat) (s : State) : Res := .next (s.start dt).doBlkGo

/-- A line on MNT_UART, ended by CR. -/
def State.answer (s : State) (bs : List Byte) : State := s.emit (.uart (bs ++ [13]))

/-- Answers of the recovery ROM. -/
def State.answerErr (s : State) (code : Nat) : State := s.answer (text "ERR " ++ textOf (hexDigits 2 code))
def State.answerBlk (s : State) (ok : Bool) (off : Nat) : State :=
  s.answer (text (if ok then "OK " else "BAD ") ++ textOf (hexDigits 8 off))

/-- The completion of an H2D block (R239): the descriptor whose block it is ends with a status; one that has been abandoned is no
longer there. -/
def State.blockEnd (s : State) (j : BlkJob) (status : Nat) : State :=
  match (s.engine 4).job with
  | some h =>
    if h.phase = .run ∧ h.blk then
      s.endDesc 4 h (if status = 0 then ⟨0, j.bytes.length, j.off, j.off + j.bytes.length, 0⟩ else ⟨status, 0, j.off, j.off, 0⟩)
        h.addr none endDepth
    else s
  | none => s

/-- BLOCK_STAGED (R359): written and read back equal. A block that fails to program stays to be written to a spare (R373); one
whose download has ended meanwhile is not staged. -/
def execBlockStaged (dt : Nat) (v : Verdict) (s : State) : Res :=
  let s := s.start dt
  match s.blkJob, v with
  | none, _ => .next s
  | some _, .fail => .next s
  | some j, .pass =>
    let s1 : State := { s with blkJob := none }
    let ok : Bool := s.updState == 2
    let i := s1.img s1.stageBank
    let s2 := if ok then s1.setImg s1.stageBank { i with blocks := tset i.blocks [] (j.off / 4096) j.bytes } else s1
    .next (match j.src with
      | .h2d => s2.blockEnd j (if ok then 0 else 2)
      | .win => s2
      | .uart => s2.answerBlk ok j.off)

/-! ### Verification (R361) -/

/-- UPD_CTL.VERIFY. -/
def State.doVerify (s : State) : State :=
  if s.updState = 2 ∨ s.updState = 5 then ({ s with verifyFor := some s.now } : State).setUpd 3 else s.updError 0x10

/-- UPD_VERIFY (R361). -/
def execUpdVerify (dt : Nat) (s : State) : Res := .next (s.start dt).doVerify

/-- The outcome of a verification: the failure, or none. VALID and the manifest's copies are written on success. -/
def State.verifyOutcome (s : State) : Bool × State :=
  let s := { s with verifyFor := none }
  match s.badPackage with
  | some (code, off) => (false, ((s.updError code).put Reg.updErrOffset (BitVec.ofNat 32 off)).fault 31 allBanks)
  | none => (true, (s.setFlags s.stageBank true false (s.flashLe s.stageBank 0xC 4) (s.flashLe s.stageBank 0x28 4)).updError 0)

/-! ### The vote (R367) -/

/-- A position's bit in a 64-bit register pair. -/
def State.setPos (s : State) (off pos : Nat) : State := s.wrq off 2 (s.rdq off 2 ||| maskBit pos)

/-- The vote concludes when every device has voted or counts as absent. -/
def State.concludeVote (s : State) : State :=
  match s.vote with
  | some v =>
    if v.open_.isEmpty then
      let all : Bool := s.rdq Reg.updVoteNo 2 == 0 && s.rdq Reg.updVoteAbsent 2 == 0
      let s1 : State := { s with vote := none, verifyFor := none, voteAll := all }
      ((s1.setUpd (if all then 4 else 5)).updError (if all then 0 else 0x0C)).updEvent 0
    else s
  | none => s

/-- A device's vote. -/
def State.castVote (s : State) (pos : Nat) (yes : Bool) : State :=
  match s.vote with
  | some v =>
    if v.open_.contains pos then
      (({ s with vote := some { v with open_ := v.open_.filter (fun p => p != pos) } } : State).setPos
        (if yes then Reg.updVoteYes else Reg.updVoteNo) pos).concludeVote
    else s
  | none => s

/-- UPD_VERIFY_COMPLETE (R361): during a vote the outcome is this head's own vote. -/
def execUpdVerifyComplete (dt : Nat) (s : State) : Res :=
  let s := s.start dt
  if s.verifyFor.isNone then .next s
  else
    let x := s.verifyOutcome
    if x.2.vote.isSome then .next (x.2.castVote s.ringPos x.1)
    else .next ((x.2.setUpd (if x.1 then 4 else 5)).updEvent 0)

/-- This unit is a head with its package wholly staged. -/
def State.headStaged (s : State) : Bool :=
  let st := s.updState
  s.headed.isSome && (st == 2 || st == 4 || st == 5) && s.actReq.isNone && s.pkgLen != 0 && s.nextMissing == 0x7FFFFFF

/-- UPD_CTL.VOTE: VERIFY is broadcast, this head verifies its own package, and each member's UPD_STATUS is read. -/
def State.doVote (s : State) : State :=
  if s.headStaged ∧ s.dist.isNone then
    let s1 := s.clearWords [Reg.updVoteYes, Reg.updVoteYes + 4, Reg.updVoteNo, Reg.updVoteNo + 4, Reg.updVoteAbsent,
      Reg.updVoteAbsent + 4]
    let s2 := ({ s1 with vote := some ⟨s.now, s.ringPos :: s.others⟩, verifyFor := some s.now, voteAll := false } : State).setUpd 9
    (s2.broadcast Reg.updCtl 4 .write s.others).forAll s.others (fun s p => s.askReg p Reg.updStatus .vote)
  else s.updError 0x10

/-- UPD_VOTE (R367). -/
def execUpdVote (dt : Nat) (s : State) : Res := .next (s.start dt).doVote

/-- UPD_VOTE_TIMEOUT (R367): the devices that have not voted are absent. -/
def execUpdVoteTimeout (dt : Nat) (s : State) : Res :=
  let s := s.start dt
  match s.vote with
  | some v =>
    if v.since + max 1 (s.rd Reg.updVoteTimeout 15 0) * msec ≤ s.now then
      .next ((({ s with vote := some { v with open_ := [] } } : State).forAll v.open_ (fun s p =>
        s.setPos Reg.updVoteAbsent p)).concludeVote)
    else .next s
  | none => .next s

/-! ### Distribution (R360) -/

/-- The offsets of a package's blocks from an offset on. -/
def State.blockOffs (s : State) (lo : Nat) : List Nat :=
  ((List.range (ceilDiv s.pkgLen 4096)).map (fun k => 4096 * k)).filter (fun o => lo ≤ o)

/-- UPD_CTL.DISTRIBUTE: UPD_PKG_LEN and BEGIN are broadcast, and the members' UPD_STATUS is read. A procession of one has nothing to
distribute. -/
def State.doDistribute (s : State) : State :=
  if s.headStaged ∧ s.dist.isNone then
    let s1 := (s.broadcast Reg.updPkgLen s.pkgLen .write s.others).broadcast Reg.updCtl 1 .write s.others
    let s2 : State := { s1 with dist := if s.others.isEmpty then none
                                        else some ⟨1, s.blockOffs 0, true, s.others, s.now, s.now, [], [], []⟩ }
    (s2.forAll s.others (fun s p => s.askReg p Reg.updStatus .vote)).updError 0
  else s.updError 0x10

/-- UPD_DISTRIBUTE (R360). -/
def execUpdDistribute (dt : Nat) (s : State) : Res := .next (s.start dt).doDistribute

/-- One block broadcast: 512 writes of UPD_WIN, then its offset, its CRC and GO. -/
def State.sendBlock (s : State) (off : Nat) : State :=
  let bs := s.stagedBlock off
  let s1 := s.forAll (List.range 512) (fun s k =>
    s.sendCtl opBroadcast none (0x61000 + 8 * k) (leNat ((bs.drop (8 * k)).take 8)) true .write s.others 64)
  ((s1.broadcast Reg.updBlkOffset off .write s.others).broadcast Reg.updBlkCrc (crc32c bs) .write s.others).broadcast
    Reg.updBlkGo 1 .write s.others

/-- The next block of the pass goes out, or the members' UPD_NEXT_MISSING is read. -/
def State.distStep (s : State) (d : Dist) : State :=
  match d.todo with
  | off :: rest => ({ s with dist := some { d with todo := rest, lastBlk := s.now } } : State).sendBlock off
  | [] =>
    if d.asked.isEmpty then
      ({ s with dist := some { d with asked := s.others, missing := [], short := [], lastBlk := s.now } } : State).forAll s.others
        (fun s p => s.askReg p Reg.updNextMissing .missing)
    else s

/-- DISTRIBUTE_ERASE_WAIT_EXPIRY (R360 step 2). -/
def execDistributeEraseWaitExpiry (dt : Nat) (s : State) : Res :=
  let s := s.start dt
  match s.dist with
  | some d =>
    if d.waiting ∧ d.since + 2 * second ≤ s.now then .next (s.distStep { d with waiting := false, erasing := [] }) else .next s
  | none => .next s

/-- DISTRIBUTE_BLOCK_INTERVAL (R360 step 3). -/
def execDistributeBlockInterval (dt : Nat) (s : State) : Res :=
  let s := s.start dt
  match s.dist with
  | some d =>
    if !d.waiting ∧ d.lastBlk + 2500 * usec ≤ s.now then .next (s.distStep d) else .next s
  | none => .next s

/-- A member has left ERASING, or is read again. -/
def State.distErased (s : State) (pos st : Nat) : State :=
  match s.dist with
  | some d =>
    if d.waiting ∧ d.erasing.contains pos then
      (if st = 1 then s.askReg pos Reg.updStatus .vote
       else
        let d1 := { d with erasing := d.erasing.filter (fun p => p != pos) }
        if d1.erasing.isEmpty then s.distStep { d1 with waiting := false } else { s with dist := some d1 })
    else s
  | none => s

/-- The read-back of a pass is over: done, another pass from the lowest missing offset, or the members left incomplete are
marked (R360). -/
def State.passOver (s : State) (d : Dist) : State :=
  if d.short.isEmpty then { s with dist := none }
  else if 3 ≤ d.pass then
    ({ s with dist := none } : State).forAll d.short (fun s p => s.setPos Reg.updVoteAbsent p)
  else
    let lo := d.missing.foldl min (2 ^ 27)
    { s with dist := some { d with pass := d.pass + 1, todo := s.blockOffs lo, asked := [] } }

/-- A member's UPD_NEXT_MISSING, or none where it did not answer. -/
def State.distMissing (s : State) (pos : Nat) (next : Option Nat) : State :=
  match s.dist with
  | some d =>
    if d.asked.contains pos then
      let d1 := { d with
        asked := d.asked.filter (fun p => p != pos)
        short := if next = some 0x7FFFFFF then d.short else d.short ++ [pos]
        missing := match next with | some n => if n = 0x7FFFFFF then d.missing else d.missing ++ [n] | none => d.missing }
      if d1.asked.isEmpty then s.passOver d1 else { s with dist := some d1 }
    else s
  | none => s

/-! ### Activation (R362, R363, R368) -/

/-- Step 1 and 2 of R363: capture and Harvest pause, and the commit word names the bank. A rollback leaves the other bank
invalid (R365). -/
def State.startActivation (s : State) (a : Act) : State :=
  let old := s.activeBank
  let new := if a.back then 1 - old else s.stageBank
  let s1 := ({ s with actReq := some { a with started := true }, actWait := none, confirmFrom := none } : State).setUpd 7
  let s2 := s1.pauseAll s1.enabledGroups 4
  let s3 := (s2.commitWord new).wr Reg.updStatus 11 10 0
  if a.back then (((s3.invalidate old).setBit Reg.updStatus 13 true).updEvent 1) else { s3 with pkgLen := 0 }

/-- An activation can start: Feast or Ordinary, and no calibration run in progress. -/
def State.activationClear (s : State) : Bool :=
  decide (s.power ≤ 1) && s.move == .steady && s.calRun.isNone && s.pfAt.isNone

/-- An activation is asked for: it starts at once when nothing stands in its way, or demands the exit and waits. -/
def State.askActivation (s : State) (a : Act) : State :=
  let s1 := if 2 ≤ s.power ∨ s.move != .steady then s.demandExit else s
  let s2 : State := { s1 with actReq := some a }
  if a.at_ = 0 ∧ s2.activationClear then s2.startActivation a else s2

/-- The latest vote was all yes and this unit is a head: the activation is the procession's (R368). -/
def State.procession (s : State) : Bool := s.voteAll && s.headed.isSome && !s.others.isEmpty

/-- UPD_ACT_AT. -/
def State.actInstant (s : State) : Nat := s.rdq Reg.updActAt 3 % 2 ^ 72

/-- The code that refuses an ACTIVATE, 0 when it is accepted. -/
def State.activateCode (s : State) : Nat :=
  let a := s.actInstant
  if s.updState ≠ 4 ∨ s.actReq.isSome then 0x10
  else if s.almState = 3 ∨ s.almState = 4 then 0x13
  else if s.procession then (if a < s.ep + 100 * msec then 0x12 else 0)
  else if a ≠ 0 ∧ a < s.ep + 2 * usec then 0x12 else 0

/-- The recovery ROM's ACTIVATE: the commit word is written and the ROM waits for a reset (R370). -/
def State.romActivate (s : State) : State :=
  ((({ s with pkgLen := 0 } : State).commitWord s.stageBank).wr Reg.updStatus 11 10 0).setUpd 8 |>.updError 0

/-- UPD_CTL.ACTIVATE. A head broadcasts the instant and ACTIVATE first. -/
def State.doActivate (s : State) : State :=
  let code := s.activateCode
  if code ≠ 0 then s.updError code
  else if s.recovery then s.romActivate
  else
    let a := s.actInstant
    let act : Act := ⟨a, false, false⟩
    let s1 := s.updError 0
    if s.procession then
      let o := s.others
      let s2 := ((s1.broadcast (Reg.updActAt + 8) (a / 2 ^ 64) .write o).broadcast (Reg.updActAt + 4) (a / 2 ^ 32) .write o).broadcast
        Reg.updActAt a .write o
      (({ (s2.broadcast Reg.updCtl 8 .activate o) with actWait := some s.now } : State).setUpd 6).askActivation act
    else if a = 0 then s1.askActivation act
    else (s1.setUpd 6).askActivation act

/-- UPD_ACTIVATE (R362). -/
def execUpdActivate (dt : Nat) (s : State) : Res := .next (s.start dt).doActivate

/-- A procession's activation is called off: CANCEL is broadcast (R368). -/
def State.callOff (s : State) : State :=
  let s1 : State := { s with actReq := none, actWait := none,
                             ctlReqs := s.ctlReqs.filter (fun q => q.why != .activate) }
  ((s1.setUpd 4).updError 0x0D).broadcast Reg.updCtl 0x10 .write s.others

/-- An answer to a procession's ACTIVATE; after the last, the mark with SNAP at A (R368). -/
def State.activateAnswer (s : State) (ok : Bool) (left : List Nat) : State :=
  match s.actReq, s.actWait with
  | some a, some _ =>
    if !ok then s.callOff
    else if left.isEmpty then ({ s with actWait := none } : State).issueMark a.at_ true false
    else s
  | _, _ => s

/-- ACTIVATE_ANSWER_TIMEOUT (R368): every missing answer is counted (R295). -/
def execActivateAnswerTimeout (dt : Nat) (s : State) : Res :=
  let s := s.start dt
  match s.actWait with
  | some t =>
    if t + 20 * msec ≤ s.now then
      let n := ((s.ctlReqs.filter (fun q => q.why == .activate)).map (fun q => q.from_.length)).sum
      .next ((s.countFld Reg.rngCtlStats 15 0 n).callOff)
    else .next s
  | none => .next s

/-- UPD_CTL.CANCEL. -/
def State.doCancelActivation (s : State) : State :=
  if s.updState = 6 then (({ s with actReq := none, actWait := none } : State).setUpd 4).updError 0 else s.updError 0x10

/-- UPD_CANCEL (R362). -/
def execUpdCancel (dt : Nat) (s : State) : Res := .next (s.start dt).doCancelActivation

/-- ACTIVATION_START (R363): at A, or when the exit and the run that an immediate activation waited for are over. -/
def execActivationStart (dt : Nat) (s : State) : Res :=
  let s := s.start dt
  match s.actReq with
  | some a =>
    if !a.started && s.activationClear && decide (a.at_ ≤ s.ep) && !s.inReset then .next (s.startActivation a) else .next s
  | none => .next s

/-- ACTIVATION_RESUME (R363 step 4): outside a power-fail sequence (R366). -/
def execActivationResume (dt : Nat) (s : State) : Res :=
  let s := s.start dt
  match s.actReq with
  | some a =>
    if s.updState = 7 ∧ s.pfAt.isNone then
      let s1 := ({ s with actReq := none, confirmFrom := if a.back then none else some s.now,
                          streams := s.streams.map (fun (x : Nat × Stream) => (x.1, { x.2 with advAt := s.now })) } : State).setUpd
        (if a.back then 0 else 8)
      .next (((s1.updEvent 0).endAllPauses).serveHeld)
    else .next s
  | none => .next s

/-! ### Confirmation and rollback (R364, R365) -/

/-- UPD_CTL.CONFIRM. -/
def State.doConfirm (s : State) : State :=
  if s.updState = 8 ∧ s.actReq.isNone then
    let b := s.activeBank
    let i := s.img b
    let s1 := s.setImg b { i with confirmed := true }
    let s2 := s1.put Reg.updFloor (BitVec.ofNat 32 (max (s1.get Reg.updFloor).toNat i.floor))
    ((({ s2 with confirmFrom := none } : State).wr Reg.updStatus 11 10 0).setUpd 0).updError 0
  else s.updError 0x10

/-- UPD_CONFIRM (R364). -/
def execUpdConfirm (dt : Nat) (s : State) : Res := .next (s.start dt).doConfirm

/-- UPD_CONFIRM_WINDOW as it acts. -/
def State.confirmWindow (s : State) : Nat := min 3600 (max 10 (s.rd Reg.updConfirmWindow 11 0)) * second

/-- CONFIRM_WINDOW_EXPIRY (R365). -/
def execConfirmWindowExpiry (dt : Nat) (s : State) : Res :=
  let s := s.start dt
  match s.confirmFrom with
  | some t =>
    if s.updState = 8 ∧ s.actReq.isNone ∧ t + s.confirmWindow ≤ s.now then .next (s.askActivation ⟨0, true, false⟩) else .next s
  | none => .next s

/-! ### The boot check (R365, R366, R369) -/

/-- A bank's manifest signature and MGMT hash hold. -/
def State.bankBoots (s : State) (b : Nat) : Bool := s.manifestSigned b && s.partHashOk b 0

/-- The Epoch as it stands at a start: the count, or the always-on copy carried on. -/
def State.startEpoch (s : State) : Nat := if s.counting then s.ep else s.aonEpoch.toNat + (s.now - s.aonAt)

/-- A schedule whose instant has passed is carried out at the start, with no pause (R366). -/
def State.lateActivation (s : State) : State :=
  match s.actReq with
  | some a =>
    if s.updState = 6 ∧ a.at_ ≤ s.startEpoch then
      ((({ s with actReq := none, pkgLen := 0 } : State).commitWord s.stageBank).wr Reg.updStatus 11 10 0).setUpd 8
    else s
  | none => s

/-- A start of an unconfirmed image: counted in TRIES, or at TRIES 3 the other bank is started (R365). -/
def State.countTry (s : State) : State :=
  if s.updState ≠ 8 then s
  else if s.rd Reg.updStatus 11 10 = 3 then
    let b := s.activeBank
    ((((s.commitWord (1 - b)).invalidate b).setBit Reg.updStatus 13 true).updEvent 1).setUpd 0 |>.wr Reg.updStatus 11 10 0
  else s.countFld Reg.updStatus 11 10 1

/-- The bank that starts: the active one, the other confirmed one, or none and the recovery ROM runs. -/
def State.chooseBank (s : State) : State :=
  let b := s.activeBank
  let o := s.img (1 - b)
  if s.bankBoots b then s
  else if o.valid ∧ o.confirmed then
    let s1 := (s.commitWord (1 - b)).setBit Reg.updStatus 14 true
    if s1.updState = 8 then s1.setUpd 0 else s1
  else { s with recovery := true }

/-- BOOT_IMAGE_CHECK (R369): RECOVERY_N low runs the recovery ROM. A verification cut short runs again (R366). -/
def execBootImageCheck (dt : Nat) (recoveryN : Bool) (s : State) : Res :=
  let s := s.start dt
  if s.resetStep = .released ∧ !s.booted then
    let s0 : State := { s with booted := true, verifyFor := if s.updState = 3 then some s.now else none }
    if !recoveryN then .next { s0 with recovery := true }
    else
      let s1 := s0.lateActivation.countTry.chooseBank
      .next { s1 with confirmFrom := if s1.updState = 8 ∧ s1.sampleLocked then some s1.now else s1.confirmFrom }
  else .next s

/-! ### The recovery ROM's UART (R371) -/

/-- The value of a hexadecimal digit and of a base64 character. -/
def hexVal (b : Byte) : Option Nat :=
  let n := b.toNat
  if 48 ≤ n ∧ n ≤ 57 then some (n - 48) else if 65 ≤ n ∧ n ≤ 70 then some (n - 55)
  else if 97 ≤ n ∧ n ≤ 102 then some (n - 87) else none

def b64Val (b : Byte) : Option Nat :=
  let n := b.toNat
  if 65 ≤ n ∧ n ≤ 90 then some (n - 65) else if 97 ≤ n ∧ n ≤ 122 then some (n - 71)
  else if 48 ≤ n ∧ n ≤ 57 then some (n + 4) else if n = 43 then some 62 else if n = 47 then some 63 else none

/-- A hexadecimal number of at least one digit. -/
def parseHex (bs : List Byte) : Option Nat :=
  if bs.isEmpty then none
  else bs.foldl (fun a b => match a, hexVal b with | some x, some d => some (16 * x + d) | _, _ => none) (some 0)

/-- The bytes that a base64 text spells, with its padding. -/
def parseB64 (bs : List Byte) : Option (List Byte) :=
  let body := bs.takeWhile (fun b => b.toNat != 61)
  let pad := bs.length - body.length
  if bs.length % 4 ≠ 0 ∨ 2 < pad ∨ (bs.drop body.length).any (fun b => b.toNat != 61) then none
  else match body.foldl (fun a b => match a, b64Val b with | some x, some d => some (x ++ [d]) | _, _ => none) (some []) with
    | none => none
    | some ds =>
      let full := (chunks 4 (ds.length + 1) (ds ++ List.replicate pad 0)).flatMap (fun q =>
        beBytes 3 (q.foldl (fun a d => 64 * a + d) 0))
      some (full.take (full.length - pad))

/-- A line cut at its spaces. -/
def wordsOf (bs : List Byte) : List (List Byte) :=
  bs.foldr (fun b r => if b.toNat = 32 then [] :: r else match r with | [] => [[b]] | w :: t => (b :: w) :: t) [[]]

/-- A line without its CR. -/
def unended (bs : List Byte) : List Byte := if bs.getLast? = some 13 then bs.dropLast else bs

/-- BEGIN: the length, in the recovery ROM. -/
def State.romBegin (s : State) (n : Nat) : State :=
  let s1 := (if s.beginCode = 0 then s.put Reg.updPkgLen (BitVec.ofNat 32 (n % 2 ^ 27)) else s).doBegin
  if s.beginCode = 0 then s1.answer (text "OK") else s1.answerErr s.beginCode

/-- A block line: staged later and answered then, or answered at once. -/
def State.romBlock (s : State) (off crc : Nat) (bs : List Byte) : State :=
  match s.blockFate off bs crc with
  | .stage => if s.blkBusy then s.answerBlk false off else { s with blkJob := some ⟨off, bs, .uart⟩ }
  | .already => s.answerBlk true off
  | .badCrc => s.blockRefused.answerBlk false off
  | _ => s.answerBlk false off

/-- VERIFY: the answer waits for the outcome. -/
def State.romVerify (s : State) : State :=
  if s.updState = 2 ∨ s.updState = 5 then
    let x := s.verifyOutcome
    let s1 := (x.2.setUpd (if x.1 then 4 else 5)).updEvent 0
    if x.1 then s1.answer (text "OK") else s1.answerErr (s1.rd Reg.updStatus 23 16)
  else (s.updError 0x10).answerErr 0x10

/-- ACTIVATE: the commit word, or the code. -/
def State.romActivateLine (s : State) : State :=
  let s1 := s.doActivate
  if s.activateCode = 0 then s1.answer (text "OK") else s1.answerErr s.activateCode

/-- A line in the recovery ROM, by its words. -/
def State.romLine (s : State) (line : List Byte) : State :=
  match wordsOf (unended line) with
  | [w] =>
    if w = text "STATUS" then s.emit (.uart s.statusLine)
    else if w = text "VERIFY" then s.romVerify
    else if w = text "ACTIVATE" then s.romActivateLine
    else s.answerErr 0x10
  | [w, a] =>
    (match parseHex a with
     | some n => if w = text "BEGIN" then s.romBegin n else s.answerErr 0x10
     | none => s.answerErr 0x10)
  | [w, a, c, d] =>
    (match parseHex a, parseHex c, parseB64 d with
     | some off, some crc, some bs => if w = text "B" then s.romBlock off crc bs else s.answerErr 0x10
     | _, _, _ => s.answerErr 0x10)
  | _ => s.answerErr 0x10

/-- A line is served by the recovery ROM while it runs, outside a reset. -/
def State.romServe (s : State) (f : State → State) : State := if s.recovery && !s.inReset then f s else s

/-- RECOVERY_UART_BEGIN (R371). -/
def execRecoveryUartBegin (dt : Nat) (line : List Byte) (s : State) : Res :=
  .next ((s.start dt).romServe (fun s => s.romLine line))

/-- RECOVERY_UART_BLOCK (R371). -/
def execRecoveryUartBlock (dt : Nat) (line : List Byte) (s : State) : Res :=
  .next ((s.start dt).romServe (fun s => s.romLine line))

/-- RECOVERY_UART_VERIFY (R371). -/
def execRecoveryUartVerify (dt : Nat) (s : State) : Res := .next ((s.start dt).romServe State.romVerify)

/-- RECOVERY_UART_ACTIVATE (R371). -/
def execRecoveryUartActivate (dt : Nat) (s : State) : Res := .next ((s.start dt).romServe State.romActivateLine)

/-- RECOVERY_UART_STATUS (R371). -/
def execRecoveryUartStatus (dt : Nat) (s : State) : Res :=
  .next ((s.start dt).romServe (fun s => s.emit (.uart s.statusLine)))

/-- RECOVERY_UART_OTHER (R371). -/
def execRecoveryUartOther (dt : Nat) (line : List Byte) (s : State) : Res :=
  .next ((s.start dt).romServe (fun s => s.romLine line))

/-! ### Keys (R372) and flash wear (R373) -/

/-- UPD_KEY_CTL holds the key that the operations need. -/
def State.keyOpen (s : State) : Bool := s.rd Reg.updKeyCtl 31 16 == 0xA256

/-- A refused key operation. -/
def State.keyRefused (s : State) : State := s.setBit Reg.updKeyCtl 8 true

/-- The slot's VALID bit, and whether the slot has been written. -/
def State.keySlot (s : State) : Nat := s.rd Reg.updKeyCtl 1 0
def State.keyValid (s : State) (k : Nat) : Bool := s.bit Reg.almKeys k
def State.keyEmpty (s : State) (k : Nat) : Bool := (tget s.keys [] k).isEmpty && !s.keyValid k

/-- The hash in UPD_KEY_HASH. -/
def State.keyHash (s : State) : List Byte := (List.range 12).flatMap (fun k => leBytes 4 (s.get (Reg.updKeyHash k)).toNat)

/-- PROG. -/
def State.doKeyProg (s : State) : State :=
  if !s.keyOpen then s
  else if s.recovery && s.keyEmpty s.keySlot then
    ({ s with keys := tset s.keys [] s.keySlot s.keyHash } : State).setBit Reg.almKeys s.keySlot true
  else s.keyRefused

/-- REVOKE. -/
def State.doKeyRevoke (s : State) : State :=
  if !s.keyOpen then s
  else if s.keyValid s.keySlot && (List.range 4).any (fun k => k != s.keySlot && s.keyValid k) then
    s.setBit Reg.almKeys s.keySlot false
  else s.keyRefused

/-- SET_REQUIRE. -/
def State.doKeyRequire (s : State) : State :=
  if !s.keyOpen then s else if s.recovery then s.setBit Reg.almKeys 4 true else s.keyRefused

/-- KEY_PROG (R372). -/
def execKeyProg (dt : Nat) (s : State) : Res := .next (s.start dt).doKeyProg

/-- KEY_REVOKE (R372). -/
def execKeyRevoke (dt : Nat) (s : State) : Res := .next (s.start dt).doKeyRevoke

/-- KEY_SET_REQUIRE (R372). -/
def execKeySetRequire (dt : Nat) (s : State) : Res := .next (s.start dt).doKeyRequire

/-- FLASH_BLOCK_RETIRE (R373): FLASH_WEAR is raised as the pool falls below 26. -/
def execFlashBlockRetire (dt : Nat) (s : State) : Res :=
  let s := s.start dt
  let n := s.rd Reg.updFlash 9 0
  let s1 := (s.wr Reg.updFlash 9 0 (n - 1)).countFld Reg.updFlash 31 16 1
  .next (if n = 26 then (s1.updEvent 2).fault 34 allBanks else s1)

end Sys2Proof.Machine
end

