-- ==== Sys2Proof/Machine/Write.lean ====
section
/-! DEFINITION. What a register write does (R8 to R12, R389, R393): which registers take writes, the fields stored, the
bits cleared and the actions started, and the parts of split quantities held for their low part. -/

namespace Sys2Proof.Machine

/-! ### Storing -/

/-- A write as it reaches one quantity: the offset of its low part, its row, the value over all parts and the mask of
the parts given. -/
structure QWrite where
  off : Nat
  blk : Blk
  bi : Nat
  inst : Nat
  row : RegRow
  v : Nat
  mask : Nat

/-- Bits written 1. -/
def QWrite.ones (q : QWrite) : Nat := q.v &&& q.mask

/-- Bit `i` is written 1. -/
def QWrite.hit (q : QWrite) (i : Nat) : Bool := q.ones.testBit i

/-- Bits [hi:lo] as written. -/
def QWrite.fld (q : QWrite) (hi lo : Nat) : Nat := bitsOf q.v hi lo

/-- The RW bits `rw` of the quantity take the value written and the W1C bits written 1 clear (R12). -/
def State.storeAs (s : State) (q : QWrite) (rw : Nat) : State :=
  let old := s.rdq q.off q.row.parts
  let w := rw &&& q.mask
  let new := old - (old &&& w) + (q.v &&& w)
  s.wrq q.off q.row.parts (new - (new &&& (q.ones &&& q.row.w1c)))

def State.store (s : State) (q : QWrite) : State := s.storeAs q q.row.rw

/-! ### Registers that ignore writes -/

/-- The trigger unit or Conjunction of a register is enabled by the Almanac. -/
def State.unitOn (s : State) (u : Nat) : Bool := match s.alm with | some a => ((a.units[u]?).join).isSome | none => false
def State.conjOn (s : State) (j : Nat) : Bool := match s.alm with | some a => ((a.conjs[j]?).join).isSome | none => false

/-- A stream is open. -/
def State.stOpen (s : State) (k : Nat) : Bool := (s.stream k).st == 1 || (s.stream k).st == 2

/-- The register takes writes: it has a bit that a write can change, and what it belongs to is enabled (R70, R121, R153,
R166, R389, and the registers' own descriptions). -/
def State.takesWrites (s : State) (q : QWrite) : Bool :=
  let b := q.row.base
  (q.row.rw ||| q.row.w1c ||| q.row.w1s) != 0 &&
  match q.blk with
  | .bnk =>
    if b = 0x200 then s.alm.isNone || s.live (16 * q.bi + q.inst)
    else if 0x1000 ≤ b ∧ b < 0x1100 then s.unitOn (8 * q.bi + q.inst)
    else if 0x2000 ≤ b ∧ b < 0x2200 then s.live (16 * q.bi + q.inst)
    else true
  | .aqg => (s.gcfg q.bi).isSome
  | .epc =>
    if 0x2000 ≤ b ∧ b < 0x2400 then s.conjOn q.inst
    else if b = 0x5C then !(s.rd Reg.epcCtl 5 4 == 2) && !s.follows
    else true
  | .flt => !(b == 0x100 && s.fltSevere.testBit q.inst)
  | .upd => !(b == 0xC0 && !s.recovery)
  | .prt =>
    if 0x1000 ≤ b ∧ b < 0x1800 then s.ethExists q.inst && (b == 0x1000 || !s.bit (Reg.prtEthCtl q.inst) 0)
    else if b = 0x4008 ∨ (0x4010 ≤ b ∧ b ≤ 0x4020) then !s.stOpen q.inst
    else true
  | .hrv =>
    if b = 8 ∨ b = 0x10 then !s.bit (Reg.hrvCtl q.bi) 0
    else if b = 0x1010 then (s.hch q.bi q.inst).st ≤ 1
    else true
  | _ => true

/-- Interval-unit registers that a running unit does not take: CMD_ERR is set instead (R94). -/
def ivLocked (base : Nat) : Bool :=
  base == 0x1004 || base == 0x1008 || base == 0x100C || base == 0x1014 || base == 0x1018 || base == 0x1020 || base == 0x1030

/-! ### Reserved encodings (R11) -/

/-- A field is written with an encoding that its description calls reserved. Values that a description only leaves out are taken:
SLOPE 2 of a type that names 0 and 1, and a histogram SHIFT above 17 (log entries 95, 96). -/
def badCode (q : QWrite) : Bool :=
  let b := q.row.base
  match q.blk with
  | .epc =>
    if b = 0x20 then q.fld 5 4 == 3
    else if b = 0x28 then q.fld 1 0 == 3
    else if b = 0x1000 then q.fld 11 8 == 0 || 6 ≤ q.fld 18 16
    else if b = 0x1004 then 4 ≤ q.fld 14 12 || 4 ≤ q.fld 30 28
    else if b = 0x1018 then 20 < q.fld 4 0
    else if b = 0x2400 then q.fld 4 4 == 1 && decide (q.inst < 8)
    else false
  | .bnk => b == 0x1000 && (decide (8 ≤ q.fld 3 0) || q.fld 5 4 == 3)
  | .aqg =>
    if b = 0x14 then q.fld 1 0 == 3
    else if b = 0x400 then q.fld 9 8 == 3 || q.fld 5 4 == 0
    else if b = 0x500 then q.fld 5 4 == 3
    else false
  | .flt => b == 0x100 && 4 ≤ q.fld 10 8 && q.inst != 11 && q.inst != 14 && q.inst != 15 && q.inst != 16
  | .lnt => b == 8 && (q.fld 1 0 == 3 || q.fld 9 8 == 3)
  | _ => false

/-! ### Blocks -/

/-- An action done where its bit is written 1. -/
def State.onBit (s : State) (q : QWrite) (i : Nat) (f : State → State) : State := if q.hit i then f s else s

def State.writeFltBlk (s : State) (q : QWrite) : State :=
  if q.row.base = 0 then s.doStatusClear q.ones
  else if q.row.base = 0x18 then s.doAdopt q.ones
  else if q.row.base = 0x100 ∧ (q.inst = 11 ∨ q.inst = 14 ∨ q.inst = 15 ∨ q.inst = 16) then s.storeAs q 0xFFFF00FF
  else s.store q

def State.writeAlm (s : State) (q : QWrite) : State :=
  let s1 := s.store q
  if q.row.base = 0 then ((s1.onBit q 0 State.doLoad).onBit q 1 State.doReload).onBit q 2 State.doCancelReload else s1

/-- DISCIPLINE leaves OFF: the next edge is the first (R89). -/
def State.ppsFirst (s : State) (old : Nat) : State :=
  if old = 0 ∧ s.rd Reg.epcCtl 5 4 ≠ 0 then { s with ppsPrev := none, ppsLast := s.now } else s

/-- Interval units: 0x1000 to 0x10FF. -/
def State.writeIv (s : State) (q : QWrite) : State :=
  let u := q.inst
  if ivLocked q.row.base && s.ivState u != 0 then s.setBit (Reg.epcIvStatus u) 13 true
  else
    let s1 := s.store q
    if q.row.base = 0x1000 then (s1.onBit q 0 (fun s => s.doIvRun u)).onBit q 1 (fun s => s.ivStop u) else s1

def State.writeEpc (s : State) (q : QWrite) : State :=
  let b := q.row.base
  if b = 0x20 then
    (((((s.store q).ppsFirst (s.rd Reg.epcCtl 5 4)).onBit q 0 State.doLoadNow).onBit q 1 State.doLoadPps).onBit q 2
      State.doPpsCancel)
  else if b = 0x5C then s.wr Reg.epcFoffset 23 0 (unsigned 24 (clampI (-1099511) 1099511 (signed 24 (q.fld 23 0))))
  else if 0x1000 ≤ b ∧ b < 0x1100 then s.writeIv q
  else if 0x2000 ≤ b ∧ b < 0x2040 then
    let s1 := s.store q
    let s2 := if b = 0x2000 then s1.onBit q 31 (fun s => s.doCjClr q.inst) else s1
    let s3 := s2.handLooseConj q.inst
    (match s3.conjOwner q.inst with | some g => s3.recheckHand g | none => s3)
  else if b = 0x2400 then
    (((s.store q).pinSense q.inst).onBit q 30 (fun s => s.doPinClr q.inst)).onBit q 31 (fun s => s.doPinUnmask q.inst)
  else if b = 0x2504 then s.onBit q 0 State.doSoftFire
  else if b = 0x2600 then
    let s1 := s.store q
    if s1.bit (Reg.epcToutCtl q.inst) 0 then s1 else s.toutStop q.inst |>.store q
  else s.store q

def State.writeCal (s : State) (q : QWrite) : State :=
  let b := q.row.base
  if b = 0 then (((s.store q).onBit q 1 (fun s => s.doSeason false)).onBit q 2 (fun s => s.doSeason true)).driftCheck (List.range 16)
  else if b = 8 then (s.store q).driftCheck (List.range 16)
  else if b = 0x14 then s.doCalDefer (q.fld 15 0)
  else if b = 0x18 then s.doCalRun (q.fld 15 0)
  else s.store q

def State.writeUpd (s : State) (q : QWrite) : State :=
  let b := q.row.base
  if b = 0 then
    (((((((s.onBit q 0 State.doBegin).onBit q 1 State.doAbandon).onBit q 2 State.doVerify).onBit q 3
      State.doActivate).onBit q 4 State.doCancelActivation).onBit q 5 State.doConfirm).onBit q 8 State.doVote).onBit q 9
      State.doDistribute
  else if b = 0x78 then s.onBit q 0 State.doBlkGo
  else if b = 0xF0 then
    (((s.store q).onBit q 4 State.doKeyProg).onBit q 5 State.doKeyRevoke).onBit q 6 State.doKeyRequire
  else s.store q

/-- After LNT_CTL: with no output enabled a push ends, and settings that wait are in force at once. -/
def State.lntSwitched (s : State) : State :=
  if s.lntOn then s else ({ s with lnt := { s.lnt with pushing := false, winOpen := false } } : State).applyIfOff

def State.writeLnt (s : State) (q : QWrite) : State :=
  let s1 := s.store q
  if q.row.base = 0 then s1.lntSwitched
  else if q.row.base = 0x50 then s1.onBit q 31 State.doCommit
  else if q.row.base = 0x94 then s1.onBit q 31 State.doDcs
  else s1

def State.writePrt (s : State) (q : QWrite) : State :=
  let b := q.row.base
  if b = 0x1000 ∧ s.bit (Reg.prtEthCtl q.inst) 0 then s.storeAs q 1
  else if b = 0x4000 then
    (((if s.stOpen q.inst then s else s.store q).onBit q 0 (fun s => s.doOpen q.inst)).onBit q 1 (fun s => s.doClose q.inst))
  else s.store q

def State.writeRng (s : State) (q : QWrite) : State :=
  let b := q.row.base
  let s1 := s.store q
  if b = 8 then s1.onBit q 31 State.doPosCommit
  else if b = 0x60 then (s1.setPeriodic (s1.bit Reg.rngCalCtl 1)).onBit q 0 State.doMark
  else if b = 0x400 then s1.doResolve q.inst
  else if b = 0x800 then s1.doForward q.inst
  else s1

/-- The shadow of a channel outside the groups takes effect, and a withheld hand-over is judged again. -/
def State.chanWritten (s : State) (c : Nat) : State :=
  let s1 := s.handLooseChan c
  match s1.groupOfChan c with
  | some g => s1.recheckHand g
  | none => s1

def State.writeBnk (s : State) (q : QWrite) : State :=
  let b := q.row.base
  let n := q.bi
  if b = 0x104 then s.onBit q 0 (fun s => s.doOvrClear n)
  else if b = 0x200 then (s.store q).chanWritten (16 * n + q.inst)
  else if 0x1000 ≤ b ∧ b < 0x1100 then
    let u := 8 * n + q.inst
    let s1 := s.store q
    let s2 := if b = 0x1000 then (s1.onBit q 30 (fun s => s.doTrgClr n q.inst)).onBit q 31 (fun s => s.doTrgUnmask n q.inst)
      else s1
    let s3 := s2.handLooseUnit u
    (match s3.ownerOf u with | some g => s3.recheckHand g | none => s3)
  else if b = 0x2000 then s.doFltWrite n q.inst (BitVec.ofNat 32 q.v)
  else if b = 0x2204 then (s.store q).onBit q 10 (fun s => s.clearSat n)
  else s.store q

def State.writeAqg (s : State) (q : QWrite) : State :=
  let b := q.row.base
  let g := q.bi
  let s1 := (s.store q).recheckHand g
  if b = 0 then s1.doCtl g (q.hit 2) (q.hit 1) (q.hit 0)
  else if b = 0xAC then s1.onBit q 0 (fun s => s.doRelease g)
  else if b = 0x400 then s1.onBit q 0 (fun s => s.doFlush g)
  else if b = 0x500 then s1.onBit q 1 (fun s => s.doHistEmit g)
  else s1

def State.writeMem (s : State) (q : QWrite) : State :=
  let s1 := s.store q
  if q.row.base = 4 then (s1.onBit q 0 (fun s => s.doMemFail q.bi)).onBit q 1 (fun s => s.doMemClr q.bi) else s1

def State.writeMemc (s : State) (q : QWrite) : State :=
  if q.row.base = 0x100 then s.doRegulator q.inst false (BitVec.ofNat 32 q.v)
  else if q.row.base = 0x104 then s.doRegulator q.inst true (BitVec.ofNat 32 q.v)
  else s.store q

/-- HRV_CTL: RUN set or cleared where it changes, then CLR. -/
def State.writeHrvCtl (s : State) (q : QWrite) : State :=
  let e := q.bi
  let s1 := if q.hit 0 = s.bit (Reg.hrvCtl e) 0 then s
    else if q.hit 0 then s.doHrvRun e else s.setBit (Reg.hrvCtl e) 0 false
  s1.onBit q 8 (fun s => s.clearWords (hrvCounters e))

/-- HRV_CH_CTL: STRICT, then ENABLE where it changes, then RESUME. -/
def State.writeChCtl (s : State) (q : QWrite) : State :=
  let e := q.bi
  let c := q.inst
  let s1 := s.storeAs q 2
  let s2 := if q.hit 0 = s.bit (Reg.hrvChCtl e c) 0 then s1
    else if q.hit 0 then s1.doEnable e c else s1.doDisable e c
  s2.onBit q 8 (fun s => s.doResume e c)

def State.writeHrv (s : State) (q : QWrite) : State :=
  let b := q.row.base
  let e := q.bi
  if b = 0 then s.writeHrvCtl q
  else if b = 0x18 then s.doCqHead e (BitVec.ofNat 32 q.v)
  else if b = 0x1000 then s.writeChCtl q
  else if b = 0x1004 then s.doDoorbell e q.inst
  else if b = 0x1008 then
    s.onBit q 4 (fun s => s.setHch e q.inst { (s.hch e q.inst) with linkLost := false })
  else s.store q

/-- The effect of a write that is not ignored. -/
def State.applyWrite (s : State) (q : QWrite) : State :=
  match q.blk with
  | .glb => if q.row.base = 0x80 then s.doGlbReset (BitVec.ofNat 32 q.v) else s
  | .pwr => s.store q
  | .flt => s.writeFltBlk q
  | .alm => s.writeAlm q
  | .epc => s.writeEpc q
  | .cal => s.writeCal q
  | .upd => s.writeUpd q
  | .lnt => s.writeLnt q
  | .prt => s.writePrt q
  | .msix => (s.store q).flushVectors
  | .rng => s.writeRng q
  | .bnk => s.writeBnk q
  | .aqg => s.writeAqg q
  | .mem => s.writeMem q
  | .memc => s.writeMemc q
  | .hrv => s.writeHrv q
  | .snp => s.store q

/-! ### Words, pairs and split quantities (R8, R10, R393) -/

/-- A 32-bit word of an area of bytes. -/
def State.writeBuffer (s : State) (off : Nat) (w : Word) : Option State :=
  match blkAt off with
  | some (.hrv, e, o) =>
    if 0x8000 ≤ o then some (s.putLmem (32768 * e + (o - 0x8000)) (leBytes 4 w.toNat)) else none
  | some (.upd, _, o) =>
    if 0x1000 ≤ o ∧ o < 0x2000 then some (s.putWin (o - 0x1000) (leBytes 4 w.toNat)) else none
  | _ => none

/-- The parts a requester holds of a quantity, from part `p` on: their value and mask. -/
def heldParts (l : List ((Requester × Nat) × Word)) (rq : Requester) (base : Nat) : Nat → Nat → Nat × Nat
  | _, 0 => (0, 0)
  | p, n + 1 =>
    let r := heldParts l rq base (p + 1) n
    match kept l rq (base + 4 * p) with
    | some w => (w.toNat * 2 ^ (32 * p) + r.1, 0xFFFFFFFF * 2 ^ (32 * p) + r.2)
    | none => r

/-- The parts of a quantity that a requester held, spent. -/
def State.spendHeld (s : State) (rq : Requester) (base n : Nat) : State :=
  { s with heldWords := s.heldWords.filter (fun x => !(x.1.1 == rq && decide (base < x.1.2 ∧ x.1.2 < base + 4 * n))) }

/-- A quantity written from its low part: `given` parts come with the access, the others from what the requester holds. -/
def State.writeQuantity (s : State) (rq : Requester) (h : Hit) (off v given : Nat) : Res :=
  let n := h.row.parts
  let r := heldParts s.heldWords rq off given (n - given)
  let q : QWrite := ⟨off, h.blk, h.bi, h.inst, h.row, v + r.1, 2 ^ (32 * given) - 1 + r.2⟩
  if !s.takesWrites q then .next s
  else if (q.ones &&& h.row.rsv) != 0 || badCode q then .fault .reservedValue
  else .next ((s.spendHeld rq off n).applyWrite q)

/-- An upper part held for its requester. -/
def State.holdPart (s : State) (rq : Requester) (h : Hit) (off : Nat) (w : Word) : Res :=
  let q : QWrite := ⟨off - 4 * h.part, h.blk, h.bi, h.inst, h.row, w.toNat * 2 ^ (32 * h.part), 0xFFFFFFFF * 2 ^ (32 * h.part)⟩
  if !s.takesWrites q then .next s
  else if (q.ones &&& h.row.rsv) != 0 then .fault .reservedValue
  else .next { s with heldWords := keepWord s.heldWords rq off w }

/-- A 32-bit write. -/
def State.write32 (s : State) (rq : Requester) (off : Nat) (w : Word) : Res :=
  match s.writeBuffer off w with
  | some s1 => .next s1
  | none => match regAt off with
    | none => .next s
    | some h => if h.part = 0 then s.writeQuantity rq h off w.toNat 1 else s.holdPart rq h off w

/-- A write that covers the low two parts of one split quantity: the register and the offset of its low part. -/
def pairOf (off : Nat) : Option Hit :=
  match regAt off with
  | some h => if h.part = 0 ∧ 2 ≤ h.row.parts then some h else none
  | none => none

/-- One write of an access under a judgement: applied, discarded or refused at a port (R273, R296, R397). -/
def State.judged (s : State) (rq : Requester) (port : Nat) (r : Reach) (f : State → Res) : Res :=
  match r with
  | .allowed => f (s.accessDemand rq)
  | .discarded => .next (s.accessDemand rq)
  | .refused w => .next ((s.readDemand rq).refuse port w)

/-- A write access of `width` bytes, each part judged by the offset it writes. One of another width or alignment has no
effect. -/
def State.writeBy (s : State) (rq : Requester) (off width v port : Nat) (judge : State → Nat → Reach) : Res :=
  if width = 4 ∧ off % 4 = 0 then
    s.judged rq port (judge s off) (fun s => s.write32 rq off (BitVec.ofNat 32 v))
  else if width = 8 ∧ off % 8 = 0 then
    match pairOf off with
    | some h => s.judged rq port (judge s off) (fun s => s.writeQuantity rq h off (v % 2 ^ 64) 2)
    | none =>
      match s.judged rq port (judge s off) (fun s => s.write32 rq off (BitVec.ofNat 32 v)) with
      | .next s1 =>
        s1.judged rq port (judge s1 (off + 4)) (fun s => s.write32 rq (off + 4) (BitVec.ofNat 32 (v / 2 ^ 32)))
      | r => r
  else .next s

/-- A write access of a requester. -/
def State.writeAccess (s : State) (rq : Requester) (off width v : Nat) (broadcast east : Bool) : Res :=
  s.writeBy rq off width v (portOf rq east) (fun s o => s.writeReach rq o broadcast east)

end Sys2Proof.Machine
end

