-- ==== Sys2Proof/Machine/Access.lean ====
section
/-! DEFINITION. Register accesses as whole commands (R8 to R10, R389, R393), reads and writes through the windows of BAR4,
and the CTL flits that serve them (R25, R293 to R297). -/

namespace Sys2Proof.Machine

/-! ### BAR0 -/

/-- REGISTER_WRITE (R8, R10, R393, R397). -/
def execRegisterWrite (dt : Nat) (rq : Requester) (off width value : Nat) (s : State) : Res :=
  (s.start dt).writeAccess rq off width value true true

/-- A port that the Almanac disables (R45). The ring's reads are not shut out. -/
def State.disabledFor (s : State) (rq : Requester) : Bool :=
  match rq with
  | .pf0 => false
  | .ring _ => false
  | _ => s.priv (portOf rq true) == 1

/-- The answer of a port to a read while it is disabled (R273). -/
def State.disabledAnswer (s : State) (rq : Requester) : State :=
  match rq with
  | .smbus => s.smbNack 5
  | .pf1 => (s.refuse 0 5).emit .unsupported
  | _ => s.refuse (portOf rq true) 5

/-- SPLIT_LOW_READ (R8, R9, R394). -/
def execSplitLowRead (dt : Nat) (rq : Requester) (off width : Nat) (s : State) : Res :=
  let s := (s.start dt).readDemand rq
  if s.disabledFor rq then .next (s.disabledAnswer rq)
  else
    let r := s.readAccess rq off width
    .next (r.2.emit (.read r.1))

/-! ### The merged header of a procession (R25) -/

/-- One word of two devices' headers merged. -/
def mergeWord (o a b : Nat) : Nat :=
  if o = 0xC then a + b else if o = 0x30 ∨ o = 0x34 ∨ o = 0x38 then a ||| b else a

/-- The words of an access at `o` merged. -/
def mergeWords (o : Nat) (wide : Bool) (a b : Nat) : Nat :=
  mergeWord o (a % 2 ^ 32) (b % 2 ^ 32) + (if wide then 2 ^ 32 * mergeWord (o + 4) (a / 2 ^ 32) (b / 2 ^ 32) else 0)

/-- A member that did not answer sets UNREACHABLE. -/
def unreachable (o acc : Nat) : Nat := if o = 0x30 then acc ||| 0x400 else acc

/-- The digest of a member of a procession as of the latest mark: this device's own, that of a procession it heads, or of another
device what that device's digest is, which this unit is not told (R301; log entry 107). -/
def State.unitDigest (s : State) (a : Almanac) : Nat → RUnit → List Byte
  | 0, _ => []
  | _ + 1, .dev p => if p = s.ringPos then s.digest else leBytes 32 (Config.farDigest p s.markId).toNat
  | n + 1, .proc i =>
    match (if s.heads.contains i then s.procDigest i else none) with
    | some dg => dg
    | none => sha256 ((a.memberList i).flatMap (s.unitDigest a n))

/-- The word of the merged header of a procession, with the words gathered from its devices. -/
def State.procWord (s : State) (i o acc : Nat) : Nat × State :=
  match s.alm with
  | none => (0, s)
  | some a =>
    if o = 0 then (2, s)
    else if o = 4 then (256 * a.depth 20 (.proc i) + s.headOf i, s)
    else if o = 8 then ((a.memberList i).length, s)
    else if o = 0xC ∨ o = 0x30 ∨ o = 0x34 ∨ o = 0x38 then (acc, s)
    else if o < 0x30 then
      if !s.digestOn then (0, s)
      else (leAt (s.unitDigest a 20 (.proc i)) (o - 0x10) 4, s)
    else
      let f := s.fresh
      let up := (a.declAt i).2.2
      let mem := if up < a.decls.length then (a.memberList up).findIdx (fun m => m == .proc i) else 0
      (2 ^ 31 * b2n (Config.freeBit f.1) + 65536 * s.ringPos + 16 * (a.level 64 i - 1) + mem % 16, f.2)

/-- What a read of a procession's header returns. -/
def State.headerAnswer (s : State) (i o : Nat) (wide : Bool) (acc : Nat) : State :=
  let r := s.procWord i o (acc % 2 ^ 32)
  if wide then
    let q := r.2.procWord i (o + 4) (acc / 2 ^ 32)
    q.2.emit (.read (r.1 + 2 ^ 32 * q.1))
  else r.2.emit (.read r.1)

/-! ### Windows (R293 to R295) -/

/-- A read that returns all ones. -/
def State.readOnes (s : State) (width : Nat) : State := s.emit (.read (256 ^ width - 1))

/-- A position is this unit's own. -/
def State.mine (s : State) (pos : Nat) : Bool := pos == s.ringPos

/-- One flit of a CTL read to each unit of a list, all under one tag. -/
def State.sendReads (s : State) (tag off : Nat) (wide : Bool) (l : List Nat) : State :=
  l.foldl (fun s p => s.sendOne 0 p 3 (ctlBody opRead tag off (b2n wide) 0)) s

/-- A read of the merged header: one CTL read per device, and this device's own words. -/
def State.readHeader (s : State) (w i off : Nat) (wide : Bool) : State :=
  let all := s.arcOfDecl i
  let far := all.filter (fun p => !s.mine p)
  let own : Nat × State := if all.any s.mine then
      s.readAccess (.ring (⟨s.ringPos % 64, Nat.mod_lt _ (by decide)⟩)) off (if wide then 8 else 4)
    else (0, s)
  if far.isEmpty then own.2.headerAnswer i off wide own.1
  else
    let s1 := own.2
    let tag := s1.ctlTag
    ({ s1 with ctlTag := (tag + 1) % 4096,
               ctlReqs := s1.ctlReqs ++ [⟨tag, .header i off, far, s1.now, wide, own.1, w⟩] } : State).sendReads tag off wide far

/-- A read through a window once the writes before it are over. A device's window, this unit's own among them, has the reach of
the CONVOY class (R399; log entry 130). -/
def State.readWindow (s : State) (w off width : Nat) : State :=
  let wide : Bool := width == 8
  let far := fun (s : State) (pos : Nat) =>
    if s.mine pos then
      let r := s.readAccess (.ring ⟨pos % 64, Nat.mod_lt _ (by decide)⟩) off width
      r.2.emit (.read r.1)
    else s.sendCtl opRead (some pos) off 0 wide .read [pos] w
  match s.winTarget w with
  | .none _ => s.readOnes width
  | .at_ (.dev pos) => far s pos
  | .at_ (.proc i) => if off < 0x40 then s.readHeader w i off wide else far s (s.headOf i)

/-- The writes through a window that are neither answered nor timed out. -/
def State.winWrites (s : State) (w : Nat) : List Nat :=
  (s.ctlReqs.filter (fun q => q.why == .write && q.win == w)).map (fun q => q.tag)

/-- An access through a window has a width and an alignment that R8 allows, and lies in the window. -/
def winFits (off width : Nat) : Bool :=
  decide (off + width ≤ 0x2000000) && ((width == 4 && off % 4 == 0) || (width == 8 && off % 8 == 0))

/-- WINDOW_READ (R293, R294). -/
def execWindowRead (dt : Nat) (w : Fin 64) (off width : Nat) (s : State) : Res :=
  let s := (s.start dt).demandExit
  if s.inReset || s.recovery || !winFits off width then .next (s.readOnes width)
  else
    let tags := s.winWrites w
    if tags.isEmpty then .next (s.readWindow w off width)
    else .next { s with winWait := s.winWait ++ [(w.val, off, width, tags)] }

/-- The reads that waited for one write, now that it is over; those that wait for no other are served in order. -/
def State.serveWaits (s : State) (tag : Nat) : State :=
  let l := s.winWait.map (fun (x : Nat × Nat × Nat × List Nat) => (x.1, x.2.1, x.2.2.1, x.2.2.2.filter (fun t => t != tag)))
  let s1 : State := { s with winWait := l.filter (fun x => !x.2.2.2.isEmpty) }
  (l.filter (fun x => x.2.2.2.isEmpty)).foldl (fun s (x : Nat × Nat × Nat × List Nat) => s.readWindow x.1 x.2.1 x.2.2.1) s1

/-- A write that the unit holding the window applies itself, judged as at any device (R399): a broadcast write, or one to its own
device. -/
def State.writeOwn (s : State) (off width v : Nat) (broadcast : Bool) : Res :=
  let pos := s.ringPos
  if s.isHeadOver pos && convoyReach off broadcast then
    s.writeBy (.ring ⟨pos % 64, Nat.mod_lt _ (by decide)⟩) off width v 10 (fun s o =>
      if convoyReach o broadcast && s.blockOpen .pf0 o then .allowed else .discarded)
  else .next (s.countFld Reg.rngCtlStats 31 16 1)

/-- WINDOW_WRITE (R293, R295). A write of a header is ignored (R24). -/
def execWindowWrite (dt : Nat) (w : Fin 64) (off width value : Nat) (s : State) : Res :=
  let s := (s.start dt).demandExit
  let wide : Bool := width == 8
  if s.inReset || s.recovery || !winFits off width then .next s
  else match s.winTarget w with
    | .none _ => .next s
    | .at_ (.dev pos) =>
      if s.mine pos then s.writeOwn off width value false
      else .next (s.sendCtl opWrite (some pos) off value wide .write [pos] w)
    | .at_ (.proc i) =>
      if off < 0x40 then .next s
      else
        let all := s.arcOfDecl i
        let far := all.filter (fun p => !s.mine p)
        let s1 := if far.isEmpty then s else s.sendCtl opBroadcast none off value wide .write far w
        if all.any s.mine then s1.writeOwn off width value true else .next s1

/-! ### CTL flits (R284, R294 to R297) -/

/-- The requests outstanding with one under a tag replaced, or dropped. -/
def State.putReq (s : State) (tag : Nat) (q : Option CtlReq) : State :=
  { s with ctlReqs := s.ctlReqs.filterMap (fun x => if x.tag = tag then q else some x) }

/-- The position of a member in UPD_STATUS terms: a vote, or the end of its erase. -/
def State.statusRead (s : State) (pos st : Nat) : State :=
  if s.vote.isSome then
    (if st = 4 then s.castVote pos true else if st = 5 then s.castVote pos false else s.askReg pos Reg.updStatus .vote)
  else s.distErased pos st

/-- What the purpose of a request makes of an answer: OP 3, 4 or 5, and the data; `left` have not answered. -/
def State.answered (s : State) (q : CtlReq) (pos op data : Nat) (left : List Nat) : State :=
  let width := if q.wide then 8 else 4
  match q.why with
  | .read => if op = 3 then s.emit (.read (data % 256 ^ width)) else s.readOnes width
  | .header i off => if left.isEmpty then s.headerAnswer i off q.wide q.acc else s
  | .write => if left.isEmpty then s.serveWaits q.tag else s
  | .release h => s.sendReleaseAck h (if op = 3 then 0 else if op = 4 then 2 else 1)
  | .vote => if op = 3 then s.statusRead pos (data % 16) else s
  | .missing => s.distMissing pos (if op = 3 then some (data % 2 ^ 27) else none)
  | .activate => s.activateAnswer (op == 3) left

/-- A request with one more answer gathered. -/
def CtlReq.gather (q : CtlReq) (pos op data : Nat) : CtlReq :=
  { q with from_ := q.from_.filter (fun p => p != pos),
           acc := match q.why with
             | .header _ o => if op = 3 then mergeWords o q.wide q.acc data else unreachable o q.acc
             | _ => q.acc }

/-- Requests that write (R295). -/
def CtlWhy.writes : CtlWhy → Bool
  | .write => true
  | .release _ => true
  | .activate => true
  | _ => false

/-- A response: it is matched by its tag and its origin. REFUSED answers to writes are counted. -/
def State.takeResponse (s : State) (src op tag data : Nat) : State :=
  match s.ctlReqs.find? (fun q => q.tag == tag && q.from_.contains src) with
  | none => s
  | some q =>
    let q1 := q.gather src op data
    let s1 := s.putReq tag (if q1.from_.isEmpty then none else some q1)
    let s2 := if op = 4 ∧ q.why.writes then s1.countFld Reg.rngCtlStats 31 16 1 else s1
    s2.answered q1 src op data q1.from_

/-- An answer to a unit. -/
def State.respond (s : State) (src op tag off : Nat) (wide : Bool) (data : Nat) : State :=
  s.sendOne 0 src 3 (ctlBody op tag off (b2n wide) data)

/-- The bytes of a CTL access. -/
def ctlWidth (wide : Bool) : Nat := if wide then 8 else 4

/-- A write of the ring is refused at an offset. -/
def State.refuses (s : State) (rq : Requester) (off : Nat) (broadcast east : Bool) : Bool :=
  match s.writeReach rq off broadcast east with
  | .refused _ => true
  | _ => false

/-- A CTL write carried out and answered. -/
def State.serveWrite (s : State) (rq : Requester) (east : Bool) (src op tag off : Nat) (wide : Bool) (data : Nat) : Res :=
  if s.refuses rq off (op == opBroadcast) east || (wide && s.refuses rq (off + 4) (op == opBroadcast) east) then
    .next ((s.refuse (portOf rq east) 7).respond src 4 tag off wide 0)
  else match s.writeAccess rq off (ctlWidth wide) data (op == opBroadcast) east with
    | .next s1 => .next (s1.respond src 3 tag off wide 0)
    | r => r

/-- A read or write that a flit carries out here. -/
def State.serveCtl (s : State) (d : Dir) (src op tag off : Nat) (wide : Bool) (data : Nat) : Res :=
  let rq : Requester := .ring ⟨src % 64, Nat.mod_lt _ (by decide)⟩
  if off % ctlWidth wide ≠ 0 then .next (s.respond src 5 tag off wide (if op = 0 then 256 ^ ctlWidth wide - 1 else 0))
  else if op = opRead then
    let r := s.readAccess rq off (ctlWidth wide)
    .next (r.2.respond src 3 tag off wide r.1)
  else s.serveWrite rq (dirNat d == 0) src op tag off wide data

/-- What a CTL flit for this unit does. A second copy of a broadcast write within 4 µs is discarded. -/
def State.takeCtl (s : State) (d : Dir) (src b : Nat) : Res :=
  let op := bitsOf b 3 0
  let tag := bitsOf b 15 4
  let off := bitsOf b 40 16
  let wide := b.testBit 41
  let data := bitsOf b 105 42
  if 5 < op then .next s
  else if 3 ≤ op then .next (s.takeResponse src op tag data)
  else if op = opBroadcast then
    if s.ctlSeen.any (fun x => x.1 == src && x.2.1 == tag && decide (s.now ≤ x.2.2 + 4 * usec)) then .next s
    else
      let seen := (src, tag, s.now) :: s.ctlSeen.filter (fun (x : Nat × Nat × Nat) => decide (s.now ≤ x.2.2 + 4 * usec))
      ({ s with ctlSeen := seen } : State).serveCtl d src op tag off wide data
  else s.serveCtl d src op tag off wide data

/-- CTL_FLIT (R284, R294 to R297). -/
def execCtlFlit (dt : Nat) (d : Dir) (flit : List Native) (s : State) : Res :=
  let s := s.start dt
  match s.recvFlit d 3 flit with
  | none => .next s
  | some (h, b) =>
    let s1 := s.repeatFlit d h b
    if s1.forMe h then s1.takeCtl d h.src b else .next s1

/-- RNG_CTL_TIMEOUT in ticks. -/
def State.ctlTimeout (s : State) : Nat := min 5000 (max 5 (s.rd Reg.rngCtlTimeout 15 0)) * usec

/-- What the purpose of a request makes of answers that do not come. -/
def State.unanswered (s : State) (q : CtlReq) : State :=
  match q.why with
  | .read => s.readOnes (if q.wide then 8 else 4)
  | .header i off => s.headerAnswer i off q.wide (unreachable off q.acc)
  | .write => s.serveWaits q.tag
  | .vote => if s.vote.isSome then s.forAll q.from_ (fun s p => s.askReg p Reg.updStatus .vote) else s
  | .missing => s.forAll q.from_ (fun s p => s.distMissing p none)
  | .release _ => s
  | .activate => s

/-- CTL_TIMEOUT (R294, R295). The answers to ACTIVATE have a limit of their own (R368). -/
def execCtlTimeout (dt : Nat) (tag : Nat) (s : State) : Res :=
  let s := s.start dt
  match s.ctlReqs.find? (fun q => q.tag == tag && q.why != .activate && decide (q.sentAt + s.ctlTimeout ≤ s.now)) with
  | none => .next s
  | some q => .next (((s.putReq tag none).countFld Reg.rngCtlStats 15 0 q.from_.length).unanswered q)

end Sys2Proof.Machine
end

