-- ==== Sys2Proof/Machine/Dispatch.lean ====
section
/-! DEFINITION. The dispatch: one arm for each command, one direct call of its meaning. -/

namespace Sys2Proof.Machine

def exec (i : Instr) (s : State) : Host.Outcome State Fault Refusal :=
  match i with
  | .registerWrite dt rq off width value => Sys2Proof.Machine.execRegisterWrite dt rq off width value s
  | .splitLowRead dt rq off width => Sys2Proof.Machine.execSplitLowRead dt rq off width s
  | .coldReset dt => Sys2Proof.Machine.execColdReset dt s
  | .rstNAssert dt => Sys2Proof.Machine.execRstNAssert dt s
  | .glbResetWrite dt rq value => Sys2Proof.Machine.execGlbResetWrite dt rq value s
  | .watchdogExpiry dt => Sys2Proof.Machine.execWatchdogExpiry dt s
  | .fundamentalReset dt => Sys2Proof.Machine.execFundamentalReset dt s
  | .warmResetAssert dt => Sys2Proof.Machine.execWarmResetAssert dt s
  | .resetRelease dt => Sys2Proof.Machine.execResetRelease dt s
  | .defaultAlmanacLoad dt => Sys2Proof.Machine.execDefaultAlmanacLoad dt s
  | .almanacLoad dt => Sys2Proof.Machine.execAlmanacLoad dt s
  | .almanacCheckEnd dt => Sys2Proof.Machine.execAlmanacCheckEnd dt s
  | .almanacReload dt => Sys2Proof.Machine.execAlmanacReload dt s
  | .reloadAsleepTimeout dt => Sys2Proof.Machine.execReloadAsleepTimeout dt s
  | .reloadCancel dt => Sys2Proof.Machine.execReloadCancel dt s
  | .reloadCommit dt => Sys2Proof.Machine.execReloadCommit dt s
  | .reloadBankResetEnd dt => Sys2Proof.Machine.execReloadBankResetEnd dt s
  | .ovrClear dt b => Sys2Proof.Machine.execOvrClear dt b s
  | .converterReady dt b => Sys2Proof.Machine.execConverterReady dt b s
  | .converterStartTimeout dt b => Sys2Proof.Machine.execConverterStartTimeout dt b s
  | .converterStartRetry dt b => Sys2Proof.Machine.execConverterStartRetry dt b s
  | .settlingEnd dt b c => Sys2Proof.Machine.execSettlingEnd dt b c s
  | .samplePllLoss dt => Sys2Proof.Machine.execSamplePllLoss dt s
  | .samplePllRelock dt => Sys2Proof.Machine.execSamplePllRelock dt s
  | .refQualified dt hundred => Sys2Proof.Machine.execRefQualified dt hundred s
  | .corePllLock dt => Sys2Proof.Machine.execCorePllLock dt s
  | .samplePllLock dt => Sys2Proof.Machine.execSamplePllLock dt s
  | .refLostBeforeLock dt => Sys2Proof.Machine.execRefLostBeforeLock dt s
  | .refLoss dt => Sys2Proof.Machine.execRefLoss dt s
  | .refRelock dt => Sys2Proof.Machine.execRefRelock dt s
  | .unsettledClear dt => Sys2Proof.Machine.execUnsettledClear dt s
  | .ovenReadyChange dt level => Sys2Proof.Machine.execOvenReadyChange dt level s
  | .corePllLoss dt => Sys2Proof.Machine.execCorePllLoss dt s
  | .loadNow dt => Sys2Proof.Machine.execLoadNow dt s
  | .loadPps dt => Sys2Proof.Machine.execLoadPps dt s
  | .ppsLoadCancel dt => Sys2Proof.Machine.execPpsLoadCancel dt s
  | .ppsEdge dt ago => Sys2Proof.Machine.execPpsEdge dt ago s
  | .ppsMissing dt => Sys2Proof.Machine.execPpsMissing dt s
  | .ivRun dt u => Sys2Proof.Machine.execIvRun dt u s
  | .ivStop dt u => Sys2Proof.Machine.execIvStop dt u s
  | .ivStartEvent dt u => Sys2Proof.Machine.execIvStartEvent dt u s
  | .ivStopEvent dt u => Sys2Proof.Machine.execIvStopEvent dt u s
  | .ivTimeout dt u => Sys2Proof.Machine.execIvTimeout dt u s
  | .ivPrescaleCountEnd dt u => Sys2Proof.Machine.execIvPrescaleCountEnd dt u s
  | .ivGateClose dt u => Sys2Proof.Machine.execIvGateClose dt u s
  | .triggerUnitFire dt b k first vins => Sys2Proof.Machine.execTriggerUnitFire dt b k first vins s
  | .triggerUnitStuck dt b unit => Sys2Proof.Machine.execTriggerUnitStuck dt b unit s
  | .trgUnmask dt b unit => Sys2Proof.Machine.execTrgUnmask dt b unit s
  | .trgClr dt b unit => Sys2Proof.Machine.execTrgClr dt b unit s
  | .extPinEdge dt pin level ago short => Sys2Proof.Machine.execExtPinEdge dt pin level ago short s
  | .pinStuck dt pin => Sys2Proof.Machine.execPinStuck dt pin s
  | .pinUnmask dt pin => Sys2Proof.Machine.execPinUnmask dt pin s
  | .pinClr dt pin => Sys2Proof.Machine.execPinClr dt pin s
  | .softFire dt => Sys2Proof.Machine.execSoftFire dt s
  | .wakePinEdge dt pin ago => Sys2Proof.Machine.execWakePinEdge dt pin ago s
  | .conjunctionEvent dt j => Sys2Proof.Machine.execConjunctionEvent dt j s
  | .conjunctionExpiry dt j => Sys2Proof.Machine.execConjunctionExpiry dt j s
  | .cjClr dt j => Sys2Proof.Machine.execCjClr dt j s
  | .trigOutPulseStart dt o => Sys2Proof.Machine.execTrigOutPulseStart dt o s
  | .trigOutPulseEnd dt o => Sys2Proof.Machine.execTrigOutPulseEnd dt o s
  | .handover dt g => Sys2Proof.Machine.execHandover dt g s
  | .arm dt g => Sys2Proof.Machine.execArm dt g s
  | .disarm dt g => Sys2Proof.Machine.execDisarm dt g s
  | .abort dt g => Sys2Proof.Machine.execAbort dt g s
  | .eveFilled dt g => Sys2Proof.Machine.execEveFilled dt g s
  | .groupTrigger dt g => Sys2Proof.Machine.execGroupTrigger dt g s
  | .partitionFullEnd dt g => Sys2Proof.Machine.execPartitionFullEnd dt g s
  | .segmentBoundary dt g samples => Sys2Proof.Machine.execSegmentBoundary dt g samples s
  | .recordCaptureEnd dt g samples => Sys2Proof.Machine.execRecordCaptureEnd dt g samples s
  | .rearmEnd dt g => Sys2Proof.Machine.execRearmEnd dt g s
  | .recordCommit dt g => Sys2Proof.Machine.execRecordCommit dt g s
  | .aqgIrqGapExpiry dt g => Sys2Proof.Machine.execAqgIrqGapExpiry dt g s
  | .stewardRelease dt g => Sys2Proof.Machine.execStewardRelease dt g s
  | .captureGranuleRefused dt g port how => Sys2Proof.Machine.execCaptureGranuleRefused dt g port how s
  | .bandwidthGapEnd dt g => Sys2Proof.Machine.execBandwidthGapEnd dt g s
  | .pauseEnd dt g => Sys2Proof.Machine.execPauseEnd dt g s
  | .bnkFltWrite dt rq b c value => Sys2Proof.Machine.execBnkFltWrite dt rq b c value s
  | .filterPrimed dt b c => Sys2Proof.Machine.execFilterPrimed dt b c s
  | .clrSat dt b => Sys2Proof.Machine.execClrSat dt b s
  | .foldStart dt => Sys2Proof.Machine.execFoldStart dt s
  | .foldEnd dt => Sys2Proof.Machine.execFoldEnd dt s
  | .emissionTokensReady dt g => Sys2Proof.Machine.execEmissionTokensReady dt g s
  | .accFlush dt g => Sys2Proof.Machine.execAccFlush dt g s
  | .histEmit dt g => Sys2Proof.Machine.execHistEmit dt g s
  | .stackTrained dt k v => Sys2Proof.Machine.execStackTrained dt k v s
  | .stackTempRead dt k celsius => Sys2Proof.Machine.execStackTempRead dt k celsius s
  | .retrainStart dt k pc => Sys2Proof.Machine.execRetrainStart dt k pc s
  | .retrainEnd dt k v => Sys2Proof.Machine.execRetrainEnd dt k v s
  | .scrubRow dt finds => Sys2Proof.Machine.execScrubRow dt finds s
  | .selfRefreshEntry dt => Sys2Proof.Machine.execSelfRefreshEntry dt s
  | .selfRefreshExit dt => Sys2Proof.Machine.execSelfRefreshExit dt s
  | .caParityAlert dt k failures => Sys2Proof.Machine.execCaParityAlert dt k failures s
  | .readParityError dt k rd failures => Sys2Proof.Machine.execReadParityError dt k rd failures s
  | .uncorrectableRead dt k rd others => Sys2Proof.Machine.execUncorrectableRead dt k rd others s
  | .memFail dt k => Sys2Proof.Machine.execMemFail dt k s
  | .memClr dt k => Sys2Proof.Machine.execMemClr dt k s
  | .regulatorWrite dt rq port burst value => Sys2Proof.Machine.execRegulatorWrite dt rq port burst value s
  | .bar2Read dt rq at_ finds => Sys2Proof.Machine.execBar2Read dt rq at_ finds s
  | .bar2Write dt rq addr len => Sys2Proof.Machine.execBar2Write dt rq addr len s
  | .harvestDoorbell dt e c => Sys2Proof.Machine.execHarvestDoorbell dt e c s
  | .engineTakeChannel dt e next => Sys2Proof.Machine.execEngineTakeChannel dt e next s
  | .descriptorFetch dt e bytes => Sys2Proof.Machine.execDescriptorFetch dt e bytes s
  | .descriptorComplete dt e bytes next => Sys2Proof.Machine.execDescriptorComplete dt e bytes next s
  | .cqHeadWrite dt e value => Sys2Proof.Machine.execCqHeadWrite dt e value s
  | .hrvIrqGapExpiry dt e => Sys2Proof.Machine.execHrvIrqGapExpiry dt e s
  | .harvestBusError dt e status addr => Sys2Proof.Machine.execHarvestBusError dt e status addr s
  | .channelResume dt e c => Sys2Proof.Machine.execChannelResume dt e c s
  | .channelEnable dt e c => Sys2Proof.Machine.execChannelEnable dt e c s
  | .channelDisable dt e c => Sys2Proof.Machine.execChannelDisable dt e c s
  | .channelDisableDone dt e c => Sys2Proof.Machine.execChannelDisableDone dt e c s
  | .harvestRun dt e => Sys2Proof.Machine.execHarvestRun dt e s
  | .harvestStop dt e => Sys2Proof.Machine.execHarvestStop dt e s
  | .hrvClr dt e => Sys2Proof.Machine.execHrvClr dt e s
  | .pcieLinkDown dt => Sys2Proof.Machine.execPcieLinkDown dt s
  | .pcieLinkUp dt gen width => Sys2Proof.Machine.execPcieLinkUp dt gen width s
  | .perstDeassert dt => Sys2Proof.Machine.execPerstDeassert dt s
  | .pcieReady dt => Sys2Proof.Machine.execPcieReady dt s
  | .msixUnmask dt v enable => Sys2Proof.Machine.execMsixUnmask dt v enable s
  | .ethFrameReceive dt q frame => Sys2Proof.Machine.execEthFrameReceive dt q frame s
  | .streamOpen dt k => Sys2Proof.Machine.execStreamOpen dt k s
  | .streamClose dt k => Sys2Proof.Machine.execStreamClose dt k s
  | .ethPortDown dt q => Sys2Proof.Machine.execEthPortDown dt q s
  | .ethPortUp dt q => Sys2Proof.Machine.execEthPortUp dt q s
  | .dataSend dt k => Sys2Proof.Machine.execDataSend dt k s
  | .ackMessage dt q ip udp bytes => Sys2Proof.Machine.execAckMessage dt q ip udp bytes s
  | .resendMessage dt q ip udp bytes => Sys2Proof.Machine.execResendMessage dt q ip udp bytes s
  | .releaseMessage dt q ip udp bytes => Sys2Proof.Machine.execReleaseMessage dt q ip udp bytes s
  | .retransmitTimeout dt k => Sys2Proof.Machine.execRetransmitTimeout dt k s
  | .telemetrySend dt o => Sys2Proof.Machine.execTelemetrySend dt o s
  | .mgmtRead dt q bytes => Sys2Proof.Machine.execMgmtRead dt q bytes s
  | .mgmtWrite dt q bytes => Sys2Proof.Machine.execMgmtWrite dt q bytes s
  | .smbusRegisterRead dt off => Sys2Proof.Machine.execSmbusRegisterRead dt off s
  | .smbusTelemetryRead dt => Sys2Proof.Machine.execSmbusTelemetryRead dt s
  | .smbusSensorRead dt => Sys2Proof.Machine.execSmbusSensorRead dt s
  | .smbusOtherCommand dt command isWrite => Sys2Proof.Machine.execSmbusOtherCommand dt command isWrite s
  | .uartStatus dt => Sys2Proof.Machine.execUartStatus dt s
  | .uartOtherLine dt line => Sys2Proof.Machine.execUartOtherLine dt line s
  | .marginMeasure dt lane height width => Sys2Proof.Machine.execMarginMeasure dt lane height width s
  | .segmentTrainEnd dt d v peer bypassed => Sys2Proof.Machine.execSegmentTrainEnd dt d v peer bypassed s
  | .segmentDown dt d => Sys2Proof.Machine.execSegmentDown dt d s
  | .segmentDownTimeout dt d => Sys2Proof.Machine.execSegmentDownTimeout dt d s
  | .linkFrameCrcFail dt d frame => Sys2Proof.Machine.execLinkFrameCrcFail dt d frame s
  | .positionCommit dt rq => Sys2Proof.Machine.execPositionCommit dt rq s
  | .bypassOpen dt => Sys2Proof.Machine.execBypassOpen dt s
  | .trigFlit dt d flit => Sys2Proof.Machine.execTrigFlit dt d flit s
  | .calFlit dt d flit => Sys2Proof.Machine.execCalFlit dt d flit s
  | .digFlit dt d flit => Sys2Proof.Machine.execDigFlit dt d flit s
  | .ctlFlit dt d flit => Sys2Proof.Machine.execCtlFlit dt d flit s
  | .recFlit dt d flit => Sys2Proof.Machine.execRecFlit dt d flit s
  | .alignFlit dt d ago peer => Sys2Proof.Machine.execAlignFlit dt d ago peer s
  | .alignSend dt d => Sys2Proof.Machine.execAlignSend dt d s
  | .alignLoss dt => Sys2Proof.Machine.execAlignLoss dt s
  | .epochStep dt => Sys2Proof.Machine.execEpochStep dt s
  | .windowResolve dt w => Sys2Proof.Machine.execWindowResolve dt w s
  | .windowRead dt w off width => Sys2Proof.Machine.execWindowRead dt w off width s
  | .windowWrite dt w off width value => Sys2Proof.Machine.execWindowWrite dt w off width value s
  | .ctlTimeout dt tag => Sys2Proof.Machine.execCtlTimeout dt tag s
  | .calendsMark dt => Sys2Proof.Machine.execCalendsMark dt s
  | .calendsPeriodic dt => Sys2Proof.Machine.execCalendsPeriodic dt s
  | .snapshotInstant dt => Sys2Proof.Machine.execSnapshotInstant dt s
  | .forwardEnable dt p => Sys2Proof.Machine.execForwardEnable dt p s
  | .forwardRecord dt p reach => Sys2Proof.Machine.execForwardRecord dt p reach s
  | .powerStateEntry dt => Sys2Proof.Machine.execPowerStateEntry dt s
  | .powerStateExit dt => Sys2Proof.Machine.execPowerStateExit dt s
  | .powerExitComplete dt => Sys2Proof.Machine.execPowerExitComplete dt s
  | .wakeNEdge dt => Sys2Proof.Machine.execWakeNEdge dt s
  | .powerPolicyWrite dt rq off value => Sys2Proof.Machine.execPowerPolicyWrite dt rq off value s
  | .powerMeasure dt milliwatts => Sys2Proof.Machine.execPowerMeasure dt milliwatts s
  | .railWarn dt r millivolts => Sys2Proof.Machine.execRailWarn dt r millivolts s
  | .railTrip dt r millivolts => Sys2Proof.Machine.execRailTrip dt r millivolts s
  | .railReturn dt r millivolts => Sys2Proof.Machine.execRailReturn dt r millivolts s
  | .pwrFailAssert dt => Sys2Proof.Machine.execPwrFailAssert dt s
  | .journalWritten dt => Sys2Proof.Machine.execJournalWritten dt s
  | .pwrFailRideThrough dt => Sys2Proof.Machine.execPwrFailRideThrough dt s
  | .tileTempSample dt t raw => Sys2Proof.Machine.execTileTempSample dt t raw s
  | .calRunRequest dt rq value => Sys2Proof.Machine.execCalRunRequest dt rq value s
  | .calDeferWrite dt rq value => Sys2Proof.Machine.execCalDeferWrite dt rq value s
  | .calDeferExpiry dt b => Sys2Proof.Machine.execCalDeferExpiry dt b s
  | .calRunStart dt => Sys2Proof.Machine.execCalRunStart dt s
  | .calRunEnd dt rcalOk toneOk trims corrections => Sys2Proof.Machine.execCalRunEnd dt rcalOk toneOk trims corrections s
  | .seasonSave dt => Sys2Proof.Machine.execSeasonSave dt s
  | .seasonErase dt => Sys2Proof.Machine.execSeasonErase dt s
  | .seasonWriteComplete dt v => Sys2Proof.Machine.execSeasonWriteComplete dt v s
  | .faultEvent dt n banks => Sys2Proof.Machine.execFaultEvent dt n banks s
  | .faultWindowExpiry dt n => Sys2Proof.Machine.execFaultWindowExpiry dt n s
  | .graceExpiry dt n => Sys2Proof.Machine.execGraceExpiry dt n s
  | .safeHoldStackIdle dt => Sys2Proof.Machine.execSafeHoldStackIdle dt s
  | .faultAdopt dt rq value => Sys2Proof.Machine.execFaultAdopt dt rq value s
  | .faultStatusClear dt rq value => Sys2Proof.Machine.execFaultStatusClear dt rq value s
  | .sramScrub dt find => Sys2Proof.Machine.execSramScrub dt find s
  | .updBegin dt => Sys2Proof.Machine.execUpdBegin dt s
  | .updEraseComplete dt => Sys2Proof.Machine.execUpdEraseComplete dt s
  | .updAbandon dt => Sys2Proof.Machine.execUpdAbandon dt s
  | .updBlkGo dt => Sys2Proof.Machine.execUpdBlkGo dt s
  | .blockStaged dt v => Sys2Proof.Machine.execBlockStaged dt v s
  | .updDistribute dt => Sys2Proof.Machine.execUpdDistribute dt s
  | .updVerify dt => Sys2Proof.Machine.execUpdVerify dt s
  | .updVerifyComplete dt => Sys2Proof.Machine.execUpdVerifyComplete dt s
  | .updVote dt => Sys2Proof.Machine.execUpdVote dt s
  | .updVoteTimeout dt => Sys2Proof.Machine.execUpdVoteTimeout dt s
  | .updActivate dt => Sys2Proof.Machine.execUpdActivate dt s
  | .activateAnswerTimeout dt => Sys2Proof.Machine.execActivateAnswerTimeout dt s
  | .updCancel dt => Sys2Proof.Machine.execUpdCancel dt s
  | .activationStart dt => Sys2Proof.Machine.execActivationStart dt s
  | .activationResume dt => Sys2Proof.Machine.execActivationResume dt s
  | .updConfirm dt => Sys2Proof.Machine.execUpdConfirm dt s
  | .confirmWindowExpiry dt => Sys2Proof.Machine.execConfirmWindowExpiry dt s
  | .bootImageCheck dt recoveryN => Sys2Proof.Machine.execBootImageCheck dt recoveryN s
  | .recoveryUartBegin dt line => Sys2Proof.Machine.execRecoveryUartBegin dt line s
  | .recoveryUartBlock dt line => Sys2Proof.Machine.execRecoveryUartBlock dt line s
  | .recoveryUartVerify dt => Sys2Proof.Machine.execRecoveryUartVerify dt s
  | .recoveryUartActivate dt => Sys2Proof.Machine.execRecoveryUartActivate dt s
  | .recoveryUartStatus dt => Sys2Proof.Machine.execRecoveryUartStatus dt s
  | .recoveryUartOther dt line => Sys2Proof.Machine.execRecoveryUartOther dt line s
  | .keyProg dt => Sys2Proof.Machine.execKeyProg dt s
  | .keyRevoke dt => Sys2Proof.Machine.execKeyRevoke dt s
  | .keySetRequire dt => Sys2Proof.Machine.execKeySetRequire dt s
  | .flashBlockRetire dt => Sys2Proof.Machine.execFlashBlockRetire dt s
  | .lntCommit dt => Sys2Proof.Machine.execLntCommit dt s
  | .lntTeEdge dt line => Sys2Proof.Machine.execLntTeEdge dt line s
  | .teMissTimeout dt => Sys2Proof.Machine.execTeMissTimeout dt s
  | .videoFrameStart dt => Sys2Proof.Machine.execVideoFrameStart dt s
  | .pushStart dt => Sys2Proof.Machine.execPushStart dt s
  | .restartHoldEnd dt => Sys2Proof.Machine.execRestartHoldEnd dt s
  | .dcsSend dt => Sys2Proof.Machine.execDcsSend dt s
  | .dcsSent dt => Sys2Proof.Machine.execDcsSent dt s
  | .tapInstruction dt code => Sys2Proof.Machine.execTapInstruction dt code s
  | .pushEnd dt => Sys2Proof.Machine.execPushEnd dt s
  | .testLogicReset dt => Sys2Proof.Machine.execTestLogicReset dt s
  | .positionFlashWriteDone dt => Sys2Proof.Machine.execPositionFlashWriteDone dt s
  | .distributeEraseWaitExpiry dt => Sys2Proof.Machine.execDistributeEraseWaitExpiry dt s
  | .distributeBlockInterval dt => Sys2Proof.Machine.execDistributeBlockInterval dt s

end Sys2Proof.Machine
end

