-- ==== Sys2Proof/WellFormed.lean ====
section
/-! DEFINITION. The well-formed commands: those whose operands lie in the ranges that the spec gives them. The meanings are
total, so an ill-formed command has one too; a command that the outside world can send is well-formed. -/

namespace Sys2Proof

/-- The sizes of BAR0 (R389), of BAR2 (R219) and of a window of BAR4 (R293), in bytes. -/
def bar0Size : Nat := 0x2000000
def bar2Size : Nat := 2 ^ 37
def windowSize : Nat := 0x2000000

/-- A requester of the PCIe port: BAR2 is a view of the two PCIe functions alone (R219). -/
def onPcie : Requester → Bool
  | .pf0 => true
  | .pf1 => true
  | .smbus => false
  | .eth _ => false
  | .ring _ => false

/-- The operands of a command lie in their ranges. -/
def Instr.wf : Instr → Bool
  | .registerWrite _ _ off width value => decide (off + width ≤ bar0Size) && decide (value < 256 ^ width)
  | .splitLowRead _ _ off width => decide (off + width ≤ bar0Size)
  | .coldReset _ => true
  | .rstNAssert _ => true
  | .glbResetWrite _ _ _ => true
  | .watchdogExpiry _ => true
  | .fundamentalReset _ => true
  | .warmResetAssert _ => true
  | .resetRelease _ => true
  | .defaultAlmanacLoad _ => true
  | .almanacLoad _ => true
  | .almanacCheckEnd _ => true
  | .almanacReload _ => true
  | .reloadAsleepTimeout _ => true
  | .reloadCancel _ => true
  | .reloadCommit _ => true
  | .reloadBankResetEnd _ => true
  | .ovrClear _ _ => true
  | .converterReady _ _ => true
  | .converterStartTimeout _ _ => true
  | .converterStartRetry _ _ => true
  | .settlingEnd _ _ _ => true
  | .samplePllLoss _ => true
  | .samplePllRelock _ => true
  | .refQualified _ _ => true
  | .corePllLock _ => true
  | .samplePllLock _ => true
  | .refLostBeforeLock _ => true
  | .refLoss _ => true
  | .refRelock _ => true
  | .unsettledClear _ => true
  | .ovenReadyChange _ _ => true
  | .corePllLoss _ => true
  | .loadNow _ => true
  | .loadPps _ => true
  | .ppsLoadCancel _ => true
  | .ppsEdge _ _ => true
  | .ppsMissing _ => true
  | .ivRun _ _ => true
  | .ivStop _ _ => true
  | .ivStartEvent _ _ => true
  | .ivStopEvent _ _ => true
  | .ivTimeout _ _ => true
  | .ivPrescaleCountEnd _ _ => true
  | .ivGateClose _ _ => true
  | .triggerUnitFire _ _ _ _ _ => true
  | .triggerUnitStuck _ _ _ => true
  | .trgUnmask _ _ _ => true
  | .trgClr _ _ _ => true
  | .extPinEdge _ _ _ _ _ => true
  | .pinStuck _ _ => true
  | .pinUnmask _ _ => true
  | .pinClr _ _ => true
  | .softFire _ => true
  | .wakePinEdge _ _ _ => true
  | .conjunctionEvent _ _ => true
  | .conjunctionExpiry _ _ => true
  | .cjClr _ _ => true
  | .trigOutPulseStart _ _ => true
  | .trigOutPulseEnd _ _ => true
  | .handover _ _ => true
  | .arm _ _ => true
  | .disarm _ _ => true
  | .abort _ _ => true
  | .eveFilled _ _ => true
  | .groupTrigger _ _ => true
  | .partitionFullEnd _ _ => true
  | .segmentBoundary _ _ _ => true
  | .recordCaptureEnd _ _ _ => true
  | .rearmEnd _ _ => true
  | .recordCommit _ _ => true
  | .aqgIrqGapExpiry _ _ => true
  | .stewardRelease _ _ => true
  | .captureGranuleRefused _ _ _ _ => true
  | .bandwidthGapEnd _ _ => true
  | .pauseEnd _ _ => true
  | .bnkFltWrite _ _ _ _ _ => true
  | .filterPrimed _ _ _ => true
  | .clrSat _ _ => true
  | .foldStart _ => true
  | .foldEnd _ => true
  | .emissionTokensReady _ _ => true
  | .accFlush _ _ => true
  | .histEmit _ _ => true
  | .stackTrained _ _ _ => true
  | .stackTempRead _ _ _ => true
  | .retrainStart _ _ _ => true
  | .retrainEnd _ _ _ => true
  | .scrubRow _ _ => true
  | .selfRefreshEntry _ => true
  | .selfRefreshExit _ => true
  | .caParityAlert _ _ _ => true
  | .readParityError _ _ rd _ => decide (rd.slot < 805306368)
  | .uncorrectableRead _ k rd others => others.Nodup && !others.contains k && decide (rd.slot < 805306368)
  | .memFail _ _ => true
  | .memClr _ _ => true
  | .regulatorWrite _ _ _ _ _ => true
  | .bar2Read _ rq at_ _ => onPcie rq && decide (at_.addr + at_.len ≤ bar2Size)
  | .bar2Write _ rq addr len => onPcie rq && decide (addr + len ≤ bar2Size)
  | .harvestDoorbell _ _ _ => true
  | .engineTakeChannel _ _ _ => true
  | .descriptorFetch _ _ bytes => bytes.length == 64
  | .descriptorComplete _ _ _ _ => true
  | .cqHeadWrite _ _ _ => true
  | .hrvIrqGapExpiry _ _ => true
  | .harvestBusError _ _ _ _ => true
  | .channelResume _ _ _ => true
  | .channelEnable _ _ _ => true
  | .channelDisable _ _ _ => true
  | .channelDisableDone _ _ _ => true
  | .harvestRun _ _ => true
  | .harvestStop _ _ => true
  | .hrvClr _ _ => true
  | .pcieLinkDown _ => true
  | .pcieLinkUp _ gen width => decide (1 ≤ gen ∧ gen ≤ 6) && [1, 2, 4, 8, 16].contains width
  | .perstDeassert _ => true
  | .pcieReady _ => true
  | .msixUnmask _ _ _ => true
  | .ethFrameReceive _ _ _ => true
  | .streamOpen _ _ => true
  | .streamClose _ _ => true
  | .ethPortDown _ _ => true
  | .ethPortUp _ _ => true
  | .dataSend _ _ => true
  | .ackMessage _ _ _ udp _ => decide (udp < 2 ^ 16)
  | .resendMessage _ _ _ udp _ => decide (udp < 2 ^ 16)
  | .releaseMessage _ _ _ udp _ => decide (udp < 2 ^ 16)
  | .retransmitTimeout _ _ => true
  | .telemetrySend _ _ => true
  | .mgmtRead _ _ _ => true
  | .mgmtWrite _ _ _ => true
  | .smbusRegisterRead _ off => decide (off + 4 ≤ bar0Size)
  | .smbusTelemetryRead _ => true
  | .smbusSensorRead _ => true
  | .smbusOtherCommand _ command _ => decide (command < 256)
  | .uartStatus _ => true
  | .uartOtherLine _ _ => true
  | .marginMeasure _ _ _ _ => true
  | .segmentTrainEnd _ _ _ peer _ => decide (1 ≤ peer.genMax ∧ peer.genMax ≤ 3)
  | .segmentDown _ _ => true
  | .segmentDownTimeout _ _ => true
  | .linkFrameCrcFail _ _ _ => true
  | .positionCommit _ _ => true
  | .bypassOpen _ => true
  | .trigFlit _ _ flit => flit.length == 8
  | .calFlit _ _ flit => flit.length == 8
  | .digFlit _ _ flit => flit.length == 8
  | .ctlFlit _ _ flit => flit.length == 8
  | .recFlit _ _ flit => flit.length == 8
  | .alignFlit _ _ _ _ => true
  | .alignSend _ _ => true
  | .alignLoss _ => true
  | .epochStep _ => true
  | .windowResolve _ _ => true
  | .windowRead _ _ off width => decide (off + width ≤ windowSize)
  | .windowWrite _ _ off width value => decide (off + width ≤ windowSize) && decide (value < 256 ^ width)
  | .ctlTimeout _ tag => decide (tag < 4096)
  | .calendsMark _ => true
  | .calendsPeriodic _ => true
  | .snapshotInstant _ => true
  | .forwardEnable _ _ => true
  | .forwardRecord _ _ _ => true
  | .powerStateEntry _ => true
  | .powerStateExit _ => true
  | .powerExitComplete _ => true
  | .wakeNEdge _ => true
  | .powerPolicyWrite _ _ _ _ => true
  | .powerMeasure _ _ => true
  | .railWarn _ _ _ => true
  | .railTrip _ _ _ => true
  | .railReturn _ _ _ => true
  | .pwrFailAssert _ => true
  | .journalWritten _ => true
  | .pwrFailRideThrough _ => true
  | .tileTempSample _ _ _ => true
  | .calRunRequest _ _ _ => true
  | .calDeferWrite _ _ _ => true
  | .calDeferExpiry _ _ => true
  | .calRunStart _ => true
  | .calRunEnd _ _ _ _ _ => true
  | .seasonSave _ => true
  | .seasonErase _ => true
  | .seasonWriteComplete _ _ => true
  | .faultEvent _ _ banks => decide (banks < 2 ^ 16)
  | .faultWindowExpiry _ _ => true
  | .graceExpiry _ _ => true
  | .safeHoldStackIdle _ => true
  | .faultAdopt _ _ value => decide (value < 2 ^ 64)
  | .faultStatusClear _ _ value => decide (value < 2 ^ 64)
  | .sramScrub _ _ => true
  | .updBegin _ => true
  | .updEraseComplete _ => true
  | .updAbandon _ => true
  | .updBlkGo _ => true
  | .blockStaged _ _ => true
  | .updDistribute _ => true
  | .updVerify _ => true
  | .updVerifyComplete _ => true
  | .updVote _ => true
  | .updVoteTimeout _ => true
  | .updActivate _ => true
  | .activateAnswerTimeout _ => true
  | .updCancel _ => true
  | .activationStart _ => true
  | .activationResume _ => true
  | .updConfirm _ => true
  | .confirmWindowExpiry _ => true
  | .bootImageCheck _ _ => true
  | .recoveryUartBegin _ _ => true
  | .recoveryUartBlock _ _ => true
  | .recoveryUartVerify _ => true
  | .recoveryUartActivate _ => true
  | .recoveryUartStatus _ => true
  | .recoveryUartOther _ _ => true
  | .keyProg _ => true
  | .keyRevoke _ => true
  | .keySetRequire _ => true
  | .flashBlockRetire _ => true
  | .lntCommit _ => true
  | .lntTeEdge _ _ => true
  | .teMissTimeout _ => true
  | .videoFrameStart _ => true
  | .pushStart _ => true
  | .restartHoldEnd _ => true
  | .dcsSend _ => true
  | .dcsSent _ => true
  | .tapInstruction _ _ => true
  | .pushEnd _ => true
  | .testLogicReset _ => true
  | .positionFlashWriteDone _ => true
  | .distributeEraseWaitExpiry _ => true
  | .distributeBlockInterval _ => true

end Sys2Proof
end

