-- ==== Sys2Proof/Safety.lean ====
section
/-! DEFINITION. The terms that claims about runs are stated in: what a command leaves alone, what a good state is, and when a
run is safe. -/

namespace Sys2Proof.Machine

/-- Nothing but register words differs. -/
def OnlyWords (s t : State) : Prop := t = { s with mem.regs := t.mem.regs }

/-- Only the register words at the offsets of a list may differ: every other register, every byte of memory, every output
and every other part of the state is as it was. -/
def OnlyRegs (os : List Nat) (s t : State) : Prop := OnlyWords s t ∧ ∀ o, o ∉ os → t.get o = s.get o

/-- The byte memories are as they were: record space, HRV_LMEM, the staging and Note buffers and UPD_WIN. -/
def SameBytes (s t : State) : Prop := t.mem = { s.mem with regs := t.mem.regs, active := t.mem.active }

/-- The granule `k` places after granule `a` in the circular record area of a partition (R135). -/
def State.granuleOf (s : State) (p a : Nat) : Nat → Nat
  | 0 => a
  | k + 1 => s.wrapIn p (s.granuleOf p a k + 1)

/-- The waiting commands are well-formed. -/
def QueueWf (s : State) : Prop := ∀ c ∈ s.pending, c.wf = true

/-- A good state: every store is in canonical form and every waiting command is well-formed. -/
def Sound (s : State) : Prop := s.mem.wf = true ∧ QueueWf s

/-- A step that does not stop the machine. -/
def SafeStep (s : State) : Prop := ∃ t, step s = .next t

/-- A run of `n` steps that does not stop. -/
def SafeRun : Nat → State → Prop
  | 0, _ => True
  | n + 1, s => ∃ t, step s = .next t ∧ SafeRun n t

end Sys2Proof.Machine
end

