-- ==== Sys2Proof/Certificates/Slice0/Obligations.lean ====
section
/-! DEFINITION. The statements for the provers. In each, `v` (or `u`) is the state as a command begins: `dt` ticks later,
with the outputs of the command before it gone (`State.start`). `OnlyRegs` lists the register words that may differ: every
other register, every byte of memory, every output and every other part of the state is then as it was. -/

open Sys2Proof Sys2Proof.Machine

/-! ### The machine as a whole -/

/-- A step runs the command at the front of the queue on the state with the rest of the queue, and idles on an empty
queue (log entry 3). -/
def Obligations.StepRunsTheFrontCommand : Prop :=
  (∀ (c : Instr) (r : List Instr) (s : State), s.pending = c :: r → step s = exec c (s.withPending r))
  ∧ ∀ s : State, s.pending = [] → step s = .next s

/-- Every step that answers a next state takes exactly the front command off the queue: no command adds, drops or
reorders a waiting command. -/
def Obligations.EveryStepTakesOneCommand : Prop :=
  ∀ s t : State, step s = .next t → t.pending = s.pending.tail

/-- Every step keeps every store in canonical form and the queue well-formed. -/
def Obligations.EveryStepKeepsSound : Prop :=
  ∀ s t : State, Sound s → step s = .next t → Sound t

/-- Reset leaves a good state: nothing waits, no Almanac is loaded, and every register word reads its reset value. -/
def Obligations.ResetIsSound : Prop :=
  Sound State.reset ∧ State.reset.pending = [] ∧ State.reset.alm = none
  ∧ (∀ o, State.reset.get o = regDefault o)
  ∧ State.reset.readWord .pf0 0xC0054 = 0x14 ∧ State.reset.readWord .pf0 0xC0064 = 0x3E8 ∧ State.reset.readWord .pf0 0xC0068 = 2

/-! ### Register accesses (chapters 00, 11 and 18) -/

/-- R8: an access of another width or alignment is not performed: a read returns all ones in every byte it covers and
a write has no effect; a 32-bit read returns a 32-bit word, and a 64-bit pair covers two consecutive registers, low
first. -/
def Obligations.WidthsAndAlignment : Prop :=
  (∀ (s : State) (rq : Requester) (off width : Nat), ¬(width = 4 ∧ off % 4 = 0) → ¬(width = 8 ∧ off % 8 = 0) →
    s.readAccess rq off width = (256 ^ width - 1, s)
    ∧ ∀ v port judge, s.writeBy rq off width v port judge = .next s)
  ∧ (∀ (s : State) (rq : Requester) (off : Nat), off % 4 = 0 → (s.readAccess rq off 4).1 < 2 ^ 32)
  ∧ ∀ (s : State) (rq : Requester) (off : Nat), off % 8 = 0 →
    (s.readAccess rq off 8).1 = (s.readAccess rq off 4).1 + 2 ^ 32 * ((s.readAccess rq off 4).2.readAccess rq (off + 4) 4).1

/-- REGISTER_WRITE and SPLIT_LOW_READ of another width or alignment complete: the write changes nothing beyond the
demand for Feast, the read puts out all ones. -/
def Obligations.OtherWidthsComplete : Prop :=
  ∀ (dt off width v : Nat) (s : State), ¬(width = 4 ∧ off % 4 = 0) → ¬(width = 8 ∧ off % 8 = 0) →
    (∀ rq, exec (.registerWrite dt rq off width v) s = .next (s.start dt))
    ∧ exec (.splitLowRead dt .pf0 off width) s
        = .next (((s.start dt).readDemand .pf0).emit (.read (256 ^ width - 1)))

/-- R9, R394: a read of the low part of a two-part quantity latches its upper part for that requester alone, and a
later read of the upper part by the requester returns what was latched, whatever the register holds by then;
SPLIT_LOW_READ makes such a read and puts its value out. R9, R394: an upper part reads 0 for a requester whose latches
are empty. R10, R394: an upper part written is held for its requester and nothing else changes; the quantity takes
effect when its low part is written, with the upper parts held before it, which are then spent. Stated for EPC_SET, at
0x40010. -/
def Obligations.SplitQuantities : Prop :=
  (∀ (s t : State) (rq : Requester) (lo : Nat), splitAt lo = some (lo, 2, 0) → splitAt (lo + 4) = some (lo, 2, 1) →
    t.latches = (s.read32 rq lo).2.latches →
    (t.read32 rq (lo + 4)).1 = s.readWord rq (lo + 4)
    ∧ (∀ rq', rq' ≠ rq → (t.read32 rq' (lo + 4)).1 = (s.read32 rq' (lo + 4)).1)
    ∧ ∀ (dt : Nat) (u v : State), v = (s.start dt).readDemand rq → u = (v.readAccess rq lo 4).2 → v.disabledFor rq = false →
      exec (.splitLowRead dt rq lo 4) s = .next (u.emit (.read (v.readAccess rq lo 4).1))
      ∧ (v.inReset = false → v.recovery = false → v.power ≠ 3 → lo % 4 = 0 →
        (v.readAccess rq lo 4).1 = (v.readWord rq lo).toNat ∧ u.latches = (v.read32 rq lo).2.latches))
  ∧ (∀ (s : State) (rq : Requester) (base n p : Nat), splitAt (base + 4 * p) = some (base, n, p) → p ≠ 0 →
    (∀ x ∈ s.latches, x.1.1 ≠ rq) → s.read32 rq (base + 4 * p) = (0, s))
  ∧ ((∀ (s : State) (w : Word), fld w 31 8 = 0 →
    s.write32 .pf0 (Reg.epcSet + 8) w = .next { s with heldWords := keepWord s.heldWords .pf0 (Reg.epcSet + 8) w })
  ∧ ∀ (s : State) (w0 w1 w2 : Word), fld w2 31 8 = 0 → kept s.heldWords .pf0 (Reg.epcSet + 4) = some w1 →
      kept s.heldWords .pf0 (Reg.epcSet + 8) = some w2 →
      ∃ t, s.write32 .pf0 Reg.epcSet w0 = .next t ∧ OnlyRegs [Reg.epcSet, Reg.epcSet + 4, Reg.epcSet + 8] (s.spendHeld .pf0 Reg.epcSet 3) t
        ∧ t.get Reg.epcSet = w0 ∧ t.get (Reg.epcSet + 4) = w1 ∧ t.get (Reg.epcSet + 8) = w2)

/-- R11, R12, R272, R273, R296, R422: a write of a one-word PWR register that the requester may make stores its RW
bits, clears the W1C bits written 1 and leaves every other bit and register; one that writes a reserved bit stops by
name; a write to a hole of the map or to a register without writable bits changes nothing; a write outside the
requester's class is refused at its port; and a boundary-scan instruction that needs RST_N low stops by name while it
is high. -/
def Obligations.RegisterWrites : Prop :=
  (∀ (dt off : Nat) (rq : Requester) (value : Nat) (s v u : State), v = s.start dt → off % 4 = 0 → u = v.accessDemand rq →
    (v.writeReach rq off true true = .allowed → u.writeBuffer off (BitVec.ofNat 32 value) = none →
      (regAt off = none → exec (.registerWrite dt rq off 4 value) s = .next u)
      ∧ ∀ h, regAt off = some h → h.part = 0 → h.row.parts = 1 →
        (h.row.rw ||| h.row.w1c ||| h.row.w1s = 0 → exec (.registerWrite dt rq off 4 value) s = .next u)
        ∧ (h.blk = .pwr → h.row.rw ||| h.row.w1c ||| h.row.w1s ≠ 0 → value < 2 ^ 32 →
          (value &&& h.row.rsv ≠ 0 → exec (.registerWrite dt rq off 4 value) s = .fault .reservedValue)
          ∧ (value &&& h.row.rsv = 0 → ∃ t, exec (.registerWrite dt rq off 4 value) s = .next t
            ∧ OnlyRegs [off] { u with heldWords := t.heldWords } t
            ∧ ∀ i < 32, t.bit off i = ((if h.row.rw.testBit i then value.testBit i else u.bit off i)
              && !(h.row.w1c.testBit i && value.testBit i)))))
    ∧ ∀ what, v.writeReach rq off true true = .refused what →
      exec (.registerWrite dt rq off 4 value) s = .next ((v.readDemand rq).refuse (portOf rq true) what))
  ∧ (∀ (off : Nat) (v : State), v.inReset = false →
    v.writeReach .pf1 off true true = .refused (if v.priv 0 = 1 then 5 else 1)
    ∧ v.writeReach .smbus off true true = .refused (if v.priv 1 = 1 then 5 else 6)
    ∧ (∀ o, v.writeReach (.eth o) off true true = .refused (if v.priv (2 + o.val) = 1 then 5 else 2))
    ∧ ∀ p : Fin 64, (v.isHeadOver p.val = false ∨ v.priv 10 = 2 ∨ convoyReach off true = false) →
      v.writeReach (.ring p) off true true = .refused 7)
  ∧ ∀ (dt : Nat) (code : Fin 256) (s : State), (s.start dt).rstLow = false → (code.val = 0 ∨ code.val = 2 ∨ (4 ≤ code.val ∧
    code.val ≤ 7)) → exec (.tapInstruction dt code) s = .fault .testMode

/-! ### Formats (chapters 00 and 06) -/

/-- R6: a granule of eight native words is a 36-byte little-endian block of 288 bits, in which word `i` occupies bits
36i to 36i+35, bit 0 of the block being bit 0 of byte 0. -/
def Obligations.Pack36Blocks : Prop :=
  ∀ ws : List Native, ws.length = 8 → (pack36Bytes ws).length = 36
    ∧ ∀ i < 8, ∀ k < 36, (((pack36Bytes ws).getD ((36 * i + k) / 8) 0).toNat.testBit ((36 * i + k) % 8))
        = (ws.getD i 0).toNat.testBit k

/-- R155, R160 to R162: a record's words fill whole granules, as many as its sixteen header words, its annex, its
payload and its two trailer words need, and padding words are 0; an intercalary record without annex or payload takes
three granules and ends in two zero words. -/
def Obligations.RecordSize : Prop :=
  ∀ (r : Rec) (ag seq n : Nat), n = 16 + 2 * r.annex.length + r.payload.length + 2 →
    (r.words ag seq).length = 8 * r.granules ∧ r.granules = (n + 7) / 8
    ∧ (r.words ag seq).take n = r.header ag seq ++ r.annexWords ++ r.payload ++ r.trailer
    ∧ (∀ k, n ≤ k → (r.words ag seq).getD k 0 = 0)
    ∧ (r.kind = 1 → r.annex = [] → r.payload = [] → r.granules = 3 ∧ ∀ k, 16 ≤ k → (r.words ag seq).getD k 0 = 0)

/-! ### Resets (chapter 13) -/

/-- The reset sources (R324, R327): RST_N, the word 0xA256_0001 in GLB_RESET, the watchdog after two seconds without
progress and PERST_N request a reset under their cause codes; any other word in GLB_RESET is ignored, and so is a
source while a reset is in progress; PERST_N also takes the PCIe link and functions down at once. -/
def Obligations.ResetsAreRequested : Prop :=
  ∀ (dt : Nat) (s u : State), u = s.start dt →
    (u.rstLow = true → exec (.rstNAssert dt) s = .next u ∧ exec (.watchdogExpiry dt) s = .next u
      ∧ exec (.fundamentalReset dt) s = .next u.resetPcie
      ∧ ∀ rq w, u.writeReach rq Reg.glbReset true true = .allowed → exec (.glbResetWrite dt rq w) s = .next (u.accessDemand rq))
    ∧ (∀ rq w what, u.writeReach rq Reg.glbReset true true = .refused what →
      exec (.glbResetWrite dt rq w) s = .next ((u.readDemand rq).refuse (portOf rq true) what))
    ∧ (u.now < u.progressAt + 2 * second → exec (.watchdogExpiry dt) s = .next u)
    ∧ (u.rstLow = false →
    (∃ t, exec (.rstNAssert dt) s = .next t ∧ t.resetStep = .requested ∧ t.resetAt = u.now ∧ t.rd Reg.glbResetCause 3 0 = 1)
    ∧ (∀ rq, u.writeReach rq Reg.glbReset true true = .allowed →
        (∃ t, exec (.glbResetWrite dt rq 0xA2560001) s = .next t ∧ t.resetStep = .requested
          ∧ t.rd Reg.glbResetCause 3 0 = 2)
        ∧ ∀ w, w ≠ 0xA2560001 → exec (.glbResetWrite dt rq w) s = .next (u.accessDemand rq))
    ∧ (u.progressAt + 2 * second ≤ u.now →
        ∃ t, exec (.watchdogExpiry dt) s = .next t ∧ t.resetStep = .requested ∧ t.rd Reg.glbResetCause 3 0 = 3)
    ∧ ∃ t, exec (.fundamentalReset dt) s = .next t ∧ t.resetStep = .requested ∧ t.rd Reg.glbResetCause 3 0 = 4
        ∧ t.perst = true ∧ t.pcieReady = false ∧ t.msixOn = false ∧ t.rd Reg.prtPcieStatus 8 0 = 0)

/-- The internal reset (R325): it is asserted once no stack is running, and then the Almanac, the groups, the register
latches and the volatile buffers are gone while the flash images, the keys, the Seasons and record space are as they
were; it is released after 10 µs at least, with every tripped rail back. A cold reset keeps flash, and takes the
ledger from a valid journal or, with none, from each partition's floor (R321 to R324). -/
def Obligations.InternalReset : Prop :=
  ∀ (dt : Nat) (s u : State), u = s.start dt →
    (u.resetStep = .requested → (∀ k < 4, u.running k = false) →
      ∃ t, exec (.warmResetAssert dt) s = .next t ∧ t.resetStep = .asserted ∧ t.alm = none ∧ t.groups = [] ∧ t.latches = []
        ∧ t.heldWords = [] ∧ t.mem.staging = [] ∧ t.mem.lmem = [] ∧ t.mem.space = u.mem.space ∧ t.imgs = u.imgs
        ∧ t.keys = u.keys ∧ t.seasons = u.seasons ∧ t.parts = u.parts ∧ t.coreLocked = false ∧ t.sampleLocked = false)
    ∧ (u.resetStep ≠ .requested ∨ (∃ k < 4, u.running k = true) → exec (.warmResetAssert dt) s = .next u)
    ∧ (u.resetStep = .asserted → u.resetAt + 10 * usec ≤ u.now → u.tripped = [] →
        (tapNeedsReset u.tap = false →
          exec (.resetRelease dt) s = .next ({ u with resetStep := .released, progressAt := u.now } : State).raiseAgain)
        ∧ (tapNeedsReset u.tap = true → exec (.resetRelease dt) s = .fault .testMode))
    ∧ (u.resetStep ≠ .asserted ∨ u.now < u.resetAt + 10 * usec ∨ u.tripped ≠ [] → exec (.resetRelease dt) s = .next u)
    ∧ ∃ t, exec (.coldReset dt) s = .next t ∧ t.resetStep = .asserted ∧ t.coldStart = true ∧ t.alm = none ∧ t.groups = []
        ∧ t.latches = [] ∧ t.heldWords = [] ∧ t.mem.space = [] ∧ t.imgs = u.imgs ∧ t.keys = u.keys ∧ t.seasons = u.seasons
        ∧ t.pending = u.pending ∧ t.posNext = none
        ∧ (u.journal.valid = false → t.bit Reg.pwrStatus 10 = true ∧ ∀ p : Fin 32, (t.part p).seq = (u.part p).floor
          ∧ (t.part p).released = (u.part p).floor ∧ (t.part p).recs = [])
        ∧ (u.journal.valid = true → t.lost = u.journal.lost ∧ ∀ p : Fin 32, (t.part p).recs = []
          ∧ (t.part p).seq = (tget u.journal.parts Partition.factory p).seq)

/-! ### The Almanac (chapter 02) -/

/-- R49: a default load checks the image of the active bank's ALMD part; LOAD checks the staged image in EMPTY or
FAILED and is refused with STATE (0x15) in any other state, changing the error registers only. R47: the end of a
check. An image that fails leaves the Almanac in force, names the first failing check, its section and its offset,
counts it and raises ALMANAC_CHECK (source 30); STATE is FAILED after a start load and LOADED after a reload. An image
that passes is loaded, or has its reload scheduled. -/
def Obligations.AlmanacLoads : Prop :=
  (∀ (dt : Nat) (s u : State), u = s.start dt →
    (u.booted = false ∨ u.almOpen = false ∨ u.resetStep ≠ .released ∨ u.almState ≠ 0 ∨ u.bit Reg.almBoot 0 = true
      ∨ u.stacksUp = false → exec (.defaultAlmanacLoad dt) s = .next u)
    ∧ (u.almOpen = false → exec (.almanacLoad dt) s = .next u)
    ∧ (u.almOpen = true → (u.booted = true → u.resetStep = .released → u.almState = 0 → u.bit Reg.almBoot 0 = false → u.stacksUp = true →
      ∃ t, exec (.defaultAlmanacLoad dt) s = .next t ∧ t.check = some ⟨u.defaultImage, .startLoad false, u.now⟩ ∧ t.almState = 1)
    ∧ (u.almState = 0 ∨ u.almState = 5 →
      ∃ t, exec (.almanacLoad dt) s = .next t ∧ t.check = some ⟨u.stagedImage, .startLoad true, u.now⟩ ∧ t.almState = 1)
    ∧ (u.almState ≠ 0 → u.almState ≠ 5 →
      ∃ t, exec (.almanacLoad dt) s = .next t ∧ OnlyRegs [Reg.almStatus, Reg.almErrOffset] u t
        ∧ t.rd Reg.almStatus 23 16 = 0x15 ∧ t.rd Reg.almStatus 15 8 = 0xFF ∧ t.almState = u.almState)))
  ∧ (∀ (dt : Nat) (s u : State), u = s.start dt → (u.check = none → exec (.almanacCheckEnd dt) s = .next u)
    ∧ ∀ j : CheckJob, u.check = some j →
    (∀ h code sect off, j.purpose = .startLoad h → badImage (u.checkCtx h none) j.image = some (code, sect, off) →
      exec (.almanacCheckEnd dt) s = .next ((((({ u with check := none } : State).almError code sect off).inc
        Reg.almCheckCount).wr Reg.almStatus 3 0 5).fault 30 allBanks))
    ∧ (∀ code sect off, j.purpose = .reload → badImage (u.checkCtx true u.alm) j.image = some (code, sect, off) →
      exec (.almanacCheckEnd dt) s = .next ((((({ u with check := none } : State).almError code sect off).inc
        Reg.almCheckCount).wr Reg.almStatus 3 0 2).fault 30 allBanks))
    ∧ (∀ h, j.purpose = .startLoad h → badImage (u.checkCtx h none) j.image = none → u.stacksUp = true →
      exec (.almanacCheckEnd dt) s = .next (u.startLoaded (almanacOf (u.checkCtx h none) j.image)))
    ∧ (∀ h, j.purpose = .startLoad h → badImage (u.checkCtx h none) j.image = none → u.stacksUp = false →
      exec (.almanacCheckEnd dt) s = .next u)
    ∧ (j.purpose = .reload → badImage (u.checkCtx true u.alm) j.image = none →
      exec (.almanacCheckEnd dt) s = .next (u.schedule (almanacOf (u.checkCtx true u.alm) j.image))))

/-- R54: RELOAD in Feast checks the staged image for a reload at ALM_RELOAD_AT; it is refused with STATE outside
LOADED and with AT when the commit instant lies below the Epoch plus 2 µs; CANCEL withdraws a scheduled reload; a
demanded exit that is not complete after 20 ms refuses it with ASLEEP. R54, R55: at the commit instant of a scheduled
reload, awake, every group over an affected bank stops, the routes of TRIG_OUT, the tag and the digest become the new
image's (an output with no route stops), a calibration run on an affected bank is aborted, and the affected banks
enter a Bank reset; at its end the new Almanac is in force, the reload is counted and STATE is LOADED again. -/
def Obligations.AlmanacReloads : Prop :=
  (∀ (dt : Nat) (s u : State), u = s.start dt →
    (u.almOpen = false → exec (.almanacReload dt) s = .next u ∧ exec (.reloadCancel dt) s = .next u)
    ∧ (u.reloadWait = none → exec (.reloadAsleepTimeout dt) s = .next u)
    ∧ (∀ w, u.reloadWait = some w → u.now < w + 20 * msec → exec (.reloadAsleepTimeout dt) s = .next u)
    ∧ (∀ w, u.reloadWait = some w → w + 20 * msec ≤ u.now →
      exec (.reloadAsleepTimeout dt) s = .next (({ u with reloadWait := none } : State).almRefuse 0x16))
    ∧ (u.almOpen = true →
    (∀ w : State, u.almState = 2 → u.reloadWait = none → (u.reloadInstant = 0 ∨ u.ep + 2 * usec ≤ u.reloadInstant) →
      ((2 ≤ u.power ∨ ∃ t x, u.move = .entering t x ∧ 2 ≤ t) → w = { u.demandExit with reloadAt := u.reloadInstant }) →
      (u.power ≤ 1 → (∀ t x, u.move = .entering t x → t < 2) → w = { u with reloadAt := u.reloadInstant }) →
      (2 ≤ w.power → exec (.almanacReload dt) s = .next { w with reloadWait := some w.now })
      ∧ (w.power ≤ 1 → exec (.almanacReload dt) s = .next w.checkReload))
    ∧ (u.almState = 2 → u.reloadWait = none → (u.reloadInstant = 0 ∨ u.ep + 2 * usec ≤ u.reloadInstant) → u.power = 0 →
      u.move = .steady →
      ∃ t, exec (.almanacReload dt) s = .next t ∧ t.check = some ⟨u.stagedImage, .reload, u.now⟩ ∧ t.almState = 1
        ∧ t.reloadAt = u.reloadInstant)
    ∧ (u.almState ≠ 2 ∨ u.reloadWait.isSome = true → exec (.almanacReload dt) s = .next (u.almRefuse 0x15))
    ∧ (u.almState = 2 → u.reloadWait = none → u.reloadInstant ≠ 0 → u.reloadInstant < u.ep + 2 * usec →
      exec (.almanacReload dt) s = .next (u.almRefuse 0x17))
    ∧ (u.almState = 3 → ∃ t, exec (.reloadCancel dt) s = .next t ∧ t.nextAlm = none ∧ t.almState = 2 ∧ t.alm = u.alm)
    ∧ (u.almState ≠ 3 → exec (.reloadCancel dt) s = .next (u.almRefuse 0x15))))
  ∧ (∀ (dt : Nat) (s u : State), u = s.start dt →
    (u.nextAlm = none ∨ u.alm = none ∨ u.almState ≠ 3 ∨ u.ep < u.reloadAt ∨ 2 ≤ u.power → exec (.reloadCommit dt) s = .next u)
    ∧ (u.nextAlm = none ∨ u.alm = none ∨ u.almState ≠ 4 → exec (.reloadBankResetEnd dt) s = .next u)
    ∧ ∀ new old : Almanac, u.nextAlm = some new → u.alm = some old →
    (∀ w : State, w = (if u.calRun.any (fun r => u.affected.contains r.bank) then u.abortRun false else u) →
      u.almState = 3 → u.reloadAt ≤ u.ep → u.power ≤ 1 →
      exec (.reloadCommit dt) s = .next ((((({ (({ w with reloadGaps := [], reloadRearm := false } : State).forAll
          (w.groupsOver u.affected) State.stopAtReload) with alm := some { old with touts := new.touts, digest := new.digest } }
          : State).putDigest new).wr Reg.almStatus 3 0 4).stopBanks u.affected true).forAll
          ((List.range 4).filter (fun o => new.touts.getD o (0xFF, 0) == (0xFF, 0))) State.toutStop))
    ∧ (u.almState = 4 →
      exec (.reloadBankResetEnd dt) s
        = .next (((u.applyNew old new u.affected).almSuccess new).inc Reg.almReloadCount).reloadDone))

/-! ### Converters, clocks and the Epoch (chapters 03 and 04) -/

/-- R62, R71 to R74: OVR_CLEAR clears the sixteen overrange counts of its bank and nothing else; a start-up that
completes makes the bank ready; one that has not completed after 2 ms counts a failure, retries 10 ms after it began
and pauses the armed groups over the bank (cause 9); the end of a channel's settling ends what it alone held of its
group's pauses. -/
def Obligations.ConvertersStart : Prop :=
  ∀ (dt : Nat) (b : Fin 16) (s v : State), v = s.start dt →
    (∃ t, exec (.ovrClear dt b) s = .next t ∧ OnlyRegs ((List.range 32).map (fun k => Reg.bnkOvr b 0 + 4 * k)) v t
        ∧ ∀ k < 32, t.get (Reg.bnkOvr b 0 + 4 * k) = 0)
    ∧ ((v.bankAt b).startAt.isSome = true → v.sampleLocked = true → v.ready b = false → v.bankMode b ≠ 3 →
      exec (.converterReady dt b) s = .next (v.bankReady b))
    ∧ ((v.bankAt b).startAt = none ∨ v.sampleLocked = false ∨ v.ready b = true ∨ v.bankMode b = 3 →
      exec (.converterReady dt b) s = .next v)
    ∧ ((v.bankAt b).startAt = none ∨ v.ready b = true → exec (.converterStartTimeout dt b) s = .next v)
    ∧ (∀ w, (v.bankAt b).startAt = some w → v.now < w + 2 * msec → exec (.converterStartTimeout dt b) s = .next v)
    ∧ ((v.bankAt b).retryAt = none → exec (.converterStartRetry dt b) s = .next v)
    ∧ (∀ w, (v.bankAt b).retryAt = some w → exec (.converterStartRetry dt b) s = .next (if w ≤ v.now then v.powerUp b false else v))
    ∧ (∀ c : Fin 16, (v.bankAt b).settleEnd.getD c 0 = 0 ∨ v.now < (v.bankAt b).settleEnd.getD c 0 →
      exec (.settlingEnd dt b c) s = .next v)
    ∧ (∀ w, (v.bankAt b).startAt = some w → w + 2 * msec ≤ v.now → v.ready b = false →
      ∃ t, t = ((((v.setBank b { (v.bankAt b) with startAt := none, retryAt := some (w + 10 * msec) }).setBit
        (Reg.bnkConvStatus b) 3 true).countFld (Reg.bnkConvRestarts b) 31 16 1).rearmReloaded true)
      ∧ exec (.converterStartTimeout dt b) s = .next (t.pauseAll (t.groupsOf b) 9))
    ∧ (∀ w, (v.bankAt b).retryAt = some w → w ≤ v.now → v.bankMode b ≠ 3 →
      ∃ t, exec (.converterStartRetry dt b) s = .next t ∧ (t.bankAt b).startAt = some v.now ∧ (t.bankAt b).retryAt = none
        ∧ t.bit (Reg.bnkConvStatus b) 1 = true)
    ∧ ∀ (c : Fin 16) (w : State), (v.bankAt b).settleEnd.getD c 0 ≠ 0 → (v.bankAt b).settleEnd.getD c 0 ≤ v.now →
      w = v.setBank b { (v.bankAt b) with settleEnd := (v.bankAt b).settleEnd.set c 0 } →
      (w.groupOfChan (16 * b.val + c.val) = none → exec (.settlingEnd dt b c) s = .next w)
      ∧ ∀ g, w.groupOfChan (16 * b.val + c.val) = some g → exec (.settlingEnd dt b c) s = .next (w.endPauses g)

/-- R78 to R84: the reference input. A qualified REF_IN sets its status and the always-on clock follows it; losing it
before the first lock returns that clock to the RC oscillator without holdover; losing it while locked enters holdover
and records the Epoch; its return ends holdover, and 10 ms later the unsettled state of the relock ends; OVEN_READY is
read as it is. R80, R85, R86: the first lock of the core PLL starts the Epoch at 0; after a warm reset with REF_IN as
the always-on source the Epoch is the always-on copy advanced by the elapsed time, to within one tick. The sample PLL
locks after the core PLL. R76, R352: losing the sample PLL raises PLL_SAMPLE (source 10) and stops every bank, losing
the core PLL raises PLL_CORE (source 11), and a relock of the sample PLL in Feast restarts the banks. -/
def Obligations.ReferenceAndPlls : Prop :=
  (∀ (dt : Nat) (s v : State), v = s.start dt →
    (∀ hundred : Bool, (v.bit Reg.epcStatus 0 = true ∨ v.rd Reg.epcRefCtl 1 0 = 3
        ∨ v.rd Reg.epcRefCtl 1 0 = (if hundred then 1 else 2)) → exec (.refQualified dt hundred) s = .next v)
    ∧ (∀ hundred : Bool, v.bit Reg.epcStatus 0 = false →
        (v.rd Reg.epcRefCtl 1 0 = 0 ∨ v.rd Reg.epcRefCtl 1 0 = (if hundred then 2 else 1)) →
      ∃ t, exec (.refQualified dt hundred) s = .next t ∧ t.bit Reg.epcStatus 0 = true
        ∧ t.rd Reg.epcStatus 3 2 = (if hundred then 2 else 1) ∧ t.bit Reg.epcStatus 4 = false)
    ∧ ((v.bit Reg.epcStatus 0 = false ∨ (v.coreLocked = true ∧ v.bit Reg.epcStatus 6 = false)) →
      exec (.refLostBeforeLock dt) s = .next v)
    ∧ ((v.bit Reg.epcStatus 0 = false ∨ v.coreLocked = false ∨ v.bit Reg.epcStatus 6 = true) → exec (.refLoss dt) s = .next v)
    ∧ ((v.bit Reg.epcStatus 0 = false ∨ v.coreLocked = false ∨ v.bit Reg.epcStatus 6 = false) →
      exec (.refRelock dt) s = .next v)
    ∧ (v.relockAt = none → exec (.unsettledClear dt) s = .next v)
    ∧ (∀ w, v.relockAt = some w → v.now < w + 10 * msec → exec (.unsettledClear dt) s = .next v)
    ∧ (v.bit Reg.epcStatus 0 = true → (v.coreLocked = false ∨ v.bit Reg.epcStatus 6 = true) →
      ∃ t, exec (.refLostBeforeLock dt) s = .next t ∧ t.bit Reg.epcStatus 0 = false ∧ t.rd Reg.epcStatus 3 2 = 0
        ∧ t.bit Reg.epcStatus 4 = true ∧ t.aonRc = true ∧ t.bit Reg.epcStatus 6 = v.bit Reg.epcStatus 6)
    ∧ (v.bit Reg.epcStatus 0 = true → v.coreLocked = true → v.bit Reg.epcStatus 6 = false →
      exec (.refLoss dt) s = .next ((((v.refGone.setBit Reg.epcStatus 6 true).wrEpoch Reg.epcLossAt v.ep).inc
        Reg.epcRefLosses).fault 12 allBanks))
    ∧ (v.bit Reg.epcStatus 6 = true → v.bit Reg.epcStatus 0 = true → v.coreLocked = true →
      ∃ t, exec (.refRelock dt) s = .next t ∧ t.bit Reg.epcStatus 6 = false ∧ t.relockAt = some v.now ∧ t.epoch = v.epoch)
    ∧ (∀ w, v.relockAt = some w → w + 10 * msec ≤ v.now →
      exec (.unsettledClear dt) s = .next { v with relockAt := none })
    ∧ ∀ level, ∃ t, exec (.ovenReadyChange dt level) s = .next t ∧ OnlyRegs [Reg.epcStatus] v t
        ∧ t.bit Reg.epcStatus 5 = level)
  ∧ (∀ (dt : Nat) (s v : State), v = s.start dt →
    ((v.bit Reg.epcStatus 0 = false ∨ v.coreLocked = true ∨ v.inReset = true ∨ (v.bit Reg.epcStatus 1 = true ∧ v.counting = true)
        ∨ (v.power = 3 ∧ v.move = .steady)) → exec (.corePllLock dt) s = .next v)
    ∧ ((v.coreLocked = false ∨ v.bit Reg.epcStatus 1 = false ∨ v.sampleLocked = true ∨ v.clockWaits = true) →
      exec (.samplePllLock dt) s = .next v)
    ∧ (v.sampleLocked = false → exec (.samplePllLoss dt) s = .next v)
    ∧ ((v.sampleLocked = true ∨ v.coreLocked = false ∨ v.clockWaits = false) → exec (.samplePllRelock dt) s = .next v)
    ∧ (v.coreLocked = false → exec (.corePllLoss dt) s = .next v)
    ∧ (v.bit Reg.epcStatus 0 = true → v.coreLocked = false → v.inReset = false →
        (v.bit Reg.epcStatus 1 = false ∨ v.counting = false) → (v.power ≠ 3 ∨ v.move ≠ .steady) →
      (v.aonHas = false → ∃ t, exec (.corePllLock dt) s = .next t ∧ t.epoch = 0 ∧ t.counting = true ∧ t.coreLocked = true
        ∧ t.bit Reg.epcStatus 1 = true)
      ∧ (v.aonHas = true → v.aonRc = false → ∃ t e, exec (.corePllLock dt) s = .next t ∧ e ≤ 2 ∧ t.counting = true
        ∧ t.epoch = BitVec.ofNat 72 (v.aonEpoch.toNat + (v.now - v.aonAt) + 2 ^ 72 + e - 1)))
    ∧ (v.coreLocked = true → v.bit Reg.epcStatus 1 = true → v.sampleLocked = false → v.clockWaits = false →
      (∀ t0, v.move ≠ .exiting t0) ∨ v.power ≠ 3 → ∃ t, exec (.samplePllLock dt) s = .next t ∧ t.sampleLocked = true
        ∧ t.mem = v.mem)
    ∧ (∀ t0 w, v.coreLocked = true → v.bit Reg.epcStatus 1 = true → v.sampleLocked = false → v.clockWaits = false →
      v.move = .exiting t0 → v.power = 3 → w = { v with
        sampleLocked := true, confirmFrom := if v.updState = 8 ∧ v.confirmFrom.isNone then some v.now else v.confirmFrom } →
      exec (.samplePllLock dt) s = .next (w.forAll (List.range 16) (fun z b => z.powerUp b true)))
    ∧ (v.sampleLocked = true → exec (.samplePllLoss dt) s = .next (v.fault 10 allBanks).clockLost)
    ∧ (v.sampleLocked = false → v.coreLocked = true → v.clockWaits = true →
      ∃ t, exec (.samplePllRelock dt) s = .next t ∧ t.sampleLocked = true ∧ t.mem.space = v.mem.space)
    ∧ (v.coreLocked = true → exec (.corePllLoss dt) s
        = .next (((({ v with coreLocked := false } : State).setBit Reg.epcStatus 8 true).clockLost).fault 11 allBanks)))

/-- R87, R88: LOAD_NOW waits, reading 1, for the next frame boundary; every command that begins at or after the
boundary finds the Epoch such that it equalled EPC_SET, with bits 12 to 0 taken as 0, at the boundary, the unsettled
cause of the Epoch cleared and LOAD_NOW 0. Where R87 refuses it, only CMD_ERR is set. LOAD_PPS waits for the next
accepted edge or is refused alike, and CANCEL withdraws it. R89: with DISCIPLINE off a PPS edge does nothing; an edge
within the gate and the spacing is accepted, and any other is counted as rejected and changes nothing else; after 1.5
s without an accepted edge PPS_MISSING is set and LOCKED cleared. -/
def Obligations.EpochLoads : Prop :=
  (∀ (dt : Nat) (s v : State), v = s.start dt →
    (v.loadRefused = false →
      (∃ t, exec (.loadNow dt) s = .next t ∧ t.bit Reg.epcCtl 0 = true ∧ t.epoch = v.epoch
        ∧ OnlyRegs [Reg.epcCtl] { v with loadAt := some (v.now + (8192 - v.ep % 8192)) } t)
      ∧ ∃ t, exec (.loadPps dt) s = .next t ∧ OnlyRegs [Reg.epcCtl] v t ∧ t.bit Reg.epcCtl 1 = true)
    ∧ (v.loadRefused = true →
      (∃ t, exec (.loadNow dt) s = .next t ∧ OnlyRegs [Reg.epcStatus] v t ∧ t.bit Reg.epcStatus 11 = true)
      ∧ ∃ t, exec (.loadPps dt) s = .next t ∧ OnlyRegs [Reg.epcStatus] v t ∧ t.bit Reg.epcStatus 11 = true)
    ∧ (∃ t, exec (.ppsLoadCancel dt) s = .next t ∧ OnlyRegs [Reg.epcCtl] v t ∧ t.bit Reg.epcCtl 1 = false)
    ∧ ∀ b, s.loadAt = some b → s.counting = true → b ≤ s.now + dt →
      v.epoch = BitVec.ofNat 72 (s.rdq Reg.epcSet 3 % 2 ^ 72 / 8192 * 8192 + (s.now + dt - b)) ∧ v.loadAt = none
      ∧ v.bit Reg.epcCtl 0 = false ∧ v.bit Reg.epcStatus 8 = false)
  ∧ (∀ (dt ago : Nat) (s v : State), v = s.start dt →
    (v.discipline = 0 → exec (.ppsEdge dt ago) s = .next v)
    ∧ (v.discipline ≠ 0 → v.ppsSpaced ago = true → (v.ppsErr (v.before ago)).natAbs ≤ v.rd Reg.epcPpsGate 31 0 →
      exec (.ppsEdge dt ago) s = .next ((v.ppsAccept (v.before ago) ago).ppsLoad (v.before ago)))
    ∧ (v.discipline ≠ 0 → (v.ppsSpaced ago = false ∨ v.rd Reg.epcPpsGate 31 0 < (v.ppsErr (v.before ago)).natAbs) →
      ∃ t, exec (.ppsEdge dt ago) s = .next t ∧ OnlyRegs [Reg.epcPpsCount] v t
        ∧ t.rd Reg.epcPpsCount 31 16 = min 65535 (v.rd Reg.epcPpsCount 31 16 + 1)
        ∧ t.rd Reg.epcPpsCount 15 0 = v.rd Reg.epcPpsCount 15 0)
    ∧ (v.discipline = 0 ∨ v.now < v.ppsLast + second + second / 2 → exec (.ppsMissing dt) s = .next v)
    ∧ (v.discipline ≠ 0 → v.ppsLast + second + second / 2 ≤ v.now →
      ∃ t, exec (.ppsMissing dt) s = .next t ∧ t.bit Reg.epcStatus 10 = true ∧ t.bit Reg.epcStatus 9 = false
        ∧ t.get Reg.epcFoffset = v.get Reg.epcFoffset ∧ t.epoch = v.epoch))

/-- R94: RUN with the Epoch counting on a locked core PLL clears the unit's counters and opens it, for intervals or
for the regression, and otherwise only sets the unit's error; STOP of a running unit leaves it stopped with no
measurement open. R91, R92, R96, R97: the events and the ends of an interval unit: an event opens or stops a
measurement, more than 200 events of one source within 1250 core cycles make the unit fall back, and time-outs and
gates end on the Epoch modulo 2^72. -/
def Obligations.IntervalUnits : Prop :=
  (∀ (dt : Nat) (i : Fin 16) (s v : State), v = s.start dt →
    (v.counting = true → v.bit Reg.epcStatus 1 = true → v.bit (Reg.epcIvCtl i) 4 = false →
      ∃ t, exec (.ivRun dt i) s = .next t ∧ t.ivState i = 1 ∧ t.ivAt i = IvUnit.idle ∧ t.get (Reg.epcIvCount i) = 0
        ∧ t.get (Reg.epcIvDiscard i) = 0 ∧ t.get (Reg.epcIvIgnored i) = 0)
    ∧ (v.counting = true → v.bit Reg.epcStatus 1 = true → v.bit (Reg.epcIvCtl i) 4 = true →
      ∃ t, exec (.ivRun dt i) s = .next t ∧ t.ivState i = 2 ∧ (t.ivAt i).gateFrom = some v.ep)
    ∧ (v.counting = false ∨ v.bit Reg.epcStatus 1 = false →
      ∃ t, exec (.ivRun dt i) s = .next t ∧ OnlyRegs [Reg.epcIvStatus i] v t ∧ t.bit (Reg.epcIvStatus i) 13 = true)
    ∧ (v.ivState i ≠ 0 → ∃ t, exec (.ivStop dt i) s = .next t ∧ t.ivState i = 0 ∧ (t.ivAt i).startAt = none
        ∧ (t.ivAt i).gateFrom = none)
    ∧ (v.ivState i = 0 → exec (.ivStop dt i) s = .next v))
  ∧ (∀ (dt : Nat) (i : Fin 16) (s v : State), v = s.start dt →
    (takeFor (.ivStart i) v.fabric = none → exec (.ivStartEvent dt i) s = .next v)
    ∧ (takeFor (.ivStop i) v.fabric = none → exec (.ivStopEvent dt i) s = .next v)
    ∧ (∀ d rest w, takeFor (.ivStart i) v.fabric = some (d, rest) → v.ivState i ≠ 1 → w = ({ v with fabric := rest } : State).setIv i
        { (v.ivAt i) with recentStart := recentWith (v.ivAt i).recentStart d.instant } →
      (v.ivState i = 2 → (v.ivAt i).regOnStart = true → exec (.ivStartEvent dt i) s = .next (w.ivStamp i d.instant))
      ∧ (v.ivState i ≠ 2 ∨ (v.ivAt i).regOnStart = false → exec (.ivStartEvent dt i) s = .next w))
    ∧ (∀ d rest w, takeFor (.ivStop i) v.fabric = some (d, rest) → v.ivState i ≠ 1 → w = ({ v with fabric := rest } : State).setIv i
        { (v.ivAt i) with recentStop := recentWith (v.ivAt i).recentStop d.instant } →
      (v.ivState i = 2 → (v.ivAt i).regOnStart = false → exec (.ivStopEvent dt i) s = .next (w.ivStamp i d.instant))
      ∧ (v.ivState i ≠ 2 ∨ (v.ivAt i).regOnStart = true → exec (.ivStopEvent dt i) s = .next w))
    ∧ ((v.ivAt i).startAt = none ∨ v.ivState i ≠ 1 → exec (.ivTimeout dt i) s = .next v)
    ∧ (∀ w, (v.ivAt i).startAt = some w → after72 v.ep (v.ivEnd i w) = true → exec (.ivTimeout dt i) s = .next v)
    ∧ ((v.ivAt i).gateFrom = none ∨ v.ivState i ≠ 2 → exec (.ivPrescaleCountEnd dt i) s = .next v
      ∧ exec (.ivGateClose dt i) s = .next v)
    ∧ (∀ w, (v.ivAt i).gateFrom = some w →
      ((v.ivAt i).counting = false ∨ span72 w v.ep < 1250 * cycle → exec (.ivPrescaleCountEnd dt i) s = .next v)
      ∧ ((v.ivAt i).counting = true ∨ (span72 w v.ep < v.ivGate i * cycle ∧ (v.ivAt i).stamps.length ≠ 4096) →
        exec (.ivGateClose dt i) s = .next v))
    ∧ (∀ d rest, takeFor (.ivStart i) v.fabric = some (d, rest) → v.ivState i = 1 →
      ((recentWith (v.ivAt i).recentStart d.instant).length ≤ 200 ∨ v.ivSame i = true) →
      exec (.ivStartEvent dt i) s = .next ((({ v with fabric := rest } : State).setIv i
        { (v.ivAt i) with recentStart := recentWith (v.ivAt i).recentStart d.instant }).ivStart i d.instant))
    ∧ (∀ d rest, takeFor (.ivStart i) v.fabric = some (d, rest) → v.ivState i = 1 → v.ivSame i = false →
      200 < (recentWith (v.ivAt i).recentStart d.instant).length →
      exec (.ivStartEvent dt i) s = .next ((({ v with fabric := rest } : State).setIv i
        { (v.ivAt i) with recentStart := recentWith (v.ivAt i).recentStart d.instant }).ivFallRate i
        (recentWith (v.ivAt i).recentStart d.instant) true))
    ∧ (∀ d rest, takeFor (.ivStop i) v.fabric = some (d, rest) → v.ivState i = 1 →
      (recentWith (v.ivAt i).recentStop d.instant).length ≤ 200 →
      exec (.ivStopEvent dt i) s = .next ((({ v with fabric := rest } : State).setIv i
        { (v.ivAt i) with recentStop := recentWith (v.ivAt i).recentStop d.instant }).ivStopAt i d.instant))
    ∧ (∀ d rest, takeFor (.ivStop i) v.fabric = some (d, rest) → v.ivState i = 1 →
      200 < (recentWith (v.ivAt i).recentStop d.instant).length →
      exec (.ivStopEvent dt i) s = .next ((({ v with fabric := rest } : State).setIv i
        { (v.ivAt i) with recentStop := recentWith (v.ivAt i).recentStop d.instant }).ivFallRate i
        (recentWith (v.ivAt i).recentStop d.instant) false))
    ∧ (∀ w, (v.ivAt i).startAt = some w → v.ivState i = 1 → after72 v.ep (v.ivEnd i w) = false →
      exec (.ivTimeout dt i) s = .next (v.ivExpire i))
    ∧ (∀ w, (v.ivAt i).gateFrom = some w → v.ivState i = 2 → (v.ivAt i).counting = true → 1250 * cycle ≤ span72 w v.ep →
      ∃ t, exec (.ivPrescaleCountEnd dt i) s = .next t ∧ (t.ivAt i).gateFrom = some ((w + 1250 * cycle) % 2 ^ 72)
        ∧ (t.ivAt i).counting = false ∧ (t.ivAt i).stamps = []
        ∧ t.rd (Reg.epcIvPrescale i) 4 0 = prescaleFor (v.ivAt i).evCount (v.ivGate i) % 32)
    ∧ ∀ w, (v.ivAt i).gateFrom = some w → v.ivState i = 2 → (v.ivAt i).counting = false →
      (v.ivGate i * cycle ≤ span72 w v.ep ∨ (v.ivAt i).stamps.length = 4096) →
      exec (.ivGateClose dt i) s = .next (v.ivFit i ((w + min (v.ivGate i * cycle) (span72 w v.ep)) % 2 ^ 72)))

/-! ### Triggers (chapter 05) -/

/-- R104, R111, R121, R124: a trigger unit whose channel delivers runs over the samples it is given, one that is
masked only tracks its condition, and one whose channel does not deliver is at its reset detection state; a condition
active beyond the stuck limit masks it; UNMASK ends the masking once the condition is over and resets the detection
state, and leaves a unit whose condition still holds alone; CLR clears its four counters and nothing else. -/
def Obligations.TriggerUnits : Prop :=
  ∀ (dt : Nat) (b : Fin 16) (k : Fin 8) (s v : State), v = s.start dt →
    (∀ first vins, v.unitSees (8 * b.val + k.val) = true → v.unitMasked (8 * b.val + k.val) = false →
      exec (.triggerUnitFire dt b k first vins) s = .next (v.unitRun (8 * b.val + k.val) first vins))
    ∧ (∀ first vins, v.unitSees (8 * b.val + k.val) = true → v.unitMasked (8 * b.val + k.val) = true →
      exec (.triggerUnitFire dt b k first vins) s
        = .next (v.setTrig (8 * b.val + k.val) ((v.unitRun (8 * b.val + k.val) first vins).trigAt (8 * b.val + k.val))))
    ∧ (∀ first vins, v.unitSees (8 * b.val + k.val) = false →
      ∃ t, exec (.triggerUnitFire dt b k first vins) s = .next t ∧ t.trigAt (8 * b.val + k.val) = TrigUnit.idle ∧ t.mem = v.mem
        ∧ t.fabric = v.fabric)
    ∧ (∀ w, (v.trigAt (8 * b.val + k.val)).activeSince = some w → v.unitWatches (8 * b.val + k.val) = true →
      v.actf (Reg.bnkTrgCtl b k) 16 16 = 1 → w + v.stuckLimit < v.ep →
      exec (.triggerUnitStuck dt b k) s = .next (((v.setBit (Reg.bnkTrgStatus b k) 1 true).countFld
        (Reg.bnkTrgStatus b k) 31 16 1).fault 19 (maskBit b)))
    ∧ ((v.trigAt (8 * b.val + k.val)).activeSince = none ∨ v.unitWatches (8 * b.val + k.val) = false
        ∨ v.actf (Reg.bnkTrgCtl b k) 16 16 = 0 → exec (.triggerUnitStuck dt b k) s = .next v)
    ∧ (∀ w, (v.trigAt (8 * b.val + k.val)).activeSince = some w → v.ep ≤ w + v.stuckLimit →
      exec (.triggerUnitStuck dt b k) s = .next v)
    ∧ (v.bit (Reg.bnkTrgStatus b k) 1 = true → (v.trigAt (8 * b.val + k.val)).activeSince = none →
      ∃ t, exec (.trgUnmask dt b k) s = .next t ∧ t.bit (Reg.bnkTrgStatus b k) 1 = false
        ∧ t.trigAt (8 * b.val + k.val) = TrigUnit.idle)
    ∧ ((v.trigAt (8 * b.val + k.val)).activeSince ≠ none ∨ v.bit (Reg.bnkTrgStatus b k) 1 = false →
      exec (.trgUnmask dt b k) s = .next v)
    ∧ ∃ t, exec (.trgClr dt b k) s = .next t ∧ OnlyRegs [Reg.bnkTrgFired b k, Reg.bnkTrgFired b k + 4, Reg.bnkTrgHeld b k,
        Reg.bnkTrgMerged b k, Reg.bnkTrgStatus b k] v t ∧ t.rdq (Reg.bnkTrgFired b k) 2 = 0 ∧ t.get (Reg.bnkTrgHeld b k) = 0
        ∧ t.get (Reg.bnkTrgMerged b k) = 0 ∧ t.rd (Reg.bnkTrgStatus b k) 31 16 = 0
        ∧ t.rd (Reg.bnkTrgStatus b k) 15 0 = v.rd (Reg.bnkTrgStatus b k) 15 0

/-- R112 to R114, R129: an edge is stamped with its own instant, and whether a short pulse is taken is free; a pin at
its active level beyond the stuck limit is masked; UNMASK ends the masking of a pin at its inactive level only; CLR
clears the counters of the pin and nothing else; an edge on a wake pin in Fast or Fallow is kept, and demands an exit.
-/
def Obligations.Pins : Prop :=
  ∀ (dt : Nat) (p : Fin 12) (s v : State), v = s.start dt →
    (∀ level ago, v.power ≠ 3 → exec (.extPinEdge dt p level ago false) s = .next (v.pinEdge p level (v.before ago)))
    ∧ (∀ level ago, v.power = 3 →
      exec (.extPinEdge dt p level ago false) s = .next (v.aonStamp.2.pinEdge p level v.aonStamp.1))
    ∧ (∀ level ago, exec (.extPinEdge dt p level ago true) s = .next v.fresh.2
      ∨ ∃ i, exec (.extPinEdge dt p level ago true) s = .next (v.fresh.2.pinEdge p level i))
    ∧ (∀ w, (v.pinAt p).activeSince = some w → v.bit (Reg.epcPinCtl p) 1 = true → v.pinActive p = true →
      v.bit (Reg.epcPinStat p) 2 = false → w + v.stuckLimit < v.now → v.fabricRuns = true →
      exec (.pinStuck dt p) s = .next (((v.setBit (Reg.epcPinStat p) 2 true).countFld (Reg.epcPinStat p) 31 16 1).fault
        19 allBanks))
    ∧ ((v.pinAt p).activeSince = none ∨ v.bit (Reg.epcPinCtl p) 1 = false ∨ v.pinActive p = false
        ∨ v.bit (Reg.epcPinStat p) 2 = true ∨ v.fabricRuns = false → exec (.pinStuck dt p) s = .next v)
    ∧ (∀ w, (v.pinAt p).activeSince = some w → v.now ≤ w + v.stuckLimit → exec (.pinStuck dt p) s = .next v)
    ∧ (v.pinActive p = true → exec (.pinUnmask dt p) s = .next v)
    ∧ (v.pinActive p = false → ∃ t, exec (.pinUnmask dt p) s = .next t ∧ OnlyRegs [Reg.epcPinStat p] v t
      ∧ t.bit (Reg.epcPinStat p) 2 = false)
    ∧ (∃ t, exec (.pinClr dt p) s = .next t ∧ OnlyRegs [Reg.epcPinEvents p, Reg.epcPinMerged p, Reg.epcPinStat p] v t
      ∧ t.get (Reg.epcPinEvents p) = 0 ∧ t.get (Reg.epcPinMerged p) = 0 ∧ t.rd (Reg.epcPinStat p) 31 16 = 0
      ∧ t.rd (Reg.epcPinStat p) 15 0 = v.rd (Reg.epcPinStat p) 15 0)
    ∧ (∀ ago, 8 ≤ p.val → v.bit (Reg.epcPinCtl p) 4 = true → v.power = 2 →
      exec (.wakePinEdge dt p ago) s = .next (v.pinEdge p (v.activeLevel p) (v.before ago)))
    ∧ (∀ ago, 8 ≤ p.val → v.bit (Reg.epcPinCtl p) 4 = true → v.power = 3 →
      exec (.wakePinEdge dt p ago) s = .next (v.aonStamp.2.pinEdge p (v.activeLevel p) v.aonStamp.1))
    ∧ (∀ ago, 8 ≤ p.val → v.bit (Reg.epcPinCtl p) 4 = true → v.power = 3 → v.bit (Reg.epcPinStat p) 2 = false →
      v.move = .steady → (∀ k < 4, (v.pinAt (8 + k)).wakeKept = none) →
      ∃ t, exec (.wakePinEdge dt p ago) s = .next t ∧ (t.pinAt p).wakeKept = some v.aonStamp.1 ∧ t.move = .exiting v.now)
    ∧ ∀ ago, (p.val < 8 ∨ v.bit (Reg.epcPinCtl p) 4 = false ∨ v.power ≤ 1) → exec (.wakePinEdge dt p ago) s = .next v

/-- R115: a write of 1 to EPC_SOFT.FIRE produces one SOFT event, source kind 3, whose instant is the Epoch at the
start of the core cycle: every consumer of that source has it under way, with that instant. A second one in the same
core cycle is merged into it. -/
def Obligations.SoftEvent : Prop :=
  ∀ (dt : Nat) (s v : State), v = s.start dt →
    (v.softAt ≠ some (v.ep / 4096) → v.power ≤ 1 → v.linesOf (3, 0) = [] →
      ∃ t, exec (.softFire dt) s = .next t ∧ t.softAt = some (v.ep / 4096) ∧ t.mem = v.mem
        ∧ t.fabric = v.fabric ++ (v.fabricConsumers (3, 0)).map (fun d => ⟨d, (3, 0), v.ep - v.ep % 4096, false, false, v.cyc⟩))
    ∧ (v.softAt ≠ some (v.ep / 4096) → exec (.softFire dt) s
        = .next (({ v with softAt := some (v.ep / 4096) } : State).deliver (3, 0) (v.ep - v.ep % cycle) false false))
    ∧ (v.softAt = some (v.ep / 4096) → exec (.softFire dt) s = .next v)

/-- R118, R119, R125, R126: a source event reaches its Conjunction; a held event older than WINDOW plus SLACK is
discarded and every younger one is kept; CLR clears the four counters and nothing else; a TRIG_OUT event starts a
pulse by the output's mode (at once under ASAP with no other pulse), and at its end the output returns to its inactive
level. -/
def Obligations.ConjunctionsAndOutputs : Prop :=
  (∀ (dt : Nat) (j : Fin 16) (s v : State), v = s.start dt →
    (takeFor (.conj j) v.fabric = none ∨ v.conjCfg j = none → exec (.conjunctionEvent dt j) s = .next v)
    ∧ (∀ d rest, takeFor (.conj j) v.fabric = some (d, rest) → (v.conjCfg j).isSome = true → v.fabricRuns = false →
      exec (.conjunctionEvent dt j) s = .next { v with fabric := rest })
    ∧ (∀ d rest c, takeFor (.conj j) v.fabric = some (d, rest) → v.conjCfg j = some c → v.fabricRuns = true →
      exec (.conjunctionEvent dt j) s = .next (({ v with fabric := rest } : State).conjTake j c d))
    ∧ (∃ t, exec (.conjunctionExpiry dt j) s = .next t ∧ (t.conjAt j).held = (v.conjAt j).held.filter
        (fun h => decide (v.ep ≤ h.instant + v.conjWindow j + v.conjSlack j)) ∧ OnlyRegs [Reg.epcCjExpired j]
        { v with conj := t.conj } t)
    ∧ ∃ t, exec (.cjClr dt j) s = .next t ∧ OnlyRegs [Reg.epcCjFired j, Reg.epcCjFired j + 4, Reg.epcCjHeld j,
        Reg.epcCjMerged j, Reg.epcCjExpired j] v t ∧ t.rdq (Reg.epcCjFired j) 2 = 0 ∧ t.get (Reg.epcCjHeld j) = 0
        ∧ t.get (Reg.epcCjMerged j) = 0 ∧ t.get (Reg.epcCjExpired j) = 0)
  ∧ ∀ (dt : Nat) (o : Fin 4) (s v : State), v = s.start dt →
    (takeFor (.tout o) v.fabric = none → exec (.trigOutPulseStart dt o) s = .next v)
    ∧ (∀ d rest, takeFor (.tout o) v.fabric = some (d, rest) → v.bit (Reg.epcToutCtl o) 0 = false ∨ v.fabricRuns = false →
      exec (.trigOutPulseStart dt o) s = .next { v with fabric := rest })
    ∧ (∀ d rest, takeFor (.tout o) v.fabric = some (d, rest) → v.bit (Reg.epcToutCtl o) 0 = true → v.fabricRuns = true →
      exec (.trigOutPulseStart dt o) s = .next (if v.bit (Reg.epcToutCtl o) 8 then
        ({ v with fabric := rest } : State).toutAligned o d.instant else ({ v with fabric := rest } : State).toutAsap o))
    ∧ (∀ d rest, takeFor (.tout o) v.fabric = some (d, rest) → v.bit (Reg.epcToutCtl o) 0 = true → v.fabricRuns = true →
      v.bit (Reg.epcToutCtl o) 8 = false → (v.toutAt o).pulses = [] →
      ∃ t, exec (.trigOutPulseStart dt o) s = .next t
        ∧ (t.toutAt o).pulses = [⟨v.now, v.now + v.toutWidth o, false⟩]
        ∧ t.out = v.out ++ [.pulse o v.now (v.now + v.toutWidth o) (v.toutLevel o)])
    ∧ (∀ p, (v.toutAt o).pulses.find? (fun p => !p.told && decide (p.stop ≤ v.now)) = some p →
      ∃ t, exec (.trigOutPulseEnd dt o) s = .next t ∧ t.mem = v.mem
        ∧ (t.toutAt o).pulses = (v.toutAt o).pulses.map (fun q => if q = p then { q with told := true } else q)
        ∧ t.out = v.out ++ [.pin "TRIG_OUT" (v.bit (Reg.epcToutCtl o) 4)])
    ∧ ((v.toutAt o).pulses.find? (fun p => !p.told && decide (p.stop ≤ v.now)) = none →
      exec (.trigOutPulseEnd dt o) s = .next v)

/-! ### Acquisition groups and records (chapter 06) -/

/-- R153, R154: a hand-over that is ready happens when the shadow is valid, and is withheld with HANDOVER_ERR when it
is not; nothing happens while it is not ready. R133: ARM of a group with no failing condition arms it, and ARM refused
under its first failing condition reports that code and changes nothing else. R134: DISARM of an armed group leaves it
disarming until its record in progress ends, or disarms it; ABORT of an armed group ends it at once; both do nothing
to a group that is not armed, and none of the four does anything to a group that the Almanac does not define. -/
def Obligations.GroupCommands : Prop :=
  ∀ (dt : Nat) (g : Fin 32) (s v : State), v = s.start dt →
    ((v.gcfg g).isSome = true → v.handReady g false = true → v.shadowOk g = true →
      exec (.handover dt g) s = .next (v.handGroup g))
    ∧ ((v.gcfg g).isSome = true → v.handReady g false = true → v.shadowOk g = false →
      ∃ t, exec (.handover dt g) s = .next t ∧ (t.grp g).handErr = true ∧ t.mem = v.mem ∧ (t.grp g).st = (v.grp g).st
        ∧ ∀ j, j ≠ g.val → t.grp j = v.grp j)
    ∧ ((v.gcfg g).isSome = false ∨ v.handReady g false = false → exec (.handover dt g) s = .next v)
    ∧ ((v.gcfg g).isSome = true → v.armCode g = 0 → exec (.arm dt g) s = .next (v.armNow g))
    ∧ ((v.gcfg g).isSome = true → v.armCode g ≠ 0 →
      ∃ t, exec (.arm dt g) s = .next t ∧ (t.grp g).armErr = v.armCode g ∧ (t.grp g).st = (v.grp g).st ∧ t.mem = v.mem
        ∧ ∀ j, j ≠ g.val → t.grp j = v.grp j)
    ∧ ((v.gcfg g).isSome = false → exec (.arm dt g) s = .next v)
    ∧ (v.gArmed g = true → (v.grp g).cur ≠ none →
      ∃ t, exec (.disarm dt g) s = .next t ∧ (t.grp g).disarming = true ∧ (t.grp g).cur = (v.grp g).cur ∧ t.mem = v.mem
        ∧ ∀ j, j ≠ g.val → t.grp j = v.grp j)
    ∧ (v.gArmed g = true →
      exec (.disarm dt g) s = .next ((v.setGrp g { (v.grp g) with disarming := true }).finishDisarm g))
    ∧ (v.gArmed g = true → v.gmode g ≠ 2 → (v.grp g).cur = none → (v.grp g).acc.staged = none → (v.grp g).acc.emitWait = [] →
      exec (.disarm dt g) s = .next ((v.setGrp g { (v.grp g) with disarming := true }).toIdle g))
    ∧ (v.gArmed g = true → exec (.abort dt g) s = .next (v.doAbort g))
    ∧ (v.gArmed g = false → exec (.disarm dt g) s = .next v ∧ exec (.abort dt g) s = .next v)

/-- R143, R145, R150, R428: what a trigger is to its group by the group's state: nothing in IDLE and DISABLED and to a
Stream group, a refusal counted as dead while the group records, re-arms or is paused, an early one while the Eve
history or the channels do not allow a record, a refused one where the partition has no room, and otherwise the start
of a record whose trigger instant AQG_LAST_TRIG shows. R131, R142, R143, R145: a FILLING group whose Eve count has
reached EVE_REQ becomes ARMED; a Stream segment that ends, and a record whose last sample is captured, go to the queue
of records to commit, to the sum of an Accumulate group, or are given up where a capture port refuses them; re-arm
ends 40 core cycles after it began. -/
def Obligations.GroupTriggersAndProgress : Prop :=
  (∀ (dt : Nat) (g : Fin 32) (s v u : State), v = s.start dt →
    (takeFor (.group g) v.fabric = none → exec (.groupTrigger dt g) s = .next v)
    ∧ ∀ (d : Delivery) (rest : List Delivery), takeFor (.group g) v.fabric = some (d, rest) → u = { v with fabric := rest } →
    (v.gArmed g = false ∨ v.gmode g = 1 → exec (.groupTrigger dt g) s = .next u)
    ∧ (v.gmode g ≠ 1 → (v.grp g).st = .paused →
      ∃ t, exec (.groupTrigger dt g) s = .next t ∧ (t.grp g).dead = min (2 ^ 18 - 1) ((v.grp g).dead + 1) ∧ t.mem = v.mem)
    ∧ (v.gmode g ≠ 1 → (v.grp g).st = .recording ∨ (v.grp g).st = .rearm →
      ∃ t, exec (.groupTrigger dt g) s = .next t ∧ (t.grp g).dead = min (2 ^ 18 - 1) ((v.grp g).dead + 1)
        ∧ (t.grp g).st = (v.grp g).st ∧ OnlyRegs [Reg.aqgDead g, Reg.aqgDead g + 4] { u with groups := t.groups } t)
    ∧ (v.gmode g = 2 → (v.grp g).st = .filling ∨ (v.grp g).st = .armed → (v.grp g).acc.emitWait ≠ [] → u.emitAllFit g = true →
      exec (.groupTrigger dt g) s = .next (u.deadTrigger g d.instant))
    ∧ ((v.gmode g = 0 ∨ (v.gmode g = 2 ∧ ((v.grp g).acc.emitWait = [] ∨ u.emitAllFit g = false))) →
      (v.grp g).st = .filling ∨ (v.grp g).st = .armed →
      (u.eveFor g d = none →
        ∃ t, exec (.groupTrigger dt g) s = .next t ∧ (t.grp g).early = min (2 ^ 18 - 1) ((v.grp g).early + 1)
          ∧ (t.grp g).st = (v.grp g).st ∧ OnlyRegs [Reg.aqgEarly g, Reg.aqgEarly g + 4] { u with groups := t.groups } t)
      ∧ ∀ n short, u.eveFor g d = some (n, short) →
        (u.noRoom g = true → exec (.groupTrigger dt g) s = .next (u.fullTrigger g))
        ∧ (u.noRoom g = false → exec (.groupTrigger dt g) s = .next (u.acceptTrigger g d n short))))
  ∧ (∀ (dt : Nat) (g : Fin 32) (s v : State), v = s.start dt →
    ((v.grp g).st = .filling → v.eveReq g ≤ v.eveV g → v.gNotReady g = false →
      ∃ t, exec (.eveFilled dt g) s = .next t ∧ (t.grp g).st = .armed ∧ (t.grp g).able = v.ep ∧ t.mem = v.mem)
    ∧ ((v.grp g).st ≠ .filling ∨ v.eveV g < v.eveReq g ∨ v.gNotReady g = true → exec (.eveFilled dt g) s = .next v)
    ∧ ((v.grp g).cur = none → (∀ samples, exec (.segmentBoundary dt g samples) s = .next (v.countRefused g (v.ep + 1))
        ∧ exec (.recordCaptureEnd dt g samples) s = .next v))
    ∧ (∀ c samples, (v.grp g).cur = some c → v.captured g c = false →
      exec (.segmentBoundary dt g samples) s = .next v ∧ exec (.recordCaptureEnd dt g samples) s = .next v)
    ∧ (∀ c samples w d, (v.grp g).cur = some c → v.gmode g = 1 → v.captured g c = true →
      (v.settlePorts g).takeSamples g c.trig 0 samples = (w, d) →
      (∀ p, w.refuser g (some (w.dataRec g c d)) = some p →
        exec (.segmentBoundary dt g samples) s = .next (w.granuleRefused g p false))
      ∧ (w.refuser g (some (w.dataRec g c d)) = none →
        exec (.segmentBoundary dt g samples) s
          = .next ((w.segmentCaptured g (w.dataRec g c d) (v.curEnd g c)).nextSegment g (v.curEnd g c))))
    ∧ (∀ c samples w d, (v.grp g).cur = some c → v.gmode g ≠ 1 → v.captured g c = true →
      (v.settlePorts g).takeSamples g c.trig c.eveAct samples = (w, d) →
      (∀ p, w.refuser g (if v.gmode g = 2 then none else some (w.dataRec g c d)) = some p →
        exec (.recordCaptureEnd dt g samples) s = .next (w.granuleRefused g p false))
      ∧ ∀ x, x = (if v.gmode g = 2 then w.sumCaptured g c d (v.curEnd g c)
            else w.dataCaptured g c d (w.dataRec g c d) (v.curEnd g c)) →
        w.refuser g (if v.gmode g = 2 then none else some (w.dataRec g c d)) = none →
        ((x.grp g).disarming = false → exec (.recordCaptureEnd dt g samples) s = .next x)
        ∧ ((x.grp g).disarming = true → exec (.recordCaptureEnd dt g samples) s = .next (x.finishDisarm g)))
    ∧ (v.rearmOver g = true → (v.grp g).pauses = [] → (v.grp g).st = .rearm →
      exec (.rearmEnd dt g) s = .next (v.rearmDone g))
    ∧ (v.rearmOver g = true → (v.grp g).pauses.any (fun p => p.cause == 1) = false →
      (v.grp g).pauses.any (fun p => p.cause == 23) = true → exec (.rearmEnd dt g) s = .next (v.rearmGap g 23))
    ∧ (v.rearmOver g = false ∨ (v.grp g).pauses.any (fun p => p.cause == 1) = true → exec (.rearmEnd dt g) s = .next v)
    ∧ ((v.grp g).pauses.any (fun p => p.cause == 1 || p.cause == 23) = false → (v.grp g).st ≠ .rearm →
      exec (.rearmEnd dt g) s = .next v))

/-- R139, R149, R150, R163, R203: a group that was full, that lost records to bandwidth or that was paused goes on
when its cause is over; a held message goes out when AQG_IRQ_GAP has passed; a refused granule of a record in progress
begins the cause BANDWIDTH, is counted against its port and raises BANDWIDTH (source 21); a refused granule of the Eve
ring starts the Eve history over. -/
def Obligations.GroupGaps : Prop :=
  ∀ (dt : Nat) (g : Fin 32) (s v : State), v = s.start dt →
    ((v.grp g).isFull = true → v.gmode g ≠ 2 → v.fits g = true → exec (.partitionFullEnd dt g) s = .next (v.endHold g 2))
    ∧ ((v.grp g).isFull = true → v.gmode g = 2 → ((v.tryEmit g 8).grp g).acc.emitWait = [] →
      ∃ w, w = (v.tryEmit g 8).endHold g 2 ∧ ((w.grp g).disarming = false → exec (.partitionFullEnd dt g) s = .next w)
        ∧ ((w.grp g).disarming = true → exec (.partitionFullEnd dt g) s = .next (w.finishDisarm g)))
    ∧ ((v.grp g).isFull = true → v.gmode g = 2 → ((v.tryEmit g 8).grp g).acc.emitWait ≠ [] →
      exec (.partitionFullEnd dt g) s = .next (v.tryEmit g 8))
    ∧ ((v.grp g).isFull = false ∨ (v.gmode g ≠ 2 ∧ v.fits g = false) → exec (.partitionFullEnd dt g) s = .next v)
    ∧ ((v.grp g).pauses.any (fun p => p.cause == 1) = true → v.gmode g = 1 → v.segTokens g = true →
      exec (.bandwidthGapEnd dt g) s = .next (v.endHold g 1))
    ∧ ((v.grp g).pauses.any (fun p => p.cause == 1) = true → v.gmode g ≠ 1 → v.rearmOver g = true →
      exec (.bandwidthGapEnd dt g) s = .next (v.rearmGap g 1))
    ∧ ((v.grp g).pauses.any (fun p => p.cause == 1) = false ∨ (v.gmode g = 1 ∧ v.segTokens g = false)
        ∨ (v.gmode g ≠ 1 ∧ v.rearmOver g = false) → exec (.bandwidthGapEnd dt g) s = .next v)
    ∧ exec (.pauseEnd dt g) s = .next (v.endPauses g)
    ∧ ((v.grp g).irqHeld = false → exec (.aqgIrqGapExpiry dt g) s = .next v)
    ∧ ((v.grp g).irqHeld = true → (∀ t, (v.grp g).lastMsg = some t → t + v.actf (Reg.aqgIrqGap g) 15 0 ≤ v.cyc) →
      exec (.aqgIrqGapExpiry dt g) s = .next ((v.signal (8 + g.val)).setGrp g { (v.grp g) with lastMsg := some v.cyc, irqHeld := false }))
    ∧ ((v.grp g).irqHeld = true → (∃ t, (v.grp g).lastMsg = some t ∧ v.cyc < t + v.actf (Reg.aqgIrqGap g) 15 0) →
      ∃ t, exec (.aqgIrqGapExpiry dt g) s = .next t ∧ t.out = v.out ∧ (t.grp g).irqHeld = true ∧ t.mem = v.mem)
    ∧ (∀ (p : Fin 16) (queueFull ring : Bool), (v.gArmed g = false ∨ (v.gbanks g).contains p.val = false
        ∨ (if queueFull then v.queueFull p else (v.refusedPorts g).contains p.val) = false
        ∨ (if ring then v.ringWrites g else v.portRecord g) = false) →
      exec (.captureGranuleRefused dt g p ⟨queueFull, ring⟩) s = .next v)
    ∧ ((v.grp g).irqHeld = true → v.msixOn = true → v.deliverable (8 + g.val) = true → v.out = [] →
      (∀ t, (v.grp g).lastMsg = some t → t + v.actf (Reg.aqgIrqGap g) 15 0 ≤ v.cyc) →
      ∃ t, exec (.aqgIrqGapExpiry dt g) s = .next t ∧ t.out = [.msix (8 + g.val)] ∧ (t.grp g).irqHeld = false
        ∧ (t.grp g).lastMsg = some v.cyc ∧ t.mem = v.mem)
    ∧ ∀ (p : Fin 16) (queueFull : Bool), v.gArmed g = true → (v.gbanks g).contains p.val = true →
      (if queueFull then v.queueFull p else (v.refusedPorts g).contains p.val) = true →
      (v.portRecord g = true → ∀ w, w = (v.beginCause g 1).countRefusal p queueFull →
        ((w.grp g).st = .recording → exec (.captureGranuleRefused dt g p ⟨queueFull, false⟩) s
          = .next (w.setGrp g { (w.grp g) with st := .rearm, rearmAt := w.now }))
        ∧ ((w.grp g).st ≠ .recording → exec (.captureGranuleRefused dt g p ⟨queueFull, false⟩) s = .next w))
      ∧ (v.ringWrites g = true → ∃ t, exec (.captureGranuleRefused dt g p ⟨queueFull, true⟩) s = .next t
        ∧ (t.grp g).fillFrom = v.ep ∧ ((v.grp g).st = .armed → (t.grp g).st = .filling))

/-- R138: a release served at once. A range that is upside down or reaches past the committed records, and a range
that the ledger does not take, is refused with ERR and changes nothing else; a range that the ledger takes sets DONE;
while releases are held the request waits; a group that the Almanac does not define ignores it. -/
def Obligations.StewardReleases : Prop :=
  ∀ (dt : Nat) (g : Fin 32) (s v : State), v = s.start dt →
    ((v.gcfg g).isSome = false → exec (.stewardRelease dt g) s = .next v)
    ∧ ((v.gcfg g).isSome = true → v.releasesHeld = true →
      exec (.stewardRelease dt g) s = .next { v with heldSteward := v.heldSteward ++ [g.val] })
    ∧ ((v.gcfg g).isSome = true → v.releasesHeld = false →
      (v.rdq (Reg.aqgRelLast g) 3 % 2 ^ 72 < v.rdq (Reg.aqgRelFirst g) 3 % 2 ^ 72
        ∨ (v.part (v.gpart g)).seq ≤ v.rdq (Reg.aqgRelLast g) 3 % 2 ^ 72
        ∨ v.release (v.gpart g) (v.rdq (Reg.aqgRelFirst g) 3 % 2 ^ 72) (v.rdq (Reg.aqgRelLast g) 3 % 2 ^ 72) = none) →
      ∃ t, exec (.stewardRelease dt g) s = .next t ∧ OnlyRegs [Reg.aqgRelCtl g] v t ∧ t.bit (Reg.aqgRelCtl g) 2 = true)
    ∧ ∀ w, (v.gcfg g).isSome = true → v.releasesHeld = false →
      v.rdq (Reg.aqgRelFirst g) 3 % 2 ^ 72 ≤ v.rdq (Reg.aqgRelLast g) 3 % 2 ^ 72 →
      v.rdq (Reg.aqgRelLast g) 3 % 2 ^ 72 < (v.part (v.gpart g)).seq →
      v.release (v.gpart g) (v.rdq (Reg.aqgRelFirst g) 3 % 2 ^ 72) (v.rdq (Reg.aqgRelLast g) 3 % 2 ^ 72) = some w →
      exec (.stewardRelease dt g) s = .next (w.setBit (Reg.aqgRelCtl g) 1 true)

/-- R137: a commit takes the sequence that stands, and the next commit takes the one after it. It writes the granules
of the record from the next start of the partition on and no other word of record space; the commit address moves past
them, and the record leaves the queue of its group. Intercalary records that then stand at the front of the queue
follow it (`drain`). A record that may not be committed yet stays, and with no record queued a span that waits in an
earlier partition is written. -/
def Obligations.RecordCommits : Prop :=
  ∀ (dt : Nat) (g : Fin 32) (s v : State), v = s.start dt →
    ((v.grp g).queue = [] → exec (.recordCommit dt g) s = .next (v.commitLate g))
    ∧ (∀ r rest, (v.grp g).queue = r :: rest → v.mayCommit g r = false → exec (.recordCommit dt g) s = .next v)
    ∧ ∀ r rest, (v.grp g).queue = r :: rest → v.mayCommit g r = true →
      ∃ w, (rest = [] → exec (.recordCommit dt g) s = .next w)
        ∧ exec (.recordCommit dt g) s = .next (w.drain g rest.length)
        ∧ (w.part (v.gpart g)).seq = (v.part (v.gpart g)).seq + 1
        ∧ (w.part (v.gpart g)).commitAddr = v.wrapIn (v.gpart g) (v.nextStart (v.gpart g) + r.granules)
        ∧ (w.grp g).queue = rest
        ∧ ∀ a, (∀ k < v.rounded r.granules, v.granuleOf (v.gpart g) (v.nextStart (v.gpart g)) k ≠ a / 8) →
            tget w.mem.space 0 a = tget v.mem.space 0 a

/-! ### Filters, accumulation and histograms (chapters 07 and 08) -/

/-- R166, R175, R177: an allowed write of BNK_FLT that the judgement takes stores the word as a shadow; one it refuses
stores nothing, and BNK_FLT_STATUS shows the channel and why; a write to a channel that is not live does nothing; the
first valid output after a restart ends the pauses of the group; CLR_SAT clears the sixteen saturation counts of its
bank and nothing else. -/
def Obligations.FilterCommands : Prop :=
  ∀ (dt : Nat) (b c : Fin 16) (s v : State), v = s.start dt →
    (∀ rq w, v.writeReach rq (Reg.bnkFlt b c) true true = .allowed → (v.accessDemand rq).live (16 * b.val + c.val) = true →
      fld w 31 25 = 0 → exec (.bnkFltWrite dt rq b c w) s = .next ((v.accessDemand rq).doFltWrite b c w))
    ∧ (∀ rq w, v.writeReach rq (Reg.bnkFlt b c) true true = .allowed → (v.accessDemand rq).live (16 * b.val + c.val) = true →
      fld w 31 25 ≠ 0 → exec (.bnkFltWrite dt rq b c w) s = .fault .reservedValue)
    ∧ (∀ rq w what, v.writeReach rq (Reg.bnkFlt b c) true true = .refused what →
      exec (.bnkFltWrite dt rq b c w) s = .next ((v.readDemand rq).refuse (portOf rq true) what))
    ∧ (∀ rq w y, v.writeReach rq (Reg.bnkFlt b c) true true = .allowed → (v.accessDemand rq).live (16 * b.val + c.val) = true →
      fld w 31 25 = 0 → (v.accessDemand rq).fltWhy b c w = some y → y < 4 → (v.accessDemand rq).groupOfChan (16 * b.val + c.val) ≠ none →
      ∃ t, exec (.bnkFltWrite dt rq b c w) s = .next t ∧ t.bit (Reg.bnkFltStatus b) 0 = true
        ∧ t.rd (Reg.bnkFltStatus b) 7 4 = c.val ∧ t.rd (Reg.bnkFltStatus b) 9 8 = y
        ∧ t.get (Reg.bnkFlt b c) = v.get (Reg.bnkFlt b c))
    ∧ (∀ rq w, v.writeReach rq (Reg.bnkFlt b c) true true = .allowed →
      (v.accessDemand rq).live (16 * b.val + c.val) = false → exec (.bnkFltWrite dt rq b c w) s = .next (v.accessDemand rq))
    ∧ (∀ g, v.primed b c = true → v.groupOfChan (16 * b.val + c.val) = some g →
      exec (.filterPrimed dt b c) s = .next ((v.endPauses g).fillCheck g))
    ∧ (v.primed b c = false ∨ v.groupOfChan (16 * b.val + c.val) = none → exec (.filterPrimed dt b c) s = .next v)
    ∧ ∃ t, exec (.clrSat dt b) s = .next t ∧ OnlyRegs ((List.range 16).map (fun k => Reg.bnkFltSat b k)) v t
        ∧ ∀ k < 16, t.get (Reg.bnkFltSat b k) = 0

/-- R184 to R191: staged records are folded one at a time in their order, when the accumulation port passes their
granules; FLUSH of an armed Accumulate group between records emits its sum, waits for the boundary while a record is
in progress or staged, and does nothing to another group; a waiting emission goes out when it has tokens and room, and
ends a disarm that waited for it; HIST_EMIT of an armed group emits its histogram, and does nothing to an idle one. -/
def Obligations.AccumulationCommands : Prop :=
  ∀ (dt : Nat) (s v : State), v = s.start dt →
    (∀ g rest, v.foldQueue = g :: rest → v.foldAt = none → 256 ≤ v.tok accPort → v.writable = true →
      exec (.foldStart dt) s = .next (({ v with foldAt := some v.now } : State).pass accPort (v.foldGranules g)))
    ∧ (v.foldQueue = [] ∨ v.foldAt ≠ none ∨ v.tok accPort < 256 ∨ v.writable = false → exec (.foldStart dt) s = .next v)
    ∧ (∀ w g rest, v.foldAt = some w → v.foldQueue = g :: rest → w + v.foldTicks g ≤ v.now → 0 ≤ v.tok accPort →
      exec (.foldEnd dt) s = .next (({ v with foldAt := none, foldQueue := rest } : State).foldDone g))
    ∧ (v.foldAt = none ∨ v.foldQueue = [] ∨ v.tok accPort < 0 → exec (.foldEnd dt) s = .next v)
    ∧ (∀ w g rest, v.foldAt = some w → v.foldQueue = g :: rest → v.now < w + v.foldTicks g → exec (.foldEnd dt) s = .next v)
    ∧ ∀ g : Fin 32,
      ((v.grp g).acc.emitWait ≠ [] → ((v.tryEmit g 8).grp g).disarming = false →
        exec (.emissionTokensReady dt g) s = .next (v.tryEmit g 8))
      ∧ ((v.grp g).acc.emitWait ≠ [] → ((v.tryEmit g 8).grp g).disarming = true →
        exec (.emissionTokensReady dt g) s = .next ((v.tryEmit g 8).finishDisarm g))
      ∧ ((v.grp g).acc.emitWait = [] → exec (.emissionTokensReady dt g) s = .next v)
      ∧ (v.gmode g = 2 → v.gArmed g = true → (v.grp g).cur = none → (v.grp g).acc.staged = none →
        exec (.accFlush dt g) s = .next (v.emitSum g))
      ∧ (v.gmode g = 2 → v.gArmed g = true → ((v.grp g).cur ≠ none ∨ (v.grp g).acc.staged ≠ none) →
        ∃ t, exec (.accFlush dt g) s = .next t ∧ (t.grp g).acc.flush = true ∧ (t.grp g).acc.count = (v.grp g).acc.count
          ∧ t.mem = v.mem)
      ∧ (v.gmode g ≠ 2 ∨ v.gArmed g = false → exec (.accFlush dt g) s = .next v)
      ∧ (v.gArmed g = true → exec (.histEmit dt g) s = .next (v.emitHist g))
      ∧ (v.gArmed g = false → exec (.histEmit dt g) s = .next v)

/-! ### Stacks and record memory (chapter 09) -/

/-- R193, R208 to R210, R213: training of a stack that passes brings it into service, and one that fails is counted
and raises STACK_TRAIN (source 8), for the third time failing the stack; a temperature read sets the reading and HOT
above 85 °C, and raises TEMP_WARN (source 13) as it passes 95 °C and TEMP_CRIT (source 14) as it passes 105 °C; a
pseudo-channel whose temperature has moved is retrained, at most one at a time in a stack. R205, R211, R214, R215:
patrol scrub of a clean row moves to the next row and passes a granule of the scrub port for each stack in service,
and a row written in this pass is skipped; parity alerts count their replays or rereads, and the fourth failure fails
the stack or makes the read uncorrectable. -/
def Obligations.StacksAndErrors : Prop :=
  (∀ (dt : Nat) (k : Fin 4) (s v : State), v = s.start dt →
    ((2 ≤ v.rd (Reg.memStatus k) 2 0 ∨ (v.stack k).failed = true ∨ (v.stack k).frozen = true) →
      ∀ x, exec (.stackTrained dt k x) s = .next v)
    ∧ (v.rd (Reg.memStatus k) 2 0 ≤ 1 → (v.stack k).failed = false → (v.stack k).frozen = false →
      (∃ t, exec (.stackTrained dt k .pass) s = .next t ∧ t.rd (Reg.memStatus k) 2 0 = 2 ∧ (t.stack k).attempts = 0
        ∧ OnlyRegs [Reg.memStatus k] { v with stackTbl := t.stackTbl } t)
      ∧ ((v.stack k).attempts < 2 → exec (.stackTrained dt k .fail) s = .next (((v.setStack k
          { (v.stack k) with attempts := (v.stack k).attempts + 1 }).countFld (Reg.memTrain k) 31 16 1).fault 8 allBanks))
      ∧ (2 ≤ (v.stack k).attempts → exec (.stackTrained dt k .fail) s = .next ((((v.setStack k
          { (v.stack k) with attempts := (v.stack k).attempts + 1 }).countFld (Reg.memTrain k) 31 16 1).fault 8
            allBanks).failStack k)))
    ∧ (∀ c : Int, -127 ≤ c → c ≤ 127 → v.memReqs = [] → ∃ w, w.rd (Reg.memTemp k) 7 0 = unsigned 8 c
        ∧ w.bit (Reg.memStatus k) 9 = decide (85 < c)
        ∧ OnlyRegs [Reg.memTemp k, Reg.memStatus k] { v with stackTbl := w.stackTbl } w
        ∧ (c ≤ 95 → exec (.stackTempRead dt k c) s = .next w)
        ∧ (95 < c → c ≤ 105 → signed 8 (v.rd (Reg.memTemp k) 7 0) ≤ 95 →
          exec (.stackTempRead dt k c) s = .next (w.fault 13 allBanks).serveReqs)
        ∧ (95 < signed 8 (v.rd (Reg.memTemp k) 7 0) → (c ≤ 105 ∨ 105 < signed 8 (v.rd (Reg.memTemp k) 7 0)) →
          exec (.stackTempRead dt k c) s = .next w)
        ∧ (95 < signed 8 (v.rd (Reg.memTemp k) 7 0) → signed 8 (v.rd (Reg.memTemp k) 7 0) ≤ 105 → 105 < c →
          exec (.stackTempRead dt k c) s = .next (w.fault 14 allBanks).serveReqs)
        ∧ (105 < c → signed 8 (v.rd (Reg.memTemp k) 7 0) ≤ 95 →
          exec (.stackTempRead dt k c) s = .next ((w.fault 13 allBanks).fault 14 allBanks).serveReqs))
    ∧ (∀ pc : Fin 32, v.running k = true → (v.stack k).pcBusy = none → (v.stack k).trainTemp ≠ none → v.moved k pc = true →
      ((v.stack k).lastPause = 0 ∨ (v.stack k).lastPause + 20 * usec ≤ v.now) →
      ∃ t, exec (.retrainStart dt k pc) s = .next t ∧ (t.stack k).pcBusy = some pc.val
        ∧ t.rd (Reg.memStatus k) 15 11 = pc.val ∧ t.bit (Reg.memStatus k) 10 = true)
    ∧ (∀ pc : Fin 32, (v.running k = false ∨ (v.stack k).pcBusy ≠ none ∨ (v.stack k).trainTemp = none ∨ v.moved k pc = false
        ∨ ((v.stack k).lastPause ≠ 0 ∧ v.now < (v.stack k).lastPause + 20 * usec)) → exec (.retrainStart dt k pc) s = .next v)
    ∧ ((v.stack k).pcBusy = none → ∀ x, exec (.retrainEnd dt k x) s = .next v)
    ∧ ∀ pc, (v.stack k).pcBusy = some pc →
      (v.memReqs = [] → ∃ t, exec (.retrainEnd dt k .pass) s = .next t ∧ (t.stack k).pcBusy = none ∧ (t.stack k).lastPause = v.now
        ∧ t.rd (Reg.memStatus k) 15 10 = 0 ∧ t.rd (Reg.memTrain k) 15 0 = min 65535 (v.rd (Reg.memTrain k) 15 0 + 1))
      ∧ ((v.stack k).pcTries < 2 → exec (.retrainEnd dt k .fail) s = .next (((v.setStack k
          { (v.stack k) with pcTries := (v.stack k).pcTries + 1 }).countFld (Reg.memTrain k) 31 16 1).fault 8 allBanks))
      ∧ (2 ≤ (v.stack k).pcTries → exec (.retrainEnd dt k .fail) s = .next ((((v.setStack k
          { (v.stack k) with pcTries := (v.stack k).pcTries + 1 }).countFld (Reg.memTrain k) 31 16 1).fault 8
            allBanks).failStack k)))
  ∧ (∀ (dt : Nat) (s v : State), v = s.start dt →
    ((2 ≤ v.power ∨ v.alm = none ∨ v.scrubGranted = false ∨ v.tok scrubPort < 256
        ∨ ∃ k < 4, (v.stack k).failed = false ∧ v.takes k (v.rd Reg.memScrubPos 31 0) = false) → v.memReqs = [] →
      ∀ finds, exec (.scrubRow dt finds) s = .next v)
    ∧ (v.power ≤ 1 → v.alm.isSome = true → v.anyFrozen = false → v.memReqs = [] →
      (∀ k < 4, (v.stack k).failed = false ∧ v.takes k (v.rd Reg.memScrubPos 31 0) = true) → v.scrubGranted = true →
      256 ≤ v.tok scrubPort →
      (tget v.scrubbed 0 (v.rd Reg.memScrubPos 31 0) = 0 →
        exec (.scrubRow dt []) s = .next (({ v with scrubAt := some v.now } : State).pass scrubPort 4).scrubNext)
      ∧ (tget v.scrubbed 0 (v.rd Reg.memScrubPos 31 0) ≠ 0 → ∀ finds,
        exec (.scrubRow dt finds) s = .next ({ v with scrubAt := some v.now } : State).scrubNext))
    ∧ (∀ k : Fin 4, v.running k = false → ∀ n slot (others : List (Fin 4)) port, exec (.caParityAlert dt k n) s = .next v
      ∧ exec (.readParityError dt k ⟨slot, port⟩ n) s = .next v ∧ exec (.uncorrectableRead dt k ⟨slot, port⟩ others) s = .next v)
    ∧ ∀ k : Fin 4, v.running k = true →
      (∀ n < 4, ∃ t, exec (.caParityAlert dt k n) s = .next t ∧ OnlyRegs [Reg.memCaReplays k] v t
        ∧ (t.get (Reg.memCaReplays k)).toNat = min (2 ^ 32 - 1) ((v.get (Reg.memCaReplays k)).toNat + (n + 1)))
      ∧ (∀ n, 4 ≤ n → exec (.caParityAlert dt k n) s
          = .next (((v.count (Reg.memCaReplays k) 1 32 4).fault k allBanks).failStack k))
      ∧ (∀ slot n port, slot < slotCount → n < 4 → ∃ t, exec (.readParityError dt k ⟨slot, port⟩ n) s = .next t ∧ OnlyRegs [Reg.memRdRetries k] v t
        ∧ (t.get (Reg.memRdRetries k)).toNat = min (2 ^ 32 - 1) ((v.get (Reg.memRdRetries k)).toNat + (n + 1)))
      ∧ (∀ slot n port, slot < slotCount → 4 ≤ n → exec (.readParityError dt k ⟨slot, port⟩ n) s
          = .next ((v.count (Reg.memRdRetries k) 1 32 4).uncorrectable k slot [] port 4))
      ∧ (∀ slot (others : List (Fin 4)) port, slot < slotCount → exec (.uncorrectableRead dt k ⟨slot, port⟩ others) s
          = .next (v.uncorrectable k slot (others.map (fun x => x.val)) port 0))
      ∧ ∀ slot n (others : List (Fin 4)) port, slotCount ≤ slot → exec (.readParityError dt k ⟨slot, port⟩ n) s = .next v
          ∧ exec (.uncorrectableRead dt k ⟨slot, port⟩ others) s = .next v)

/-- R202, R212, R216: FAIL fails a stack of a Guarded device in which no other stack has failed, and is refused with
CMD_ERR otherwise; CLR clears the stack's counters; an allowed write of RATE or BURST settles the tokens at the old
values and takes the new; self-refresh is entered for a requested reset, for Safe Hold and for Fast and Fallow, and
left once it may end. -/
def Obligations.MemoryCommands : Prop :=
  ∀ (dt : Nat) (s v : State), v = s.start dt →
    (∀ k : Fin 4, v.plain = false → v.alm.isSome = true → (∀ j < 4, j ≠ k.val → (v.stack j).failed = false) →
      exec (.memFail dt k) s = .next (v.failStack k))
    ∧ (∀ k : Fin 4, v.plain = true ∨ v.alm = none ∨ (∃ j < 4, j ≠ k.val ∧ (v.stack j).failed = true) →
      ∃ t, exec (.memFail dt k) s = .next t ∧ OnlyRegs [Reg.memStatus k] v t
        ∧ t.bit (Reg.memStatus k) 8 = true)
    ∧ (∀ k : Fin 4, ∃ t, exec (.memClr dt k) s = .next t ∧ OnlyRegs (memCounters k) v t
        ∧ ∀ o ∈ memCounters k, t.get o = regDefault o)
    ∧ (∀ rq (p : Fin 25) w, v.writeReach rq (Reg.memRegRate p) true true = .allowed → fld w 31 16 = 0 →
      exec (.regulatorWrite dt rq p false w) s = .next ((v.accessDemand rq).doRegulator p false w).serveReqs)
    ∧ (∀ rq (p : Fin 25) w, v.writeReach rq (Reg.memRegBurst p) true true = .allowed → fld w 31 24 = 0 →
      (v.accessDemand rq).memReqs = [] → ∃ t, exec (.regulatorWrite dt rq p true w) s = .next t ∧ t.get (Reg.memRegBurst p) = w
        ∧ t.tok p ≤ max 1 (fld w 23 0) * 256)
    ∧ (∀ rq (p : Fin 25) b w, v.writeReach rq (if b then Reg.memRegBurst p else Reg.memRegRate p) true true = .allowed →
      (if b then fld w 31 24 else fld w 31 16) ≠ 0 → exec (.regulatorWrite dt rq p b w) s = .fault .reservedValue)
    ∧ (∀ rq (p : Fin 25) b w what, v.writeReach rq (if b then Reg.memRegBurst p else Reg.memRegRate p) true true = .refused what →
      exec (.regulatorWrite dt rq p b w) s = .next ((v.readDemand rq).refuse (portOf rq true) what))
    ∧ (v.resetStep ≠ .requested → (v.safeHoldAt = none ∨ v.holdDone = true) → (∀ k a, v.move ≠ .entering k a) →
      exec (.selfRefreshEntry dt) s = .next v)
    ∧ (v.resetStep = .requested → exec (.selfRefreshEntry dt) s = .next v.stacksSleep)
    ∧ (v.resetStep ≠ .requested → v.safeHoldAt ≠ none → v.holdDone = false →
      exec (.selfRefreshEntry dt) s = .next v.holdSteps)
    ∧ (∀ at_, v.resetStep ≠ .requested → (v.safeHoldAt = none ∨ v.holdDone = true) → v.move = .entering 2 at_ →
      exec (.selfRefreshEntry dt) s = .next (({ v.enterFast with move := .steady } : State).countEntry 2))
    ∧ (∀ at_, v.resetStep ≠ .requested → (v.safeHoldAt = none ∨ v.holdDone = true) → v.move = .entering 3 at_ →
      exec (.selfRefreshEntry dt) s = .next (({ v.enterFast.enterFallow with move := .steady } : State).countEntry 3))
    ∧ ((∀ a, v.move = .exiting a → v.power < 2) → (v.resetStep ≠ .released ∨ v.coreLocked = false ∨ v.recovery = true
        ∨ v.power ≠ 0 ∨ v.safeHoldAt.isSome = true ∨ v.pfAt.isSome = true) → exec (.selfRefreshExit dt) s = .next v)
    ∧ (v.resetStep = .released → v.coreLocked = true → v.recovery = false → v.power = 0 →
      v.safeHoldAt = none → v.pfAt = none → v.residencyOver = true →
      exec (.selfRefreshExit dt) s = .next v.stacksWake.serveReqs)
    ∧ (∀ at_, v.move = .exiting at_ → 2 ≤ v.power → v.residencyOver = true →
      exec (.selfRefreshExit dt) s = .next v.stacksWake.serveReqs)
    ∧ (v.residencyOver = false → exec (.selfRefreshExit dt) s = .next v)

/-- R203, R213, R218, R219, R252: a read of BAR2 waits in the order of the memory requests for its port, its stacks
and its tokens; one that nothing holds returns as many bytes as were asked for at once, poisoned where it covers a
lost granule, and leaves record space as it is. During a reset every byte reads 0xFF, and a port that is disabled is
refused. A write is discarded, and refused as a write to a read-only window (WHAT 1). -/
def Obligations.Bar2Accesses : Prop :=
  ∀ (dt a n : Nat) (rq : Requester) (finds : List GranuleFind) (s u : State), u = (s.start dt).accessDemand rq →
    (rq = .pf0 ∨ rq = .pf1) →
    (u.inReset = false → (rq = .pf1 → u.priv 0 ≠ 1) → u.memReqs = [] → u.safeHoldAt = none → u.readHeld a n = false →
      (256 : Int) * max 1 (ceilDiv (a % 36 + n) 36) ≤ u.tok mgmtPort → finds = [] →
      ∃ t bytes, exec (.bar2Read dt rq ⟨a, n⟩ finds) s = .next t ∧ bytes.length = n ∧ t.mem.space = u.mem.space ∧ t.memReqs = []
        ∧ t.out = u.out ++ [if u.readLost a n then .poisoned (List.replicate n 0xFF) else .data bytes])
    ∧ (u.inReset = false → (rq = .pf1 → u.priv 0 ≠ 1) → exec (.bar2Read dt rq ⟨a, n⟩ finds) s
        = .next ({ u with memReqs := u.memReqs ++ [⟨mgmtPort, u.now, false, .read a n finds⟩] } : State).serveReqs)
    ∧ (u.inReset = true → exec (.bar2Read dt rq ⟨a, n⟩ finds) s = .next (u.emit (.data (List.replicate n 0xFF))))
    ∧ (u.inReset = false → rq = .pf1 → u.priv 0 = 1 →
      exec (.bar2Read dt rq ⟨a, n⟩ finds) s = .next ((u.refuse 0 5).emit .unsupported))
    ∧ (u.inReset = false → exec (.bar2Write dt rq a n) s = .next (u.refuse (portOf rq true) 1))
    ∧ (u.inReset = true → exec (.bar2Write dt rq a n) s = .next u)

/-! ### Harvest (chapter 10) -/

/-- R226, R246, R247, R248: a doorbell counts and queues an idle channel at its head and a waiting one at its tail
(or, after a lost link, at the descriptor to be redone once the link is back), leaves any other enabled channel where
it is, and does nothing to a disabled one beyond the demand for Feast; RESUME queues a halted channel at the
descriptor that failed; ENABLE makes a disabled channel idle; clearing ENABLE disables a channel that is not running
at once and lets a running one finish its requests. -/
def Obligations.ChannelCommands : Prop :=
  ∀ (dt : Nat) (e : Fin 5) (c : Fin 64) (s v u : State), v = s.start dt → u = v.demandExit →
    ((v.hch e c).st = 0 → exec (.harvestDoorbell dt e c) s = .next u)
    ∧ ((v.hch e c).st ≠ 0 → ∃ t, exec (.harvestDoorbell dt e c) s = .next t ∧ t.mem = u.mem
      ∧ (t.hch e c).db = ((v.hch e c).db + 1) % 2 ^ 16
      ∧ ((v.hch e c).st = 1 → (t.hch e c).st = 2 ∧ (t.hch e c).entry = .head)
      ∧ ((v.hch e c).st = 4 → (v.hch e c).redo = false → (t.hch e c).st = 2 ∧ (t.hch e c).entry = .tail)
      ∧ ((v.hch e c).st = 4 → (v.hch e c).redo = true → u.pcieUp = true →
        (t.hch e c).st = 2 ∧ (t.hch e c).entry = .desc (u.rd64 (Reg.hrvChTail e c)))
      ∧ (((v.hch e c).st = 4 ∧ (v.hch e c).redo = true ∧ u.pcieUp = false) ∨ ((v.hch e c).st ≠ 1 ∧ (v.hch e c).st ≠ 4) →
        (t.hch e c).st = (v.hch e c).st))
    ∧ ((v.hch e c).st = 5 → ∃ t, exec (.channelResume dt e c) s = .next t ∧ (t.hch e c).st = 2
        ∧ (t.hch e c).entry = .desc (v.rd64 (Reg.hrvChCur e c)) ∧ t.bit (Reg.hrvChCtl e c) 8 = true
        ∧ OnlyRegs [Reg.hrvChCtl e c] { v with hrv := t.hrv } t)
    ∧ ((v.hch e c).st ≠ 5 → exec (.channelResume dt e c) s = .next v)
    ∧ (∃ t, exec (.channelEnable dt e c) s = .next t ∧ t.bit (Reg.hrvChCtl e c) 0 = true
        ∧ (t.hch e c).st = (if (v.hch e c).st = 0 then 1 else (v.hch e c).st)
        ∧ OnlyRegs [Reg.hrvChCtl e c] { v with hrv := t.hrv } t)
    ∧ ((v.hch e c).st ≠ 3 → ∃ t, exec (.channelDisable dt e c) s = .next t ∧ (t.hch e c).st = 0
        ∧ t.bit (Reg.hrvChCtl e c) 0 = false ∧ OnlyRegs [Reg.hrvChCtl e c] { v with hrv := t.hrv } t)
    ∧ ((v.hch e c).st = 3 → ∃ t, exec (.channelDisable dt e c) s = .next t ∧ (t.hch e c).st = 3
        ∧ (t.hch e c).disabling = true ∧ t.bit (Reg.hrvChCtl e c) 0 = false
        ∧ OnlyRegs [Reg.hrvChCtl e c] { v with hrv := t.hrv } t)
    ∧ (∀ j, (v.engine e).job = some j → j.ch = c.val → (v.hch e c).disabling = true →
        exec (.channelDisableDone dt e c) s = .next (v.disableDone e j))
    ∧ ((v.engine e).job = none ∨ (v.hch e c).disabling = false → exec (.channelDisableDone dt e c) s = .next v)

/-- R222 to R230, R242 to R247, R430: the engine's own steps. A running engine without a descriptor takes the next
queued channel; a fetched descriptor that the judgement passes begins its transfer, and one that fails ends with its
status; a transfer whose data has moved ends its descriptor, or waits for its destination; a failed access of host
memory ends with status 0x20 to 0x22. -/
def Obligations.EngineSteps : Prop :=
  ∀ (dt : Nat) (e : Fin 5) (s v : State), v = s.start dt →
    (∀ c next, v.bit (Reg.hrvCtl e) 0 = true → (v.engine e).job = none → v.nextChannel e = some c →
      exec (.engineTakeChannel dt e next) s = .next (v.takeChannel e c next))
    ∧ (∀ next, v.bit (Reg.hrvCtl e) 0 = false ∨ (v.engine e).job ≠ none ∨ v.nextChannel e = none →
      exec (.engineTakeChannel dt e next) s = .next v)
    ∧ (∀ j x bytes bs w d, (v.engine e).job = some j → j.phase = .fetch → (v.hch e j.ch).disabling = false →
      v.harvestWaits = false → bs = (if isLocal j.addr then v.lread e j.addr 64 else bytes) → d = descOf bs →
      w = (v.setHch e j.ch { (v.hch e j.ch) with sampled := (v.hch e j.ch).db, redo := false, tag := d.tag }).setBit
        (Reg.hrvChCtl e j.ch) 8 false →
      x = { j with d := d, strict := v.bit (Reg.hrvChCtl e j.ch) 1 } →
      (w.judge e x.strict bs d = 0 → exec (.descriptorFetch dt e bytes) s = .next (w.beginDesc e x))
      ∧ (w.judge e x.strict bs d ≠ 0 → exec (.descriptorFetch dt e bytes) s
          = .next (w.endDesc e x ⟨w.judge e x.strict bs d, 0, w.judgedFirst d, w.judgedFirst d, 0⟩ j.addr none endDepth)))
    ∧ (∀ j bytes, (v.engine e).job = some j → j.phase ≠ .fetch ∨ (v.hch e j.ch).disabling = true ∨ v.harvestWaits = true →
      exec (.descriptorFetch dt e bytes) s = .next v)
    ∧ (∀ j bytes next, (v.engine e).job = some j → (j.phase = .fetch ∨ (j.phase = .reread ∧ (v.hch e j.ch).disabling = true)
        ∨ (j.phase = .run ∧ ((v.hch e j.ch).disabling = true ∨ v.harvestWaits = true ∨ (e ≠ 4 ∧ v.streamDone e j = none)
          ∨ (e = 4 ∧ j.d.op = 3 ∧ (j.blk = true ∨ (j.d.sel = 3 ∧ v.mayPass (hrvPort 4) = false)))
          ∨ (e = 4 ∧ j.d.op ≠ 3 ∧ v.jobWaits j = true)))) → exec (.descriptorComplete dt e bytes next) s = .next v)
    ∧ (∀ j bytes next, (v.engine e).job = some j → j.phase = .run → (v.hch e j.ch).disabling = false → v.harvestWaits = false →
      (e = 4 → j.d.op ≠ 3 → v.jobWaits j = false →
        exec (.descriptorComplete dt e bytes next) s = .next (((v.haul j).2.deliverHost j (v.haul j).1).endDesc e j
          (v.haul j).1.done j.addr (some next) endDepth))
      ∧ (e = 4 → j.d.op = 3 → j.blk = false → (j.d.sel ≠ 3 ∨ v.mayPass (hrvPort 4) = true) →
        exec (.descriptorComplete dt e bytes next) s = .next (v.deliverDevice j bytes (some next)))
      ∧ ∀ x, e ≠ 4 → v.streamDone e j = some x →
        exec (.descriptorComplete dt e bytes next) s = .next (v.endDesc e j x j.addr (some next) endDepth))
    ∧ (∀ j bytes next x, (v.engine e).job = some j → j.phase = .ended x →
      exec (.descriptorComplete dt e bytes next) s = .next (v.settle e j x (some next) endDepth))
    ∧ (∀ j bytes next, (v.engine e).job = some j → j.phase = .reread → (v.hch e j.ch).disabling = false →
      exec (.descriptorComplete dt e bytes next) s = .next (v.reread e j (some next) endDepth))
    ∧ ((v.engine e).job = none → ∀ bytes next status a, exec (.descriptorFetch dt e bytes) s = .next v
      ∧ exec (.descriptorComplete dt e bytes next) s = .next v ∧ exec (.harvestBusError dt e status a) s = .next v)
    ∧ ∀ j a, (v.engine e).job = some j →
      ((v.hch e j.ch).disabling = true → ∀ status,
        exec (.harvestBusError dt e status a) s = .next (v.disableDone e j))
      ∧ (∀ status, (v.hch e j.ch).disabling = false →
        (status ≠ 0x20 ∨ isLocal j.addr = true ∨ (j.phase ≠ .fetch ∧ j.phase ≠ .reread)) →
        (status ≠ 0x21 ∨ j.phase ≠ .run ∨ j.d.op ≠ 3 ∨ j.blk = true) →
        (status ≠ 0x22 ∨ e ≠ 4 ∨ j.phase ≠ .run ∨ j.d.op = 3 ∨ v.jobWaits j = true) →
        exec (.harvestBusError dt e status a) s = .next v)
      ∧ ((v.hch e j.ch).disabling = false → (j.phase = .fetch ∨ j.phase = .reread) → isLocal j.addr = false →
        exec (.harvestBusError dt e 0x20 a) s = .next (v.endDesc e j ⟨0x20, 0, 0, 0, 0⟩ a none endDepth))
      ∧ ((v.hch e j.ch).disabling = false → j.phase = .run → j.d.op = 3 → j.blk = false →
        exec (.harvestBusError dt e 0x21 a) s
          = .next ((v.spoilDest j).endDesc e j ⟨0x21, 0, j.d.devOffset, j.d.devOffset, 0⟩ a none endDepth))
      ∧ ((v.hch e j.ch).disabling = false → e = 4 → j.phase = .run → j.d.op ≠ 3 → v.jobWaits j = false →
        exec (.harvestBusError dt e 0x22 a) s = .next (((v.haul j).2.deliverHost j (v.haul j).1).endDesc e j
          { (v.haul j).1.done with status := 0x22 } a none endDepth))

/-- R244, R249: software's completion queue head is stored, and lets a descriptor that waits for room end; RUN starts
an engine whose octet has a mode and is refused for one that has none, clearing RUN touches nothing else, CLR clears
the counters, and a held engine message goes out when HRV_IRQ_GAP has passed. -/
def Obligations.EngineCommands : Prop :=
  ∀ (dt : Nat) (e : Fin 5) (s v : State), v = s.start dt →
    (∀ w, (v.engine e).job = none → ∃ t, exec (.cqHeadWrite dt e w) s = .next t ∧ OnlyRegs [Reg.hrvCqHead e] v t
      ∧ t.get (Reg.hrvCqHead e) = w)
    ∧ (∀ w j x, (v.engine e).job = some j → j.phase = .ended x →
      exec (.cqHeadWrite dt e w) s = .next ((v.put (Reg.hrvCqHead e) w).settle e j x none endDepth))
    ∧ ((e = 4 ∨ v.octetMode e ≠ 0) → ∃ t, exec (.harvestRun dt e) s = .next t ∧ OnlyRegs [Reg.hrvCtl e] v t
      ∧ t.bit (Reg.hrvCtl e) 0 = true)
    ∧ (e ≠ 4 → v.octetMode e = 0 → ∃ t, exec (.harvestRun dt e) s = .next t ∧ OnlyRegs [Reg.hrvStatus e] v t
      ∧ t.bit (Reg.hrvStatus e) 1 = true)
    ∧ (∃ t, exec (.harvestStop dt e) s = .next t ∧ OnlyRegs [Reg.hrvCtl e] v t ∧ t.bit (Reg.hrvCtl e) 0 = false)
    ∧ (∃ t, exec (.hrvClr dt e) s = .next t ∧ OnlyRegs (hrvCounters e) v t
      ∧ ∀ o ∈ hrvCounters e, t.get o = regDefault o)
    ∧ ((v.engine e).held = false → exec (.hrvIrqGapExpiry dt e) s = .next v)
    ∧ ((v.engine e).held = true → exec (.hrvIrqGapExpiry dt e) s = .next (v.engineMsg e))
    ∧ (∀ w j, (v.engine e).job = some j → (∀ x, j.phase ≠ .ended x) →
      exec (.cqHeadWrite dt e w) s = .next (v.put (Reg.hrvCqHead e) w))
    ∧ ((v.engine e).held = true → v.msixOn = true → v.deliverable (1 + e.val) = true → v.out = [] →
      (∀ w, (v.engine e).lastMsg = some w → w + v.rd (Reg.hrvIrqGap e) 15 0 ≤ v.cyc) →
      ∃ t, exec (.hrvIrqGapExpiry dt e) s = .next t ∧ t.out = [.msix (1 + e.val)] ∧ (t.engine e).held = false
        ∧ (t.engine e).lastMsg = some v.cyc ∧ t.mem = v.mem)

/-! ### PCIe and interrupts (chapter 11) -/

/-- R248, R253, R254: the link going down without PERST_N raises PCIE_LINK (source 24); its return is shown with
generation and width; PERST_N deasserted lets training start; and MSI-X enabled sends the messages held for the
vectors that are open. -/
def Obligations.PcieAndInterrupts : Prop :=
  ∀ (dt : Nat) (s v : State), v = s.start dt →
    (v.pcieUp = true → v.perst = false → exec (.pcieLinkDown dt) s
      = .next ((((v.wr Reg.prtPcieStatus 8 0 0).countFld Reg.prtPcieStatus 31 16 1).fault 24 allBanks).dropPcie))
    ∧ (∀ gen width, v.pcieUp = false → v.perst = false → v.rd Reg.pwrStatus 6 4 ≠ 3 → 1 ≤ gen → gen ≤ 6 →
      widthCode width ≠ 0 → ∀ g, g = (if v.recovery then 1 else gen) → exec (.pcieLinkUp dt gen width) s
        = .next (v.wr Reg.prtPcieStatus 8 0 (256 * b2n (g == 6) + 16 * widthCode width + 2 * g + 1)).regainPcie.flushVectors)
    ∧ (v.pcieUp = false ∨ v.perst = true → exec (.pcieLinkDown dt) s = .next v)
    ∧ (∀ gen width, v.pcieUp = true ∨ v.perst = true ∨ v.rd Reg.pwrStatus 6 4 = 3 → exec (.pcieLinkUp dt gen width) s = .next v)
    ∧ (v.perst = true → exec (.perstDeassert dt) s = .next { v with perst := false, perstAt := v.now })
    ∧ (v.perst = false → exec (.perstDeassert dt) s = .next v
      ∧ exec (.pcieReady dt) s = .next ({ v with pcieReady := true } : State).flushVectors)
    ∧ (v.perst = true → exec (.pcieReady dt) s = .next v)
    ∧ ∀ i : Fin 64, exec (.msixUnmask dt i true) s = .next
        ((({ v with msixOn := true } : State).setBit (Reg.msixAddrDataCtl (4 * i + 3)) 0 false).flushVectors)
      ∧ ∃ t, exec (.msixUnmask dt i false) s = .next t ∧ t.msixOn = false ∧ t.get (Reg.msixPba 0) = regDefault (Reg.msixPba 0)
        ∧ t.get (Reg.msixPba 1) = regDefault (Reg.msixPba 1) ∧ t.out = v.out

/-! ### Ethernet, management and streams (chapter 11) -/

/-- R256, R263 to R266: a port that is on drops and counts a frame it does not accept and hands on the message of one
it does; of the messages on a stream, a bad one is dropped and counted, one of a port that may not send it or from
another receiver is refused, an ACK moves NEXT and CREDIT and lets go the frames it covers, one outside the frames in
flight is dropped, a RESEND queues every held frame it names, and a RELEASE held back for a procession waits its turn.
-/
def Obligations.EthernetMessages : Prop :=
  ∀ (dt : Nat) (q : Fin 32) (s v : State), v = s.start dt →
    (v.portOn q = false → ∀ bs ip udp, exec (.ethFrameReceive dt q bs) s = .next v ∧ exec (.ackMessage dt q ip udp bs) s = .next v
      ∧ exec (.resendMessage dt q ip udp bs) s = .next v ∧ exec (.releaseMessage dt q ip udp bs) s = .next v)
    ∧ (v.portOn q = true →
    (∀ frame, v.acceptFrame q frame = none → exec (.ethFrameReceive dt q frame) s = .next (v.inc (Reg.prtEthDropped q)))
    ∧ (∀ frame ip udp bs, v.acceptFrame q frame = some (ip, udp, bs) →
        exec (.ethFrameReceive dt q frame) s = .next (v.anyMsg q ip udp bs))
    ∧ ∀ (ip udp k : Nat) (bs : List Byte) (x : Stream), k = beAt bs 0xC 2 → x = v.stream k →
      ((∀ w : State, msgOkFor (unitId (if k < 256 then x.owner else none)) bs = true →
        ((v.priv (6 + q / 8) = 1 ∧ w = v.refuseHt q 5) ∨ (v.priv (6 + q / 8) ≠ 1 ∧ w = v.refuseHt q 3
          ∧ (256 ≤ k ∨ v.fromReceiver q k ip udp = false ∨ v.carriedHere q k (beAt bs 0xE 2) = false))) →
        (beAt bs 3 1 = 2 → exec (.ackMessage dt q ip udp bs) s = .next w)
        ∧ (beAt bs 3 1 = 3 → exec (.resendMessage dt q ip udp bs) s = .next w)
        ∧ (beAt bs 3 1 = 4 → v.priv (6 + q / 8) = 1 ∨ 256 ≤ k ∨ v.fromReceiver q k ip udp = false →
          exec (.releaseMessage dt q ip udp bs) s = .next w)
        ∧ (beAt bs 3 1 = 4 → v.priv (6 + q / 8) ≠ 1 → k < 256 → v.fromReceiver q k ip udp = true →
          v.carriedHere q k (beAt bs 0xE 2) = false → exec (.releaseMessage dt q ip udp bs) s
            = .next (w.sendReleaseAck ⟨k, q, beAt bs 0x10 4, beAt bs 0x14 1 % 32, 0, 0⟩ 2)))
      ∧ (msgOkFor (unitId (if k < 256 then x.owner else none)) bs = false →
        exec (.ackMessage dt q ip udp bs) s = .next (v.inc (Reg.prtEthDropped q))
        ∧ exec (.resendMessage dt q ip udp bs) s = .next (v.inc (Reg.prtEthDropped q))
        ∧ exec (.releaseMessage dt q ip udp bs) s = .next (v.inc (Reg.prtEthDropped q)))
      ∧ (msgOkFor (unitId (if k < 256 then x.owner else none)) bs = true → v.priv (6 + q / 8) ≠ 1 → k < 256 →
        v.fromReceiver q k ip udp = true → v.carriedHere q k (beAt bs 0xE 2) = true →
        (∀ nxt, beAt bs 3 1 = 2 → nxt = beAt bs 0x10 8 →
          (x.acked ≤ nxt → nxt ≤ x.next → ∃ t, exec (.ackMessage dt q ip udp bs) s = .next t ∧ (t.stream k).acked = nxt
            ∧ (t.stream k).credit = some (beAt bs 0x18 4) ∧ (∀ f, f ∈ (t.stream k).sent ↔ f ∈ x.sent ∧ nxt ≤ f.seq)
            ∧ (∀ j, j ≠ k → t.stream j = v.stream j) ∧ t.mem = v.mem)
          ∧ (nxt < x.acked ∨ x.next < nxt →
            exec (.ackMessage dt q ip udp bs) s = .next (v.inc (Reg.prtEthDropped q))))
        ∧ (∀ f, beAt bs 3 1 = 3 → f ∈ x.sent → beAt bs 0x10 8 ≤ f.seq → f.seq < beAt bs 0x10 8 + beAt bs 0x18 4 →
          ∃ t, exec (.resendMessage dt q ip udp bs) s = .next t ∧ f.seq ∈ (t.stream k).resend
            ∧ (∀ j, j ≠ k → t.stream j = v.stream j) ∧ t.mem = v.mem)
        ∧ (∀ h : HeldRelease, beAt bs 3 1 = 4 →
          h = ⟨k, q, beAt bs 0x10 4, beAt bs 0x14 1, beAt bs 0x18 16, beAt bs 0x28 16⟩ →
          (32 ≤ h.part ∨ (v.get (Reg.prtStPartMask k)).toNat.testBit h.part = false) →
          exec (.releaseMessage dt q ip udp bs) s = .next ((v.refuseHt q 4).sendReleaseAck h 2))
        ∧ ∀ h : HeldRelease, beAt bs 3 1 = 4 →
          h = ⟨k, q, beAt bs 0x10 4, beAt bs 0x14 1, beAt bs 0x18 16, beAt bs 0x28 16⟩ → h.part < 32 →
          (v.get (Reg.prtStPartMask k)).toNat.testBit h.part = true →
          (x.owner = none → v.releasesHeld = false → exec (.releaseMessage dt q ip udp bs) s = .next (v.serveRelease h))
          ∧ (x.owner = none → v.releasesHeld = true →
            exec (.releaseMessage dt q ip udp bs) s = .next { v with heldRel := v.heldRel ++ [h] })
          ∧ ∀ p, x.owner = some p → exec (.releaseMessage dt q ip udp bs) s = .next (v.passRelease p h))))

/-- R257, R259: OPEN starts a new incarnation on its home port or waits for a port, and is refused for a home port its
octet does not have; CLOSE leaves nothing of the stream but its incarnation and floor; a stream with a descriptor in
its transfer ends that descriptor first (`u`); a port that goes down raises ETH_LINK (source 25) and moves the streams
it carries; a port that comes up is shown as up. -/
def Obligations.StreamsAndPorts : Prop :=
  ∀ (dt : Nat) (s v : State), v = s.start dt →
    (∀ (k : Fin 256) (u : State), u = v.failStream k →
      ((v.stream k).job = none → u = v)
      ∧ (v.ethPorts (v.stOctet k) ≤ v.rd (Reg.prtStCtl k) 10 8 → ∃ t, exec (.streamOpen dt k) s = .next t
        ∧ OnlyRegs [Reg.prtStStatus k] v t ∧ t.bit (Reg.prtStStatus k) 3 = true)
      ∧ (v.rd (Reg.prtStCtl k) 10 8 < v.ethPorts (v.stOctet k) →
        ∃ t, exec (.streamOpen dt k) s = .next t ∧ (t.stream k).inc = ((u.stream k).inc + 1) % 2 ^ 16
          ∧ (t.stream k).next = 0 ∧ (t.stream k).acked = 0 ∧ (t.stream k).sent = []
          ∧ ((t.stream k).st = 1 ∨ (t.stream k).st = 2) ∧ (∀ j, j ≠ k.val → t.stream j = u.stream j) ∧ t.mem = u.mem)
      ∧ ∃ t, exec (.streamClose dt k) s = .next t
        ∧ t.stream k = { Stream.idle with inc := (u.stream k).inc, floor := (u.stream k).floor }
        ∧ (∀ j, j ≠ k.val → t.stream j = u.stream j) ∧ t.mem = u.mem)
    ∧ ∀ q : Fin 32,
      (v.ethExists q = false ∨ v.ethUp q = false → exec (.ethPortDown dt q) s = .next v)
      ∧ (v.ethExists q = false ∨ v.ethUp q = true ∨ v.ethAllowed = false → exec (.ethPortUp dt q) s = .next v)
      ∧ (v.ethExists q = true → v.ethUp q = true → ∃ t, exec (.ethPortDown dt q) s = .next t
        ∧ t.mem = (((v.wr (Reg.prtEthStatus q) 1 0 2).countFld (Reg.prtEthStatus q) 31 16 1).fault 25 allBanks).mem)
      ∧ (v.ethExists q = true → v.ethUp q = false → v.ethAllowed = true → ∃ t, exec (.ethPortUp dt q) s = .next t
        ∧ t.rd (Reg.prtEthStatus q) 1 0 = 1 ∧ (∀ o, o ≠ Reg.prtEthStatus q → t.get o = v.get o) ∧ SameBytes v t)

/-- R263, R264: a stream that may send sends again the first frame asked for and counts it, ahead of new frames; when
NEXT has not advanced for RTO every frame from NEXT is asked for again and a retry counts; after RETRY_MAX retries the
stream is abandoned. -/
def Obligations.StreamSending : Prop :=
  ∀ (dt : Nat) (k : Fin 256) (s v : State) (x : Stream), v = s.start dt → x = v.stream k →
    (x.st ≠ 1 ∨ v.dataRuns = false → exec (.dataSend dt k) s = .next v ∧ exec (.retransmitTimeout dt k) s = .next v)
    ∧ (v.portOn x.port = false ∨ v.now < x.sendAt → exec (.dataSend dt k) s = .next v)
    ∧ (x.sent = [] ∨ v.now < x.advAt + v.rto k → exec (.retransmitTimeout dt k) s = .next v)
    ∧ (x.st = 1 → v.dataRuns = true →
    (v.portOn x.port = true → x.sendAt ≤ v.now → exec (.dataSend dt k) s = .next (v.doSend k)
      ∧ ∀ q rest f, x.resend = q :: rest → x.sent.find? (fun f => f.seq == q) = some f →
        exec (.dataSend dt k) s
          = .next (((v.setStream k { x with resend := rest }).sendData k true f).inc (Reg.prtStResent k)))
    ∧ (x.sent ≠ [] → x.advAt + v.rto k ≤ v.now →
      (x.retries < v.retryMax k → ∃ t, exec (.retransmitTimeout dt k) s = .next t
        ∧ (t.stream k).resend = x.sent.map (fun f => f.seq) ∧ (t.stream k).retries = x.retries + 1
        ∧ (t.stream k).sent = x.sent ∧ (∀ j, j ≠ k.val → t.stream j = v.stream j) ∧ t.mem = v.mem)
      ∧ (v.retryMax k ≤ x.retries → ∃ t, exec (.retransmitTimeout dt k) s = .next t ∧ (t.stream k).st = 3
        ∧ (t.stream k).resend = [])))

/-- R268 to R271, R273: TELEMETRY samples a new body with the next sequence number; MGMT_READ is served with OBSERVER
rights, MGMT_WRITE is refused and answered REFUSED; the SMBus commands and the UART status line answer as their port's
class allows, and every other command or line is refused (what was refused is coded as log entry 64 says). R274: three
measurements in a row below PRT_MARGIN_MIN set LOW and raise LINK_MARGIN (source 35); three at or above clear LOW; the
register shows the latest height and width, each at most 255. -/
def Obligations.ManagementPorts : Prop :=
  (∀ (dt : Nat) (s v : State), v = s.start dt →
    (∀ (o : Fin 4) q, ((List.range 8).map (fun k => 8 * o.val + k)).find? v.portOn = some q → v.bit Reg.prtTelemCtl 16 = true →
      v.power ≤ 2 → v.inReset = false → ∃ t, exec (.telemetrySend dt o) s = .next t ∧ t.telem = v.sampleBody.1
        ∧ t.telemSeq = (v.telemSeq + 1) % 2 ^ 16 ∧ t.out = v.out ++ [.frame q none (some (v.collector q)) (message 6 0xFFFF 0 v.sampleBody.1)])
    ∧ (∀ o : Fin 4, ((List.range 8).map (fun k => 8 * o.val + k)).find? v.portOn = none ∨ v.bit Reg.prtTelemCtl 16 = false
        ∨ v.power = 3 ∨ v.inReset = true → exec (.telemetrySend dt o) s = .next v)
    ∧ (∀ (q : Fin 32) bs, v.portOn q = false → exec (.mgmtRead dt q bs) s = .next v ∧ exec (.mgmtWrite dt q bs) s = .next v)
    ∧ (∀ (q : Fin 32) bs, v.portOn q = true → exec (.mgmtRead dt q bs) s = .next (v.mgmtMsg q 7 bs)
      ∧ exec (.mgmtWrite dt q bs) s = .next (v.mgmtMsg q 9 bs))
    ∧ (∀ command, 1 ≤ command → command ≤ 3 → exec (.smbusOtherCommand dt command false) s = .next v)
    ∧ (∀ line, v.recovery = true ∨ line = text "STATUS" → exec (.uartOtherLine dt line) s = .next v)
    ∧ (∀ (q : Fin 32) bs w, v.portOn q = true → msgOk bs = true → (v.mgmtCount q).2 < 1000 → v.priv (2 + q / 8) ≠ 1 →
      w = { v with mgmtWin := tset v.mgmtWin (0, 0) q ((v.mgmtCount q).1, (v.mgmtCount q).2 + 1) } →
      (beAt bs 3 1 = 7 → exec (.mgmtRead dt q bs) s = .next (w.doMgmtRead q bs))
      ∧ (beAt bs 3 1 = 9 → exec (.mgmtWrite dt q bs) s = .next ((w.refuse (2 + q / 8) 2).mgmtResp q
          (if bs.length < 0x18 then 0 else beAt bs 0x10 4) 2 [])))
    ∧ (v.priv 1 ≠ 1 →
      (∀ off, exec (.smbusRegisterRead dt off) s = .next ((v.readAccess .smbus off 4).2.emit
        (smbAnswer 1 (leBytes 1 4 ++ leBytes 4 off) (leBytes 4 (v.readAccess .smbus off 4).1))))
      ∧ exec (.smbusTelemetryRead dt) s = .next (v.latestBody.2.emit (smbAnswer 2 [] (v.latestBody.1.take 32)))
      ∧ (v.telem ≠ [] → v.latestBody = (v.telem, v)) ∧ (v.telem = [] → v.latestBody = v.sampleBody)
      ∧ (v.power ≠ 3 → exec (.smbusSensorRead dt) s
        = .next (v.latestBody.2.emit (smbAnswer 3 [] ((v.latestBody.1.drop 32).take 38))))
      ∧ (v.power = 3 → exec (.smbusSensorRead dt) s
        = .next (v.sampleBody.2.emit (smbAnswer 3 [] ((v.sampleBody.1.drop 32).take 38))))
      ∧ ∀ command isWrite, (isWrite = true ∨ command = 0 ∨ 3 < command) →
        exec (.smbusOtherCommand dt command isWrite) s = .next (v.smbNack 6))
    ∧ (v.priv 1 = 1 → (∀ off, exec (.smbusRegisterRead dt off) s = .next (v.smbNack 5))
      ∧ exec (.smbusTelemetryRead dt) s = .next (v.smbNack 5) ∧ exec (.smbusSensorRead dt) s = .next (v.smbNack 5)
      ∧ ∀ command isWrite, (isWrite = true ∨ command = 0 ∨ 3 < command) →
        exec (.smbusOtherCommand dt command isWrite) s = .next (v.smbNack 5))
    ∧ (v.priv 12 ≠ 3 → exec (.uartStatus dt) s = .next (v.emit (.uart v.statusLine))
      ∧ ∀ line, v.recovery = false → line ≠ text "STATUS" → exec (.uartOtherLine dt line) s
          = .next ((v.refuse 12 6).emit (.uart (text "REFUSED" ++ [13]))))
    ∧ (v.priv 12 = 3 → exec (.uartStatus dt) s = .next (v.refuse 12 5)
      ∧ ∀ line, v.recovery = false → line ≠ text "STATUS" → exec (.uartOtherLine dt line) s = .next (v.refuse 12 5)))
  ∧ (∀ (dt : Nat) (lane : Fin 56) (height width : Nat) (s v : State), v = s.start dt →
    (v.rd Reg.prtMarginMin 7 0 ≤ height → ∃ t, exec (.marginMeasure dt lane height width) s = .next t
      ∧ t.rd (Reg.prtMargin lane) 7 0 = min 255 height ∧ t.rd (Reg.prtMargin lane) 15 8 = min 255 width
      ∧ (2 ≤ (tget v.margins (0, 0) lane).2 → t.bit (Reg.prtMargin lane) 16 = false)
      ∧ ((tget v.margins (0, 0) lane).2 < 2 → t.bit (Reg.prtMargin lane) 16 = v.bit (Reg.prtMargin lane) 16)
      ∧ OnlyRegs [Reg.prtMargin lane] { v with margins := t.margins } t)
    ∧ (height < v.rd Reg.prtMarginMin 7 0 → ((tget v.margins (0, 0) lane).1 < 2 ∨ v.bit (Reg.prtMargin lane) 16 = true) →
      ∃ t, exec (.marginMeasure dt lane height width) s = .next t
      ∧ t.rd (Reg.prtMargin lane) 7 0 = min 255 height ∧ t.rd (Reg.prtMargin lane) 15 8 = min 255 width
      ∧ t.bit (Reg.prtMargin lane) 16 = v.bit (Reg.prtMargin lane) 16
      ∧ OnlyRegs [Reg.prtMargin lane] { v with margins := t.margins } t)
    ∧ (height < v.rd Reg.prtMarginMin 7 0 → 2 ≤ (tget v.margins (0, 0) lane).1 → v.bit (Reg.prtMargin lane) 16 = false →
      ∃ w, exec (.marginMeasure dt lane height width) s = .next (w.fault 35 allBanks)
        ∧ w.rd (Reg.prtMargin lane) 16 0 = 2 ^ 16 + 256 * min 255 width + min 255 height
        ∧ OnlyRegs [Reg.prtMargin lane] { v with margins := w.margins } w))

/-! ### The ring (chapter 12) -/

/-- R277 to R279, R281: a segment that passes runs at the generation tried and is shown so; one that fails tries the
next lower one; a segment that goes down is counted and cleared, and raises RING_EAST or RING_WEST (26, 27) after more
than 20 ms; a bad frame is counted, a TRIG frame apart; COMMIT starts the flash write of the position, which takes
effect at a reset; and the bypass opens 1 ms after the ports are ready. -/
def Obligations.RingSegments : Prop :=
  ∀ (dt : Nat) (d : Dir) (s v : State) (k : Nat), v = s.start dt → k = dirNat d →
    (∀ peerMax bypassed a064 g, v.bypassOpen = true → v.bit (Reg.rngPortStatus k) 0 = false →
      g = v.segTop peerMax bypassed a064 - (v.rport k).tries → g ≠ 0 →
      (∃ t, exec (.segmentTrainEnd dt d .pass ⟨peerMax, a064⟩ bypassed) s = .next t ∧ t.bit (Reg.rngPortStatus k) 0 = true
        ∧ t.rd (Reg.rngPortStatus k) 2 1 = g ∧ t.bit (Reg.rngPortStatus k) 3 = a064 ∧ (t.rport k).tries = 0
        ∧ OnlyRegs [Reg.rngPortStatus k, Reg.rngStatus] { v with rports := t.rports } t)
      ∧ exec (.segmentTrainEnd dt d .fail ⟨peerMax, a064⟩ bypassed) s
          = .next (v.setRport k { (v.rport k) with tries := if g = 1 then 0 else (v.rport k).tries + 1 }))
    ∧ (∀ verdict peerMax bypassed a064, v.bypassOpen = false ∨ v.bit (Reg.rngPortStatus k) 0 = true
      ∨ v.segTop peerMax bypassed a064 ≤ (v.rport k).tries →
      exec (.segmentTrainEnd dt d verdict ⟨peerMax, a064⟩ bypassed) s = .next v)
    ∧ (v.bit (Reg.rngPortStatus k) 0 = true →
      (∃ t, exec (.segmentDown dt d) s = .next t ∧ t.bit (Reg.rngPortStatus k) 0 = false
        ∧ t.rd (Reg.rngPortStatus k) 31 16 = min (v.rd (Reg.rngPortStatus k) 31 16 + 1) (2 ^ 16 - 1)
        ∧ (t.rport k).downAt = some v.now ∧ (t.rport k).raised = false
        ∧ OnlyRegs [Reg.rngPortStatus k, Reg.rngStatus] { v with rports := t.rports } t)
      ∧ (∀ later, ∃ t, exec (.linkFrameCrcFail dt d ⟨true, later⟩) s = .next t ∧ OnlyRegs [Reg.rngPortErrs k] v t
        ∧ t.rd (Reg.rngPortErrs k) 31 16 = min (v.rd (Reg.rngPortErrs k) 31 16 + 1) (2 ^ 16 - 1)
        ∧ t.rd (Reg.rngPortErrs k) 15 0 = v.rd (Reg.rngPortErrs k) 15 0)
      ∧ ∀ later, ∃ t, exec (.linkFrameCrcFail dt d ⟨false, later⟩) s = .next t ∧ OnlyRegs [Reg.rngPortErrs k] v t
        ∧ t.rd (Reg.rngPortErrs k) 15 0 = min (v.rd (Reg.rngPortErrs k) 15 0 + (1 + later)) (2 ^ 16 - 1)
        ∧ t.rd (Reg.rngPortErrs k) 31 16 = v.rd (Reg.rngPortErrs k) 31 16)
    ∧ (v.bit (Reg.rngPortStatus k) 0 = false → exec (.segmentDown dt d) s = .next v
      ∧ ∀ frame, exec (.linkFrameCrcFail dt d frame) s = .next v)
    ∧ (∀ t, (v.rport k).downAt = some t → (v.rport k).raised = false → t + 20 * msec < v.now →
      exec (.segmentDownTimeout dt d) s = .next ((v.setRport k { (v.rport k) with raised := true }).fault (26 + k) allBanks))
    ∧ ((v.rport k).downAt = none ∨ (v.rport k).raised = true ∨ (∃ t, (v.rport k).downAt = some t ∧ v.now ≤ t + 20 * msec) →
      exec (.segmentDownTimeout dt d) s = .next v)
    ∧ (∀ rq what, v.writeReach rq Reg.rngPosSet true true = .refused what →
      exec (.positionCommit dt rq) s = .next ((v.readDemand rq).refuse (portOf rq true) what))
    ∧ (∀ rq, v.writeReach rq Reg.rngPosSet true true = .allowed → (v.accessDemand rq).posWrite = none →
      ∃ t, exec (.positionCommit dt rq) s = .next t ∧ t.bit Reg.rngPosSet 30 = false ∧ t.posWrite
        = some (128 * (v.accessDemand rq).rd Reg.rngPosSet 7 7 + (v.accessDemand rq).rd Reg.rngPosSet 5 0))
    ∧ (∀ rq, v.writeReach rq Reg.rngPosSet true true = .allowed → (v.accessDemand rq).posWrite ≠ none →
      exec (.positionCommit dt rq) s = .next (v.accessDemand rq))
    ∧ (∀ x, v.posWrite = some x → ∃ t, exec (.positionFlashWriteDone dt) s = .next t ∧ t.bit Reg.rngPosSet 30 = true
      ∧ t.posNext = some x ∧ t.posWrite = none ∧ t.get Reg.rngPos = v.get Reg.rngPos)
    ∧ (v.posWrite = none → exec (.positionFlashWriteDone dt) s = .next v)
    ∧ (v.ringReady = none ∨ v.bypassOpen = true ∨ v.ringMember = false ∨ v.inReset = true
      ∨ (∃ t, v.ringReady = some t ∧ v.now < t + msec) → exec (.bypassOpen dt) s = .next v)
    ∧ ∀ t, v.ringReady = some t → v.bypassOpen = false → v.ringMember = true → v.inReset = false → t + msec ≤ v.now →
      ∃ w, exec (.bypassOpen dt) s = .next w ∧ w.bypassOpen = true ∧ (w.rport 0).downAt = some v.now
        ∧ (w.rport 1).downAt = some v.now ∧ OnlyRegs [Reg.rngStatus] { v with bypassOpen := true, rports := w.rports } w

/-- R283 to R285, R293, R298, R302 to R304: a unit takes a flit of each class and repeats it while hops are left; a
TRIG event already seen from that unit is discarded, a CAL mark is held once and only from the head that may issue it,
and DIG, CTL and REC flits are taken by the unit they are for alone. A flit that a unit does not receive changes
nothing. -/
def Obligations.RingFlits : Prop :=
  ∀ (dt : Nat) (d : Dir) (flit : List Native) (s v : State) (h : FlitHdr) (b : Nat), v = s.start dt →
    (v.recvFlit d 0 flit = none → exec (.trigFlit dt d flit) s = .next v)
    ∧ (v.recvFlit d 1 flit = none → exec (.calFlit dt d flit) s = .next v)
    ∧ (v.recvFlit d 2 flit = none → exec (.digFlit dt d flit) s = .next v)
    ∧ (v.recvFlit d 3 flit = none → exec (.ctlFlit dt d flit) s = .next v)
    ∧ (v.recvFlit d 4 flit = none → exec (.recFlit dt d flit) s = .next v)
    ∧ (v.recvFlit d 0 flit = some (h, b) → ∃ w, exec (.trigFlit dt d flit) s = .next (w.repeatFlit d h b)
      ∧ (bitsOf b 229 228 = 1 → w = v.takeTrig h.src (bitsOf b 219 216) (bitsOf b 71 0))
      ∧ ((∀ k < bitsOf b 229 228, v.hasSeen (bitsOf b (219 + 4 * k) (216 + 4 * k)) h.src (bitsOf b (71 + 72 * k) (72 * k)) = true) → w = v))
    ∧ (v.recvFlit d 1 flit = some (h, b) →
      (v.marksFrom h.src = true → v.hasSeen 16 h.src (bitsOf b 71 0) = false → exec (.calFlit dt d flit) s
        = .next (((v.noteSeen 16 h.src (bitsOf b 71 0)).holdMark ⟨bitsOf b 71 0, bitsOf b 103 72, b.testBit 104, h.src,
            false⟩).repeatFlit d h b))
      ∧ ((v.marksFrom h.src = false ∨ v.hasSeen 16 h.src (bitsOf b 71 0) = true) →
        exec (.calFlit dt d flit) s = .next (v.repeatFlit d h b)))
    ∧ (v.recvFlit d 2 flit = some (h, b) → exec (.digFlit dt d flit) s
        = .next ((if v.forMe h then v.takeDig h b else v).repeatFlit d h b))
    ∧ (v.recvFlit d 3 flit = some (h, b) → (v.repeatFlit d h b).forMe h = false →
      exec (.ctlFlit dt d flit) s = .next (v.repeatFlit d h b))
    ∧ (v.recvFlit d 3 flit = some (h, b) → (v.repeatFlit d h b).forMe h = true →
      exec (.ctlFlit dt d flit) s = (v.repeatFlit d h b).takeCtl d h.src b
      ∧ (bitsOf b 3 0 = 3 ∨ bitsOf b 3 0 = 4 ∨ bitsOf b 3 0 = 5 → exec (.ctlFlit dt d flit) s
          = .next ((v.repeatFlit d h b).takeResponse h.src (bitsOf b 3 0) (bitsOf b 15 4) (bitsOf b 105 42))))
    ∧ (v.recvFlit d 4 flit = some (h, b) → exec (.recFlit dt d flit) s
        = .next ((if v.forMe h then v.takeRec h b else v).repeatFlit d h b))

/-- R288 to R290: an ALIGN frame tells of the neighbour, and a follower that has both stamps measures against its
timing parent; a unit's own ALIGN frame carries its Epoch; a follower that hears neither neighbour forgets both; and
an owed step moves the Epoch by the multiple of 8192 ticks nearest to −θ. -/
def Obligations.RingAlignment : Prop :=
  ∀ (dt : Nat) (d : Dir) (s v : State) (k : Nat), v = s.start dt → k = dirNat d →
    (v.ringUp k = true → (∀ ago peer w, w = v.takePeer k peer →
        ((w.follows = false ∨ w.parent ≠ some k ∨ w.counting = false) → exec (.alignFlit dt d ago peer) s = .next w)
        ∧ (w.follows = true → w.parent = some k → w.counting = true → (peer.took = none ∨ (v.rport k).sentAt = none) →
          exec (.alignFlit dt d ago peer) s = .next (w.takeLoad peer.load))
        ∧ ∀ t3 t4, w.follows = true → w.parent = some k → w.counting = true → peer.took = some t4 →
          (v.rport k).sentAt = some t3 → exec (.alignFlit dt d ago peer) s = .next
            ((w.takeLoad peer.load).measure k peer.departed (v.before ago) t3 t4))
      ∧ ∃ t pos src, exec (.alignSend dt d) s = .next t ∧ (t.rport k).sentAt = some v.ep
        ∧ t.out = v.out ++ [.align d v.ep pos src (v.rd Reg.rngStatus 26 21)]
        ∧ pos = (if v.bit Reg.rngPos 7 then some v.ringPos else none) ∧ t.mem = v.mem)
    ∧ (v.ringUp k = false → exec (.alignSend dt d) s = .next v ∧ ∀ ago peer, exec (.alignFlit dt d ago peer) s = .next v)
    ∧ (v.follows = true → v.bypassOpen = true → v.silent 0 = true → v.silent 1 = true →
      ∃ t, exec (.alignLoss dt) s = .next t ∧ (t.rport 0).heardAt = none ∧ (t.rport 1).heardAt = none ∧ t.alignGood = 0
        ∧ t.get Reg.epcFoffset = v.get Reg.epcFoffset)
    ∧ (v.follows = false ∨ v.bypassOpen = false ∨ v.silent 0 = false ∨ v.silent 1 = false →
      exec (.alignLoss dt) s = .next v)
    ∧ (v.stepDue = none ∨ v.follows = false ∨ v.counting = false ∨ v.mayStep = false → exec (.epochStep dt) s = .next v)
    ∧ ∀ theta : Int, v.stepDue = some theta → v.follows = true → v.counting = true → v.mayStep = true →
      ∃ t m, exec (.epochStep dt) s = .next t ∧ (t.epoch.toNat : Int) = ((v.ep : Int) + m) % 2 ^ 72 ∧ m % 8192 = 0
        ∧ (m + theta).natAbs ≤ 4096 ∧ t.stepDue = none ∧ t.bit Reg.rngStatus 4 = false

/-- R293 to R295: a write of RNG_WIN_CTL takes the root, depth and path and shows in RESULT what the window resolves
to; a read waits for the writes through its window, and otherwise is served; a window that resolves to nothing reads
all ones and discards writes; a write to another device is a CTL write whose answer is awaited; and a request without
answers in time is dropped and every missing answer counted. -/
def Obligations.RingWindows : Prop :=
  ∀ (dt : Nat) (w : Fin 64) (s v u : State), v = s.start dt → u = v.demandExit →
    (∃ t, exec (.windowResolve dt w) s = .next t
      ∧ t.rd (Reg.rngWinCtl w) 30 28 = ((v.handWords [Reg.rngWinCtl w, Reg.rngWinPath w, Reg.rngWinPath w + 4,
          Reg.rngWinPath w + 8]).winTarget w).result)
    ∧ (∀ off width value r, u.inReset = false → u.recovery = false → winFits off width = true →
      (u.winWrites w = [] → exec (.windowRead dt w off width) s = .next (u.readWindow w off width))
      ∧ (u.winWrites w ≠ [] → exec (.windowRead dt w off width) s
          = .next { u with winWait := u.winWait ++ [(w.val, off, width, u.winWrites w)] })
      ∧ (∀ i, u.winTarget w = .at_ (.proc i) → off < 0x40 → exec (.windowWrite dt w off width value) s = .next u)
      ∧ (u.winTarget w = .none r → exec (.windowWrite dt w off width value) s = .next u
        ∧ (u.winWrites w = [] → exec (.windowRead dt w off width) s = .next (u.emit (.read (256 ^ width - 1)))))
      ∧ (∀ pos, u.winTarget w = .at_ (.dev pos) → u.mine pos = true →
        exec (.windowWrite dt w off width value) s = u.writeOwn off width value false)
      ∧ (∀ i all far (x : State), u.winTarget w = .at_ (.proc i) → 0x40 ≤ off → all = u.arcOfDecl i →
        far = all.filter (fun p => !u.mine p) →
        x = (if far = [] then u else u.sendCtl 2 none off value (width == 8) .write far w) →
        exec (.windowWrite dt w off width value) s
          = if all.any u.mine then x.writeOwn off width value true else .next x)
      ∧ ∀ pos, u.winTarget w = .at_ (.dev pos) → u.mine pos = false → ∃ t, exec (.windowWrite dt w off width value) s = .next t
          ∧ t.ctlReqs = u.ctlReqs ++ [⟨u.ctlTag, .write, [pos], u.now, width == 8, 0, w⟩]
          ∧ t.ctlTag = (u.ctlTag + 1) % 4096)
    ∧ (∀ off width value, u.inReset = true ∨ u.recovery = true ∨ winFits off width = false →
      exec (.windowRead dt w off width) s = .next (u.emit (.read (256 ^ width - 1)))
      ∧ exec (.windowWrite dt w off width value) s = .next u)
    ∧ (∀ tag, v.ctlReqs.find? (fun q => q.tag == tag && q.why != .activate && decide (q.sentAt + v.ctlTimeout ≤ v.now)) = none →
      exec (.ctlTimeout dt tag) s = .next v)
    ∧ ∀ tag q, v.ctlReqs.find? (fun q => q.tag == tag && q.why != .activate && decide (q.sentAt + v.ctlTimeout ≤ v.now)) = some q →
      (∃ x, exec (.ctlTimeout dt tag) s = .next (x.unanswered q)
        ∧ x.rd Reg.rngCtlStats 15 0 = min (v.rd Reg.rngCtlStats 15 0 + q.from_.length) (2 ^ 16 - 1)
        ∧ x.ctlReqs = v.ctlReqs.filter (fun y => y.tag != tag) ∧ OnlyRegs [Reg.rngCtlStats] { v with ctlReqs := x.ctlReqs } x)

/-- R298, R299, R303, R305: MARK issues the next mark unless this unit issues none, the instant is too near, the lead
is below 2 µs or an earlier mark is pending (CMD_ERR); the period issues marks at the issuer; at the earliest instant
held that has come, a SNAP mark is copied into SNP and the period ends; forwarding starts at the lowest unreleased
sequence and sends the next record, and stalls when the target is out of reach. -/
def Obligations.MarksAndForwarding : Prop :=
  ∀ (dt : Nat) (s v : State), v = s.start dt →
    ((v.issuer = false ∨ v.markInstant < v.ep + v.calLead ∨ v.calLead < 2 * usec ∨ (∃ m ∈ v.marks, v.ep < m.instant)) →
      ∃ t, exec (.calendsMark dt) s = .next t ∧ OnlyRegs [Reg.rngCalCtl] v t ∧ t.bit Reg.rngCalCtl 3 = true)
    ∧ (v.issuer = true → v.ep + v.calLead ≤ v.markInstant → 2 * usec ≤ v.calLead → (∀ m ∈ v.marks, m.instant ≤ v.ep) →
      ∃ t, exec (.calendsMark dt) s = .next t ∧ t.snapSeq = (v.snapSeq + 1) % 2 ^ 32
        ∧ t.marks = v.marks ++ [⟨v.markInstant, (v.snapSeq + 1) % 2 ^ 32, true, v.ringPos, true⟩])
    ∧ (∀ t, v.calNext = some t → t ≤ v.now →
      (v.issuer = false → exec (.calendsPeriodic dt) s = .next { v with calNext := some (t + v.calPeriod) })
      ∧ (v.issuer = true → exec (.calendsPeriodic dt) s = .next (({ v with calNext := some (t + v.calPeriod) } : State).issueMark
          v.markInstant (v.bit Reg.rngCalCtl 2) false)))
    ∧ (v.calNext = none ∨ (∃ t, v.calNext = some t ∧ v.now < t) → exec (.calendsPeriodic dt) s = .next v)
    ∧ ((∀ m ∈ v.marks, v.ep < m.instant) → exec (.snapshotInstant dt) s = .next v)
    ∧ (∀ m, m ∈ v.marks → m.instant ≤ v.ep → (∀ y ∈ v.marks, y = m ∨ m.instant < y.instant) → ∃ w : State,
      w.rdq Reg.rngCalLast 3 % 2 ^ 72 = m.instant % 2 ^ 72 ∧ w.markId = m.id ∧ w.marks = v.marks.filter (fun y => y != m)
      ∧ (m.snap = false → exec (.snapshotInstant dt) s = .next w.endPeriod.takeDigest)
      ∧ (m.snap = true → ∃ x : State, exec (.snapshotInstant dt) s = .next x.endPeriod.takeDigest ∧ x = w.takeSnap m
        ∧ x.get Reg.snpId = BitVec.ofNat 32 m.id ∧ x.snap = w.snapAll ∧ x.bit Reg.snpStatus 0 = true))
    ∧ ∀ p : Fin 32,
      (v.bit (Reg.rngFwd p) 0 = true → ∃ t, exec (.forwardEnable dt p) s = .next t ∧ (tget t.fwd Fwd.idle p).on = true
        ∧ (tget t.fwd Fwd.idle p).next = (v.part p).released ∧ t.bit (Reg.rngFwd p) 1 = false)
      ∧ (v.bit (Reg.rngFwd p) 0 = false → ∃ t, exec (.forwardEnable dt p) s = .next t ∧ (tget t.fwd Fwd.idle p).on = false)
      ∧ ((tget v.fwd Fwd.idle p).on = false ∨ v.bit (Reg.rngFwd p) 1 = true →
        ∀ reach, exec (.forwardRecord dt p reach) s = .next v)
      ∧ ((tget v.fwd Fwd.idle p).on = true → v.bit (Reg.rngFwd p) 1 = false →
        (∀ x, (v.ringUp 0 = true ∨ v.ringUp 1 = true) → (v.part p).recs.find? (fun r =>
            r.seq == max (tget v.fwd Fwd.idle p).next (v.part p).released) = x →
          (v.dataRuns = false ∨ x = none → exec (.forwardRecord dt p true) s = .next v)
          ∧ (∀ r, x = some r → v.dataRuns = true →
            (v.touchStacks.recHeld p r = true ∨ v.touchStacks.mayPass (hrvPort (v.touchStacks.rd (Reg.rngFwd p) 5 4)) = false) →
            exec (.forwardRecord dt p true) s = .next v.touchStacks))
        ∧ (exec (.forwardRecord dt p false) s = .next ((v.setBit (Reg.rngFwd p) 1 true).rngEvent 2))
        ∧ (v.ringUp 0 = false → v.ringUp 1 = false →
          exec (.forwardRecord dt p true) s = .next ((v.setBit (Reg.rngFwd p) 1 true).rngEvent 2))
        ∧ ∀ r, (v.ringUp 0 = true ∨ v.ringUp 1 = true) → v.dataRuns = true → v.safeHoldAt = none →
          (v.part p).recs.find? (fun r => r.seq == max (tget v.fwd Fwd.idle p).next (v.part p).released) = some r →
          v.recHeld p r = false → v.mayPass (hrvPort (v.rd (Reg.rngFwd p) 5 4)) = true →
          ∃ t, exec (.forwardRecord dt p true) s = .next t ∧ (tget t.fwd Fwd.idle p).next
              = max (tget v.fwd Fwd.idle p).next (v.part p).released + 1)

/-! ### Power states, rails and power fail (chapter 13) -/

/-- R311 to R314: an idle device enters its target, Ordinary at once and counted, a deeper state by an entry that
takes time; a demand reverses an entry or starts the exit; a completed exit is Feast again with every pause ended, the
Eve history of a sleeping group starting over; and a host's write of a tolerance demands an exit, while one of PWR_CTL
is stored after the demand its access makes. R315: the measurement and its mean over the last 100 are shown; a mean
above MAX_W raises PWR_WARN (source 17) and the throttle; a mean at most 95 % of it for 100 ms removes the throttle,
and one in between neither adds nor removes it. -/
def Obligations.PowerStates : Prop :=
  (∀ (dt : Nat) (s v : State), v = s.start dt →
    (v.mayEnter = true → v.target = 1 → ∃ t, exec (.powerStateEntry dt) s = .next t ∧ t.power = 1 ∧ t.lnt.stopped = true
      ∧ t.get (Reg.pwrEntries 0) = BitVec.ofNat 32 (min (2 ^ 32 - 1) ((v.get (Reg.pwrEntries 0)).toNat + 1)))
    ∧ (v.mayEnter = true → 2 ≤ v.target → v.calRun = none →
      exec (.powerStateEntry dt) s = .next { v with move := .entering v.target v.now })
    ∧ ((v.mayEnter = false ∨ v.target = 0 ∨ (2 ≤ v.target ∧ v.calRun ≠ none)) → exec (.powerStateEntry dt) s = .next v)
    ∧ (exec (.powerStateExit dt) s = .next v.demandExit ∧ exec (.wakeNEdge dt) s = .next v.demandExit)
    ∧ (v.move = .steady → v.power = 1 ∨ v.power = 3 → ∀ u : State, u = { v with idleSince := v.now, move := .exiting v.now } →
      exec (.powerStateExit dt) s = .next u ∧ exec (.wakeNEdge dt) s = .next u)
    ∧ (∀ t0, v.move = .entering 1 t0 → ∀ u : State, u = { v with idleSince := v.now, move := .steady } →
      exec (.powerStateExit dt) s = .next u ∧ exec (.wakeNEdge dt) s = .next u)
    ∧ (∀ t0 (w x : State), v.move = .exiting t0 → v.exitDone = true → v.power = 1 →
      w = ({ v with move := .steady, idleSince := v.now } : State).setPower 0 →
      x = (w.resumeLinks false).endAllPauses.sensePins.deliverWake → w.power = 0 ∧ w.move = .steady ∧
      exec (.powerExitComplete dt) s = .next (if x.reloadWait.isSome then x.checkReload else x))
    ∧ (∀ t0 (w y x : State), v.move = .exiting t0 → v.exitDone = true → v.power ≠ 1 →
      w = ({ v with move := .steady, idleSince := v.now, scrubAt := some v.now } : State).setPower 0 →
      y = w.forAll (w.enabledGroups.filter (fun g => w.gArmed g && w.gmode g != 1 && (w.grp g).st == .filling))
        (fun z g => (z.settlePorts g).setGrp g { ((z.settlePorts g).grp g) with
          fillFrom := (z.settlePorts g).settledAt g, able := (z.settlePorts g).ep }) →
      x = (y.resumeLinks (v.power == 3)).endAllPauses.sensePins.deliverWake → w.power = 0 ∧ w.move = .steady ∧
      exec (.powerExitComplete dt) s = .next (if x.reloadWait.isSome then x.checkReload else x))
    ∧ (v.exitDone = false → exec (.powerExitComplete dt) s = .next v)
    ∧ (∀ rq value off what, off = Reg.pwrCtl ∨ off = Reg.pwrTolCapture ∨ off = Reg.pwrTolEgress ∨ off = Reg.pwrTolControl →
      v.writeReach rq off true true = .refused what →
      exec (.powerPolicyWrite dt rq off value) s = .next ((v.readDemand rq).refuse (portOf rq true) what))
    ∧ (∀ rq value off, off ≠ Reg.pwrCtl → off ≠ Reg.pwrTolCapture → off ≠ Reg.pwrTolEgress → off ≠ Reg.pwrTolControl →
      exec (.powerPolicyWrite dt rq off value) s = .next v)
    ∧ ∀ rq value off, v.writeReach rq off true true = .allowed →
      (off = Reg.pwrTolCapture ∨ off = Reg.pwrTolEgress ∨ off = Reg.pwrTolControl →
        exec (.powerPolicyWrite dt rq off value) s = .next (((v.accessDemand rq).put off value).demandExit))
      ∧ (off = Reg.pwrCtl → fld value 31 2 = 0 → ∃ t, exec (.powerPolicyWrite dt rq off value) s = .next t
        ∧ t.get Reg.pwrCtl = value ∧ OnlyRegs [Reg.pwrCtl] (v.accessDemand rq) t)
      ∧ (off = Reg.pwrCtl → fld value 31 2 ≠ 0 → exec (.powerPolicyWrite dt rq off value) s = .fault .reservedValue))
  ∧ (∀ (dt mw avg lim : Nat) (raw : List Nat) (s v u : State), v = s.start dt →
    raw = (v.powerRaw ++ [mw]).drop (v.powerRaw.length - 99) → avg = raw.sum / raw.length → lim = v.maxW * 1000 →
    u = (({ v with powerRaw := raw } : State).put Reg.pwrPower (BitVec.ofNat 32 mw)).put Reg.pwrPowerAvg (BitVec.ofNat 32 avg) →
    (u.get Reg.pwrPower = BitVec.ofNat 32 mw ∧ u.get Reg.pwrPowerAvg = BitVec.ofNat 32 avg)
    ∧ (lim < avg → v.bit Reg.pwrStatus 11 = false → ∃ t, exec (.powerMeasure dt mw) s = .next t
      ∧ t = (({ u with throttleOk := none } : State).fault 17 allBanks).setThrottle true ∧ t.bit Reg.pwrStatus 11 = true)
    ∧ (lim < avg → v.bit Reg.pwrStatus 11 = true → exec (.powerMeasure dt mw) s = .next { u with throttleOk := none })
    ∧ (avg * 100 ≤ lim * 95 → v.bit Reg.pwrStatus 11 = true → ∀ from_, from_ = v.throttleOk.getD v.now →
      (v.now < from_ + 100 * msec → exec (.powerMeasure dt mw) s = .next { u with throttleOk := some from_ })
      ∧ (from_ + 100 * msec ≤ v.now → ∃ t, exec (.powerMeasure dt mw) s = .next t ∧ t.bit Reg.pwrStatus 11 = false
        ∧ t.throttleOk = none))
    ∧ (avg ≤ lim → (v.bit Reg.pwrStatus 11 = false ∨ lim * 95 < avg * 100) →
      exec (.powerMeasure dt mw) s = .next { u with throttleOk := none }))

/-- R316, R318: a rail more than 4 % off raises PWR_WARN (source 17), one more than 5 % off trips once as under or
over (sources 15 and 16) and acts by its group; back within 3 %, the always-on rail makes a cold reset, a retention
rail a warm reset with cause RAIL (5). R319, R320: PWR_FAIL_N starts a sequence once, counts it, and in Feast or
Ordinary raises PWR_WARN and demands Feast at stage 1, with the records paused and a calibration run aborted; the
journal is valid when it is written, at stage 3; and PWR_FAIL_N high again before any trip voids the journal, counts
the ride-through and, with nothing else in force, brings back what stage 3 put down, ends the pauses and serves what
was held. -/
def Obligations.RailsAndPowerFail : Prop :=
  (∀ (dt : Nat) (r : Fin 9) (mv : Nat) (s v : State), v = s.start dt →
    (railNominal r < 25 * railOff r mv → exec (.railWarn dt r mv) s
      = .next (((v.wr (Reg.pwrRail r) 15 0 (min 65535 mv)).setBit (Reg.pwrRail r) 18 true).fault 17 allBanks))
    ∧ (25 * railOff r mv ≤ railNominal r → exec (.railWarn dt r mv) s = .next v)
    ∧ ((20 * railOff r mv ≤ railNominal r ∨ v.tripped.contains r.val = true) → exec (.railTrip dt r mv) s = .next v)
    ∧ ((v.tripped.contains r.val = false ∨ 3 * railNominal r < 100 * railOff r mv) →
      exec (.railReturn dt r mv) s = .next v)
    ∧ (railNominal r < 20 * railOff r mv → v.tripped.contains r.val = false → ∃ w : State,
      exec (.railTrip dt r mv) s = .next ((w.fault (15 + b2n (decide (railNominal r < mv))) allBanks).tripAction r)
        ∧ w.tripped = v.tripped ++ [r.val] ∧ w.rd (Reg.pwrRail r) 15 0 = min 65535 mv
        ∧ w.bit (Reg.pwrRail r) (16 + b2n (decide (railNominal r < mv))) = true
        ∧ OnlyRegs [Reg.pwrRail r] { v with tripped := w.tripped } w)
    ∧ (v.tripped.contains r.val = true → 100 * railOff r mv ≤ 3 * railNominal r → ∃ w : State, w.tripped.contains r.val = false
      ∧ w.rd (Reg.pwrRail r) 15 0 = min 65535 mv ∧ OnlyRegs [Reg.pwrRail r] { v with tripped := w.tripped } w
      ∧ (r.val = 1 → exec (.railReturn dt r mv) s = .next w.coldReset)
      ∧ (r.val = 0 ∨ r.val = 5 ∨ r.val = 6 → exec (.railReturn dt r mv) s = .next (w.requestReset 5))
      ∧ (r.val ≠ 0 → r.val ≠ 1 → r.val ≠ 5 → r.val ≠ 6 → exec (.railReturn dt r mv) s = .next w)))
  ∧ (∀ (dt : Nat) (s v : State), v = s.start dt →
    (∀ w : State, v.pfAt = none → w = (({ v with pfAt := some v.now } : State).countFld Reg.pwrPfCount 15 0 1).pwrEvent 1 →
      (v.power ≤ 1 → exec (.pwrFailAssert dt) s
        = .next (((((w.wr Reg.pwrStatus 6 4 1).fault 17 allBanks).demandExit).failPause).abortRun true))
      ∧ (2 ≤ v.power → ∃ t, exec (.pwrFailAssert dt) s = .next t ∧ t.rd Reg.pwrStatus 6 4 = 2 ∧ t.pfAt = some v.now
        ∧ t.rd Reg.pwrPfCount 15 0 = min (2 ^ 16 - 1) (v.rd Reg.pwrPfCount 15 0 + 1)))
    ∧ (v.pfAt.isSome = true → exec (.pwrFailAssert dt) s = .next v)
    ∧ (v.pfAt = none → exec (.journalWritten dt) s = .next v ∧ exec (.pwrFailRideThrough dt) s = .next v)
    ∧ (∀ p, v.pfAt = some p → v.now < p + 100 * usec ∨ v.tripped ≠ [] ∨ v.residencyOver = false →
      exec (.pwrFailRideThrough dt) s = .next v)
    ∧ (∀ p, v.pfAt = some p → (v.rd Reg.pwrStatus 6 4 = 3 ∨ v.now < p + 1100 * usec) →
      exec (.journalWritten dt) s = .next v)
    ∧ (∀ p, v.pfAt = some p → v.rd Reg.pwrStatus 6 4 ≠ 3 → p + 1100 * usec ≤ v.now →
      (v.holdDue = false → ∃ t, exec (.journalWritten dt) s = .next t ∧ t.rd Reg.pwrStatus 6 4 = 3 ∧ t.journal.valid = true)
      ∧ (v.holdDue = true → ∃ (t w : State), exec (.journalWritten dt) s = .next t ∧ t = { w.safeHold.failHeld with
          holdDone := w.safeHold.failHeld.safeHoldAt.isSome } ∧ w.journal.valid = true ∧ w.holdDue = false))
    ∧ ∀ p (w : State), v.pfAt = some p → p + 100 * usec ≤ v.now → v.tripped = [] → v.residencyOver = true →
      w = ((({ v with pfAt := none, journal := { v.journal with valid := false } } : State).wr Reg.pwrStatus 6 4 0)).countFld
        Reg.pwrPfCount 31 16 1 →
      w.rd Reg.pwrPfCount 31 16 = min (2 ^ 16 - 1) (v.rd Reg.pwrPfCount 31 16 + 1)
      ∧ (v.holdDue = true → exec (.pwrFailRideThrough dt) s = .next (({ w with holdDue := false } : State).safeHold.serveHeld))
      ∧ (v.holdDue = false →
        ((v.rstLow = true ∨ v.safeHoldAt.isSome = true) → exec (.pwrFailRideThrough dt) s = .next w.serveHeld)
        ∧ (v.rstLow = false → v.safeHoldAt = none →
          (2 ≤ v.power → (v.power ≠ 2 ∨ v.rd Reg.pwrStatus 6 4 ≠ 3) → exec (.pwrFailRideThrough dt) s = .next w.serveHeld)
          ∧ (v.power = 2 → v.rd Reg.pwrStatus 6 4 = 3 →
            exec (.pwrFailRideThrough dt) s = .next (w.resumeLinks true).serveHeld)
          ∧ (v.power ≤ 1 → v.rd Reg.pwrStatus 6 4 ≠ 3 →
            exec (.pwrFailRideThrough dt) s = .next w.endAllPauses.serveHeld.serveReqs)
          ∧ (v.power ≤ 1 → v.rd Reg.pwrStatus 6 4 = 3 → exec (.pwrFailRideThrough dt) s
            = .next ((w.stacksWake.forAll (List.range 16) (fun x b => x.powerUp b false)).resumeLinks
              true).endAllPauses.serveHeld.serveReqs))))

/-! ### Calibration (chapter 14) -/

/-- R330 to R333: a tile shows the mean of its last 16 readings, raises TEMP_WARN (source 13) as it passes 100 °C and
TEMP_CRIT (source 14) as it passes 105 °C, and may make its banks pending; CAL_RUN makes the enabled banks it names
pending at once, never deferred; CAL_DEFER is stored, and a bank deferred for CAL_DEFER_MAX is pending anew; the next
run is of the bank that has waited longest. R335 to R337, R340: a run that passes the plausibility check counts as
accepted and one that does not as rejected with its cause, and either way the bank's temperature and instant are taken
and its groups resume; SAVE and ERASE start a Season write or are refused with CMD_ERR; and a Season write that ends
is in its slot. -/
def Obligations.Calibration : Prop :=
  (∀ (dt : Nat) (s v : State), v = s.start dt →
    (∀ (tile : Fin 4) (raw m : Int) (l : List Int),
      l = (tget v.tileRaw [] tile ++ [raw]).drop ((tget v.tileRaw [] tile).length + 1 - 16) →
      m = roundEven (l.foldl (· + ·) 0) l.length → ∃ w : State,
        (raw ≤ 800 → exec (.tileTempSample dt tile raw) s
          = .next (w.driftCheck ((List.range 4).map (fun i => 4 * tile.val + i))))
        ∧ (800 < raw → raw ≤ 840 → (tget v.tileRaw [] tile).getLastD 0 ≤ 800 → exec (.tileTempSample dt tile raw) s
          = .next ((w.fault 13 allBanks).driftCheck ((List.range 4).map (fun i => 4 * tile.val + i))))
        ∧ (800 < raw → raw ≤ 840 → 800 < (tget v.tileRaw [] tile).getLastD 0 → exec (.tileTempSample dt tile raw) s
          = .next (w.driftCheck ((List.range 4).map (fun i => 4 * tile.val + i))))
        ∧ (840 < raw → 800 < (tget v.tileRaw [] tile).getLastD 0 → (tget v.tileRaw [] tile).getLastD 0 ≤ 840 →
          exec (.tileTempSample dt tile raw) s
            = .next ((w.fault 14 allBanks).driftCheck ((List.range 4).map (fun i => 4 * tile.val + i))))
        ∧ (840 < raw → 840 < (tget v.tileRaw [] tile).getLastD 0 → exec (.tileTempSample dt tile raw) s
          = .next (w.driftCheck ((List.range 4).map (fun i => 4 * tile.val + i))))
        ∧ (840 < raw → (tget v.tileRaw [] tile).getLastD 0 ≤ 800 → exec (.tileTempSample dt tile raw) s
          = .next (((w.fault 13 allBanks).fault 14 allBanks).driftCheck ((List.range 4).map (fun i => 4 * tile.val + i))))
        ∧ w.rd (Reg.calTileTemp tile) 11 0 = unsigned 12 m ∧ tget w.tileRaw [] tile = l
        ∧ OnlyRegs [Reg.calTileTemp tile] { v with tileRaw := w.tileRaw } w)
    ∧ (∀ rq (value : Word) what,
      (v.writeReach rq Reg.calRun true true = .refused what →
        exec (.calRunRequest dt rq value) s = .next ((v.readDemand rq).refuse (portOf rq true) what))
      ∧ (v.writeReach rq Reg.calDefer true true = .refused what →
        exec (.calDeferWrite dt rq value) s = .next ((v.readDemand rq).refuse (portOf rq true) what)))
    ∧ (∀ rq (value : Word), fld value 31 16 ≠ 0 →
      (v.writeReach rq Reg.calRun true true = .allowed → exec (.calRunRequest dt rq value) s = .fault .reservedValue)
      ∧ (v.writeReach rq Reg.calDefer true true = .allowed → exec (.calDeferWrite dt rq value) s = .fault .reservedValue))
    ∧ (∀ rq (value : Word), v.writeReach rq Reg.calRun true true = .allowed → fld value 31 16 = 0 → ∃ t,
      exec (.calRunRequest dt rq value) s = .next t ∧ ∀ b : Fin 16, value.toNat.testBit b = true →
        (v.accessDemand rq).bankMode b ≠ 3 →
        (t.bankAt b).calSince.isSome = true ∧ (t.bankAt b).calForced = true ∧ t.bit Reg.calPending b = true
          ∧ t.deferred b = false)
    ∧ (∀ rq (value : Word), v.writeReach rq Reg.calDefer true true = .allowed → fld value 31 16 = 0 → ∃ t,
      exec (.calDeferWrite dt rq value) s = .next t ∧ t.rd Reg.calDefer 15 0 = fld value 15 0
        ∧ ∀ b : Fin 16, value.toNat.testBit b = false → t.deferred b = false)
    ∧ (∀ (b : Fin 16) t0, (v.bankAt b).deferFrom = some t0 → v.deferred b = true → t0 + v.deferMax ≤ v.now → ∃ t,
      exec (.calDeferExpiry dt b) s = .next t ∧ t.deferred b = false ∧ (t.bankAt b).calSince = some v.now ∧ t.mem = v.mem)
    ∧ (∀ b : Fin 16, ((v.bankAt b).deferFrom = none ∨ v.deferred b = false
      ∨ ∃ t0, (v.bankAt b).deferFrom = some t0 ∧ v.now < t0 + v.deferMax) → exec (.calDeferExpiry dt b) s = .next v)
    ∧ ((v.calRun.isSome = true ∨ (∃ t0, v.calLast = some t0 ∧ v.now < t0 + 100 * usec) ∨ v.runBarred = true ∨ 2 ≤ v.power
      ∨ v.move ≠ .steady ∨ v.nextRun = none) → exec (.calRunStart dt) s = .next v)
    ∧ ∀ b, v.calRun = none → (∀ t0, v.calLast = some t0 → t0 + 100 * usec ≤ v.now) → v.runBarred = false → v.power ≤ 1 →
      v.move = .steady → v.nextRun = some b → ∃ w : State, exec (.calRunStart dt) s = .next (w.pauseAll (w.groupsOf b) 3)
        ∧ ∃ x : State, w = x.resetUnits b ∧ x.calRun = some ⟨b, v.now, (v.bankAt b).calSince.getD v.now, (v.bankAt b).calForced⟩
          ∧ x.rd Reg.calStatus 3 0 = b % 16 ∧ x.bit Reg.calStatus 5 = true ∧ (x.bankAt b).calibrating = true)
  ∧ (∀ (dt : Nat) (s v : State), v = s.start dt →
    (∀ (r : CalRun) rcal tone trims corr cause, v.calRun = some r → r.bank < 16 →
      r.startAt + runTicks (v.bankMode r.bank) ≤ v.now → cause = v.rejectCause r.bank rcal tone trims →
      (cause = 0 → ∃ w : State, exec (.calRunEnd dt rcal tone trims corr) s = .next (w.closeRun r.bank).reloadDone
        ∧ w.rd (Reg.calBankRefTemp r.bank) 11 0 = unsigned 12 (v.tileTemp r.bank)
        ∧ w.rd (Reg.calBankStatus r.bank) 31 16 = min (2 ^ 16 - 1) (v.rd (Reg.calBankStatus r.bank) 31 16 + 1)
        ∧ w.bit (Reg.calBankStatus r.bank) 7 = true ∧ w.rdq (Reg.calBankLastAt r.bank) 3 = v.ep % 2 ^ 72)
      ∧ (cause ≠ 0 → ∀ w : State, w = (((((v.setBit (Reg.calBankStatus r.bank) 3 true).wr (Reg.calBankStatus r.bank) 6 4
          cause).inc Reg.calRejects).fault 18 (maskBit r.bank)).wr (Reg.calBankRefTemp r.bank) 11 0
          (unsigned 12 (v.tileTemp r.bank))).wrEpoch (Reg.calBankLastAt r.bank) v.ep →
        exec (.calRunEnd dt rcal tone trims corr) s
          = .next (({ w with calAsked := w.calAsked.filter (fun x => x != r.bank) } : State).closeRun r.bank).reloadDone))
    ∧ (∀ rcal tone trims corr, (v.calRun = none ∨ ∃ r, v.calRun = some r ∧ v.now < r.startAt + runTicks (v.bankMode r.bank)) →
      exec (.calRunEnd dt rcal tone trims corr) s = .next v)
    ∧ (∀ slot, slot = v.rd Reg.calCtl 6 4 → ∀ erase, (v.seasonRefused slot erase = true → ∃ t,
        exec (if erase then .seasonErase dt else .seasonSave dt) s = .next t ∧ OnlyRegs [Reg.calStatus] v t
          ∧ t.bit Reg.calStatus 7 = true)
      ∧ (v.seasonRefused slot erase = false → ∃ t, exec (if erase then .seasonErase dt else .seasonSave dt) s = .next t
        ∧ t.bit Reg.calStatus 6 = true ∧ (∃ j, t.seasonJob = some j ∧ j.slot = slot ∧ j.erase = erase)
        ∧ OnlyRegs [Reg.calStatus] { v with seasonJob := t.seasonJob } t))
    ∧ (v.seasonJob = none → ∀ verdict, exec (.seasonWriteComplete dt verdict) s = .next v)
    ∧ ∀ j, v.seasonJob = some j → j.slot < 8 →
      (∃ t, exec (.seasonWriteComplete dt .pass) s = .next t ∧ t.seasonJob = none ∧ t.seasons = tset v.seasons [] j.slot j.vals
        ∧ t.bit Reg.calStatus 6 = false ∧ t.bit Reg.calStatus (16 + j.slot) = !j.erase
        ∧ t.bit (Reg.calSeason j.slot) 0 = !j.erase ∧ (j.erase = false → t.rd (Reg.calSeason j.slot) 15 4 = j.tag % 2 ^ 12)
        ∧ OnlyRegs [Reg.calStatus, Reg.calSeason j.slot] { v with seasonJob := none, seasons := t.seasons } t)
      ∧ ∃ t, exec (.seasonWriteComplete dt .fail) s = .next t ∧ t.seasonJob = none ∧ t.bit Reg.calStatus 8 = true
        ∧ t.bit Reg.calStatus 6 = false ∧ OnlyRegs [Reg.calStatus] { v with seasonJob := none } t)

/-! ### Faults (chapter 15) -/

/-- R341 to R346: an event sets its status bit, is counted in TOTAL and, while the count stays below N, toward
severity (anew once its window has ended); a window that ends without N forgets the count; a grace timer that runs out
escalates its source; adoption withdraws the timer of every severe source it names that can be adopted; and a status
write clears no severe bit. -/
def Obligations.FaultCommands : Prop :=
  ∀ (dt : Nat) (s v : State), v = s.start dt →
    (∀ (n : Fin 36) banks c, n ≠ 33 → v.fltSevere.testBit n = false → v.firstLower n = false →
      c = (if tget v.fltWin 0 n ≤ v.now then 0 else v.rd (Reg.fltSrcCount n) 7 0) → c + 1 < v.srcN n → c + 1 < 256 →
      ∃ t, exec (.faultEvent dt n banks) s = .next t ∧ t.fltStatus = v.fltStatus ||| 2 ^ n.val
        ∧ t.rd (Reg.fltSrcCount n) 7 0 = c + 1
        ∧ t.rd (Reg.fltSrcCount n) 31 8 = min (2 ^ 24 - 1) (v.rd (Reg.fltSrcCount n) 31 8 + 1)
        ∧ (v.fltStatus = 0 → t.rd Reg.fltFirst 6 0 = 64 + n.val) ∧ (v.fltStatus ≠ 0 → t.get Reg.fltFirst = v.get Reg.fltFirst)
        ∧ t.fltSevere = v.fltSevere)
    ∧ (∀ (n : Fin 36) banks, exec (.faultEvent dt n banks) s = .next ((v.countReadback n banks).fault n (eventBanks n banks)))
    ∧ (∀ n : Fin 36, ((v.rd (Reg.fltSrcCount n) 7 0 = 0 ∨ v.fltSevere.testBit n = true ∨ v.now < tget v.fltWin 0 n) →
        exec (.faultWindowExpiry dt n) s = .next v)
      ∧ ((v.graceRuns n = false ∨ v.cyc < v.cycOf (tget v.fltGrace 0 n)) → exec (.graceExpiry dt n) s = .next v))
    ∧ (∀ rq value what, (v.writeReach rq Reg.fltAdopt true true = .refused what →
        exec (.faultAdopt dt rq value) s = .next ((v.readDemand rq).refuse (portOf rq true) what))
      ∧ (v.writeReach rq Reg.fltStatus true true = .refused what →
        exec (.faultStatusClear dt rq value) s = .next ((v.readDemand rq).refuse (portOf rq true) what)))
    ∧ (∀ rq value, 2 ^ 36 ≤ value →
      (v.writeReach rq Reg.fltAdopt true true = .allowed → exec (.faultAdopt dt rq value) s = .fault .reservedValue)
      ∧ (v.writeReach rq Reg.fltStatus true true = .allowed → exec (.faultStatusClear dt rq value) s = .fault .reservedValue))
    ∧ (∀ n : Fin 36, (v.rd (Reg.fltSrcCount n) 7 0 ≠ 0 → v.fltSevere.testBit n = false → tget v.fltWin 0 n ≤ v.now → ∃ t,
        exec (.faultWindowExpiry dt n) s = .next t ∧ t.rd (Reg.fltSrcCount n) 7 0 = 0
          ∧ OnlyRegs [Reg.fltSrcCount n] { v with fltWin := t.fltWin, fltBanks := t.fltBanks } t)
      ∧ (v.graceRuns n = true → v.cycOf (tget v.fltGrace 0 n) ≤ v.cyc → exec (.graceExpiry dt n) s = .next (v.escalate n)))
    ∧ (∀ rq value w, v.writeReach rq Reg.fltAdopt true true = .allowed → value < 2 ^ 36 → w = v.accessDemand rq → ∃ t,
      exec (.faultAdopt dt rq value) s = .next t ∧ OnlyRegs [Reg.fltAdopt, Reg.fltAdopt + 4] { w with fltGrace := t.fltGrace } t
        ∧ ∀ n : Fin 36, (value.testBit n = true → w.fltSevere.testBit n = true → n ≠ 11 → n ≠ 14 → w.graceRuns n = true →
            w.cyc < w.cycOf (tget w.fltGrace 0 n) → (t.rdq Reg.fltAdopt 2).testBit n = true ∧ t.graceRuns n = false)
          ∧ (value.testBit n = false ∨ w.fltSevere.testBit n = false → (t.rdq Reg.fltAdopt 2).testBit n
            = (w.rdq Reg.fltAdopt 2).testBit n))
    ∧ ∀ rq value, v.writeReach rq Reg.fltStatus true true = .allowed → value < 2 ^ 36 →
      (v.accessDemand rq).fltSevere < 2 ^ 36 → ∃ t,
      exec (.faultStatusClear dt rq value) s = .next t ∧ t.fltSevere = (v.accessDemand rq).fltSevere
        ∧ ∀ n : Fin 36, t.fltStatus.testBit n = ((v.accessDemand rq).fltStatus.testBit n
            && !(value.testBit n && !(v.accessDemand rq).fltSevere.testBit n))

/-- R348, R351: in Safe Hold an awake stack without a request for 1 ms goes back to self-refresh; SRAM scrub counts a
corrected word without an event, and an uncorrectable word is an event of SRAM_ECC (source 9), except in the ledger,
whose other copy restores it: an Eve word may end a record, a Tally word the sum, a grid is cleared and a local memory
word holds nothing known. -/
def Obligations.SafeHoldAndScrub : Prop :=
  ∀ (dt : Nat) (s v : State), v = s.start dt →
    ((v.safeHoldAt = none ∨ v.holdDone = false) → exec (.safeHoldStackIdle dt) s = .next v)
    ∧ (v.safeHoldAt.isSome = true → v.holdDone = true → ∃ t, exec (.safeHoldStackIdle dt) s = .next t ∧ SameBytes v t ∧ ∀ k : Fin 4,
      (v.rd (Reg.memStatus k) 2 0 = 2 → (v.stack k).lastReq + msec ≤ v.now → t.rd (Reg.memStatus k) 2 0 = 3
        ∧ (t.stack k).srFrom = v.now)
      ∧ ((v.rd (Reg.memStatus k) 2 0 ≠ 2 ∨ v.now < (v.stack k).lastReq + msec) → t.rd (Reg.memStatus k) 2 0
        = v.rd (Reg.memStatus k) 2 0))
    ∧ (∃ t, exec (.sramScrub dt .corrected) s = .next t ∧ OnlyRegs [Reg.fltSramCorr] v t
      ∧ (t.get Reg.fltSramCorr).toNat = min (2 ^ 32 - 1) ((v.get Reg.fltSramCorr).toNat + 1))
    ∧ exec (.sramScrub dt .ledger) s = .next v
    ∧ (∀ (b c : Fin 16) instant, (v.fault 9 (maskBit b)).groupOfChan (16 * b.val + c.val) = none →
      exec (.sramScrub dt (.eve b c instant)) s = .next (v.fault 9 (maskBit b)))
    ∧ (∀ (b c : Fin 16) instant g, (v.fault 9 (maskBit b)).groupOfChan (16 * b.val + c.val) = some g →
      ((v.fault 9 (maskBit b)).wouldHold g instant = true →
        exec (.sramScrub dt (.eve b c instant)) s = .next ((v.fault 9 (maskBit b)).sramGap g))
      ∧ ((v.fault 9 (maskBit b)).wouldHold g instant = false →
        exec (.sramScrub dt (.eve b c instant)) s = .next (v.fault 9 (maskBit b))))
    ∧ (∀ g, exec (.sramScrub dt (.tally g)) s = .next ((v.fault 9 allBanks).tallyBad g))
    ∧ (∀ g : Fin 32, ∃ t, exec (.sramScrub dt (.grid g)) s = .next t ∧ (t.grp g).acc.grid = [] ∧ (t.grp g).acc.gridCount = 0
      ∧ t.mem = (v.fault 9 allBanks).mem)
    ∧ ∀ e w, exec (.sramScrub dt (.lmem e w)) s = .next ((v.fault 9 allBanks).lmemBad e w)

/-! ### Jubilee updates (chapter 16) -/

/-- R358, R359: BEGIN erases the inactive bank and is refused with 0x10, or 0x11 while unconfirmed, where it is not
accepted; ABANDON leaves the inactive bank invalid; an erased bank receives with no block staged; a block that arrives
is staged, refused for its CRC or changes nothing; and a block that has been written is in the staged map, one whose
download has ended is not. -/
def Obligations.UpdateDownload : Prop :=
  ∀ (dt : Nat) (s v : State), v = s.start dt →
    (v.actReq = none → (v.updState = 0 ∨ v.updState = 4 ∨ v.updState = 5) → ∃ t, exec (.updBegin dt) s = .next t
      ∧ t.updState = 1 ∧ t.stageBank = v.targetBank ∧ t.pkgLen = v.rd Reg.updPkgLen 26 0 ∧ t.rd Reg.updStatus 23 16 = 0
      ∧ (t.img v.targetBank).valid = false ∧ (t.img v.targetBank).confirmed = false ∧ OnlyRegs [Reg.updStatus] { v with
        stageBank := t.stageBank, pkgLen := t.pkgLen, eraseAt := some v.now, voteAll := false, imgs := t.imgs } t)
    ∧ (v.actReq ≠ none ∨ (v.updState ≠ 0 ∧ v.updState ≠ 4 ∧ v.updState ≠ 5) → ∃ t, exec (.updBegin dt) s = .next t
      ∧ OnlyRegs [Reg.updStatus] v t ∧ t.rd Reg.updStatus 23 16 = (if v.updState = 8 then 0x11 else 0x10)
      ∧ t.updState = v.updState)
    ∧ (v.actReq = none → (v.updState = 2 ∨ v.updState = 4 ∨ v.updState = 5) → ∃ t, exec (.updAbandon dt) s = .next t
      ∧ t.updState = 0 ∧ (t.img v.stageBank).valid = false ∧ (t.img v.stageBank).confirmed = false
      ∧ OnlyRegs [Reg.updStatus] { v with pkgLen := 0, voteAll := false, imgs := t.imgs } t)
    ∧ (v.actReq ≠ none ∨ (v.updState ≠ 2 ∧ v.updState ≠ 4 ∧ v.updState ≠ 5) → ∃ t, exec (.updAbandon dt) s = .next t
      ∧ OnlyRegs [Reg.updStatus] v t ∧ t.rd Reg.updStatus 23 16 = 0x10 ∧ t.updState = v.updState)
    ∧ (v.updState = 1 → ∃ t, exec (.updEraseComplete dt) s = .next t ∧ t.updState = 2
      ∧ t.img v.stageBank = ImgBank.blank ∧ OnlyRegs [Reg.updStatus] { v with eraseAt := none, imgs := t.imgs } t)
    ∧ (v.updState ≠ 1 → exec (.updEraseComplete dt) s = .next v)
    ∧ (v.blkJob ≠ none → exec (.updBlkGo dt) s = .next v)
    ∧ (∀ off bytes f, v.blkJob = none → v.winBlock = (off, bytes) →
      f = v.blockFate off bytes (v.get Reg.updBlkCrc).toNat →
      (f = .stage → exec (.updBlkGo dt) s = .next { v with blkJob := some ⟨off, bytes, .win⟩ })
      ∧ (f = .badCrc → exec (.updBlkGo dt) s = .next ((v.inc Reg.updBlkRefused).fault 31 allBanks))
      ∧ (f ≠ .stage → f ≠ .badCrc → exec (.updBlkGo dt) s = .next v))
    ∧ (v.blkJob = none → ∀ x, exec (.blockStaged dt x) s = .next v)
    ∧ ∀ (j : BlkJob) (w u : State), v.blkJob = some j → u = { v with blkJob := none } →
      w = (if v.updState = 2 then u.setImg v.stageBank { (v.img v.stageBank) with
        blocks := tset (v.img v.stageBank).blocks [] (j.off / 4096) j.bytes } else u) →
      exec (.blockStaged dt .fail) s = .next v
      ∧ (j.src = .win → exec (.blockStaged dt .pass) s = .next w)
      ∧ (j.src = .uart → exec (.blockStaged dt .pass) s = .next (w.answerBlk (v.updState == 2) j.off))
      ∧ (j.src = .h2d → exec (.blockStaged dt .pass) s = .next (w.blockEnd j (if v.updState = 2 then 0 else 2)))

/-- R360, R367, R368: DISTRIBUTE and VOTE begin on a head whose own package is staged and are refused with 0x10
otherwise; the wait for ERASING ends after 2 s, blocks go out 2.5 ms apart, and after the last the members are asked
what they miss; devices silent at UPD_VOTE_TIMEOUT are absent and the vote concludes; and a procession ACTIVATE that
is not answered in 20 ms is called off with 0x0D, each missing answer counted. Before these instants nothing happens.
-/
def Obligations.UpdateProcession : Prop :=
  ∀ (dt : Nat) (s v : State), v = s.start dt →
    ((v.headStaged = false ∨ v.dist.isSome = true) → ∃ t, exec (.updDistribute dt) s = .next t ∧ exec (.updVote dt) s = .next t
      ∧ OnlyRegs [Reg.updStatus] v t ∧ t.rd Reg.updStatus 23 16 = 0x10)
    ∧ (v.headStaged = true → v.dist = none →
      (v.others ≠ [] → ∃ t d, exec (.updDistribute dt) s = .next t ∧ t.dist = some d ∧ d.pass = 1 ∧ d.todo = v.blockOffs 0
        ∧ d.waiting = true ∧ d.erasing = v.others ∧ t.rd Reg.updStatus 23 16 = 0)
      ∧ (v.others = [] → ∃ t, exec (.updDistribute dt) s = .next t ∧ t.dist = none ∧ t.rd Reg.updStatus 23 16 = 0)
      ∧ ∃ t, exec (.updVote dt) s = .next t ∧ t.updState = 9 ∧ t.vote = some ⟨v.now, v.ringPos :: v.others⟩
        ∧ t.verifyFor = some v.now ∧ t.rdq Reg.updVoteYes 2 = 0 ∧ t.rdq Reg.updVoteNo 2 = 0 ∧ t.rdq Reg.updVoteAbsent 2 = 0)
    ∧ (v.dist = none → exec (.distributeEraseWaitExpiry dt) s = .next v ∧ exec (.distributeBlockInterval dt) s = .next v)
    ∧ (∀ d, v.dist = some d →
      (d.waiting = true → exec (.distributeBlockInterval dt) s = .next v
        ∧ (d.since + 2 * second ≤ v.now →
          exec (.distributeEraseWaitExpiry dt) s = .next (v.distStep { d with waiting := false, erasing := [] }))
        ∧ (v.now < d.since + 2 * second → exec (.distributeEraseWaitExpiry dt) s = .next v))
      ∧ (d.waiting = false → exec (.distributeEraseWaitExpiry dt) s = .next v
        ∧ (v.now < d.lastBlk + 2500 * usec → exec (.distributeBlockInterval dt) s = .next v)
        ∧ (d.lastBlk + 2500 * usec ≤ v.now → (∀ off rest, d.todo = off :: rest → exec (.distributeBlockInterval dt) s
            = .next (({ v with dist := some { d with todo := rest, lastBlk := v.now } } : State).sendBlock off))
          ∧ (d.todo = [] → d.asked ≠ [] → exec (.distributeBlockInterval dt) s = .next v)
          ∧ (d.todo = [] → d.asked = [] → ∃ t, exec (.distributeBlockInterval dt) s = .next t
            ∧ t.dist = some { d with asked := v.others, missing := [], short := [], lastBlk := v.now }))))
    ∧ (v.vote = none → exec (.updVoteTimeout dt) s = .next v)
    ∧ (∀ x : Vote, v.vote = some x → (v.now < x.since + max 1 (v.rd Reg.updVoteTimeout 15 0) * msec →
        exec (.updVoteTimeout dt) s = .next v)
      ∧ (x.since + max 1 (v.rd Reg.updVoteTimeout 15 0) * msec ≤ v.now → ∃ t, exec (.updVoteTimeout dt) s = .next t
        ∧ t.vote = none ∧ (∀ p < 64, p ∈ x.open_ → (t.rdq Reg.updVoteAbsent 2).testBit p = true)
        ∧ ((∃ p ∈ x.open_, p < 64) → t.updState = 5 ∧ t.rd Reg.updStatus 23 16 = 0x0C)))
    ∧ (v.actWait = none → exec (.activateAnswerTimeout dt) s = .next v)
    ∧ ∀ t0, v.actWait = some t0 → (v.now < t0 + 20 * msec → exec (.activateAnswerTimeout dt) s = .next v)
      ∧ (t0 + 20 * msec ≤ v.now → ∀ n, n = ((v.ctlReqs.filter (fun q => q.why == .activate)).map (fun q => q.from_.length)).sum →
        ∃ t, exec (.activateAnswerTimeout dt) s = .next t ∧ t = (v.countFld Reg.rngCtlStats 15 0 n).callOff
          ∧ t.updState = 4 ∧ t.rd Reg.updStatus 23 16 = 0x0D ∧ t.actReq = none ∧ t.actWait = none)

/-- R361 to R363, R365: VERIFY runs the checks and ends in VERIFIED or FAILED, or in this head's own vote; ACTIVATE
starts or schedules an activation, by procession or alone, or is refused with the code of R361; CANCEL takes a
schedule back; an activation that starts at its instant writes the commit word, a rollback that of the other bank, and
becomes ACTIVATING; capture resumes unconfirmed; and a window that passes without CONFIRM asks for the way back. What
does not hold waits. -/
def Obligations.UpdateActivation : Prop :=
  ∀ (dt : Nat) (s v : State), v = s.start dt →
    ((v.updState = 2 ∨ v.updState = 5) → ∃ t, exec (.updVerify dt) s = .next t ∧ t.updState = 3 ∧ t.verifyFor = some v.now
      ∧ OnlyRegs [Reg.updStatus] { v with verifyFor := t.verifyFor } t)
    ∧ (v.updState ≠ 2 → v.updState ≠ 5 → ∃ t, exec (.updVerify dt) s = .next t ∧ OnlyRegs [Reg.updStatus] v t
      ∧ t.rd Reg.updStatus 23 16 = 0x10)
    ∧ (v.verifyFor = none → exec (.updVerifyComplete dt) s = .next v)
    ∧ (∀ u : State, v.verifyFor.isSome = true → u = { v with verifyFor := none } →
      (v.vote = none → ∃ t, exec (.updVerifyComplete dt) s = .next t
        ∧ (u.badPackage = none → t.updState = 4 ∧ t.rd Reg.updStatus 23 16 = 0 ∧ t.bit Reg.updIrq 16 = true
          ∧ (t.img v.stageBank).valid = true)
        ∧ ∀ code off, u.badPackage = some (code, off) → t = (((((u.updError code).put Reg.updErrOffset
          (BitVec.ofNat 32 off)).fault 31 allBanks).setUpd 5).updEvent 0))
      ∧ (v.vote.isSome = true → exec (.updVerifyComplete dt) s
        = .next (v.verifyOutcome.2.castVote v.ringPos u.badPackage.isNone)))
    ∧ (v.activateCode ≠ 0 → ∃ t, exec (.updActivate dt) s = .next t ∧ OnlyRegs [Reg.updStatus] v t
      ∧ t.rd Reg.updStatus 23 16 = v.activateCode % 256)
    ∧ (v.activateCode = 0 → v.recovery = true → exec (.updActivate dt) s = .next v.romActivate)
    ∧ (v.activateCode = 0 → v.recovery = false →
      (v.procession = true → ∃ w : State, exec (.updActivate dt) s = .next (w.askActivation ⟨v.actInstant, false, false⟩)
        ∧ w.updState = 6 ∧ w.actWait = some v.now ∧ w.rd Reg.updStatus 23 16 = 0)
      ∧ (v.procession = false →
        (v.actInstant = 0 → exec (.updActivate dt) s = .next ((v.updError 0).askActivation ⟨0, false, false⟩))
        ∧ (v.actInstant ≠ 0 → exec (.updActivate dt) s
            = .next (((v.updError 0).setUpd 6).askActivation ⟨v.actInstant, false, false⟩)
          ∧ (v.power ≤ 1 → v.move = .steady → ∃ t, exec (.updActivate dt) s = .next t ∧ t.updState = 6
            ∧ t.actReq = some ⟨v.actInstant, false, false⟩ ∧ OnlyRegs [Reg.updStatus] { v with actReq := t.actReq } t))))
    ∧ (v.updState = 6 → ∃ t, exec (.updCancel dt) s = .next t ∧ t.updState = 4 ∧ t.actReq = none ∧ t.rd Reg.updStatus 23 16 = 0)
    ∧ (v.updState ≠ 6 → ∃ t, exec (.updCancel dt) s = .next t ∧ OnlyRegs [Reg.updStatus] v t
      ∧ t.rd Reg.updStatus 23 16 = 0x10)
    ∧ (v.actReq = none → exec (.activationStart dt) s = .next v ∧ exec (.activationResume dt) s = .next v)
    ∧ (∀ a, v.actReq = some a →
      (a.started = true ∨ v.activationClear = false ∨ v.ep < a.at_ ∨ v.inReset = true →
        exec (.activationStart dt) s = .next v)
      ∧ (a.started = false → v.activationClear = true → a.at_ ≤ v.ep → v.inReset = false → ∃ t,
        exec (.activationStart dt) s = .next t ∧ t.updState = 7 ∧ t.rd Reg.updStatus 11 10 = 0
          ∧ t.rd Reg.updStatus 9 9 = (if a.back then 1 - v.activeBank else v.stageBank % 2)))
    ∧ (∀ a, v.actReq = some a →
      (v.updState ≠ 7 ∨ v.pfAt.isSome = true → exec (.activationResume dt) s = .next v)
      ∧ (v.updState = 7 → v.pfAt = none → ∃ w : State,
        exec (.activationResume dt) s = .next (((w.updEvent 0).endAllPauses).serveHeld) ∧ w.actReq = none
          ∧ w.updState = (if a.back then 0 else 8) ∧ w.confirmFrom = (if a.back then none else some v.now)))
    ∧ (v.confirmFrom = none ∨ v.updState ≠ 8 ∨ v.actReq ≠ none → exec (.confirmWindowExpiry dt) s = .next v)
    ∧ ∀ t0, v.confirmFrom = some t0 → (v.now < t0 + v.confirmWindow → exec (.confirmWindowExpiry dt) s = .next v)
      ∧ (v.updState = 8 → v.actReq = none → t0 + v.confirmWindow ≤ v.now →
        exec (.confirmWindowExpiry dt) s = .next (v.askActivation ⟨0, true, false⟩))

/-- R364: CONFIRM in UNCONFIRMED confirms the active bank, raises UPD_FLOOR to the greater of its value and the bank's
floor, clears TRIES and returns STATE to IDLE, and the other bank keeps its image. In another state it is refused with
0x10 (R361). -/
def Obligations.ConfirmEndsTheUpdate : Prop :=
  ∀ (dt : Nat) (s v : State), v = s.start dt →
    (v.updState = 8 → v.actReq = none → (v.img v.activeBank).floor < 2 ^ 32 →
      ∃ t, exec (.updConfirm dt) s = .next t
        ∧ t.img v.activeBank = { (v.img v.activeBank) with confirmed := true }
        ∧ (t.get Reg.updFloor).toNat = max (v.get Reg.updFloor).toNat (v.img v.activeBank).floor
        ∧ t.rd Reg.updStatus 11 10 = 0 ∧ t.updState = 0 ∧ t.rd Reg.updStatus 23 16 = 0
        ∧ (∀ b, b ≠ v.activeBank → t.img b = v.img b)
        ∧ t.activeBank = v.activeBank
        ∧ OnlyRegs [Reg.updFloor, Reg.updStatus] { v with imgs := t.imgs, confirmFrom := none } t)
    ∧ (v.updState ≠ 8 ∨ v.actReq ≠ none → ∃ t, exec (.updConfirm dt) s = .next t ∧ OnlyRegs [Reg.updStatus] v t
      ∧ t.rd Reg.updStatus 23 16 = 0x10 ∧ t.updState = v.updState)

/-- R365, R366, R369 to R371: after a reset the boot check is made once: RECOVERY_N low starts the recovery ROM; a
schedule that has passed is carried out, an unconfirmed image is counted in TRIES or, at 3, left for the other bank; a
bank that passes goes on, and one that fails falls back or starts the ROM. There the lines STATUS, VERIFY and
ACTIVATE, BEGIN and block lines and lines of other forms are answered; outside the ROM these commands change nothing.
-/
def Obligations.BootAndRecovery : Prop :=
  ∀ (dt : Nat) (s v : State), v = s.start dt →
    (∀ w : State, w = { v with booted := true, verifyFor := if v.updState = 3 then some v.now else none } →
      v.resetStep = .released → v.booted = false →
      exec (.bootImageCheck dt false) s = .next { w with recovery := true }
      ∧ ∃ t, exec (.bootImageCheck dt true) s = .next t ∧ (v.actReq = none →
        (v.updState ≠ 8 → (w.bankBoots w.activeBank = true → t = w)
          ∧ (w.bankBoots w.activeBank = false → (w.img (1 - w.activeBank)).valid = true →
            (w.img (1 - w.activeBank)).confirmed = true → t.activeBank = (1 - v.activeBank) ∧ t.bit Reg.updStatus 14 = true
            ∧ OnlyRegs [Reg.updStatus] w t)
          ∧ (w.bankBoots w.activeBank = false → ((w.img (1 - w.activeBank)).valid = false
            ∨ (w.img (1 - w.activeBank)).confirmed = false) → t = { w with recovery := true }))
        ∧ (v.updState = 8 → v.rd Reg.updStatus 11 10 < 3 → w.bankBoots w.activeBank = true →
          t.rd Reg.updStatus 11 10 = v.rd Reg.updStatus 11 10 + 1 ∧ t.activeBank = v.activeBank
          ∧ OnlyRegs [Reg.updStatus] { w with confirmFrom := if v.sampleLocked then some v.now else v.confirmFrom } t))
        ∧ (∀ a c, v.actReq = some a → v.updState = 6 → a.at_ ≤ v.startEpoch → c = (((({ w with
            actReq := none, pkgLen := 0 } : State).commitWord v.stageBank).wr Reg.updStatus 11 10 0).setUpd 8).countTry.chooseBank →
          t = { c with confirmFrom := if c.updState = 8 ∧ c.sampleLocked then some c.now else c.confirmFrom }))
    ∧ (v.resetStep ≠ .released ∨ v.booted = true → ∀ n, exec (.bootImageCheck dt n) s = .next v)
    ∧ (v.recovery = true → v.inReset = false →
      exec (.recoveryUartStatus dt) s = .next (v.emit (.uart v.statusLine))
      ∧ (∀ x, x = v.verifyOutcome → (v.updState = 2 ∨ v.updState = 5) → ∃ t u, exec (.recoveryUartVerify dt) s = .next t
        ∧ u = (x.2.setUpd (if x.1 then 4 else 5)).updEvent 0
        ∧ (x.1 = true → t = u.answer (text "OK")) ∧ (x.1 = false → t = u.answerErr (u.rd Reg.updStatus 23 16)))
      ∧ (v.updState ≠ 2 → v.updState ≠ 5 → exec (.recoveryUartVerify dt) s = .next ((v.updError 0x10).answerErr 0x10))
      ∧ (v.activateCode ≠ 0 → exec (.recoveryUartActivate dt) s
        = .next ((v.updError v.activateCode).answerErr v.activateCode))
      ∧ (v.activateCode = 0 → exec (.recoveryUartActivate dt) s = .next (v.romActivate.answer (text "OK")))
      ∧ ∀ line r, r = exec (.recoveryUartOther dt line) s → exec (.recoveryUartBegin dt line) s = r
        ∧ exec (.recoveryUartBlock dt line) s = r
        ∧ (∀ w, wordsOf (unended line) = [w] →
          (w = text "STATUS" → r = exec (.recoveryUartStatus dt) s) ∧ (w = text "VERIFY" → r = exec (.recoveryUartVerify dt) s)
          ∧ (w = text "ACTIVATE" → r = exec (.recoveryUartActivate dt) s)
          ∧ (w ≠ text "STATUS" → w ≠ text "VERIFY" → w ≠ text "ACTIVATE" → r = .next (v.answerErr 0x10)))
        ∧ (∀ w a, wordsOf (unended line) = [w, a] →
          (∀ n, parseHex a = some n → w = text "BEGIN" → r = .next (v.romBegin n))
          ∧ (parseHex a = none ∨ w ≠ text "BEGIN" → r = .next (v.answerErr 0x10)))
        ∧ (∀ w a c d, wordsOf (unended line) = [w, a, c, d] →
          (∀ off crc bs, w = text "B" → parseHex a = some off → parseHex c = some crc → parseB64 d = some bs →
            r = .next (v.romBlock off crc bs))
          ∧ (w ≠ text "B" ∨ parseHex a = none ∨ parseHex c = none ∨ parseB64 d = none → r = .next (v.answerErr 0x10)))
        ∧ ((wordsOf (unended line)).length = 3 ∨ 4 < (wordsOf (unended line)).length → r = .next (v.answerErr 0x10)))
    ∧ (v.recovery = false ∨ v.inReset = true → exec (.recoveryUartStatus dt) s = .next v
      ∧ exec (.recoveryUartVerify dt) s = .next v ∧ exec (.recoveryUartActivate dt) s = .next v
      ∧ ∀ line, exec (.recoveryUartBegin dt line) s = .next v ∧ exec (.recoveryUartBlock dt line) s = .next v
        ∧ exec (.recoveryUartOther dt line) s = .next v)

/-- R372, R373: with KEY at 0xA256, PROG writes an empty slot and SET_REQUIRE sets REQUIRE in the recovery ROM alone,
REVOKE invalidates a valid slot unless no other would remain, and each sets CMD_ERR where it is refused; without the
key none does anything; a retired flash block comes off the pool, and FLASH_WEAR (source 34) is raised when fewer than
26 remain. -/
def Obligations.KeysAndFlash : Prop :=
  ∀ (dt : Nat) (s v : State) (k : Nat), v = s.start dt → k = v.rd Reg.updKeyCtl 1 0 →
    (v.rd Reg.updKeyCtl 31 16 = 0xA256 →
      (v.recovery = true → v.keyEmpty k = true → ∃ t, exec (.keyProg dt) s = .next t ∧ t.bit Reg.almKeys k = true
        ∧ tget t.keys [] k = v.keyHash ∧ OnlyRegs [Reg.almKeys] { v with keys := t.keys } t)
      ∧ ((v.recovery = false ∨ v.keyEmpty k = false) → ∃ t, exec (.keyProg dt) s = .next t
        ∧ OnlyRegs [Reg.updKeyCtl] v t ∧ t.bit Reg.updKeyCtl 8 = true)
      ∧ (v.recovery = true → ∃ t, exec (.keySetRequire dt) s = .next t ∧ OnlyRegs [Reg.almKeys] v t ∧ t.bit Reg.almKeys 4 = true)
      ∧ (v.recovery = false → ∃ t, exec (.keySetRequire dt) s = .next t ∧ OnlyRegs [Reg.updKeyCtl] v t
        ∧ t.bit Reg.updKeyCtl 8 = true)
      ∧ (∀ j < 4, v.keyValid k = true → j ≠ k → v.keyValid j = true → ∃ t, exec (.keyRevoke dt) s = .next t
        ∧ OnlyRegs [Reg.almKeys] v t ∧ t.keyValid k = false ∧ t.keyValid j = true)
      ∧ ((v.keyValid k = false ∨ ∀ j < 4, j ≠ k → v.keyValid j = false) → ∃ t, exec (.keyRevoke dt) s = .next t
        ∧ OnlyRegs [Reg.updKeyCtl] v t ∧ t.bit Reg.updKeyCtl 8 = true))
    ∧ (v.rd Reg.updKeyCtl 31 16 ≠ 0xA256 → exec (.keyProg dt) s = .next v ∧ exec (.keySetRequire dt) s = .next v
      ∧ exec (.keyRevoke dt) s = .next v)
    ∧ (v.rd Reg.updFlash 9 0 ≠ 26 → ∃ t, exec (.flashBlockRetire dt) s = .next t ∧ OnlyRegs [Reg.updFlash] v t
      ∧ t.rd Reg.updFlash 9 0 = v.rd Reg.updFlash 9 0 - 1
      ∧ t.rd Reg.updFlash 31 16 = min (2 ^ 16 - 1) (v.rd Reg.updFlash 31 16 + 1))
    ∧ (v.rd Reg.updFlash 9 0 = 26 → ∃ w : State, exec (.flashBlockRetire dt) s = .next (w.fault 34 allBanks)
      ∧ w.rd Reg.updFlash 9 0 = 25 ∧ w.bit Reg.updIrq 18 = true)

/-! ### The Lantern (chapter 17) -/

/-- R380 to R383, R386, R387: a commit takes the next sequence; it is pending while an output is on, late outside its
window, supersedes the one pending and asks for a restart where settings change; with the outputs off it is taken at
once. A TE edge or its absence for two frame periods begins a frame, and an edge during a push is only counted; at a
push's start the pending commit is taken, older ones are retired and its rectangle goes out; the end of a push lets a
restart begin its hold, at whose end the new settings are in force. While the outputs do not run, none of these begins
anything. -/
def Obligations.LanternFrames : Prop :=
  ∀ (dt : Nat) (s v : State), v = s.start dt →
    (∀ seq (c : Commit), seq = ((v.get Reg.lntCommitSeq).toNat + 1) % 2 ^ 32 → c = ⟨seq, v.rd Reg.lntCommit 1 0,
        v.bit Reg.lntCommit 4, v.rectAt (Reg.lntCommitRect 0) (Reg.lntCommitRect 1)⟩ → ∃ t, exec (.lntCommit dt) s = .next t
      ∧ (t.get Reg.lntCommitSeq).toNat = seq
      ∧ (v.lntOn = false → t.lnt.used = some c ∧ t.lnt.pend = none ∧ t.get Reg.lntTakenSeq = BitVec.ofNat 32 seq)
      ∧ (v.lntOn = true → t.lnt.pend = some c
        ∧ (v.lntChanged = false →
          (v.lnt.winOpen = false ∨ v.lnt.holdEnd.isSome = true → t.bit Reg.lntStatus 3 = true
            ∧ t.rd Reg.lntStatus 23 16 = min 255 (v.rd Reg.lntStatus 23 16 + 1))
          ∧ (v.lnt.winOpen = true → v.lnt.holdEnd = none → t.bit Reg.lntStatus 3 = v.bit Reg.lntStatus 3
            ∧ t.rd Reg.lntStatus 23 16 = v.rd Reg.lntStatus 23 16)
          ∧ t.rd Reg.lntStatus 15 8 = (if v.lnt.pend.isSome then min 255 (v.rd Reg.lntStatus 15 8 + 1)
            else v.rd Reg.lntStatus 15 8)
          ∧ OnlyRegs [Reg.lntCommitSeq, Reg.lntStatus] { v with lnt := { v.lnt with pend := some c } } t)
        ∧ (v.lntChanged = true → v.lntCheck = .good → t.lnt.restart = true)
        ∧ (v.lntChanged = true → v.lntCheck = .bad → t.bit Reg.lntStatus 5 = true ∧ t.lnt.restart = v.lnt.restart)))
    ∧ (∀ u, u = (({ v with lnt := { v.lnt with frameAt := some v.now, winOpen := true } } : State).inc Reg.lntFrames) →
      (∀ line : Fin 2,
        (v.lntRuns = false ∨ v.lntVideo = true ∨ v.actf Reg.lntCfg 3 3 ≠ line.val → exec (.lntTeEdge dt line) s = .next v)
        ∧ (v.lntRuns = true → v.lntVideo = false → v.actf Reg.lntCfg 3 3 = line.val →
          (v.lnt.pushing = false → exec (.lntTeEdge dt line) s = .next u)
          ∧ (v.lnt.pushing = true → exec (.lntTeEdge dt line) s = .next (v.inc Reg.lntTeMiss))))
      ∧ (v.lntRuns = true → v.lntVideo = true → exec (.videoFrameStart dt) s = .next u)
      ∧ (v.lntRuns = false ∨ v.lntVideo = false → exec (.videoFrameStart dt) s = .next v)
      ∧ (v.lntRuns = false ∨ v.lntVideo = true ∨ v.now < v.lnt.frameAt.getD v.lnt.gapFrom + 2 * v.framePeriod →
        exec (.teMissTimeout dt) s = .next v)
      ∧ (v.lntRuns = true → v.lntVideo = false → v.lnt.frameAt.getD v.lnt.gapFrom + 2 * v.framePeriod ≤ v.now →
        (v.lnt.pushing = true → exec (.teMissTimeout dt) s = .next (v.inc Reg.lntTeMiss))
        ∧ (v.lnt.pushing = false → exec (.teMissTimeout dt) s = .next (v.inc Reg.lntTeMiss).frameInstant)))
    ∧ (v.lntRuns = false ∨ v.lnt.winOpen = false ∨ v.lnt.pushing = true ∨ v.now < v.pushAt → exec (.pushStart dt) s = .next v)
    ∧ (v.lntRuns = true → v.lnt.winOpen = true → v.lnt.pushing = false → v.pushAt ≤ v.now → ∃ t,
      exec (.pushStart dt) s = .next t ∧ t.lnt.winOpen = false
      ∧ (v.lnt.pend = none ∨ v.lnt.restart = true → t.lnt.used = v.lnt.used ∧ t.lnt.pend = v.lnt.pend)
      ∧ (v.lnt.pend = none → v.bit Reg.lntTrace 31 = false → v.lntVideo = false → t.lnt.pushing = false ∧ t.out = v.out)
      ∧ (∀ c : Commit, v.lnt.pend = some c → v.lnt.restart = false → t.lnt.used = some c ∧ t.lnt.pend = none
        ∧ t.get Reg.lntTakenSeq = BitVec.ofNat 32 c.seq ∧ t.get Reg.lntRetiredSeq = BitVec.ofNat 32 (c.seq - 1)
        ∧ ∀ x y w h, v.bit Reg.lntTrace 31 = false → v.lntVideo = false → clipRect v.lntW v.lntH c.rect = (x, y, w, h) →
          (w = 0 ∨ h = 0 → t.lnt.pushing = false ∧ t.out = v.out)
          ∧ (w ≠ 0 → h ≠ 0 → t.lnt.pushing = true ∧ ∃ px, t.out = v.out ++ [.push x y w h px]))
      ∧ (v.lntVideo = true → v.lntW ≠ 0 → v.lntH ≠ 0 → t.lnt.pushing = true
        ∧ ∃ px, t.out = v.out ++ [.push 0 0 v.lntW v.lntH px]))
    ∧ (v.lnt.pushing = false → exec (.pushEnd dt) s = .next v)
    ∧ (v.lnt.pushing = true → v.lnt.restart = false ∨ v.lnt.holdEnd.isSome = true → exec (.pushEnd dt) s
      = .next { v with lnt := { v.lnt with pushing := false, gapFrom := v.now } })
    ∧ (v.lnt.pushing = true → v.lnt.restart = true → v.lnt.holdEnd = none → ∃ t, exec (.pushEnd dt) s = .next t
      ∧ t.lnt.holdEnd = some (v.now + 2 * v.framePeriod) ∧ t.lnt.pushing = false ∧ t.lnt.winOpen = false ∧ t.mem = v.mem)
    ∧ (v.lnt.holdEnd = none → exec (.restartHoldEnd dt) s = .next v)
    ∧ ∀ t0, v.lnt.holdEnd = some t0 → (v.now < t0 → exec (.restartHoldEnd dt) s = .next v)
      ∧ (t0 ≤ v.now → ∃ t, exec (.restartHoldEnd dt) s = .next t ∧ t.lnt.holdEnd = none
        ∧ t.lnt.restart = false ∧ (v.lnt.restart = true → ∀ o ∈ lntShadows, t.act o = v.get o)
        ∧ (v.lnt.restart = false → t.mem = v.mem))

/-- R388: LNT_DCS_SEND queues the first WC bytes of LNT_DCS_BUF as a packet of type DT, which goes out between pushes
as one packet; a SEND while one is queued is refused with CMD_ERR. Without a packet, during a push and while the
outputs do not run none goes out. (A WC that the register's description does not allow queues a free length.) -/
def Obligations.DcsPackets : Prop :=
  ∀ (dt : Nat) (s v : State), v = s.start dt →
    (v.lnt.dcs = none → 1 ≤ v.rd Reg.lntDcsSend 6 0 → v.rd Reg.lntDcsSend 6 0 ≤ 64 → exec (.dcsSend dt) s
      = .next { v with lnt := { v.lnt with dcs := some (v.rd Reg.lntDcsSend 13 8, v.rd Reg.lntDcsSend 6 0) } })
    ∧ (v.lnt.dcs = none → (v.rd Reg.lntDcsSend 6 0 = 0 ∨ 64 < v.rd Reg.lntDcsSend 6 0) → ∃ t n, exec (.dcsSend dt) s = .next t
      ∧ t.lnt = { v.lnt with dcs := some (v.rd Reg.lntDcsSend 13 8, n) } ∧ n ≤ 64 ∧ t.mem = v.mem ∧ t.out = v.out)
    ∧ (v.lnt.dcs.isSome = true → ∃ t, exec (.dcsSend dt) s = .next t ∧ OnlyRegs [Reg.lntStatus] v t
      ∧ t.bit Reg.lntStatus 5 = true)
    ∧ (∀ ty n, v.lnt.dcs = some (ty, n) → n ≤ 64 → v.lntOn = true → v.power = 0 → v.bit Reg.fltAction 17 = false →
      v.lnt.pushing = false → ∃ bytes, exec (.dcsSent dt) s
        = .next (({ v with lnt := { v.lnt with dcs := none } } : State).emit (.dcs ty bytes)) ∧ bytes.length = n
        ∧ ∀ k < n, bytes.getD k 0 = BitVec.ofNat 8 ((v.get (Reg.lntDcsBuf (k / 4))).toNat / 256 ^ (k % 4)))
    ∧ (v.lnt.dcs = none ∨ v.lntOn = false ∨ v.power ≠ 0 ∨ v.bit Reg.fltAction 17 = true ∨ v.lnt.pushing = true →
      exec (.dcsSent dt) s = .next v)

/-! ### Boundary scan (chapter 19) -/

/-- R423: each listed code is its instruction, every other code acts as BYPASS (0xFF), and IDCODE is loaded at
Test-Logic-Reset. (An instruction that needs RST_N low is loaded while it is: R422.) -/
def Obligations.TapInstructions : Prop :=
  ∀ (dt : Nat) (s v : State), v = s.start dt →
    (∀ code : Fin 256, (code.val = 1 ∨ code.val = 0xFF ∨ v.rstLow = true) →
      (code.val = 0 ∨ code.val = 1 ∨ code.val = 2 ∨ code.val = 4 ∨ code.val = 5 ∨ code.val = 6 ∨ code.val = 7 ∨ code.val = 0xFF →
        exec (.tapInstruction dt code) s = .next { v with tap := code.val }))
    ∧ (∀ code : Fin 256, code.val = 3 ∨ (7 < code.val ∧ code.val < 0xFF) →
      exec (.tapInstruction dt code) s = .next { v with tap := 0xFF })
    ∧ exec (.testLogicReset dt) s = .next { v with tap := 1 }
end

