-- ==== Sys2Proof/Laws/Table.lean ====
section
/-! SUPPORT. What the lookups and updates of tables do, and that each update keeps the canonical form. -/

namespace Sys2Proof.Machine

variable {β : Type}

@[simp] theorem tget_nil (d : β) (k : Nat) : tget [] d k = d := rfl

theorem tget_tdel_self (t : Tbl β) (d : β) (k : Nat) : tget (tdel t k) d k = d := by
  induction t with
  | nil => rfl
  | cons p r ih =>
    obtain ⟨a, v⟩ := p
    by_cases h : a = k <;> simp [tdel, tget, h, ih]

theorem tget_tdel_ne (t : Tbl β) (d : β) {k j : Nat} (h : j ≠ k) : tget (tdel t k) d j = tget t d j := by
  induction t with
  | nil => rfl
  | cons p r ih =>
    obtain ⟨a, v⟩ := p
    by_cases h1 : a = k
    · have h2 : a ≠ j := fun e => h (e ▸ h1)
      simp [tdel, tget, h1, ih, h.symm]
    · simp only [tdel, h1, if_false, tget, ih]

theorem tget_tins_self (t : Tbl β) (d : β) (k : Nat) (v : β) (h : ∀ w, (k, w) ∉ t) : tget (tins t k v) d k = v := by
  induction t with
  | nil => simp [tins, tget]
  | cons p r ih =>
    obtain ⟨a, w⟩ := p
    have ha : a ≠ k := fun e => h w (by simp [e])
    by_cases h1 : k < a
    · simp [tins, tget, h1]
    · simp [tins, tget, h1, ha, ih (fun w hw => h w (List.mem_cons_of_mem _ hw))]

theorem tget_tins_ne (t : Tbl β) (d : β) {k j : Nat} (v : β) (h : j ≠ k) : tget (tins t k v) d j = tget t d j := by
  induction t with
  | nil => simp [tins, tget, h.symm]
  | cons p r ih =>
    obtain ⟨a, w⟩ := p
    by_cases h1 : k < a
    · simp [tins, tget, h1, h.symm]
    · simp only [tins, h1, if_false, tget, ih]

theorem not_mem_tdel (t : Tbl β) (k : Nat) (w : β) : (k, w) ∉ tdel t k := by
  induction t with
  | nil => simp [tdel]
  | cons p r ih =>
    obtain ⟨a, v⟩ := p
    by_cases h : a = k
    · simp [tdel, h, ih]
    · simp only [tdel, h, if_false, List.mem_cons, not_or]
      exact ⟨fun e => h (by injection e with e1 _; exact e1.symm), ih⟩

theorem tabove_iff {k : Nat} {t : Tbl β} : tabove k t = true ↔ ∀ p ∈ t, k < p.1 := by simp [tabove]

theorem mem_tdel {t : Tbl β} {k : Nat} {p : Nat × β} (h : p ∈ tdel t k) : p ∈ t := by
  induction t with
  | nil => simp [tdel] at h
  | cons q r ih =>
    obtain ⟨a, v⟩ := q
    by_cases h1 : a = k
    · simp only [tdel, h1, if_true] at h
      exact List.mem_cons_of_mem _ (ih h)
    · simp only [tdel, h1, if_false, List.mem_cons] at h
      rcases h with h | h
      · simp [h]
      · exact List.mem_cons_of_mem _ (ih h)

theorem mem_tins {t : Tbl β} {k : Nat} {v : β} {p : Nat × β} (h : p ∈ tins t k v) : p = (k, v) ∨ p ∈ t := by
  induction t with
  | nil => simpa [tins] using h
  | cons q r ih =>
    obtain ⟨a, w⟩ := q
    by_cases h1 : k < a
    · simpa [tins, h1] using h
    · simp only [tins, h1, if_false, List.mem_cons] at h
      rcases h with h | h
      · simp [h]
      · rcases ih h with h | h
        · exact .inl h
        · exact .inr (List.mem_cons_of_mem _ h)

section
variable [DecidableEq β]

/-- A table reads back what was set. -/
@[simp] theorem tget_tset_self (t : Tbl β) (d : β) (k : Nat) (v : β) : tget (tset t d k v) d k = v := by
  unfold tset
  split
  · next h => rw [tget_tdel_self, h]
  · exact tget_tins_self _ _ _ _ (not_mem_tdel t k)

/-- Setting one key leaves the others. -/
theorem tget_tset_ne (t : Tbl β) (d d' : β) {k j : Nat} (v : β) (h : j ≠ k) : tget (tset t d k v) d' j = tget t d' j := by
  unfold tset
  split
  · exact tget_tdel_ne _ _ h
  · rw [tget_tins_ne _ _ _ h, tget_tdel_ne _ _ h]

@[simp] theorem twf_nil (d : Nat → β) : twf d [] = true := rfl

theorem twf_cons {d : Nat → β} {a : Nat} {v : β} {r : Tbl β} :
    twf d ((a, v) :: r) = true ↔ tabove a r = true ∧ v ≠ d a ∧ twf d r = true := by
  simp [twf, and_assoc]

theorem twf_tdel {d : Nat → β} {t : Tbl β} (k : Nat) (h : twf d t = true) : twf d (tdel t k) = true := by
  induction t with
  | nil => rfl
  | cons p r ih =>
    obtain ⟨a, v⟩ := p
    obtain ⟨h1, h2, h3⟩ := twf_cons.1 h
    by_cases ha : a = k
    · simpa [tdel, ha] using ih h3
    · simp only [tdel, ha, if_false]
      refine twf_cons.2 ⟨tabove_iff.2 (fun p hp => tabove_iff.1 h1 p (mem_tdel hp)), h2, ih h3⟩

theorem twf_tins {d : Nat → β} {t : Tbl β} {k : Nat} {v : β} (hv : v ≠ d k) (h : twf d t = true)
    (hk : ∀ w, (k, w) ∉ t) : twf d (tins t k v) = true := by
  induction t with
  | nil => simp [tins, twf, tabove, hv]
  | cons p r ih =>
    obtain ⟨a, w⟩ := p
    obtain ⟨h1, h2, h3⟩ := twf_cons.1 h
    by_cases hka : k < a
    · simp only [tins, hka, if_true]
      refine twf_cons.2 ⟨tabove_iff.2 (fun p hp => ?_), hv, h⟩
      rcases List.mem_cons.1 hp with e | hp
      · simpa [e] using hka
      · exact Nat.lt_trans hka (tabove_iff.1 h1 p hp)
    · have hne : a ≠ k := fun e => hk w (by simp [e])
      simp only [tins, hka, if_false]
      refine twf_cons.2 ⟨tabove_iff.2 (fun p hp => ?_), h2, ih h3 (fun w hw => hk w (List.mem_cons_of_mem _ hw))⟩
      rcases mem_tins hp with e | hp
      · simp only [e]; omega
      · exact tabove_iff.1 h1 p hp

/-- An update keeps the canonical form, whatever the defaults of other keys. -/
theorem twf_tset {d : Nat → β} {t : Tbl β} (k : Nat) (v : β) (h : twf d t = true) : twf d (tset t (d k) k v) = true := by
  unfold tset
  split
  · exact twf_tdel k h
  · next hv => exact twf_tins hv (twf_tdel k h) (not_mem_tdel t k)

/-- So do updates at consecutive keys. -/
theorem twf_tsetAll {d : β} {t : Tbl β} (k : Nat) (l : List β) (h : twf (fun _ => d) t = true) :
    twf (fun _ => d) (tsetAll t d k l) = true := by
  induction l generalizing t k with
  | nil => exact h
  | cons v r ih => exact ih (k + 1) (twf_tset (d := fun _ => d) k v h)

/-- A part of a canonical table is canonical. -/
theorem twf_filter {d : Nat → β} {t : Tbl β} (f : Nat × β → Bool) (h : twf d t = true) : twf d (t.filter f) = true := by
  induction t with
  | nil => rfl
  | cons p r ih =>
    obtain ⟨a, v⟩ := p
    obtain ⟨h1, h2, h3⟩ := twf_cons.1 h
    by_cases hf : f (a, v) = true
    · rw [List.filter_cons_of_pos hf]
      exact twf_cons.2 ⟨tabove_iff.2 (fun p hp => tabove_iff.1 h1 p (List.mem_filter.1 hp).1), h2, ih h3⟩
    · rw [List.filter_cons_of_neg hf]; exact ih h3

/-- So is one whose entries are replaced by others that are listed with right. -/
theorem twf_filterMap {d : Nat → β} {t : Tbl β} (f : Nat × β → Option (Nat × β))
    (hf : ∀ p q, f p = some q → q.1 = p.1 ∧ (q = p ∨ q.2 ≠ d q.1)) (h : twf d t = true) : twf d (t.filterMap f) = true := by
  induction t with
  | nil => rfl
  | cons p r ih =>
    obtain ⟨a, v⟩ := p
    obtain ⟨h1, h2, h3⟩ := twf_cons.1 h
    cases hp : f (a, v) with
    | none => rw [List.filterMap_cons_none hp]; exact ih h3
    | some q =>
      rw [List.filterMap_cons_some hp]
      obtain ⟨e1, e2⟩ := hf _ _ hp
      obtain ⟨qa, qv⟩ := q
      simp only at e1 e2
      have e3 : qv ≠ d qa := e2.elim (fun e => by injection e with ea ev; exact ea ▸ ev ▸ h2) id
      refine twf_cons.2 ⟨tabove_iff.2 (fun x hx => ?_), e3, ih h3⟩
      obtain ⟨y, hy, hfy⟩ := List.mem_filterMap.1 hx
      have := tabove_iff.1 h1 y hy
      rw [(hf _ _ hfy).1, e1]; exact this

end
end Sys2Proof.Machine
end

