-- ==== Sys2Proof/Laws/Keep.lean ====
section
/-! SUPPORT. What no command changes, and how the proofs that follow go: the queue of waiting commands is kept, and so is the
canonical form of every store (`Memory.wf`). -/

namespace Sys2Proof.Machine

/-- Something holds of the next state, if there is one. -/
@[irreducible] def Res.all (p : State → Prop) : Res → Prop
  | .next t => p t
  | .fault _ => True
  | .refused _ => True

@[simp] theorem Res.all_next (p : State → Prop) (t : State) : Res.all p (.next t) ↔ p t := by unfold Res.all; exact Iff.rfl
@[simp] theorem Res.all_fault (p : State → Prop) (t : Fault) : Res.all p (.fault t) := by unfold Res.all; trivial
@[simp] theorem Res.all_refused (p : State → Prop) (t : Refusal) : Res.all p (.refused t) := by unfold Res.all; trivial

/-- The waiting commands, and whether every store is canonical, as functions that proofs do not look into. -/
def State.queue (s : State) : List Instr := s.pending
def State.memWf (s : State) : Bool := s.mem.wf

@[simp] theorem State.pending_eq (s : State) : s.pending = s.queue := Eq.trans rfl rfl
@[simp] theorem State.wf_eq (s : State) : s.mem.wf = s.memWf := Eq.trans rfl rfl

set_option maxRecDepth 4096 in
@[simp] theorem State.queue_mk  (a0) (a1) (a2) (a3) (a4) (a5) (a6) (a7) (a8) (a9) (a10) (a11) (a12) (a13) (a14) (a15) (a16) (a17) (a18) (a19) (a20) (a21) (a22) (a23) (a24) (a25) (a26) (a27) (a28) (a29) (a30) (a31) (a32) (a33) (a34) (a35) (a36) (a37) (a38) (a39) (a40) (a41) (a42) (a43) (a44) (a45) (a46) (a47) (a48) (a49) (a50) (a51) (a52) (a53) (a54) (a55) (a56) (a57) (a58) (a59) (a60) (a61) (a62) (a63) (a64) (a65) (a66) (a67) (a68) (a69) (a70) (a71) (a72) (a73) (a74) (a75) (a76) (a77) (a78) (a79) (a80) (a81) (a82) (a83) (a84) (a85) (a86) (a87) (a88) (a89) (a90) (a91) (a92) (a93) (a94) (a95) (a96) (a97) (a98) (a99) (a100) (a101) (a102) (a103) (a104) (a105) (a106) (a107) (a108) (a109) (a110) (a111) (a112) (a113) (a114) (a115) (a116) (a117) (a118) (a119) (a120) (a121) (a122) (a123) (a124) (a125) (a126) (a127) (a128) (a129) (a130) (a131) (a132) (a133) (a134) : (State.mk a0 a1 a2 a3 a4 a5 a6 a7 a8 a9 a10 a11 a12 a13 a14 a15 a16 a17 a18 a19 a20 a21 a22 a23 a24 a25 a26 a27 a28 a29 a30 a31 a32 a33 a34 a35 a36 a37 a38 a39 a40 a41 a42 a43 a44 a45 a46 a47 a48 a49 a50 a51 a52 a53 a54 a55 a56 a57 a58 a59 a60 a61 a62 a63 a64 a65 a66 a67 a68 a69 a70 a71 a72 a73 a74 a75 a76 a77 a78 a79 a80 a81 a82 a83 a84 a85 a86 a87 a88 a89 a90 a91 a92 a93 a94 a95 a96 a97 a98 a99 a100 a101 a102 a103 a104 a105 a106 a107 a108 a109 a110 a111 a112 a113 a114 a115 a116 a117 a118 a119 a120 a121 a122 a123 a124 a125 a126 a127 a128 a129 a130 a131 a132 a133 a134).queue = a0 := Eq.trans rfl rfl
set_option maxRecDepth 4096 in
@[simp] theorem State.memWf_mk  (a0) (a1) (a2) (a3) (a4) (a5) (a6) (a7) (a8) (a9) (a10) (a11) (a12) (a13) (a14) (a15) (a16) (a17) (a18) (a19) (a20) (a21) (a22) (a23) (a24) (a25) (a26) (a27) (a28) (a29) (a30) (a31) (a32) (a33) (a34) (a35) (a36) (a37) (a38) (a39) (a40) (a41) (a42) (a43) (a44) (a45) (a46) (a47) (a48) (a49) (a50) (a51) (a52) (a53) (a54) (a55) (a56) (a57) (a58) (a59) (a60) (a61) (a62) (a63) (a64) (a65) (a66) (a67) (a68) (a69) (a70) (a71) (a72) (a73) (a74) (a75) (a76) (a77) (a78) (a79) (a80) (a81) (a82) (a83) (a84) (a85) (a86) (a87) (a88) (a89) (a90) (a91) (a92) (a93) (a94) (a95) (a96) (a97) (a98) (a99) (a100) (a101) (a102) (a103) (a104) (a105) (a106) (a107) (a108) (a109) (a110) (a111) (a112) (a113) (a114) (a115) (a116) (a117) (a118) (a119) (a120) (a121) (a122) (a123) (a124) (a125) (a126) (a127) (a128) (a129) (a130) (a131) (a132) (a133) (a134) : (State.mk a0 a1 a2 a3 a4 a5 a6 a7 a8 a9 a10 a11 a12 a13 a14 a15 a16 a17 a18 a19 a20 a21 a22 a23 a24 a25 a26 a27 a28 a29 a30 a31 a32 a33 a34 a35 a36 a37 a38 a39 a40 a41 a42 a43 a44 a45 a46 a47 a48 a49 a50 a51 a52 a53 a54 a55 a56 a57 a58 a59 a60 a61 a62 a63 a64 a65 a66 a67 a68 a69 a70 a71 a72 a73 a74 a75 a76 a77 a78 a79 a80 a81 a82 a83 a84 a85 a86 a87 a88 a89 a90 a91 a92 a93 a94 a95 a96 a97 a98 a99 a100 a101 a102 a103 a104 a105 a106 a107 a108 a109 a110 a111 a112 a113 a114 a115 a116 a117 a118 a119 a120 a121 a122 a123 a124 a125 a126 a127 a128 a129 a130 a131 a132 a133 a134).memWf = a4.wf := Eq.trans rfl rfl

@[simp] theorem foldl_queue {α : Type} (f : State → α → State) (hf : ∀ s a, (f s a).queue = s.queue) (l : List α) (s : State) :
    (l.foldl f s).queue = s.queue := by
  induction l generalizing s with
  | nil => rfl
  | cons a r ih => rw [List.foldl_cons, ih, hf]

@[simp] theorem forAll_queue (f : State → Nat → State) (hf : ∀ s a, (f s a).queue = s.queue) (l : List Nat) (s : State) :
    (s.forAll l f).queue = s.queue := foldl_queue f hf l s

@[simp] theorem foldl_memWf {α : Type} (f : State → α → State) (hf : ∀ s a, s.memWf = true → (f s a).memWf = true) (l : List α) (s : State)
    (h : s.memWf = true) : (l.foldl f s).memWf = true := by
  induction l generalizing s with
  | nil => exact h
  | cons a r ih => exact ih _ (hf _ _ h)

theorem foldl_pair_queue {α β : Type} (f : State × β → α → State × β) (hf : ∀ p a, (f p a).1.queue = p.1.queue) (l : List α)
    (p : State × β) : (l.foldl f p).1.queue = p.1.queue := by
  induction l generalizing p with
  | nil => rfl
  | cons a r ih => rw [List.foldl_cons, ih, hf]

theorem foldl_pair_memWf {α β : Type} (f : State × β → α → State × β) (hf : ∀ p a, p.1.memWf = true → (f p a).1.memWf = true)
    (l : List α) (p : State × β) (h : p.1.memWf = true) : (l.foldl f p).1.memWf = true := by
  induction l generalizing p with
  | nil => exact h
  | cons a r ih => exact ih _ (hf _ _ h)

@[simp] theorem forAll_memWf (f : State → Nat → State) (hf : ∀ s a, s.memWf = true → (f s a).memWf = true) (l : List Nat) (s : State)
    (h : s.memWf = true) : (s.forAll l f).memWf = true := foldl_memWf f hf l s h

@[simp] theorem memWf_ite {c : Prop} [Decidable c] {a b : State} (ha : a.memWf = true) (hb : b.memWf = true) :
    (if c then a else b).memWf = true := by split <;> assumption

@[simp] theorem wf_regs {m : Memory} {r : Tbl Word} (h : m.wf = true) (hr : twf regDefault r = true) : ({ m with regs := r } : Memory).wf = true := by
  simp_all [Memory.wf]
@[simp] theorem wf_active {m : Memory} {r : Tbl Word} (h : m.wf = true) (hr : twf regDefault r = true) : ({ m with active := r } : Memory).wf = true := by
  simp_all [Memory.wf]
@[simp] theorem wf_lmem {m : Memory} {r : Tbl Byte} (h : m.wf = true) (hr : twf (fun _ => 0) r = true) : ({ m with lmem := r } : Memory).wf = true := by
  simp_all [Memory.wf]
@[simp] theorem wf_staging {m : Memory} {r : Tbl Byte} (h : m.wf = true) (hr : twf (fun _ => 0) r = true) : ({ m with staging := r } : Memory).wf = true := by
  simp_all [Memory.wf]
@[simp] theorem wf_note {m : Memory} {r : Tbl Byte} (h : m.wf = true) (hr : twf (fun _ => 0) r = true) : ({ m with note := r } : Memory).wf = true := by
  simp_all [Memory.wf]
@[simp] theorem wf_updWin {m : Memory} {r : Tbl Byte} (h : m.wf = true) (hr : twf (fun _ => 0) r = true) : ({ m with updWin := r } : Memory).wf = true := by
  simp_all [Memory.wf]
@[simp] theorem wf_space {m : Memory} {r : Tbl Native} (h : m.wf = true) (hr : twf (fun _ => 0) r = true) : ({ m with space := r } : Memory).wf = true := by
  simp_all [Memory.wf]

theorem twf_resetWords (f : Nat → Word → Word) (t : Tbl Word) (h : twf regDefault t = true) : twf regDefault (resetWords f t) = true := by
  refine twf_filterMap _ (fun p q hq => ?_) h
  by_cases hd : f p.1 p.2 = regDefault p.1
  · simp [hd] at hq
  · simp only [hd, if_false, Option.some.injEq] at hq
    subst hq
    exact ⟨rfl, .inr hd⟩

theorem twf_bankWords (aff : List Nat) (t : Tbl Word) (h : twf regDefault t = true) : twf regDefault (bankWords aff t) = true := by
  refine twf_filterMap _ (fun p q hq => ?_) h
  split at hq
  · split at hq
    · cases hq
    · next hd => cases hq; exact ⟨rfl, .inr hd⟩
  · cases hq; exact ⟨rfl, .inl rfl⟩

theorem twf_of_wf {m : Memory} (h : m.wf = true) : twf regDefault m.regs = true ∧ twf regDefault m.active = true
    ∧ twf (fun _ => 0) m.space = true ∧ twf (fun _ => 0) m.lmem = true ∧ twf (fun _ => 0) m.staging = true
    ∧ twf (fun _ => 0) m.note = true ∧ twf (fun _ => 0) m.updWin = true := by
  simpa [Memory.wf, and_assoc] using h

end Sys2Proof.Machine
end

