-- ==== Sys2Proof/Laws/KeepOps.lean ====
section
/-! SUPPORT. What operations, regulators, commits, emissions, gaps, faults, filters, flits, the trigger fabric and sums keep: the queue of waiting commands, and the canonical form of every store. -/

namespace Sys2Proof.Machine

/-! ### Ops -/

@[simp] theorem State.putLmem_queue (s : State) (x1 : ℕ) (bs : List Byte) : (State.putLmem s x1 bs).queue = s.queue := by
  rw [State.putLmem]; simp [apply_ite State.queue]

@[simp] theorem State.putLmem_wf (s : State) (x1 : ℕ) (bs : List Byte) (hw : s.memWf = true) : (State.putLmem s x1 bs).memWf = true := by
  rw [State.putLmem, State.memWf_mk]
  exact wf_lmem hw (twf_tsetAll _ _ (twf_of_wf hw).2.2.2.1)

@[simp] theorem State.putStaging_queue (s : State) (x1 : ℕ) (bs : List Byte) : (State.putStaging s x1 bs).queue = s.queue := by
  rw [State.putStaging]; simp [apply_ite State.queue]

@[simp] theorem State.putStaging_wf (s : State) (x1 : ℕ) (bs : List Byte) (hw : s.memWf = true) : (State.putStaging s x1 bs).memWf = true := by
  rw [State.putStaging, State.memWf_mk]
  exact wf_staging hw (twf_tsetAll _ _ (twf_of_wf hw).2.2.2.2.1)

@[simp] theorem State.putNote_queue (s : State) (x1 : ℕ) (bs : List Byte) : (State.putNote s x1 bs).queue = s.queue := by
  rw [State.putNote]; simp [apply_ite State.queue]

@[simp] theorem State.putNote_wf (s : State) (x1 : ℕ) (bs : List Byte) (hw : s.memWf = true) : (State.putNote s x1 bs).memWf = true := by
  rw [State.putNote, State.memWf_mk]
  exact wf_note hw (twf_tsetAll _ _ (twf_of_wf hw).2.2.2.2.2.1)

@[simp] theorem State.putWin_queue (s : State) (x1 : ℕ) (bs : List Byte) : (State.putWin s x1 bs).queue = s.queue := by
  rw [State.putWin]; simp [apply_ite State.queue]

@[simp] theorem State.putWin_wf (s : State) (x1 : ℕ) (bs : List Byte) (hw : s.memWf = true) : (State.putWin s x1 bs).memWf = true := by
  rw [State.putWin, State.memWf_mk]
  exact wf_updWin hw (twf_tsetAll _ _ (twf_of_wf hw).2.2.2.2.2.2)

@[simp] theorem State.put_queue (s : State) (off : ℕ) (w : Word) : (State.put s off w).queue = s.queue := by
  rw [State.put]; simp [apply_ite State.queue]

@[simp] theorem State.put_wf (s : State) (off : ℕ) (w : Word) (hw : s.memWf = true) : (State.put s off w).memWf = true := by
  rw [State.put, State.memWf_mk]
  exact wf_regs hw (twf_tset _ _ (twf_of_wf hw).1)

@[simp] theorem State.wr_queue (s : State) (off : ℕ) (hi : ℕ) (lo : ℕ) (v : ℕ) : (State.wr s off hi lo v).queue = s.queue := by
  rw [State.wr]; simp [apply_ite State.queue]

@[simp] theorem State.wr_wf (s : State) (off : ℕ) (hi : ℕ) (lo : ℕ) (v : ℕ) (hw : s.memWf = true) : (State.wr s off hi lo v).memWf = true := by
  rw [State.wr]; simp (maxDischargeDepth := 40) +contextual [hw]

@[simp] theorem State.setBit_queue (s : State) (off : ℕ) (i : ℕ) (b : Bool) : (State.setBit s off i b).queue = s.queue := by
  rw [State.setBit]; simp [apply_ite State.queue]

@[simp] theorem State.setBit_wf (s : State) (off : ℕ) (i : ℕ) (b : Bool) (hw : s.memWf = true) : (State.setBit s off i b).memWf = true := by
  rw [State.setBit]; simp (maxDischargeDepth := 40) +contextual [hw]

@[simp] theorem State.wrq_queue (s : State) (off : ℕ) (x2 : ℕ) (x3 : ℕ) : (State.wrq s off x2 x3).queue = s.queue := by
  fun_induction State.wrq s off x2 x3 <;> simp_all

@[simp] theorem State.wrq_wf (s : State) (off : ℕ) (x2 : ℕ) (x3 : ℕ) (hw : s.memWf = true) : (State.wrq s off x2 x3).memWf = true := by
  fun_induction State.wrq s off x2 x3 <;> simp_all (maxDischargeDepth := 40)

@[simp] theorem State.wrEpoch_queue (s : State) (off : ℕ) (v : ℕ) : (State.wrEpoch s off v).queue = s.queue := by
  rw [State.wrEpoch]; simp [apply_ite State.queue]

@[simp] theorem State.wrEpoch_wf (s : State) (off : ℕ) (v : ℕ) (hw : s.memWf = true) : (State.wrEpoch s off v).memWf = true := by
  rw [State.wrEpoch]; simp (maxDischargeDepth := 40) +contextual [hw]

@[simp] theorem State.count_queue (s : State) (off : ℕ) (n : ℕ) (w : ℕ) (k : ℕ) : (State.count s off n w k).queue = s.queue := by
  rw [State.count]; simp [apply_ite State.queue]

@[simp] theorem State.count_wf (s : State) (off : ℕ) (n : ℕ) (w : ℕ) (k : ℕ) (hw : s.memWf = true) : (State.count s off n w k).memWf = true := by
  rw [State.count]; simp (maxDischargeDepth := 40) +contextual [hw]

@[simp] theorem State.countFld_queue (s : State) (off : ℕ) (hi : ℕ) (lo : ℕ) (k : ℕ) : (State.countFld s off hi lo k).queue = s.queue := by
  rw [State.countFld]; simp [apply_ite State.queue]

@[simp] theorem State.countFld_wf (s : State) (off : ℕ) (hi : ℕ) (lo : ℕ) (k : ℕ) (hw : s.memWf = true) : (State.countFld s off hi lo k).memWf = true := by
  rw [State.countFld]; simp (maxDischargeDepth := 40) +contextual [hw]

@[simp] theorem State.inc_queue (s : State) (off : ℕ) : (State.inc s off).queue = s.queue := by
  rw [State.inc]; simp [apply_ite State.queue]

@[simp] theorem State.inc_wf (s : State) (off : ℕ) (hw : s.memWf = true) : (State.inc s off).memWf = true := by
  rw [State.inc]; simp (maxDischargeDepth := 40) +contextual [hw]

@[simp] theorem State.handWords_queue (s : State) (x1 : List ℕ) : (State.handWords s x1).queue = s.queue := by
  fun_induction State.handWords s x1 <;> simp_all

@[simp] theorem State.handWords_wf (s : State) (x1 : List ℕ) (hw : s.memWf = true) : (State.handWords s x1).memWf = true := by
  induction x1 generalizing s with
  | nil => exact hw
  | cons o r ih =>
    rw [State.handWords]
    apply ih
    rw [State.memWf_mk]
    exact wf_active hw (twf_tset _ _ (twf_of_wf hw).2.1)

@[simp] theorem State.clearWords_queue (s : State) (x1 : List ℕ) : (State.clearWords s x1).queue = s.queue := by
  fun_induction State.clearWords s x1 <;> simp_all

@[simp] theorem State.clearWords_wf (s : State) (x1 : List ℕ) (hw : s.memWf = true) : (State.clearWords s x1).memWf = true := by
  induction x1 generalizing s with
  | nil => exact hw
  | cons o r ih =>
    rw [State.clearWords]
    apply ih
    rw [State.memWf_mk]
    exact wf_active (m := { s.mem with regs := _ }) (wf_regs hw (twf_tdel _ (twf_of_wf hw).1)) (twf_tdel _ (twf_of_wf hw).2.1)

@[simp] theorem State.advance_queue (s : State) (dt : ℕ) : (State.advance s dt).queue = s.queue := by
  rw [State.advance]; simp [apply_ite State.queue]

@[simp] theorem State.advance_wf (s : State) (dt : ℕ) (hw : s.memWf = true) : (State.advance s dt).memWf = true := by
  rw [State.advance]; simp (maxDischargeDepth := 40) +contextual [hw]

@[simp] theorem State.fresh_queue (s : State) : (State.fresh s).2.queue = s.queue := by
  rw [State.fresh]; simp [apply_ite State.queue]

@[simp] theorem State.fresh_wf (s : State) (hw : s.memWf = true) : (State.fresh s).2.memWf = true := by
  rw [State.fresh]; simp (maxDischargeDepth := 40) +contextual [hw]

@[simp] theorem State.emit_queue (s : State) (o : Out) : (State.emit s o).queue = s.queue := by
  rw [State.emit]; simp [apply_ite State.queue]

@[simp] theorem State.emit_wf (s : State) (o : Out) (hw : s.memWf = true) : (State.emit s o).memWf = true := by
  rw [State.emit]; simp (maxDischargeDepth := 40) +contextual [hw]

@[simp] theorem State.signal_queue (s : State) (v : ℕ) : (State.signal s v).queue = s.queue := by
  rw [State.signal]; simp [apply_ite State.queue]

@[simp] theorem State.signal_wf (s : State) (v : ℕ) (hw : s.memWf = true) : (State.signal s v).memWf = true := by
  rw [State.signal]; simp (maxDischargeDepth := 40) +contextual [hw]

@[simp] theorem State.setHch_queue (s : State) (e : ℕ) (c : ℕ) (x : HCh) : (State.setHch s e c x).queue = s.queue := by
  rw [State.setHch]; simp [apply_ite State.queue]

@[simp] theorem State.setHch_wf (s : State) (e : ℕ) (c : ℕ) (x : HCh) (hw : s.memWf = true) : (State.setHch s e c x).memWf = true := by
  rw [State.setHch]; simp (maxDischargeDepth := 40) +contextual [hw]

@[simp] theorem State.setEngine_queue (s : State) (e : ℕ) (x : HEng) : (State.setEngine s e x).queue = s.queue := by
  rw [State.setEngine]; simp [apply_ite State.queue]

@[simp] theorem State.setEngine_wf (s : State) (e : ℕ) (x : HEng) (hw : s.memWf = true) : (State.setEngine s e x).memWf = true := by
  rw [State.setEngine]; simp (maxDischargeDepth := 40) +contextual [hw]

@[simp] theorem State.setStream_queue (s : State) (k : ℕ) (x : Stream) : (State.setStream s k x).queue = s.queue := by
  rw [State.setStream]; simp [apply_ite State.queue]

@[simp] theorem State.setStream_wf (s : State) (k : ℕ) (x : Stream) (hw : s.memWf = true) : (State.setStream s k x).memWf = true := by
  rw [State.setStream]; simp (maxDischargeDepth := 40) +contextual [hw]

@[simp] theorem State.setRport_queue (s : State) (d : ℕ) (x : RPort) : (State.setRport s d x).queue = s.queue := by
  rw [State.setRport]; simp [apply_ite State.queue]

@[simp] theorem State.setRport_wf (s : State) (d : ℕ) (x : RPort) (hw : s.memWf = true) : (State.setRport s d x).memWf = true := by
  rw [State.setRport]; simp (maxDischargeDepth := 40) +contextual [hw]

@[simp] theorem State.setImg_queue (s : State) (b : ℕ) (x : ImgBank) : (State.setImg s b x).queue = s.queue := by
  rw [State.setImg]; simp [apply_ite State.queue]

@[simp] theorem State.setImg_wf (s : State) (b : ℕ) (x : ImgBank) (hw : s.memWf = true) : (State.setImg s b x).memWf = true := by
  rw [State.setImg]; simp (maxDischargeDepth := 40) +contextual [hw]

@[simp] theorem State.setTrig_queue (s : State) (u : ℕ) (t : TrigUnit) : (State.setTrig s u t).queue = s.queue := by
  rw [State.setTrig]; simp [apply_ite State.queue]

@[simp] theorem State.setTrig_wf (s : State) (u : ℕ) (t : TrigUnit) (hw : s.memWf = true) : (State.setTrig s u t).memWf = true := by
  rw [State.setTrig]; simp (maxDischargeDepth := 40) +contextual [hw]

@[simp] theorem State.setConj_queue (s : State) (j : ℕ) (c : Conj) : (State.setConj s j c).queue = s.queue := by
  rw [State.setConj]; simp [apply_ite State.queue]

@[simp] theorem State.setConj_wf (s : State) (j : ℕ) (c : Conj) (hw : s.memWf = true) : (State.setConj s j c).memWf = true := by
  rw [State.setConj]; simp (maxDischargeDepth := 40) +contextual [hw]

@[simp] theorem State.setPin_queue (s : State) (p : ℕ) (x : Pin) : (State.setPin s p x).queue = s.queue := by
  rw [State.setPin]; simp [apply_ite State.queue]

@[simp] theorem State.setPin_wf (s : State) (p : ℕ) (x : Pin) (hw : s.memWf = true) : (State.setPin s p x).memWf = true := by
  rw [State.setPin]; simp (maxDischargeDepth := 40) +contextual [hw]

@[simp] theorem State.setTout_queue (s : State) (k : ℕ) (x : Tout) : (State.setTout s k x).queue = s.queue := by
  rw [State.setTout]; simp [apply_ite State.queue]

@[simp] theorem State.setTout_wf (s : State) (k : ℕ) (x : Tout) (hw : s.memWf = true) : (State.setTout s k x).memWf = true := by
  rw [State.setTout]; simp (maxDischargeDepth := 40) +contextual [hw]

@[simp] theorem State.setIv_queue (s : State) (u : ℕ) (x : IvUnit) : (State.setIv s u x).queue = s.queue := by
  rw [State.setIv]; simp [apply_ite State.queue]

@[simp] theorem State.setIv_wf (s : State) (u : ℕ) (x : IvUnit) (hw : s.memWf = true) : (State.setIv s u x).memWf = true := by
  rw [State.setIv]; simp (maxDischargeDepth := 40) +contextual [hw]

@[simp] theorem State.setGrp_queue (s : State) (g : ℕ) (x : Group) : (State.setGrp s g x).queue = s.queue := by
  rw [State.setGrp]; simp [apply_ite State.queue]

@[simp] theorem State.setGrp_wf (s : State) (g : ℕ) (x : Group) (hw : s.memWf = true) : (State.setGrp s g x).memWf = true := by
  rw [State.setGrp]; simp (maxDischargeDepth := 40) +contextual [hw]

@[simp] theorem State.setPart_queue (s : State) (p : ℕ) (x : Partition) : (State.setPart s p x).queue = s.queue := by
  rw [State.setPart]; simp [apply_ite State.queue]

@[simp] theorem State.setPart_wf (s : State) (p : ℕ) (x : Partition) (hw : s.memWf = true) : (State.setPart s p x).memWf = true := by
  rw [State.setPart]; simp (maxDischargeDepth := 40) +contextual [hw]

@[simp] theorem State.setBank_queue (s : State) (b : ℕ) (x : BankSt) : (State.setBank s b x).queue = s.queue := by
  rw [State.setBank]; simp [apply_ite State.queue]

@[simp] theorem State.setBank_wf (s : State) (b : ℕ) (x : BankSt) (hw : s.memWf = true) : (State.setBank s b x).memWf = true := by
  rw [State.setBank]; simp (maxDischargeDepth := 40) +contextual [hw]

@[simp] theorem State.setStack_queue (s : State) (k : ℕ) (x : Stack) : (State.setStack s k x).queue = s.queue := by
  rw [State.setStack]; simp [apply_ite State.queue]

@[simp] theorem State.setStack_wf (s : State) (k : ℕ) (x : Stack) (hw : s.memWf = true) : (State.setStack s k x).memWf = true := by
  rw [State.setStack]; simp (maxDischargeDepth := 40) +contextual [hw]

@[simp] theorem State.moveEpoch_queue (s : State) (t : ℕ) : (State.moveEpoch s t).queue = s.queue := by
  rw [State.moveEpoch]; simp [apply_ite State.queue]

@[simp] theorem State.moveEpoch_wf (s : State) (t : ℕ) (hw : s.memWf = true) : (State.moveEpoch s t).memWf = true := by
  rw [State.moveEpoch]; simp (maxDischargeDepth := 40) +contextual [hw]

@[simp] theorem State.loadDue_queue (s : State) : (State.loadDue s).queue = s.queue := by
  rw [State.loadDue]; dsimp only; (repeat' split) <;> simp [apply_ite State.queue]

@[simp] theorem State.loadDue_wf (s : State) (hw : s.memWf = true) : (State.loadDue s).memWf = true := by
  rw [State.loadDue]; dsimp only; (repeat' split) <;> simp (maxDischargeDepth := 40) +contextual [hw]

@[simp] theorem State.start_queue (s : State) (dt : ℕ) : (State.start s dt).queue = s.queue := by
  rw [State.start]; simp [apply_ite State.queue]

@[simp] theorem State.start_wf (s : State) (dt : ℕ) (hw : s.memWf = true) : (State.start s dt).memWf = true := by
  rw [State.start]; simp (maxDischargeDepth := 40) +contextual [hw]

@[simp] theorem State.touchStacks_queue (s : State) : (State.touchStacks s).queue = s.queue := by
  rw [State.touchStacks]; simp [apply_ite State.queue]

@[simp] theorem State.touchStacks_wf (s : State) (hw : s.memWf = true) : (State.touchStacks s).memWf = true := by
  rw [State.touchStacks]; simp (maxDischargeDepth := 40) +contextual [hw]

/-! ### Regulators -/

@[simp] theorem State.setTok_queue (s : State) (p : ℕ) (v : ℤ) : (State.setTok s p v).queue = s.queue := by
  rw [State.setTok]; simp [apply_ite State.queue]

@[simp] theorem State.setTok_wf (s : State) (p : ℕ) (v : ℤ) (hw : s.memWf = true) : (State.setTok s p v).memWf = true := by
  rw [State.setTok]; simp (maxDischargeDepth := 40) +contextual [hw]

@[simp] theorem State.refill_queue (s : State) : (State.refill s).queue = s.queue := by
  rw [State.refill]; simp [apply_ite State.queue]

@[simp] theorem State.refill_wf (s : State) (hw : s.memWf = true) : (State.refill s).memWf = true := by
  rw [State.refill]; simp (maxDischargeDepth := 40) +contextual [hw]

@[simp] theorem State.settleTok_queue (s : State) (p : ℕ) : (State.settleTok s p).queue = s.queue := by
  rw [State.settleTok]; simp [apply_ite State.queue]

@[simp] theorem State.settleTok_wf (s : State) (p : ℕ) (hw : s.memWf = true) : (State.settleTok s p).memWf = true := by
  rw [State.settleTok]; simp (maxDischargeDepth := 40) +contextual [hw]

@[simp] theorem State.settlePorts_queue (s : State) (g : ℕ) : (State.settlePorts s g).queue = s.queue := by
  rw [State.settlePorts]; simp [apply_ite State.queue]

@[simp] theorem State.settlePorts_wf (s : State) (g : ℕ) (hw : s.memWf = true) : (State.settlePorts s g).memWf = true := by
  rw [State.settlePorts]; simp (maxDischargeDepth := 40) +contextual [hw]

@[simp] theorem State.pass_queue (s : State) (p : ℕ) (n : ℕ) : (State.pass s p n).queue = s.queue := by
  rw [State.pass]; simp [apply_ite State.queue]

@[simp] theorem State.pass_wf (s : State) (p : ℕ) (n : ℕ) (hw : s.memWf = true) : (State.pass s p n).memWf = true := by
  rw [State.pass]; simp (maxDischargeDepth := 40) +contextual [hw]

/-! ### Commit -/

@[simp] theorem State.writeGranule_queue (s : State) (x1 : ℕ) (ws : List Native) : (State.writeGranule s x1 ws).queue = s.queue := by
  rw [State.writeGranule]; simp [apply_ite State.queue]

@[simp] theorem State.writeGranule_wf (s : State) (x1 : ℕ) (ws : List Native) (hw : s.memWf = true) : (State.writeGranule s x1 ws).memWf = true := by
  rw [State.writeGranule, State.memWf_mk]
  exact wf_space hw (twf_tsetAll _ _ (twf_of_wf hw).2.2.1)

@[simp] theorem State.writeGranules_queue (s : State) (p : ℕ) (x2 : ℕ) (x3 : ℕ) (x4 : List Native) : (State.writeGranules s p x2 x3 x4).queue = s.queue := by
  fun_induction State.writeGranules s p x2 x3 x4 <;> simp_all

@[simp] theorem State.writeGranules_wf (s : State) (p : ℕ) (x2 : ℕ) (x3 : ℕ) (x4 : List Native) (hw : s.memWf = true) : (State.writeGranules s p x2 x3 x4).memWf = true := by
  fun_induction State.writeGranules s p x2 x3 x4 <;> simp_all (maxDischargeDepth := 40)

@[simp] theorem State.groupMsg_queue (s : State) (g : ℕ) : (State.groupMsg s g).queue = s.queue := by
  rw [State.groupMsg]; (repeat' split) <;> (try dsimp only) <;> (repeat' split) <;> simp_all

@[simp] theorem State.groupMsg_wf (s : State) (g : ℕ) (hw : s.memWf = true) : (State.groupMsg s g).memWf = true := by
  rw [State.groupMsg]; (repeat' split) <;> (try dsimp only) <;> (repeat' split) <;> simp (maxDischargeDepth := 40) +contextual [hw]

@[simp] theorem State.groupEvent_queue (s : State) (g : ℕ) (evt : ℕ) (en : ℕ) : (State.groupEvent s g evt en).queue = s.queue := by
  rw [State.groupEvent]; simp [apply_ite State.queue]

@[simp] theorem State.groupEvent_wf (s : State) (g : ℕ) (evt : ℕ) (en : ℕ) (hw : s.memWf = true) : (State.groupEvent s g evt en).memWf = true := by
  rw [State.groupEvent]; simp (maxDischargeDepth := 40) +contextual [hw]

@[simp] theorem State.commitIn_queue (s : State) (g : ℕ) (p : ℕ) (r : Rec) : (State.commitIn s g p r).queue = s.queue := by
  rw [State.commitIn]; simp [apply_ite State.queue]

@[simp] theorem State.commitIn_wf (s : State) (g : ℕ) (p : ℕ) (r : Rec) (hw : s.memWf = true) : (State.commitIn s g p r).memWf = true := by
  rw [State.commitIn]; simp (maxDischargeDepth := 40) +contextual [hw]

@[simp] theorem State.chargeGap_queue (s : State) (g : ℕ) (r : Rec) : (State.chargeGap s g r).queue = s.queue := by
  rw [State.chargeGap]; simp [apply_ite State.queue]

@[simp] theorem State.chargeGap_wf (s : State) (g : ℕ) (r : Rec) (hw : s.memWf = true) : (State.chargeGap s g r).memWf = true := by
  rw [State.chargeGap]; simp (maxDischargeDepth := 40) +contextual [hw]

@[simp] theorem State.commit_queue (s : State) (g : ℕ) (r : Rec) : (State.commit s g r).queue = s.queue := by
  rw [State.commit]; simp [apply_ite State.queue]

@[simp] theorem State.commit_wf (s : State) (g : ℕ) (r : Rec) (hw : s.memWf = true) : (State.commit s g r).memWf = true := by
  rw [State.commit]; simp (maxDischargeDepth := 40) +contextual [hw]

@[simp] theorem State.emitGap_queue (s : State) (g : ℕ) (r : Rec) : (State.emitGap s g r).queue = s.queue := by
  rw [State.emitGap]; simp [apply_ite State.queue]

@[simp] theorem State.emitGap_wf (s : State) (g : ℕ) (r : Rec) (hw : s.memWf = true) : (State.emitGap s g r).memWf = true := by
  rw [State.emitGap]; simp (maxDischargeDepth := 40) +contextual [hw]

@[simp] theorem State.writeGap_queue (s : State) (g : ℕ) (cause : ℕ) (lo : ℕ) (hi : ℕ) (tag : ℕ) : (State.writeGap s g cause lo hi tag).queue = s.queue := by
  rw [State.writeGap]; simp [apply_ite State.queue]

@[simp] theorem State.writeGap_wf (s : State) (g : ℕ) (cause : ℕ) (lo : ℕ) (hi : ℕ) (tag : ℕ) (hw : s.memWf = true) : (State.writeGap s g cause lo hi tag).memWf = true := by
  rw [State.writeGap]; simp (maxDischargeDepth := 40) +contextual [hw]

@[simp] theorem State.drain_queue (s : State) (g : ℕ) (x2 : ℕ) : (State.drain s g x2).queue = s.queue := by
  fun_induction State.drain s g x2 <;> simp_all

@[simp] theorem State.drain_wf (s : State) (g : ℕ) (x2 : ℕ) (hw : s.memWf = true) : (State.drain s g x2).memWf = true := by
  fun_induction State.drain s g x2 <;> simp_all (maxDischargeDepth := 40)

@[simp] theorem State.commitReady_queue (s : State) (g : ℕ) (x2 : ℕ) : (State.commitReady s g x2).queue = s.queue := by
  fun_induction State.commitReady s g x2 <;> simp_all

@[simp] theorem State.commitReady_wf (s : State) (g : ℕ) (x2 : ℕ) (hw : s.memWf = true) : (State.commitReady s g x2).memWf = true := by
  fun_induction State.commitReady s g x2 <;> simp_all (maxDischargeDepth := 40)

@[simp] theorem State.prune_queue (s : State) (p : ℕ) : (State.prune s p).queue = s.queue := by
  rw [State.prune]; simp [apply_ite State.queue]

@[simp] theorem State.prune_wf (s : State) (p : ℕ) (hw : s.memWf = true) : (State.prune s p).memWf = true := by
  rw [State.prune]; simp (maxDischargeDepth := 40) +contextual [hw]

@[simp] theorem State.forgetLost_queue (s : State) (gone : ℕ → Bool) : (State.forgetLost s gone).queue = s.queue := by
  rw [State.forgetLost]; simp [apply_ite State.queue]

@[simp] theorem State.forgetLost_wf (s : State) (gone : ℕ → Bool) (hw : s.memWf = true) : (State.forgetLost s gone).memWf = true := by
  rw [State.forgetLost]; simp (maxDischargeDepth := 40) +contextual [hw]

theorem State.release_queue (s : State) (p : ℕ) (lo : ℕ) (hi : ℕ) : ∀ t ∈ State.release s p lo hi, t.queue = s.queue := by
  rw [State.release]; simp [apply_ite State.queue]

theorem State.release_wf (s : State) (p : ℕ) (lo : ℕ) (hi : ℕ) (hw : s.memWf = true) : ∀ t ∈ State.release s p lo hi, t.memWf = true := by
  rw [State.release]; simp (maxDischargeDepth := 40) +contextual [hw]

/-! ### Emission -/

@[simp] theorem State.askEmit_queue (s : State) (g : ℕ) (r : Rec) : (State.askEmit s g r).queue = s.queue := by
  rw [State.askEmit]; simp [apply_ite State.queue]

@[simp] theorem State.askEmit_wf (s : State) (g : ℕ) (r : Rec) (hw : s.memWf = true) : (State.askEmit s g r).memWf = true := by
  rw [State.askEmit]; simp (maxDischargeDepth := 40) +contextual [hw]

@[simp] theorem State.tryEmit_queue (s : State) (g : ℕ) (x2 : ℕ) : (State.tryEmit s g x2).queue = s.queue := by
  induction x2 generalizing s with
  | zero => rfl
  | succ n ih =>
    unfold State.tryEmit
    dsimp only
    (repeat' split) <;> simp [ih]

@[simp] theorem State.tryEmit_wf (s : State) (g : ℕ) (x2 : ℕ) (hw : s.memWf = true) : (State.tryEmit s g x2).memWf = true := by
  induction x2 generalizing s with
  | zero => exact hw
  | succ n ih =>
    rw [State.tryEmit]
    (try dsimp only)
    split
    · exact hw
    · split
      · split
        · apply ih
          split <;> simp (maxDischargeDepth := 40) [hw]
        · simp (maxDischargeDepth := 40) [hw]
      · exact hw

@[simp] theorem State.emitSum_queue (s : State) (g : ℕ) : (State.emitSum s g).queue = s.queue := by
  rw [State.emitSum]; simp [apply_ite State.queue]

@[simp] theorem State.emitSum_wf (s : State) (g : ℕ) (hw : s.memWf = true) : (State.emitSum s g).memWf = true := by
  rw [State.emitSum]; simp (maxDischargeDepth := 40) +contextual [hw]

@[simp] theorem State.histCount_queue (s : State) (g : ℕ) (c : Cur) (vals : List (List ℤ)) : (State.histCount s g c vals).queue = s.queue := by
  rw [State.histCount]; simp [apply_ite State.queue]

@[simp] theorem State.histCount_wf (s : State) (g : ℕ) (c : Cur) (vals : List (List ℤ)) (hw : s.memWf = true) : (State.histCount s g c vals).memWf = true := by
  rw [State.histCount]; simp (maxDischargeDepth := 40) +contextual [hw]

@[simp] theorem State.histLost_queue (s : State) (g : ℕ) (c : Cur) : (State.histLost s g c).queue = s.queue := by
  rw [State.histLost]; simp [apply_ite State.queue]

@[simp] theorem State.histLost_wf (s : State) (g : ℕ) (c : Cur) (hw : s.memWf = true) : (State.histLost s g c).memWf = true := by
  rw [State.histLost]; simp (maxDischargeDepth := 40) +contextual [hw]

@[simp] theorem State.emitHist_queue (s : State) (g : ℕ) : (State.emitHist s g).queue = s.queue := by
  rw [State.emitHist]; simp [apply_ite State.queue]

@[simp] theorem State.emitHist_wf (s : State) (g : ℕ) (hw : s.memWf = true) : (State.emitHist s g).memWf = true := by
  rw [State.emitHist]; simp (maxDischargeDepth := 40) +contextual [hw]

@[simp] theorem State.histEvery_queue (s : State) (g : ℕ) : (State.histEvery s g).queue = s.queue := by
  rw [State.histEvery]; simp [apply_ite State.queue]

@[simp] theorem State.histEvery_wf (s : State) (g : ℕ) (hw : s.memWf = true) : (State.histEvery s g).memWf = true := by
  rw [State.histEvery]; simp (maxDischargeDepth := 40) +contextual [hw]

/-! ### Gaps -/

@[simp] theorem State.abandon_queue (s : State) (g : ℕ) : (State.abandon s g).queue = s.queue := by
  rw [State.abandon]; dsimp only; (repeat' split) <;> simp [apply_ite State.queue]

@[simp] theorem State.abandon_wf (s : State) (g : ℕ) (hw : s.memWf = true) : (State.abandon s g).memWf = true := by
  rw [State.abandon]; dsimp only; (repeat' split) <;> simp (maxDischargeDepth := 40) +contextual [hw]

@[simp] theorem State.discardSum_queue (s : State) (g : ℕ) : (State.discardSum s g).queue = s.queue := by
  rw [State.discardSum]; simp [apply_ite State.queue]

@[simp] theorem State.discardSum_wf (s : State) (g : ℕ) (hw : s.memWf = true) : (State.discardSum s g).memWf = true := by
  rw [State.discardSum]; simp (maxDischargeDepth := 40) +contextual [hw]

@[simp] theorem State.afterAbandon_queue (s : State) (g : ℕ) : (State.afterAbandon s g).queue = s.queue := by
  rw [State.afterAbandon]; simp [apply_ite State.queue]

@[simp] theorem State.afterAbandon_wf (s : State) (g : ℕ) (hw : s.memWf = true) : (State.afterAbandon s g).memWf = true := by
  rw [State.afterAbandon]; simp (maxDischargeDepth := 40) +contextual [hw]

@[simp] theorem State.beginCause_queue (s : State) (g : ℕ) (cause : ℕ) : (State.beginCause s g cause).queue = s.queue := by
  rw [State.beginCause]; simp [apply_ite State.queue]

@[simp] theorem State.beginCause_wf (s : State) (g : ℕ) (cause : ℕ) (hw : s.memWf = true) : (State.beginCause s g cause).memWf = true := by
  rw [State.beginCause]; simp (maxDischargeDepth := 40) +contextual [hw]

@[simp] theorem State.resume_queue (s : State) (g : ℕ) : (State.resume s g).queue = s.queue := by
  rw [State.resume]; simp [apply_ite State.queue]

@[simp] theorem State.resume_wf (s : State) (g : ℕ) (hw : s.memWf = true) : (State.resume s g).memWf = true := by
  rw [State.resume]; simp (maxDischargeDepth := 40) +contextual [hw]

@[simp] theorem State.endCauseAt_queue (s : State) (g : ℕ) (cause : ℕ) (hi : ℕ) : (State.endCauseAt s g cause hi).queue = s.queue := by
  rw [State.endCauseAt]; dsimp only; (repeat' split) <;> simp [apply_ite State.queue]

@[simp] theorem State.endCauseAt_wf (s : State) (g : ℕ) (cause : ℕ) (hi : ℕ) (hw : s.memWf = true) : (State.endCauseAt s g cause hi).memWf = true := by
  rw [State.endCauseAt]; dsimp only; (repeat' split) <;> simp (maxDischargeDepth := 40) +contextual [hw]

@[simp] theorem State.endCause_queue (s : State) (g : ℕ) (cause : ℕ) : (State.endCause s g cause).queue = s.queue := by
  rw [State.endCause]; simp [apply_ite State.queue]

@[simp] theorem State.endCause_wf (s : State) (g : ℕ) (cause : ℕ) (hw : s.memWf = true) : (State.endCause s g cause).memWf = true := by
  rw [State.endCause]; simp (maxDischargeDepth := 40) +contextual [hw]

@[simp] theorem State.goIdle_queue (s : State) (g : ℕ) : (State.goIdle s g).queue = s.queue := by
  rw [State.goIdle]; dsimp only; (repeat' split) <;> simp [apply_ite State.queue]

@[simp] theorem State.goIdle_wf (s : State) (g : ℕ) (hw : s.memWf = true) : (State.goIdle s g).memWf = true := by
  rw [State.goIdle]; dsimp only; (repeat' split) <;> simp (maxDischargeDepth := 40) +contextual [hw]

@[simp] theorem State.eachGroup_queue (s : State) (gs : List ℕ) (f : State → ℕ → State) (hf : ∀ (u : State) k, (f u k).queue = u.queue) : (State.eachGroup s gs f).queue = s.queue := by
  rw [State.eachGroup]; (repeat' split) <;> (try dsimp only) <;> (repeat' split) <;> simp_all

@[simp] theorem State.eachGroup_wf (s : State) (gs : List ℕ) (f : State → ℕ → State) (hf : ∀ (u : State) k, u.memWf = true → (f u k).memWf = true) (hw : s.memWf = true) : (State.eachGroup s gs f).memWf = true := by
  rw [State.eachGroup]; (repeat' split) <;> (try dsimp only) <;> (repeat' split) <;> simp_all (maxDischargeDepth := 40)

/-! ### Faults -/

@[simp] theorem State.pwrEvent_queue (s : State) (k : ℕ) : (State.pwrEvent s k).queue = s.queue := by
  rw [State.pwrEvent]; simp [apply_ite State.queue]

@[simp] theorem State.pwrEvent_wf (s : State) (k : ℕ) (hw : s.memWf = true) : (State.pwrEvent s k).memWf = true := by
  rw [State.pwrEvent]; simp (maxDischargeDepth := 40) +contextual [hw]

@[simp] theorem State.setPower_queue (s : State) (st : ℕ) : (State.setPower s st).queue = s.queue := by
  rw [State.setPower]; simp [apply_ite State.queue]

@[simp] theorem State.setPower_wf (s : State) (st : ℕ) (hw : s.memWf = true) : (State.setPower s st).memWf = true := by
  rw [State.setPower]; simp (maxDischargeDepth := 40) +contextual [hw]

@[simp] theorem State.cancelEntry_queue (s : State) : (State.cancelEntry s).queue = s.queue := by
  rw [State.cancelEntry]; simp [apply_ite State.queue]

@[simp] theorem State.cancelEntry_wf (s : State) (hw : s.memWf = true) : (State.cancelEntry s).memWf = true := by
  rw [State.cancelEntry]; simp (maxDischargeDepth := 40) +contextual [hw]

@[simp] theorem State.startBank_queue (s : State) (b : ℕ) (full : Bool) : (State.startBank s b full).queue = s.queue := by
  rw [State.startBank]; simp [apply_ite State.queue]

@[simp] theorem State.startBank_wf (s : State) (b : ℕ) (full : Bool) (hw : s.memWf = true) : (State.startBank s b full).memWf = true := by
  rw [State.startBank]; simp (maxDischargeDepth := 40) +contextual [hw]

@[simp] theorem State.demandExit_queue (s : State) : (State.demandExit s).queue = s.queue := by
  rw [State.demandExit]; dsimp only; (repeat' split) <;> simp [apply_ite State.queue]

@[simp] theorem State.demandExit_wf (s : State) (hw : s.memWf = true) : (State.demandExit s).memWf = true := by
  rw [State.demandExit]; dsimp only; (repeat' split) <;> simp (maxDischargeDepth := 40) +contextual [hw]

@[simp] theorem State.orFlt_queue (s : State) (off : ℕ) (m : ℕ) : (State.orFlt s off m).queue = s.queue := by
  rw [State.orFlt]; simp [apply_ite State.queue]

@[simp] theorem State.orFlt_wf (s : State) (off : ℕ) (m : ℕ) (hw : s.memWf = true) : (State.orFlt s off m).memWf = true := by
  rw [State.orFlt]; simp (maxDischargeDepth := 40) +contextual [hw]

@[simp] theorem State.stopGroups_queue (s : State) : (State.stopGroups s).queue = s.queue := by
  rw [State.stopGroups]; simp [apply_ite State.queue]

@[simp] theorem State.stopGroups_wf (s : State) (hw : s.memWf = true) : (State.stopGroups s).memWf = true := by
  rw [State.stopGroups]; simp (maxDischargeDepth := 40) +contextual [hw]

@[simp] theorem State.safeHold_queue (s : State) : (State.safeHold s).queue = s.queue := by
  rw [State.safeHold]; simp [apply_ite State.queue]

@[simp] theorem State.safeHold_wf (s : State) (hw : s.memWf = true) : (State.safeHold s).memWf = true := by
  rw [State.safeHold]; simp (maxDischargeDepth := 40) +contextual [hw]

@[simp] theorem State.applyAction_queue (s : State) (x1 : ℕ) (banks : ℕ) : (State.applyAction s x1 banks).queue = s.queue := by
  rw [State.applyAction]; simp [apply_ite State.queue]

@[simp] theorem State.applyAction_wf (s : State) (x1 : ℕ) (banks : ℕ) (hw : s.memWf = true) : (State.applyAction s x1 banks).memWf = true := by
  rw [State.applyAction]; simp (maxDischargeDepth := 40) +contextual [hw]

@[simp] theorem State.escalate_queue (s : State) (n : ℕ) : (State.escalate s n).queue = s.queue := by
  rw [State.escalate]; simp [apply_ite State.queue]

@[simp] theorem State.escalate_wf (s : State) (n : ℕ) (hw : s.memWf = true) : (State.escalate s n).memWf = true := by
  rw [State.escalate]; simp (maxDischargeDepth := 40) +contextual [hw]

@[simp] theorem State.severe_queue (s : State) (n : ℕ) : (State.severe s n).queue = s.queue := by
  rw [State.severe]; simp [apply_ite State.queue]

@[simp] theorem State.severe_wf (s : State) (n : ℕ) (hw : s.memWf = true) : (State.severe s n).memWf = true := by
  rw [State.severe]; simp (maxDischargeDepth := 40) +contextual [hw]

@[simp] theorem State.countEvent_queue (s : State) (n : ℕ) (banks : ℕ) : (State.countEvent s n banks).queue = s.queue := by
  rw [State.countEvent]; simp [apply_ite State.queue]

@[simp] theorem State.countEvent_wf (s : State) (n : ℕ) (banks : ℕ) (hw : s.memWf = true) : (State.countEvent s n banks).memWf = true := by
  rw [State.countEvent]; simp (maxDischargeDepth := 40) +contextual [hw]

@[simp] theorem State.nameFirst_queue (s : State) (n : ℕ) : (State.nameFirst s n).queue = s.queue := by
  rw [State.nameFirst]; simp [apply_ite State.queue]

@[simp] theorem State.nameFirst_wf (s : State) (n : ℕ) (hw : s.memWf = true) : (State.nameFirst s n).memWf = true := by
  rw [State.nameFirst]; simp (maxDischargeDepth := 40) +contextual [hw]

@[simp] theorem State.fault_queue (s : State) (n : ℕ) (banks : ℕ) : (State.fault s n banks).queue = s.queue := by
  rw [State.fault]; simp [apply_ite State.queue]

@[simp] theorem State.fault_wf (s : State) (n : ℕ) (banks : ℕ) (hw : s.memWf = true) : (State.fault s n banks).memWf = true := by
  rw [State.fault]; simp (maxDischargeDepth := 40) +contextual [hw]

@[simp] theorem State.freezeSevere_queue (s : State) (k : ℕ) : (State.freezeSevere s k).queue = s.queue := by
  rw [State.freezeSevere]; simp [apply_ite State.queue]

@[simp] theorem State.freezeSevere_wf (s : State) (k : ℕ) (hw : s.memWf = true) : (State.freezeSevere s k).memWf = true := by
  rw [State.freezeSevere]; simp (maxDischargeDepth := 40) +contextual [hw]

/-! ### Filters -/

@[simp] theorem State.keepTrims_queue (s : State) (b : ℕ) : (State.keepTrims s b).queue = s.queue := by
  rw [State.keepTrims]; simp [apply_ite State.queue]

@[simp] theorem State.keepTrims_wf (s : State) (b : ℕ) (hw : s.memWf = true) : (State.keepTrims s b).memWf = true := by
  rw [State.keepTrims]; simp (maxDischargeDepth := 40) +contextual [hw]

@[simp] theorem State.countOvr_queue (s : State) (c : ℕ) (t0 : ℕ) (d : ℕ) (past : List Bool) : (State.countOvr s c t0 d past).queue = s.queue := by
  rw [State.countOvr]; simp [apply_ite State.queue]

@[simp] theorem State.countOvr_wf (s : State) (c : ℕ) (t0 : ℕ) (d : ℕ) (past : List Bool) (hw : s.memWf = true) : (State.countOvr s c t0 d past).memWf = true := by
  rw [State.countOvr]; simp (maxDischargeDepth := 40) +contextual [hw]

@[simp] theorem State.countSat_queue (s : State) (c : ℕ) (t0 : ℕ) (x : ChanData) : (State.countSat s c t0 x).queue = s.queue := by
  rw [State.countSat]; simp [apply_ite State.queue]

@[simp] theorem State.countSat_wf (s : State) (c : ℕ) (t0 : ℕ) (x : ChanData) (hw : s.memWf = true) : (State.countSat s c t0 x).memWf = true := by
  rw [State.countSat]; simp (maxDischargeDepth := 40) +contextual [hw]

@[simp] theorem State.countData_queue (s : State) (c : ℕ) (t0 : ℕ) (x : ChanData) : (State.countData s c t0 x).queue = s.queue := by
  rw [State.countData]; simp [apply_ite State.queue]

@[simp] theorem State.countData_wf (s : State) (c : ℕ) (t0 : ℕ) (x : ChanData) (hw : s.memWf = true) : (State.countData s c t0 x).memWf = true := by
  rw [State.countData]; simp (maxDischargeDepth := 40) +contextual [hw]

@[simp] theorem State.writeFlt_queue (s : State) (b : ℕ) (c : ℕ) (w : Word) : (State.writeFlt s b c w).queue = s.queue := by
  rw [State.writeFlt]; (repeat' split) <;> (try dsimp only) <;> (repeat' split) <;> simp_all

@[simp] theorem State.writeFlt_wf (s : State) (b : ℕ) (c : ℕ) (w : Word) (hw : s.memWf = true) : (State.writeFlt s b c w).memWf = true := by
  rw [State.writeFlt]; (repeat' split) <;> (try dsimp only) <;> (repeat' split) <;> simp (maxDischargeDepth := 40) +contextual [hw]

@[simp] theorem State.restartChains_queue (s : State) (b : ℕ) (cs : List ℕ) (t : ℕ) : (State.restartChains s b cs t).queue = s.queue := by
  rw [State.restartChains]; simp [apply_ite State.queue]

@[simp] theorem State.restartChains_wf (s : State) (b : ℕ) (cs : List ℕ) (t : ℕ) (hw : s.memWf = true) : (State.restartChains s b cs t).memWf = true := by
  rw [State.restartChains]; simp (maxDischargeDepth := 40) +contextual [hw]

@[simp] theorem State.clearSat_queue (s : State) (b : ℕ) : (State.clearSat s b).queue = s.queue := by
  rw [State.clearSat]; simp [apply_ite State.queue]

@[simp] theorem State.clearSat_wf (s : State) (b : ℕ) (hw : s.memWf = true) : (State.clearSat s b).memWf = true := by
  rw [State.clearSat]; simp (maxDischargeDepth := 40) +contextual [hw]

/-! ### Flits -/

@[simp] theorem State.queueTrig_queue (s : State) (d : ℕ) : (State.queueTrig s d).queue = s.queue := by
  rw [State.queueTrig]; simp [apply_ite State.queue]

@[simp] theorem State.queueTrig_wf (s : State) (d : ℕ) (hw : s.memWf = true) : (State.queueTrig s d).memWf = true := by
  rw [State.queueTrig]; simp (maxDischargeDepth := 40) +contextual [hw]

@[simp] theorem State.sendFlit_queue (s : State) (d : ℕ) (h : FlitHdr) (body : ℕ) : (State.sendFlit s d h body).queue = s.queue := by
  rw [State.sendFlit]; simp [apply_ite State.queue]

@[simp] theorem State.sendFlit_wf (s : State) (d : ℕ) (h : FlitHdr) (body : ℕ) (hw : s.memWf = true) : (State.sendFlit s d h body).memWf = true := by
  rw [State.sendFlit]; simp (maxDischargeDepth := 40) +contextual [hw]

@[simp] theorem State.sendBoth_queue (s : State) (cf : ℕ) (dst : ℕ) (cls : ℕ) (body : ℕ) : (State.sendBoth s cf dst cls body).queue = s.queue := by
  rw [State.sendBoth]; simp [apply_ite State.queue]

@[simp] theorem State.sendBoth_wf (s : State) (cf : ℕ) (dst : ℕ) (cls : ℕ) (body : ℕ) (hw : s.memWf = true) : (State.sendBoth s cf dst cls body).memWf = true := by
  rw [State.sendBoth]; simp (maxDischargeDepth := 40) +contextual [hw]

@[simp] theorem State.sendTrig_queue (s : State) (l : ℕ) (t : ℕ) : (State.sendTrig s l t).queue = s.queue := by
  rw [State.sendTrig]; simp [apply_ite State.queue]

@[simp] theorem State.sendTrig_wf (s : State) (l : ℕ) (t : ℕ) (hw : s.memWf = true) : (State.sendTrig s l t).memWf = true := by
  rw [State.sendTrig]; simp (maxDischargeDepth := 40) +contextual [hw]

@[simp] theorem State.pickPort_queue (s : State) : (State.pickPort s).2.queue = s.queue := by
  rw [State.pickPort]; dsimp only; (repeat' split) <;> simp [apply_ite State.queue]

@[simp] theorem State.pickPort_wf (s : State) (hw : s.memWf = true) : (State.pickPort s).2.memWf = true := by
  rw [State.pickPort]; dsimp only; (repeat' split) <;> simp (maxDischargeDepth := 40) +contextual [hw]

@[simp] theorem State.sendOne_queue (s : State) (cf : ℕ) (dst : ℕ) (cls : ℕ) (body : ℕ) : (State.sendOne s cf dst cls body).queue = s.queue := by
  rw [State.sendOne]; simp [apply_ite State.queue]

@[simp] theorem State.sendOne_wf (s : State) (cf : ℕ) (dst : ℕ) (cls : ℕ) (body : ℕ) (hw : s.memWf = true) : (State.sendOne s cf dst cls body).memWf = true := by
  rw [State.sendOne]; simp (maxDischargeDepth := 40) +contextual [hw]

@[simp] theorem State.sendCtl_queue (s : State) (op : ℕ) (dst : Option ℕ) (off : ℕ) (data : ℕ) (wide : Bool) (why : CtlWhy) (from_ : List ℕ) (win : ℕ) : (State.sendCtl s op dst off data wide why from_ win).queue = s.queue := by
  unfold State.sendCtl; (repeat' split) <;> (try dsimp only) <;> (repeat' split) <;> simp_all

@[simp] theorem State.sendCtl_wf (s : State) (op : ℕ) (dst : Option ℕ) (off : ℕ) (data : ℕ) (wide : Bool) (why : CtlWhy) (from_ : List ℕ) (win : ℕ) (hw : s.memWf = true) : (State.sendCtl s op dst off data wide why from_ win).memWf = true := by
  unfold State.sendCtl; (repeat' split) <;> (try dsimp only) <;> (repeat' split) <;> simp_all (maxDischargeDepth := 40)

@[simp] theorem State.broadcast_queue (s : State) (off : ℕ) (data : ℕ) (why : CtlWhy) (from_ : List ℕ) : (State.broadcast s off data why from_).queue = s.queue := by
  rw [State.broadcast]; simp [apply_ite State.queue]

@[simp] theorem State.broadcast_wf (s : State) (off : ℕ) (data : ℕ) (why : CtlWhy) (from_ : List ℕ) (hw : s.memWf = true) : (State.broadcast s off data why from_).memWf = true := by
  rw [State.broadcast]; simp (maxDischargeDepth := 40) +contextual [hw]

@[simp] theorem State.askReg_queue (s : State) (pos : ℕ) (off : ℕ) (why : CtlWhy) : (State.askReg s pos off why).queue = s.queue := by
  rw [State.askReg]; simp [apply_ite State.queue]

@[simp] theorem State.askReg_wf (s : State) (pos : ℕ) (off : ℕ) (why : CtlWhy) (hw : s.memWf = true) : (State.askReg s pos off why).memWf = true := by
  rw [State.askReg]; simp (maxDischargeDepth := 40) +contextual [hw]

/-! ### Fabric -/

@[simp] theorem State.ivMerge_queue (s : State) (k : ℕ) (i : ℕ) (e : Option ℕ) : (State.ivMerge s k i e).queue = s.queue := by
  unfold State.ivMerge
  apply foldl_queue
  intro s d
  (repeat' split) <;> simp

@[simp] theorem State.ivMerge_wf (s : State) (k : ℕ) (i : ℕ) (e : Option ℕ) (hw : s.memWf = true) : (State.ivMerge s k i e).memWf = true := by
  rw [State.ivMerge]
  apply foldl_memWf (h := hw)
  intro s d hs
  (repeat' split) <;> simp (maxDischargeDepth := 40) [hs]

@[simp] theorem State.enqueue_queue (s : State) (ds : List Dest) (src : ℕ × ℕ) (t : ℕ) (ring : Bool) (wake : Bool) : (State.enqueue s ds src t ring wake).queue = s.queue := by
  rw [State.enqueue]; simp [apply_ite State.queue]

@[simp] theorem State.enqueue_wf (s : State) (ds : List Dest) (src : ℕ × ℕ) (t : ℕ) (ring : Bool) (wake : Bool) (hw : s.memWf = true) : (State.enqueue s ds src t ring wake).memWf = true := by
  rw [State.enqueue]; simp (maxDischargeDepth := 40) +contextual [hw]

@[simp] theorem State.lineEvent_queue (s : State) (l : ℕ) (t : ℕ) (ring : Bool) : (State.lineEvent s l t ring).queue = s.queue := by
  rw [State.lineEvent]; simp [apply_ite State.queue]

@[simp] theorem State.lineEvent_wf (s : State) (l : ℕ) (t : ℕ) (ring : Bool) (hw : s.memWf = true) : (State.lineEvent s l t ring).memWf = true := by
  rw [State.lineEvent]; simp (maxDischargeDepth := 40) +contextual [hw]

@[simp] theorem State.deliver_queue (s : State) (src : ℕ × ℕ) (t : ℕ) (ring : Bool) (wake : Bool) : (State.deliver s src t ring wake).queue = s.queue := by
  rw [State.deliver]; simp [apply_ite State.queue]

@[simp] theorem State.deliver_wf (s : State) (src : ℕ × ℕ) (t : ℕ) (ring : Bool) (wake : Bool) (hw : s.memWf = true) : (State.deliver s src t ring wake).memWf = true := by
  rw [State.deliver]; simp (maxDischargeDepth := 40) +contextual [hw]

@[simp] theorem State.resetUnit_queue (s : State) (u : ℕ) : (State.resetUnit s u).queue = s.queue := by
  rw [State.resetUnit]; simp [apply_ite State.queue]

@[simp] theorem State.resetUnit_wf (s : State) (u : ℕ) (hw : s.memWf = true) : (State.resetUnit s u).memWf = true := by
  rw [State.resetUnit]; simp (maxDischargeDepth := 40) +contextual [hw]

@[simp] theorem State.resetUnits_queue (s : State) (b : ℕ) : (State.resetUnits s b).queue = s.queue := by
  rw [State.resetUnits]; simp [apply_ite State.queue]

@[simp] theorem State.resetUnits_wf (s : State) (b : ℕ) (hw : s.memWf = true) : (State.resetUnits s b).memWf = true := by
  rw [State.resetUnits]; simp (maxDischargeDepth := 40) +contextual [hw]

@[simp] theorem State.resetConj_queue (s : State) (j : ℕ) : (State.resetConj s j).queue = s.queue := by
  rw [State.resetConj]; simp [apply_ite State.queue]

@[simp] theorem State.resetConj_wf (s : State) (j : ℕ) (hw : s.memWf = true) : (State.resetConj s j).memWf = true := by
  rw [State.resetConj]; simp (maxDischargeDepth := 40) +contextual [hw]

@[simp] theorem State.handUnit_queue (s : State) (u : ℕ) : (State.handUnit s u).queue = s.queue := by
  rw [State.handUnit]; simp [apply_ite State.queue]

@[simp] theorem State.handUnit_wf (s : State) (u : ℕ) (hw : s.memWf = true) : (State.handUnit s u).memWf = true := by
  rw [State.handUnit]; simp (maxDischargeDepth := 40) +contextual [hw]

@[simp] theorem State.handConj_queue (s : State) (j : ℕ) : (State.handConj s j).queue = s.queue := by
  rw [State.handConj]; simp [apply_ite State.queue]

@[simp] theorem State.handConj_wf (s : State) (j : ℕ) (hw : s.memWf = true) : (State.handConj s j).memWf = true := by
  rw [State.handConj]; simp (maxDischargeDepth := 40) +contextual [hw]

@[simp] theorem State.resetWatchers_queue (s : State) (c : ℕ) : (State.resetWatchers s c).queue = s.queue := by
  rw [State.resetWatchers]; simp [apply_ite State.queue]

@[simp] theorem State.resetWatchers_wf (s : State) (c : ℕ) (hw : s.memWf = true) : (State.resetWatchers s c).memWf = true := by
  rw [State.resetWatchers]; simp (maxDischargeDepth := 40) +contextual [hw]

@[simp] theorem State.handFe_queue (s : State) (c : ℕ) : (State.handFe s c).queue = s.queue := by
  rw [State.handFe]; simp [apply_ite State.queue]

@[simp] theorem State.handFe_wf (s : State) (c : ℕ) (hw : s.memWf = true) : (State.handFe s c).memWf = true := by
  rw [State.handFe]; simp (maxDischargeDepth := 40) +contextual [hw]

@[simp] theorem State.forgetOutputs_queue (s : State) (c : ℕ) : (State.forgetOutputs s c).queue = s.queue := by
  rw [State.forgetOutputs]; simp [apply_ite State.queue]

@[simp] theorem State.forgetOutputs_wf (s : State) (c : ℕ) (hw : s.memWf = true) : (State.forgetOutputs s c).memWf = true := by
  rw [State.forgetOutputs]; simp (maxDischargeDepth := 40) +contextual [hw]

@[simp] theorem State.handFlt_queue (s : State) (c : ℕ) : (State.handFlt s c).queue = s.queue := by
  rw [State.handFlt]; simp [apply_ite State.queue]

@[simp] theorem State.handFlt_wf (s : State) (c : ℕ) (hw : s.memWf = true) : (State.handFlt s c).memWf = true := by
  rw [State.handFlt]; simp (maxDischargeDepth := 40) +contextual [hw]

@[simp] theorem State.handGroup_queue (s : State) (g : ℕ) : (State.handGroup s g).queue = s.queue := by
  rw [State.handGroup]; simp [apply_ite State.queue]

@[simp] theorem State.handGroup_wf (s : State) (g : ℕ) (hw : s.memWf = true) : (State.handGroup s g).memWf = true := by
  rw [State.handGroup]; simp (maxDischargeDepth := 40) +contextual [hw]

@[simp] theorem State.tryHand_queue (s : State) (g : ℕ) (edge : Bool) : (State.tryHand s g edge).queue = s.queue := by
  rw [State.tryHand]; simp [apply_ite State.queue]

@[simp] theorem State.tryHand_wf (s : State) (g : ℕ) (edge : Bool) (hw : s.memWf = true) : (State.tryHand s g edge).memWf = true := by
  rw [State.tryHand]; simp (maxDischargeDepth := 40) +contextual [hw]

@[simp] theorem State.recheckHand_queue (s : State) (g : ℕ) : (State.recheckHand s g).queue = s.queue := by
  rw [State.recheckHand]; simp [apply_ite State.queue]

@[simp] theorem State.recheckHand_wf (s : State) (g : ℕ) (hw : s.memWf = true) : (State.recheckHand s g).memWf = true := by
  rw [State.recheckHand]; simp (maxDischargeDepth := 40) +contextual [hw]

@[simp] theorem State.handLooseChan_queue (s : State) (c : ℕ) : (State.handLooseChan s c).queue = s.queue := by
  rw [State.handLooseChan]; simp [apply_ite State.queue]

@[simp] theorem State.handLooseChan_wf (s : State) (c : ℕ) (hw : s.memWf = true) : (State.handLooseChan s c).memWf = true := by
  rw [State.handLooseChan]; simp (maxDischargeDepth := 40) +contextual [hw]

@[simp] theorem State.handLooseUnit_queue (s : State) (u : ℕ) : (State.handLooseUnit s u).queue = s.queue := by
  rw [State.handLooseUnit]; simp [apply_ite State.queue]

@[simp] theorem State.handLooseUnit_wf (s : State) (u : ℕ) (hw : s.memWf = true) : (State.handLooseUnit s u).memWf = true := by
  rw [State.handLooseUnit]; simp (maxDischargeDepth := 40) +contextual [hw]

@[simp] theorem State.handLooseConj_queue (s : State) (j : ℕ) : (State.handLooseConj s j).queue = s.queue := by
  rw [State.handLooseConj]; simp [apply_ite State.queue]

@[simp] theorem State.handLooseConj_wf (s : State) (j : ℕ) (hw : s.memWf = true) : (State.handLooseConj s j).memWf = true := by
  rw [State.handLooseConj]; simp (maxDischargeDepth := 40) +contextual [hw]

/-! ### Sums -/

@[simp] theorem State.takeSamples_queue (s : State) (g : ℕ) (t : ℕ) (eve : ℕ) (samples : List (List ℤ)) : (State.takeSamples s g t eve samples).1.queue = s.queue := by
  rw [State.takeSamples]; simp [apply_ite State.queue]

@[simp] theorem State.takeSamples_wf (s : State) (g : ℕ) (t : ℕ) (eve : ℕ) (samples : List (List ℤ)) (hw : s.memWf = true) : (State.takeSamples s g t eve samples).1.memWf = true := by
  rw [State.takeSamples]; simp (maxDischargeDepth := 40) +contextual [hw]

@[simp] theorem State.beginFull_queue (s : State) (g : ℕ) : (State.beginFull s g).queue = s.queue := by
  rw [State.beginFull]; simp [apply_ite State.queue]

@[simp] theorem State.beginFull_wf (s : State) (g : ℕ) (hw : s.memWf = true) : (State.beginFull s g).memWf = true := by
  rw [State.beginFull]; simp (maxDischargeDepth := 40) +contextual [hw]

end Sys2Proof.Machine
end

