-- ==== Sys2Proof/Laws/KeepGroups.lean ====
section
/-! SUPPORT. What groups, requesters, memory, delivery, staging and calibration keep: the queue of waiting commands, and the canonical form of every store. -/

namespace Sys2Proof.Machine

/-! ### Groups -/

@[simp] theorem State.openRec_queue (s : State) (g : ℕ) (trig : ℕ) (s0 : ℕ) (eveAct : ℕ) (flags : ℕ) (deadTime : ℕ) : (State.openRec s g trig s0 eveAct flags deadTime).queue = s.queue := by
  rw [State.openRec]; simp [apply_ite State.queue]

@[simp] theorem State.openRec_wf (s : State) (g : ℕ) (trig : ℕ) (s0 : ℕ) (eveAct : ℕ) (flags : ℕ) (deadTime : ℕ) (hw : s.memWf = true) : (State.openRec s g trig s0 eveAct flags deadTime).memWf = true := by
  rw [State.openRec]; simp (maxDischargeDepth := 40) +contextual [hw]

@[simp] theorem State.startSegment_queue (s : State) (g : ℕ) (t : ℕ) : (State.startSegment s g t).queue = s.queue := by
  rw [State.startSegment]; simp [apply_ite State.queue]

@[simp] theorem State.startSegment_wf (s : State) (g : ℕ) (t : ℕ) (hw : s.memWf = true) : (State.startSegment s g t).memWf = true := by
  rw [State.startSegment]; simp (maxDischargeDepth := 40) +contextual [hw]

@[simp] theorem State.countRefused_queue (s : State) (g : ℕ) (hi : ℕ) : (State.countRefused s g hi).queue = s.queue := by
  rw [State.countRefused]; simp [apply_ite State.queue]

@[simp] theorem State.countRefused_wf (s : State) (g : ℕ) (hi : ℕ) (hw : s.memWf = true) : (State.countRefused s g hi).memWf = true := by
  rw [State.countRefused]; simp (maxDischargeDepth := 40) +contextual [hw]

@[simp] theorem State.openSegment_queue (s : State) (g : ℕ) (e : ℕ) : (State.openSegment s g e).queue = s.queue := by
  rw [State.openSegment]; simp [apply_ite State.queue]

@[simp] theorem State.openSegment_wf (s : State) (g : ℕ) (e : ℕ) (hw : s.memWf = true) : (State.openSegment s g e).memWf = true := by
  rw [State.openSegment]; simp (maxDischargeDepth := 40) +contextual [hw]

@[simp] theorem State.endPauses_queue (s : State) (g : ℕ) : (State.endPauses s g).queue = s.queue := by
  rw [State.endPauses]; dsimp only; (repeat' split) <;> simp [apply_ite State.queue]

@[simp] theorem State.endPauses_wf (s : State) (g : ℕ) (hw : s.memWf = true) : (State.endPauses s g).memWf = true := by
  rw [State.endPauses]; dsimp only; (repeat' split) <;> simp (maxDischargeDepth := 40) +contextual [hw]

@[simp] theorem State.endAllPauses_queue (s : State) : (State.endAllPauses s).queue = s.queue := by
  rw [State.endAllPauses]; simp [apply_ite State.queue]

@[simp] theorem State.endAllPauses_wf (s : State) (hw : s.memWf = true) : (State.endAllPauses s).memWf = true := by
  rw [State.endAllPauses]; simp (maxDischargeDepth := 40) +contextual [hw]

@[simp] theorem State.pauseAll_queue (s : State) (gs : List ℕ) (cause : ℕ) : (State.pauseAll s gs cause).queue = s.queue := by
  rw [State.pauseAll]; simp [apply_ite State.queue]

@[simp] theorem State.pauseAll_wf (s : State) (gs : List ℕ) (cause : ℕ) (hw : s.memWf = true) : (State.pauseAll s gs cause).memWf = true := by
  rw [State.pauseAll]; simp (maxDischargeDepth := 40) +contextual [hw]

@[simp] theorem State.pauseHeld_queue (s : State) (g : ℕ) : (State.pauseHeld s g).queue = s.queue := by
  rw [State.pauseHeld]; simp [apply_ite State.queue]

@[simp] theorem State.pauseHeld_wf (s : State) (g : ℕ) (hw : s.memWf = true) : (State.pauseHeld s g).memWf = true := by
  rw [State.pauseHeld]; simp (maxDischargeDepth := 40) +contextual [hw]

@[simp] theorem State.armNow_queue (s : State) (g : ℕ) : (State.armNow s g).queue = s.queue := by
  rw [State.armNow]; simp [apply_ite State.queue]

@[simp] theorem State.armNow_wf (s : State) (g : ℕ) (hw : s.memWf = true) : (State.armNow s g).memWf = true := by
  rw [State.armNow]; simp (maxDischargeDepth := 40) +contextual [hw]

@[simp] theorem State.doArm_queue (s : State) (g : ℕ) : (State.doArm s g).queue = s.queue := by
  rw [State.doArm]; simp [apply_ite State.queue]

@[simp] theorem State.doArm_wf (s : State) (g : ℕ) (hw : s.memWf = true) : (State.doArm s g).memWf = true := by
  rw [State.doArm]; simp (maxDischargeDepth := 40) +contextual [hw]

@[simp] theorem State.armWaiting_queue (s : State) (g : ℕ) : (State.armWaiting s g).queue = s.queue := by
  rw [State.armWaiting]; simp [apply_ite State.queue]

@[simp] theorem State.armWaiting_wf (s : State) (g : ℕ) (hw : s.memWf = true) : (State.armWaiting s g).memWf = true := by
  rw [State.armWaiting]; simp (maxDischargeDepth := 40) +contextual [hw]

@[simp] theorem State.toIdle_queue (s : State) (g : ℕ) : (State.toIdle s g).queue = s.queue := by
  rw [State.toIdle]; simp [apply_ite State.queue]

@[simp] theorem State.toIdle_wf (s : State) (g : ℕ) (hw : s.memWf = true) : (State.toIdle s g).memWf = true := by
  rw [State.toIdle]; simp (maxDischargeDepth := 40) +contextual [hw]

@[simp] theorem State.finishDisarm_queue (s : State) (g : ℕ) : (State.finishDisarm s g).queue = s.queue := by
  rw [State.finishDisarm]; simp [apply_ite State.queue]

@[simp] theorem State.finishDisarm_wf (s : State) (g : ℕ) (hw : s.memWf = true) : (State.finishDisarm s g).memWf = true := by
  rw [State.finishDisarm]; simp (maxDischargeDepth := 40) +contextual [hw]

@[simp] theorem State.doDisarm_queue (s : State) (g : ℕ) : (State.doDisarm s g).queue = s.queue := by
  rw [State.doDisarm]; simp [apply_ite State.queue]

@[simp] theorem State.doDisarm_wf (s : State) (g : ℕ) (hw : s.memWf = true) : (State.doDisarm s g).memWf = true := by
  rw [State.doDisarm]; simp (maxDischargeDepth := 40) +contextual [hw]

@[simp] theorem State.dropStaged_queue (s : State) (g : ℕ) : (State.dropStaged s g).queue = s.queue := by
  rw [State.dropStaged]; simp [apply_ite State.queue]

@[simp] theorem State.dropStaged_wf (s : State) (g : ℕ) (hw : s.memWf = true) : (State.dropStaged s g).memWf = true := by
  rw [State.dropStaged]; simp (maxDischargeDepth := 40) +contextual [hw]

@[simp] theorem State.doAbort_queue (s : State) (g : ℕ) : (State.doAbort s g).queue = s.queue := by
  rw [State.doAbort]; dsimp only; (repeat' split) <;> simp [apply_ite State.queue]

@[simp] theorem State.doAbort_wf (s : State) (g : ℕ) (hw : s.memWf = true) : (State.doAbort s g).memWf = true := by
  rw [State.doAbort]; dsimp only; (repeat' split) <;> simp (maxDischargeDepth := 40) +contextual [hw]

@[simp] theorem State.doCtl_queue (s : State) (g : ℕ) (abort : Bool) (disarm : Bool) (arm : Bool) : (State.doCtl s g abort disarm arm).queue = s.queue := by
  rw [State.doCtl]; simp [apply_ite State.queue]

@[simp] theorem State.doCtl_wf (s : State) (g : ℕ) (abort : Bool) (disarm : Bool) (arm : Bool) (hw : s.memWf = true) : (State.doCtl s g abort disarm arm).memWf = true := by
  rw [State.doCtl]; simp (maxDischargeDepth := 40) +contextual [hw]

theorem execHandover_queue (dt : ℕ) (g : Fin 32) (s : State) : Res.all (fun t => t.queue = s.queue) (execHandover dt g s) := by
  rw [execHandover]; (repeat' split) <;> (try dsimp only) <;> (repeat' split) <;> simp_all

theorem execHandover_wf (dt : ℕ) (g : Fin 32) (s : State) (hw : s.memWf = true) : Res.all (fun t => t.memWf = true) (execHandover dt g s) := by
  rw [execHandover]; (repeat' split) <;> (try dsimp only) <;> (repeat' split) <;> simp (maxDischargeDepth := 40) +contextual [hw]

theorem execArm_queue (dt : ℕ) (g : Fin 32) (s : State) : Res.all (fun t => t.queue = s.queue) (execArm dt g s) := by
  rw [execArm]; simp [apply_ite State.queue]

theorem execArm_wf (dt : ℕ) (g : Fin 32) (s : State) (hw : s.memWf = true) : Res.all (fun t => t.memWf = true) (execArm dt g s) := by
  rw [execArm]; simp (maxDischargeDepth := 40) +contextual [hw]

theorem execDisarm_queue (dt : ℕ) (g : Fin 32) (s : State) : Res.all (fun t => t.queue = s.queue) (execDisarm dt g s) := by
  rw [execDisarm]; simp [apply_ite State.queue]

theorem execDisarm_wf (dt : ℕ) (g : Fin 32) (s : State) (hw : s.memWf = true) : Res.all (fun t => t.memWf = true) (execDisarm dt g s) := by
  rw [execDisarm]; simp (maxDischargeDepth := 40) +contextual [hw]

theorem execAbort_queue (dt : ℕ) (g : Fin 32) (s : State) : Res.all (fun t => t.queue = s.queue) (execAbort dt g s) := by
  rw [execAbort]; simp [apply_ite State.queue]

theorem execAbort_wf (dt : ℕ) (g : Fin 32) (s : State) (hw : s.memWf = true) : Res.all (fun t => t.memWf = true) (execAbort dt g s) := by
  rw [execAbort]; simp (maxDischargeDepth := 40) +contextual [hw]

@[simp] theorem State.fillCheck_queue (s : State) (g : ℕ) : (State.fillCheck s g).queue = s.queue := by
  rw [State.fillCheck]; simp [apply_ite State.queue]

@[simp] theorem State.fillCheck_wf (s : State) (g : ℕ) (hw : s.memWf = true) : (State.fillCheck s g).memWf = true := by
  rw [State.fillCheck]; simp (maxDischargeDepth := 40) +contextual [hw]

theorem execEveFilled_queue (dt : ℕ) (g : Fin 32) (s : State) : Res.all (fun t => t.queue = s.queue) (execEveFilled dt g s) := by
  rw [execEveFilled]; simp [apply_ite State.queue]

theorem execEveFilled_wf (dt : ℕ) (g : Fin 32) (s : State) (hw : s.memWf = true) : Res.all (fun t => t.memWf = true) (execEveFilled dt g s) := by
  rw [execEveFilled]; simp (maxDischargeDepth := 40) +contextual [hw]

@[simp] theorem State.refusePaused_queue (s : State) (g : ℕ) : (State.refusePaused s g).queue = s.queue := by
  rw [State.refusePaused]; simp [apply_ite State.queue]

@[simp] theorem State.refusePaused_wf (s : State) (g : ℕ) (hw : s.memWf = true) : (State.refusePaused s g).memWf = true := by
  rw [State.refusePaused]; simp (maxDischargeDepth := 40) +contextual [hw]

@[simp] theorem State.deadTrigger_queue (s : State) (g : ℕ) (t : ℕ) : (State.deadTrigger s g t).queue = s.queue := by
  rw [State.deadTrigger]; simp [apply_ite State.queue]

@[simp] theorem State.deadTrigger_wf (s : State) (g : ℕ) (t : ℕ) (hw : s.memWf = true) : (State.deadTrigger s g t).memWf = true := by
  rw [State.deadTrigger]; simp (maxDischargeDepth := 40) +contextual [hw]

@[simp] theorem State.earlyTrigger_queue (s : State) (g : ℕ) : (State.earlyTrigger s g).queue = s.queue := by
  rw [State.earlyTrigger]; simp [apply_ite State.queue]

@[simp] theorem State.earlyTrigger_wf (s : State) (g : ℕ) (hw : s.memWf = true) : (State.earlyTrigger s g).memWf = true := by
  rw [State.earlyTrigger]; simp (maxDischargeDepth := 40) +contextual [hw]

@[simp] theorem State.fullTrigger_queue (s : State) (g : ℕ) : (State.fullTrigger s g).queue = s.queue := by
  rw [State.fullTrigger]; simp [apply_ite State.queue]

@[simp] theorem State.fullTrigger_wf (s : State) (g : ℕ) (hw : s.memWf = true) : (State.fullTrigger s g).memWf = true := by
  rw [State.fullTrigger]; simp (maxDischargeDepth := 40) +contextual [hw]

@[simp] theorem State.acceptTrigger_queue (s : State) (g : ℕ) (d : Delivery) (eve : ℕ) (short : Bool) : (State.acceptTrigger s g d eve short).queue = s.queue := by
  rw [State.acceptTrigger]; simp [apply_ite State.queue]

@[simp] theorem State.acceptTrigger_wf (s : State) (g : ℕ) (d : Delivery) (eve : ℕ) (short : Bool) (hw : s.memWf = true) : (State.acceptTrigger s g d eve short).memWf = true := by
  rw [State.acceptTrigger]; simp (maxDischargeDepth := 40) +contextual [hw]

@[simp] theorem State.groupTrigger_queue (s : State) (g : ℕ) (d : Delivery) : (State.groupTrigger s g d).queue = s.queue := by
  rw [State.groupTrigger]; (repeat' split) <;> (try dsimp only) <;> (repeat' split) <;> simp_all

@[simp] theorem State.groupTrigger_wf (s : State) (g : ℕ) (d : Delivery) (hw : s.memWf = true) : (State.groupTrigger s g d).memWf = true := by
  rw [State.groupTrigger]; (repeat' split) <;> (try dsimp only) <;> (repeat' split) <;> simp (maxDischargeDepth := 40) +contextual [hw]

theorem execGroupTrigger_queue (dt : ℕ) (g : Fin 32) (s : State) : Res.all (fun t => t.queue = s.queue) (execGroupTrigger dt g s) := by
  rw [execGroupTrigger]; (repeat' split) <;> (try dsimp only) <;> (repeat' split) <;> simp_all

theorem execGroupTrigger_wf (dt : ℕ) (g : Fin 32) (s : State) (hw : s.memWf = true) : Res.all (fun t => t.memWf = true) (execGroupTrigger dt g s) := by
  rw [execGroupTrigger]; (repeat' split) <;> (try dsimp only) <;> (repeat' split) <;> simp (maxDischargeDepth := 40) +contextual [hw]

@[simp] theorem State.countRefusal_queue (s : State) (port : ℕ) (queueFull : Bool) : (State.countRefusal s port queueFull).queue = s.queue := by
  rw [State.countRefusal]; simp [apply_ite State.queue]

@[simp] theorem State.countRefusal_wf (s : State) (port : ℕ) (queueFull : Bool) (hw : s.memWf = true) : (State.countRefusal s port queueFull).memWf = true := by
  rw [State.countRefusal]; simp (maxDischargeDepth := 40) +contextual [hw]

@[simp] theorem State.granuleRefused_queue (s : State) (g : ℕ) (port : ℕ) (queueFull : Bool) : (State.granuleRefused s g port queueFull).queue = s.queue := by
  rw [State.granuleRefused]; simp [apply_ite State.queue]

@[simp] theorem State.granuleRefused_wf (s : State) (g : ℕ) (port : ℕ) (queueFull : Bool) (hw : s.memWf = true) : (State.granuleRefused s g port queueFull).memWf = true := by
  rw [State.granuleRefused]; simp (maxDischargeDepth := 40) +contextual [hw]

@[simp] theorem State.ringRefused_queue (s : State) (g : ℕ) (port : ℕ) (queueFull : Bool) : (State.ringRefused s g port queueFull).queue = s.queue := by
  rw [State.ringRefused]; simp [apply_ite State.queue]

@[simp] theorem State.ringRefused_wf (s : State) (g : ℕ) (port : ℕ) (queueFull : Bool) (hw : s.memWf = true) : (State.ringRefused s g port queueFull).memWf = true := by
  rw [State.ringRefused]; simp (maxDischargeDepth := 40) +contextual [hw]

@[simp] theorem State.chargeHead_queue (s : State) (g : ℕ) (r : Rec) : (State.chargeHead s g r).queue = s.queue := by
  rw [State.chargeHead]; simp [apply_ite State.queue]

@[simp] theorem State.chargeHead_wf (s : State) (g : ℕ) (r : Rec) (hw : s.memWf = true) : (State.chargeHead s g r).memWf = true := by
  rw [State.chargeHead]; simp (maxDischargeDepth := 40) +contextual [hw]

@[simp] theorem State.startRearm_queue (s : State) (g : ℕ) (prevEnd : ℕ) : (State.startRearm s g prevEnd).queue = s.queue := by
  rw [State.startRearm]; (repeat' split) <;> (try dsimp only) <;> (repeat' split) <;> simp_all

@[simp] theorem State.startRearm_wf (s : State) (g : ℕ) (prevEnd : ℕ) (hw : s.memWf = true) : (State.startRearm s g prevEnd).memWf = true := by
  rw [State.startRearm]; (repeat' split) <;> (try dsimp only) <;> (repeat' split) <;> simp (maxDischargeDepth := 40) +contextual [hw]

@[simp] theorem State.afterSum_queue (s : State) (g : ℕ) : (State.afterSum s g).queue = s.queue := by
  rw [State.afterSum]; simp [apply_ite State.queue]

@[simp] theorem State.afterSum_wf (s : State) (g : ℕ) (hw : s.memWf = true) : (State.afterSum s g).memWf = true := by
  rw [State.afterSum]; simp (maxDischargeDepth := 40) +contextual [hw]

@[simp] theorem State.sumCaptured_queue (s : State) (g : ℕ) (c : Cur) (d : Captured) (prevEnd : ℕ) : (State.sumCaptured s g c d prevEnd).queue = s.queue := by
  rw [State.sumCaptured]; simp [apply_ite State.queue]

@[simp] theorem State.sumCaptured_wf (s : State) (g : ℕ) (c : Cur) (d : Captured) (prevEnd : ℕ) (hw : s.memWf = true) : (State.sumCaptured s g c d prevEnd).memWf = true := by
  rw [State.sumCaptured]; simp (maxDischargeDepth := 40) +contextual [hw]

@[simp] theorem State.dataCaptured_queue (s : State) (g : ℕ) (c : Cur) (d : Captured) (r : Rec) (prevEnd : ℕ) : (State.dataCaptured s g c d r prevEnd).queue = s.queue := by
  rw [State.dataCaptured]; simp [apply_ite State.queue]

@[simp] theorem State.dataCaptured_wf (s : State) (g : ℕ) (c : Cur) (d : Captured) (r : Rec) (prevEnd : ℕ) (hw : s.memWf = true) : (State.dataCaptured s g c d r prevEnd).memWf = true := by
  rw [State.dataCaptured]; simp (maxDischargeDepth := 40) +contextual [hw]

theorem execRecordCaptureEnd_queue (dt : ℕ) (g : Fin 32) (samples : List (List ℤ)) (s : State) : Res.all (fun t => t.queue = s.queue) (execRecordCaptureEnd dt g samples s) := by
  rw [execRecordCaptureEnd]; dsimp only; (repeat' split) <;> simp [apply_ite State.queue]

theorem execRecordCaptureEnd_wf (dt : ℕ) (g : Fin 32) (samples : List (List ℤ)) (s : State) (hw : s.memWf = true) : Res.all (fun t => t.memWf = true) (execRecordCaptureEnd dt g samples s) := by
  rw [execRecordCaptureEnd]; dsimp only; (repeat' split) <;> simp (maxDischargeDepth := 40) +contextual [hw]

@[simp] theorem State.rearmDone_queue (s : State) (g : ℕ) : (State.rearmDone s g).queue = s.queue := by
  rw [State.rearmDone]; simp [apply_ite State.queue]

@[simp] theorem State.rearmDone_wf (s : State) (g : ℕ) (hw : s.memWf = true) : (State.rearmDone s g).memWf = true := by
  rw [State.rearmDone]; simp (maxDischargeDepth := 40) +contextual [hw]

@[simp] theorem State.rearmGap_queue (s : State) (g : ℕ) (cause : ℕ) : (State.rearmGap s g cause).queue = s.queue := by
  rw [State.rearmGap]; simp [apply_ite State.queue]

@[simp] theorem State.rearmGap_wf (s : State) (g : ℕ) (cause : ℕ) (hw : s.memWf = true) : (State.rearmGap s g cause).memWf = true := by
  rw [State.rearmGap]; simp (maxDischargeDepth := 40) +contextual [hw]

theorem execRearmEnd_queue (dt : ℕ) (g : Fin 32) (s : State) : Res.all (fun t => t.queue = s.queue) (execRearmEnd dt g s) := by
  rw [execRearmEnd]; (repeat' split) <;> (try dsimp only) <;> (repeat' split) <;> simp_all

theorem execRearmEnd_wf (dt : ℕ) (g : Fin 32) (s : State) (hw : s.memWf = true) : Res.all (fun t => t.memWf = true) (execRearmEnd dt g s) := by
  rw [execRearmEnd]; (repeat' split) <;> (try dsimp only) <;> (repeat' split) <;> simp (maxDischargeDepth := 40) +contextual [hw]

@[simp] theorem State.commitLate_queue (s : State) (g : ℕ) : (State.commitLate s g).queue = s.queue := by
  rw [State.commitLate]; dsimp only; (repeat' split) <;> simp [apply_ite State.queue]

@[simp] theorem State.commitLate_wf (s : State) (g : ℕ) (hw : s.memWf = true) : (State.commitLate s g).memWf = true := by
  rw [State.commitLate]; dsimp only; (repeat' split) <;> simp (maxDischargeDepth := 40) +contextual [hw]

theorem execRecordCommit_queue (dt : ℕ) (g : Fin 32) (s : State) : Res.all (fun t => t.queue = s.queue) (execRecordCommit dt g s) := by
  rw [execRecordCommit]; (repeat' split) <;> (try dsimp only) <;> (repeat' split) <;> simp_all

theorem execRecordCommit_wf (dt : ℕ) (g : Fin 32) (s : State) (hw : s.memWf = true) : Res.all (fun t => t.memWf = true) (execRecordCommit dt g s) := by
  rw [execRecordCommit]; (repeat' split) <;> (try dsimp only) <;> (repeat' split) <;> simp (maxDischargeDepth := 40) +contextual [hw]

theorem execAqgIrqGapExpiry_queue (dt : ℕ) (g : Fin 32) (s : State) : Res.all (fun t => t.queue = s.queue) (execAqgIrqGapExpiry dt g s) := by
  rw [execAqgIrqGapExpiry]; (repeat' split) <;> (try dsimp only) <;> (repeat' split) <;> simp_all

theorem execAqgIrqGapExpiry_wf (dt : ℕ) (g : Fin 32) (s : State) (hw : s.memWf = true) : Res.all (fun t => t.memWf = true) (execAqgIrqGapExpiry dt g s) := by
  rw [execAqgIrqGapExpiry]; (repeat' split) <;> (try dsimp only) <;> (repeat' split) <;> simp (maxDischargeDepth := 40) +contextual [hw]

@[simp] theorem State.nextSegment_queue (s : State) (g : ℕ) (e : ℕ) : (State.nextSegment s g e).queue = s.queue := by
  rw [State.nextSegment]; (repeat' split) <;> (try dsimp only) <;> (repeat' split) <;> simp_all

@[simp] theorem State.nextSegment_wf (s : State) (g : ℕ) (e : ℕ) (hw : s.memWf = true) : (State.nextSegment s g e).memWf = true := by
  rw [State.nextSegment]; (repeat' split) <;> (try dsimp only) <;> (repeat' split) <;> simp (maxDischargeDepth := 40) +contextual [hw]

@[simp] theorem State.segmentCaptured_queue (s : State) (g : ℕ) (r : Rec) (e : ℕ) : (State.segmentCaptured s g r e).queue = s.queue := by
  rw [State.segmentCaptured]; simp [apply_ite State.queue]

@[simp] theorem State.segmentCaptured_wf (s : State) (g : ℕ) (r : Rec) (e : ℕ) (hw : s.memWf = true) : (State.segmentCaptured s g r e).memWf = true := by
  rw [State.segmentCaptured]; simp (maxDischargeDepth := 40) +contextual [hw]

theorem execSegmentBoundary_queue (dt : ℕ) (g : Fin 32) (samples : List (List ℤ)) (s : State) : Res.all (fun t => t.queue = s.queue) (execSegmentBoundary dt g samples s) := by
  rw [execSegmentBoundary]; dsimp only; (repeat' split) <;> simp [apply_ite State.queue]

theorem execSegmentBoundary_wf (dt : ℕ) (g : Fin 32) (samples : List (List ℤ)) (s : State) (hw : s.memWf = true) : Res.all (fun t => t.memWf = true) (execSegmentBoundary dt g samples s) := by
  rw [execSegmentBoundary]; dsimp only; (repeat' split) <;> simp (maxDischargeDepth := 40) +contextual [hw]

@[simp] theorem State.endHold_queue (s : State) (g : ℕ) (cause : ℕ) : (State.endHold s g cause).queue = s.queue := by
  rw [State.endHold]; simp [apply_ite State.queue]

@[simp] theorem State.endHold_wf (s : State) (g : ℕ) (cause : ℕ) (hw : s.memWf = true) : (State.endHold s g cause).memWf = true := by
  rw [State.endHold]; simp (maxDischargeDepth := 40) +contextual [hw]

theorem execPartitionFullEnd_queue (dt : ℕ) (g : Fin 32) (s : State) : Res.all (fun t => t.queue = s.queue) (execPartitionFullEnd dt g s) := by
  rw [execPartitionFullEnd]; dsimp only; (repeat' split) <;> simp [apply_ite State.queue]

theorem execPartitionFullEnd_wf (dt : ℕ) (g : Fin 32) (s : State) (hw : s.memWf = true) : Res.all (fun t => t.memWf = true) (execPartitionFullEnd dt g s) := by
  rw [execPartitionFullEnd]; dsimp only; (repeat' split) <;> simp (maxDischargeDepth := 40) +contextual [hw]

theorem execBandwidthGapEnd_queue (dt : ℕ) (g : Fin 32) (s : State) : Res.all (fun t => t.queue = s.queue) (execBandwidthGapEnd dt g s) := by
  rw [execBandwidthGapEnd]; (repeat' split) <;> (try dsimp only) <;> (repeat' split) <;> simp_all

theorem execBandwidthGapEnd_wf (dt : ℕ) (g : Fin 32) (s : State) (hw : s.memWf = true) : Res.all (fun t => t.memWf = true) (execBandwidthGapEnd dt g s) := by
  rw [execBandwidthGapEnd]; (repeat' split) <;> (try dsimp only) <;> (repeat' split) <;> simp (maxDischargeDepth := 40) +contextual [hw]

theorem execCaptureGranuleRefused_queue (dt : ℕ) (g : Fin 32) (port : Fin 16) (how : RefusedAs) (s : State) : Res.all (fun t => t.queue = s.queue) (execCaptureGranuleRefused dt g port how s) := by
  rw [execCaptureGranuleRefused]; (repeat' split) <;> (try dsimp only) <;> (repeat' split) <;> simp_all

theorem execCaptureGranuleRefused_wf (dt : ℕ) (g : Fin 32) (port : Fin 16) (how : RefusedAs) (s : State) (hw : s.memWf = true) : Res.all (fun t => t.memWf = true) (execCaptureGranuleRefused dt g port how s) := by
  rw [execCaptureGranuleRefused]; (repeat' split) <;> (try dsimp only) <;> (repeat' split) <;> simp (maxDischargeDepth := 40) +contextual [hw]

theorem execPauseEnd_queue (dt : ℕ) (g : Fin 32) (s : State) : Res.all (fun t => t.queue = s.queue) (execPauseEnd dt g s) := by
  rw [execPauseEnd]; simp [apply_ite State.queue]

theorem execPauseEnd_wf (dt : ℕ) (g : Fin 32) (s : State) (hw : s.memWf = true) : Res.all (fun t => t.memWf = true) (execPauseEnd dt g s) := by
  rw [execPauseEnd]; simp (maxDischargeDepth := 40) +contextual [hw]

@[simp] theorem State.serveSteward_queue (s : State) (g : ℕ) : (State.serveSteward s g).queue = s.queue := by
  unfold State.serveSteward
  dsimp only
  split
  · simp
  · split
    · simp
    · next h => simpa using State.release_queue _ _ _ _ _ h

@[simp] theorem State.serveSteward_wf (s : State) (g : ℕ) (hw : s.memWf = true) : (State.serveSteward s g).memWf = true := by
  rw [State.serveSteward]
  (try dsimp only)
  split
  · simp (maxDischargeDepth := 40) [hw]
  · split
    · simp (maxDischargeDepth := 40) [hw]
    · next hr => simp (maxDischargeDepth := 40) [State.release_wf _ _ _ _ hw _ hr]

@[simp] theorem State.doRelease_queue (s : State) (g : ℕ) : (State.doRelease s g).queue = s.queue := by
  rw [State.doRelease]; simp [apply_ite State.queue]

@[simp] theorem State.doRelease_wf (s : State) (g : ℕ) (hw : s.memWf = true) : (State.doRelease s g).memWf = true := by
  rw [State.doRelease]; simp (maxDischargeDepth := 40) +contextual [hw]

theorem execStewardRelease_queue (dt : ℕ) (g : Fin 32) (s : State) : Res.all (fun t => t.queue = s.queue) (execStewardRelease dt g s) := by
  rw [execStewardRelease]; simp [apply_ite State.queue]

theorem execStewardRelease_wf (dt : ℕ) (g : Fin 32) (s : State) (hw : s.memWf = true) : Res.all (fun t => t.memWf = true) (execStewardRelease dt g s) := by
  rw [execStewardRelease]; simp (maxDischargeDepth := 40) +contextual [hw]

@[simp] theorem State.serveHeldSteward_queue (s : State) : (State.serveHeldSteward s).queue = s.queue := by
  rw [State.serveHeldSteward]; simp [apply_ite State.queue]

@[simp] theorem State.serveHeldSteward_wf (s : State) (hw : s.memWf = true) : (State.serveHeldSteward s).memWf = true := by
  rw [State.serveHeldSteward]; simp (maxDischargeDepth := 40) +contextual [hw]

@[simp] theorem State.structureRec_queue (s : State) (x : GapState) (hi : ℕ) : (State.structureRec s x hi).queue = s.queue := by
  rw [State.structureRec]; simp [apply_ite State.queue]

@[simp] theorem State.structureRec_wf (s : State) (x : GapState) (hi : ℕ) (hw : s.memWf = true) : (State.structureRec s x hi).memWf = true := by
  rw [State.structureRec]; simp (maxDischargeDepth := 40) +contextual [hw]

@[simp] theorem State.rearmReloaded_queue (s : State) (giveUp : Bool) : (State.rearmReloaded s giveUp).queue = s.queue := by
  rw [State.rearmReloaded]; simp [apply_ite State.queue]

@[simp] theorem State.rearmReloaded_wf (s : State) (giveUp : Bool) (hw : s.memWf = true) : (State.rearmReloaded s giveUp).memWf = true := by
  rw [State.rearmReloaded]; simp (maxDischargeDepth := 40) +contextual [hw]

/-! ### Reach -/

@[simp] theorem State.refuse_queue (s : State) (p : ℕ) (what : ℕ) : (State.refuse s p what).queue = s.queue := by
  rw [State.refuse]; simp [apply_ite State.queue]

@[simp] theorem State.refuse_wf (s : State) (p : ℕ) (what : ℕ) (hw : s.memWf = true) : (State.refuse s p what).memWf = true := by
  rw [State.refuse]; simp (maxDischargeDepth := 40) +contextual [hw]

@[simp] theorem State.readDemand_queue (s : State) (rq : Requester) : (State.readDemand s rq).queue = s.queue := by
  unfold State.readDemand; (repeat' split) <;> (try dsimp only) <;> (repeat' split) <;> simp_all

@[simp] theorem State.readDemand_wf (s : State) (rq : Requester) (hw : s.memWf = true) : (State.readDemand s rq).memWf = true := by
  unfold State.readDemand; (repeat' split) <;> (try dsimp only) <;> (repeat' split) <;> simp_all (maxDischargeDepth := 40)

@[simp] theorem State.accessDemand_queue (s : State) (rq : Requester) : (State.accessDemand s rq).queue = s.queue := by
  unfold State.accessDemand; (repeat' split) <;> (try dsimp only) <;> (repeat' split) <;> simp_all

@[simp] theorem State.accessDemand_wf (s : State) (rq : Requester) (hw : s.memWf = true) : (State.accessDemand s rq).memWf = true := by
  unfold State.accessDemand; (repeat' split) <;> (try dsimp only) <;> (repeat' split) <;> simp_all (maxDischargeDepth := 40)

theorem State.hostWrite_queue {q : List Instr} {s : State} {rq : Requester} {off : Nat} {f : State → Res} (h : s.queue = q)
    (hf : ∀ u : State, u.queue = q → Res.all (fun t => t.queue = q) (f u)) :
    Res.all (fun t => t.queue = q) (s.hostWrite rq off f) := by
  unfold State.hostWrite
  split
  · exact hf _ (by simp [h])
  · simp [h]
  · simp [h]

@[simp] theorem guardReserved_queue (q : List Instr) (bad : Bool) (s : State) :
    Res.all (fun t => t.queue = q) (guardReserved bad s) ↔ (bad = true ∨ s.queue = q) := by
  unfold guardReserved
  cases bad <;> simp

theorem State.hostWrite_wf {s : State} {rq : Requester} {off : Nat} {f : State → Res} (h : s.memWf = true)
    (hf : ∀ u : State, u.memWf = true → Res.all (fun t => t.memWf = true) (f u)) :
    Res.all (fun t => t.memWf = true) (s.hostWrite rq off f) := by
  rw [State.hostWrite]
  split
  · exact hf _ (by simp (maxDischargeDepth := 40) [h])
  · simp (maxDischargeDepth := 40) [h]
  · simp (maxDischargeDepth := 40) [h]


@[simp] theorem guardReserved_wf (bad : Bool) (s : State) (h : s.memWf = true) :
    Res.all (fun t => t.memWf = true) (guardReserved bad s) := by
  unfold guardReserved
  cases bad <;> simp (maxDischargeDepth := 40) [h]

/-! ### Memory -/

@[simp] theorem State.setOverflow_queue (s : State) : (State.setOverflow s).queue = s.queue := by
  rw [State.setOverflow]; simp [apply_ite State.queue]

@[simp] theorem State.setOverflow_wf (s : State) (hw : s.memWf = true) : (State.setOverflow s).memWf = true := by
  rw [State.setOverflow]; simp (maxDischargeDepth := 40) +contextual [hw]

@[simp] theorem State.addLost_queue (s : State) (x1 : List ℕ) : (State.addLost s x1).queue = s.queue := by
  fun_induction State.addLost s x1 <;> simp_all

@[simp] theorem State.addLost_wf (s : State) (x1 : List ℕ) (hw : s.memWf = true) : (State.addLost s x1).memWf = true := by
  fun_induction State.addLost s x1 <;> simp_all (maxDischargeDepth := 40)

@[simp] theorem State.freeze_queue (s : State) (k : ℕ) (cause : ℕ) (slot : ℕ) (held : List Retry) : (State.freeze s k cause slot held).queue = s.queue := by
  rw [State.freeze]; simp [apply_ite State.queue]

@[simp] theorem State.freeze_wf (s : State) (k : ℕ) (cause : ℕ) (slot : ℕ) (held : List Retry) (hw : s.memWf = true) : (State.freeze s k cause slot held).memWf = true := by
  rw [State.freeze]; simp (maxDischargeDepth := 40) +contextual [hw]

@[simp] theorem State.failStack_queue (s : State) (k : ℕ) : (State.failStack s k).queue = s.queue := by
  rw [State.failStack]; simp [apply_ite State.queue]

@[simp] theorem State.failStack_wf (s : State) (k : ℕ) (hw : s.memWf = true) : (State.failStack s k).memWf = true := by
  rw [State.failStack]; simp (maxDischargeDepth := 40) +contextual [hw]

@[simp] theorem State.countUncorr_queue (s : State) (k : ℕ) : (State.countUncorr s k).queue = s.queue := by
  rw [State.countUncorr]; simp [apply_ite State.queue]

@[simp] theorem State.countUncorr_wf (s : State) (k : ℕ) (hw : s.memWf = true) : (State.countUncorr s k).memWf = true := by
  rw [State.countUncorr]; simp (maxDischargeDepth := 40) +contextual [hw]

@[simp] theorem State.noteRebuilt_queue (s : State) (port : ℕ) (g : Option ℕ) : (State.noteRebuilt s port g).queue = s.queue := by
  unfold State.noteRebuilt
  (repeat' split) <;> simp

@[simp] theorem State.noteRebuilt_wf (s : State) (port : ℕ) (g : Option ℕ) (hw : s.memWf = true) : (State.noteRebuilt s port g).memWf = true := by
  unfold State.noteRebuilt
  (repeat' split) <;> simp (maxDischargeDepth := 40) [hw]

@[simp] theorem State.rewrite_queue (s : State) (k : ℕ) (slot : ℕ) (port : ℕ) : (State.rewrite s k slot port).queue = s.queue := by
  rw [State.rewrite]; simp [apply_ite State.queue]

@[simp] theorem State.rewrite_wf (s : State) (k : ℕ) (slot : ℕ) (port : ℕ) (hw : s.memWf = true) : (State.rewrite s k slot port).memWf = true := by
  rw [State.rewrite]; simp (maxDischargeDepth := 40) +contextual [hw]

@[simp] theorem State.correctedRead_queue (s : State) (k : ℕ) (slot : ℕ) (port : ℕ) (multiBit : Bool) : (State.correctedRead s k slot port multiBit).queue = s.queue := by
  rw [State.correctedRead]; simp [apply_ite State.queue]

@[simp] theorem State.correctedRead_wf (s : State) (k : ℕ) (slot : ℕ) (port : ℕ) (multiBit : Bool) (hw : s.memWf = true) : (State.correctedRead s k slot port multiBit).memWf = true := by
  rw [State.correctedRead]; simp (maxDischargeDepth := 40) +contextual [hw]

@[simp] theorem State.uncorrectable_queue (s : State) (k : ℕ) (slot : ℕ) (others : List ℕ) (port : ℕ) (tries : ℕ) : (State.uncorrectable s k slot others port tries).queue = s.queue := by
  rw [State.uncorrectable]; dsimp only; (repeat' split) <;> simp [apply_ite State.queue]

@[simp] theorem State.uncorrectable_wf (s : State) (k : ℕ) (slot : ℕ) (others : List ℕ) (port : ℕ) (tries : ℕ) (hw : s.memWf = true) : (State.uncorrectable s k slot others port tries).memWf = true := by
  rw [State.uncorrectable]; dsimp only; (repeat' split) <;> simp (maxDischargeDepth := 40) +contextual [hw]

@[simp] theorem State.openRows_queue (s : State) (r : MemReq) : (State.openRows s r).queue = s.queue := by
  rw [State.openRows]; simp [apply_ite State.queue]

@[simp] theorem State.openRows_wf (s : State) (r : MemReq) (hw : s.memWf = true) : (State.openRows s r).memWf = true := by
  rw [State.openRows]; simp (maxDischargeDepth := 40) +contextual [hw]

@[simp] theorem State.bar2Byte_queue (s : State) (x1 : ℕ) : (State.bar2Byte s x1).2.queue = s.queue := by
  rw [State.bar2Byte]; (repeat' split) <;> (try dsimp only) <;> (repeat' split) <;> simp_all

@[simp] theorem State.bar2Byte_wf (s : State) (x1 : ℕ) (hw : s.memWf = true) : (State.bar2Byte s x1).2.memWf = true := by
  rw [State.bar2Byte]; (repeat' split) <;> (try dsimp only) <;> (repeat' split) <;> simp (maxDischargeDepth := 40) +contextual [hw]

@[simp] theorem State.bar2Bytes_queue (s : State) (x1 : ℕ) (x2 : ℕ) : (State.bar2Bytes s x1 x2).2.queue = s.queue := by
  induction x2 generalizing s x1 with
  | zero => rfl
  | succ n ih => simp [State.bar2Bytes, ih]

@[simp] theorem State.bar2Bytes_wf (s : State) (x1 : ℕ) (x2 : ℕ) (hw : s.memWf = true) : (State.bar2Bytes s x1 x2).2.memWf = true := by
  induction x2 generalizing s x1 <;> simp_all [State.bar2Bytes]

@[simp] theorem State.readFinds_queue (s : State) (g : ℕ) (x2 : List GranuleFind) : (State.readFinds s g x2).queue = s.queue := by
  induction x2 generalizing s g with
  | nil => rfl
  | cons f r ih =>
    rw [State.readFinds.eq_def]
    dsimp only
    rw [ih]
    (repeat' split) <;> simp

@[simp] theorem State.readFinds_wf (s : State) (g : ℕ) (x2 : List GranuleFind) (hw : s.memWf = true) : (State.readFinds s g x2).memWf = true := by
  induction x2 generalizing s g with
  | nil => exact hw
  | cons f r ih =>
    rw [State.readFinds.eq_def]
    dsimp only
    apply ih
    (repeat' split) <;> simp (maxDischargeDepth := 40) [hw]

@[simp] theorem State.completeRead_queue (s : State) (addr : ℕ) (len : ℕ) : (State.completeRead s addr len).queue = s.queue := by
  rw [State.completeRead]; simp [apply_ite State.queue]

@[simp] theorem State.completeRead_wf (s : State) (addr : ℕ) (len : ℕ) (hw : s.memWf = true) : (State.completeRead s addr len).memWf = true := by
  rw [State.completeRead]; simp (maxDischargeDepth := 40) +contextual [hw]

@[simp] theorem State.finishReq_queue (s : State) (r : MemReq) : (State.finishReq s r).queue = s.queue := by
  rw [State.finishReq]; (repeat' split) <;> (try dsimp only) <;> (repeat' split) <;> simp_all

@[simp] theorem State.finishReq_wf (s : State) (r : MemReq) (hw : s.memWf = true) : (State.finishReq s r).memWf = true := by
  rw [State.finishReq]; (repeat' split) <;> (try dsimp only) <;> (repeat' split) <;> simp (maxDischargeDepth := 40) +contextual [hw]

@[simp] theorem State.askReq_queue (s : State) (r : MemReq) : (State.askReq s r).queue = s.queue := by
  rw [State.askReq]; simp [apply_ite State.queue]

@[simp] theorem State.askReq_wf (s : State) (r : MemReq) (hw : s.memWf = true) : (State.askReq s r).memWf = true := by
  rw [State.askReq]; simp (maxDischargeDepth := 40) +contextual [hw]

@[simp] theorem State.serveMem_queue (s : State) (x1 : ℕ) : (State.serveMem s x1).queue = s.queue := by
  induction x1 generalizing s with
  | zero => rfl
  | succ n ih =>
    rw [State.serveMem]
    dsimp only
    split
    · rfl
    · split <;> simp [ih]

@[simp] theorem State.serveMem_wf (s : State) (x1 : ℕ) (hw : s.memWf = true) : (State.serveMem s x1).memWf = true := by
  induction x1 generalizing s with
  | zero => exact hw
  | succ n ih =>
    rw [State.serveMem]
    dsimp only
    split
    · exact hw
    · split
      · apply ih
        simp (maxDischargeDepth := 40) [hw]
      · simp (maxDischargeDepth := 40) [hw]

@[simp] theorem State.serveReqs_queue (s : State) : (State.serveReqs s).queue = s.queue := by
  rw [State.serveReqs]; simp [apply_ite State.queue]

@[simp] theorem State.serveReqs_wf (s : State) (hw : s.memWf = true) : (State.serveReqs s).memWf = true := by
  rw [State.serveReqs]; simp (maxDischargeDepth := 40) +contextual [hw]

theorem execStackTrained_queue (dt : ℕ) (k : Fin 4) (v : Verdict) (s : State) : Res.all (fun t => t.queue = s.queue) (execStackTrained dt k v s) := by
  unfold execStackTrained; (repeat' split) <;> (try dsimp only) <;> (repeat' split) <;> simp_all

theorem execStackTrained_wf (dt : ℕ) (k : Fin 4) (v : Verdict) (s : State) (hw : s.memWf = true) : Res.all (fun t => t.memWf = true) (execStackTrained dt k v s) := by
  unfold execStackTrained; (repeat' split) <;> (try dsimp only) <;> (repeat' split) <;> simp_all (maxDischargeDepth := 40)

theorem execStackTempRead_queue (dt : ℕ) (k : Fin 4) (celsius : ℤ) (s : State) : Res.all (fun t => t.queue = s.queue) (execStackTempRead dt k celsius s) := by
  rw [execStackTempRead]; simp [apply_ite State.queue]

theorem execStackTempRead_wf (dt : ℕ) (k : Fin 4) (celsius : ℤ) (s : State) (hw : s.memWf = true) : Res.all (fun t => t.memWf = true) (execStackTempRead dt k celsius s) := by
  rw [execStackTempRead]; simp (maxDischargeDepth := 40) +contextual [hw]

theorem execRetrainStart_queue (dt : ℕ) (k : Fin 4) (pc : Fin 32) (s : State) : Res.all (fun t => t.queue = s.queue) (execRetrainStart dt k pc s) := by
  rw [execRetrainStart]; (repeat' split) <;> (try dsimp only) <;> (repeat' split) <;> simp_all

theorem execRetrainStart_wf (dt : ℕ) (k : Fin 4) (pc : Fin 32) (s : State) (hw : s.memWf = true) : Res.all (fun t => t.memWf = true) (execRetrainStart dt k pc s) := by
  rw [execRetrainStart]; (repeat' split) <;> (try dsimp only) <;> (repeat' split) <;> simp (maxDischargeDepth := 40) +contextual [hw]

theorem execRetrainEnd_queue (dt : ℕ) (k : Fin 4) (v : Verdict) (s : State) : Res.all (fun t => t.queue = s.queue) (execRetrainEnd dt k v s) := by
  rw [execRetrainEnd]; dsimp only; (repeat' split) <;> simp [apply_ite State.queue]

theorem execRetrainEnd_wf (dt : ℕ) (k : Fin 4) (v : Verdict) (s : State) (hw : s.memWf = true) : Res.all (fun t => t.memWf = true) (execRetrainEnd dt k v s) := by
  rw [execRetrainEnd]; dsimp only; (repeat' split) <;> simp (maxDischargeDepth := 40) +contextual [hw]

@[simp] theorem State.scrubNext_queue (s : State) : (State.scrubNext s).queue = s.queue := by
  rw [State.scrubNext]; simp [apply_ite State.queue]

@[simp] theorem State.scrubNext_wf (s : State) (hw : s.memWf = true) : (State.scrubNext s).memWf = true := by
  rw [State.scrubNext]; simp (maxDischargeDepth := 40) +contextual [hw]

@[simp] theorem State.scrubUnit_queue (s : State) (x1 : ℕ) (finds : List GranuleFind) (bad : List ℕ) (k : ℕ) : (State.scrubUnit s x1 finds bad k).queue = s.queue := by
  rw [State.scrubUnit]; (repeat' split) <;> (try dsimp only) <;> (repeat' split) <;> simp_all

@[simp] theorem State.scrubUnit_wf (s : State) (x1 : ℕ) (finds : List GranuleFind) (bad : List ℕ) (k : ℕ) (hw : s.memWf = true) : (State.scrubUnit s x1 finds bad k).memWf = true := by
  rw [State.scrubUnit]; (repeat' split) <;> (try dsimp only) <;> (repeat' split) <;> simp (maxDischargeDepth := 40) +contextual [hw]

theorem execScrubRow_queue (dt : ℕ) (finds : List GranuleFind) (s : State) : Res.all (fun t => t.queue = s.queue) (execScrubRow dt finds s) := by
  rw [execScrubRow]; dsimp only; (repeat' split) <;> simp [apply_ite State.queue]

theorem execScrubRow_wf (dt : ℕ) (finds : List GranuleFind) (s : State) (hw : s.memWf = true) : Res.all (fun t => t.memWf = true) (execScrubRow dt finds s) := by
  rw [execScrubRow]; dsimp only; (repeat' split) <;> simp (maxDischargeDepth := 40) +contextual [hw]

theorem execCaParityAlert_queue (dt : ℕ) (k : Fin 4) (failures : ℕ) (s : State) : Res.all (fun t => t.queue = s.queue) (execCaParityAlert dt k failures s) := by
  rw [execCaParityAlert]; dsimp only; (repeat' split) <;> simp [apply_ite State.queue]

theorem execCaParityAlert_wf (dt : ℕ) (k : Fin 4) (failures : ℕ) (s : State) (hw : s.memWf = true) : Res.all (fun t => t.memWf = true) (execCaParityAlert dt k failures s) := by
  rw [execCaParityAlert]; dsimp only; (repeat' split) <;> simp (maxDischargeDepth := 40) +contextual [hw]

theorem execReadParityError_queue (dt : ℕ) (k : Fin 4) (rd : SlotRead) (failures : ℕ) (s : State) : Res.all (fun t => t.queue = s.queue) (execReadParityError dt k rd failures s) := by
  rw [execReadParityError]; dsimp only; (repeat' split) <;> simp [apply_ite State.queue]

theorem execReadParityError_wf (dt : ℕ) (k : Fin 4) (rd : SlotRead) (failures : ℕ) (s : State) (hw : s.memWf = true) : Res.all (fun t => t.memWf = true) (execReadParityError dt k rd failures s) := by
  rw [execReadParityError]; dsimp only; (repeat' split) <;> simp (maxDischargeDepth := 40) +contextual [hw]

theorem execUncorrectableRead_queue (dt : ℕ) (k : Fin 4) (rd : SlotRead) (others : List (Fin 4)) (s : State) : Res.all (fun t => t.queue = s.queue) (execUncorrectableRead dt k rd others s) := by
  rw [execUncorrectableRead]; (repeat' split) <;> (try dsimp only) <;> (repeat' split) <;> simp_all

theorem execUncorrectableRead_wf (dt : ℕ) (k : Fin 4) (rd : SlotRead) (others : List (Fin 4)) (s : State) (hw : s.memWf = true) : Res.all (fun t => t.memWf = true) (execUncorrectableRead dt k rd others s) := by
  rw [execUncorrectableRead]; (repeat' split) <;> (try dsimp only) <;> (repeat' split) <;> simp (maxDischargeDepth := 40) +contextual [hw]

@[simp] theorem State.doMemFail_queue (s : State) (k : ℕ) : (State.doMemFail s k).queue = s.queue := by
  rw [State.doMemFail]; simp [apply_ite State.queue]

@[simp] theorem State.doMemFail_wf (s : State) (k : ℕ) (hw : s.memWf = true) : (State.doMemFail s k).memWf = true := by
  rw [State.doMemFail]; simp (maxDischargeDepth := 40) +contextual [hw]

theorem execMemFail_queue (dt : ℕ) (k : Fin 4) (s : State) : Res.all (fun t => t.queue = s.queue) (execMemFail dt k s) := by
  rw [execMemFail]; simp [apply_ite State.queue]

theorem execMemFail_wf (dt : ℕ) (k : Fin 4) (s : State) (hw : s.memWf = true) : Res.all (fun t => t.memWf = true) (execMemFail dt k s) := by
  rw [execMemFail]; simp (maxDischargeDepth := 40) +contextual [hw]

@[simp] theorem State.doMemClr_queue (s : State) (k : ℕ) : (State.doMemClr s k).queue = s.queue := by
  rw [State.doMemClr]; simp [apply_ite State.queue]

@[simp] theorem State.doMemClr_wf (s : State) (k : ℕ) (hw : s.memWf = true) : (State.doMemClr s k).memWf = true := by
  rw [State.doMemClr]; simp (maxDischargeDepth := 40) +contextual [hw]

theorem execMemClr_queue (dt : ℕ) (k : Fin 4) (s : State) : Res.all (fun t => t.queue = s.queue) (execMemClr dt k s) := by
  rw [execMemClr]; simp [apply_ite State.queue]

theorem execMemClr_wf (dt : ℕ) (k : Fin 4) (s : State) (hw : s.memWf = true) : Res.all (fun t => t.memWf = true) (execMemClr dt k s) := by
  rw [execMemClr]; simp (maxDischargeDepth := 40) +contextual [hw]

@[simp] theorem State.doRegulator_queue (s : State) (p : ℕ) (burst : Bool) (w : Word) : (State.doRegulator s p burst w).queue = s.queue := by
  rw [State.doRegulator]; simp [apply_ite State.queue]

@[simp] theorem State.doRegulator_wf (s : State) (p : ℕ) (burst : Bool) (w : Word) (hw : s.memWf = true) : (State.doRegulator s p burst w).memWf = true := by
  rw [State.doRegulator]; simp (maxDischargeDepth := 40) +contextual [hw]

theorem execRegulatorWrite_queue (dt : ℕ) (rq : Requester) (port : Fin 25) (burst : Bool) (value : Word) (s : State) : Res.all (fun t => t.queue = s.queue) (execRegulatorWrite dt rq port burst value s) := by
  rw [execRegulatorWrite]; apply State.hostWrite_queue (by simp); intro u hu; (try dsimp only); (repeat' split) <;> simp [hu]

theorem execRegulatorWrite_wf (dt : ℕ) (rq : Requester) (port : Fin 25) (burst : Bool) (value : Word) (s : State) (hw : s.memWf = true) : Res.all (fun t => t.memWf = true) (execRegulatorWrite dt rq port burst value s) := by
  rw [execRegulatorWrite]; apply State.hostWrite_wf (by simp [hw]); intro u hu; (try dsimp only); (repeat' split) <;> simp (maxDischargeDepth := 40) +contextual [hu]

theorem execBar2Read_queue (dt : ℕ) (rq : Requester) (at_ : Span) (finds : List GranuleFind) (s : State) : Res.all (fun t => t.queue = s.queue) (execBar2Read dt rq at_ finds s) := by
  unfold execBar2Read; (repeat' split) <;> (try dsimp only) <;> (repeat' split) <;> simp_all

theorem execBar2Read_wf (dt : ℕ) (rq : Requester) (at_ : Span) (finds : List GranuleFind) (s : State) (hw : s.memWf = true) : Res.all (fun t => t.memWf = true) (execBar2Read dt rq at_ finds s) := by
  unfold execBar2Read; (repeat' split) <;> (try dsimp only) <;> (repeat' split) <;> simp_all (maxDischargeDepth := 40)

theorem execBar2Write_queue (dt : ℕ) (rq : Requester) (_addr : ℕ) (_len : ℕ) (s : State) : Res.all (fun t => t.queue = s.queue) (execBar2Write dt rq _addr _len s) := by
  unfold execBar2Write; (repeat' split) <;> (try dsimp only) <;> (repeat' split) <;> simp_all

theorem execBar2Write_wf (dt : ℕ) (rq : Requester) (_addr : ℕ) (_len : ℕ) (s : State) (hw : s.memWf = true) : Res.all (fun t => t.memWf = true) (execBar2Write dt rq _addr _len s) := by
  unfold execBar2Write; (repeat' split) <;> (try dsimp only) <;> (repeat' split) <;> simp_all (maxDischargeDepth := 40)

/-! ### Deliver -/

@[simp] theorem State.emitRuns_queue (s : State) (runs : List (ℕ × List Byte)) : (State.emitRuns s runs).queue = s.queue := by
  rw [State.emitRuns]; simp [apply_ite State.queue]

@[simp] theorem State.emitRuns_wf (s : State) (runs : List (ℕ × List Byte)) (hw : s.memWf = true) : (State.emitRuns s runs).memWf = true := by
  rw [State.emitRuns]; simp (maxDischargeDepth := 40) +contextual [hw]

@[simp] theorem State.emitReads_queue (s : State) (x1 : ℕ) (len : ℕ) : (State.emitReads s x1 len).queue = s.queue := by
  rw [State.emitReads]; simp [apply_ite State.queue]

@[simp] theorem State.emitReads_wf (s : State) (x1 : ℕ) (len : ℕ) (hw : s.memWf = true) : (State.emitReads s x1 len).memWf = true := by
  rw [State.emitReads]; simp (maxDischargeDepth := 40) +contextual [hw]

@[simp] theorem State.emitFlush_queue (s : State) (runs : List (ℕ × List Byte)) : (State.emitFlush s runs).queue = s.queue := by
  rw [State.emitFlush]; (repeat' split) <;> (try dsimp only) <;> (repeat' split) <;> simp_all

@[simp] theorem State.emitFlush_wf (s : State) (runs : List (ℕ × List Byte)) (hw : s.memWf = true) : (State.emitFlush s runs).memWf = true := by
  rw [State.emitFlush]; (repeat' split) <;> (try dsimp only) <;> (repeat' split) <;> simp (maxDischargeDepth := 40) +contextual [hw]

@[simp] theorem State.freeBytes_queue (s : State) (x1 : ℕ) : (State.freeBytes s x1).2.queue = s.queue := by
  induction x1 generalizing s with
  | zero => rfl
  | succ n ih => simp [State.freeBytes, ih]

@[simp] theorem State.freeBytes_wf (s : State) (x1 : ℕ) (hw : s.memWf = true) : (State.freeBytes s x1).2.memWf = true := by
  induction x1 generalizing s <;> simp_all [State.freeBytes]

/-! ### Blocks -/

@[simp] theorem State.blockRefused_queue (s : State) : (State.blockRefused s).queue = s.queue := by
  rw [State.blockRefused]; simp [apply_ite State.queue]

@[simp] theorem State.blockRefused_wf (s : State) (hw : s.memWf = true) : (State.blockRefused s).memWf = true := by
  rw [State.blockRefused]; simp (maxDischargeDepth := 40) +contextual [hw]

/-! ### Calib -/

@[simp] theorem State.putTrim_queue (s : State) (b : ℕ) (k : ℕ) (off : ℤ) (gain : ℤ) (skew : ℤ) (thr : ℤ) : (State.putTrim s b k off gain skew thr).queue = s.queue := by
  rw [State.putTrim]; simp [apply_ite State.queue]

@[simp] theorem State.putTrim_wf (s : State) (b : ℕ) (k : ℕ) (off : ℤ) (gain : ℤ) (skew : ℤ) (thr : ℤ) (hw : s.memWf = true) : (State.putTrim s b k off gain skew thr).memWf = true := by
  rw [State.putTrim]; simp (maxDischargeDepth := 40) +contextual [hw]

@[simp] theorem State.putCorr_queue (s : State) (b : ℕ) (vals : List (ℕ × ℤ)) : (State.putCorr s b vals).queue = s.queue := by
  rw [State.putCorr]; simp [apply_ite State.queue]

@[simp] theorem State.putCorr_wf (s : State) (b : ℕ) (vals : List (ℕ × ℤ)) (hw : s.memWf = true) : (State.putCorr s b vals).memWf = true := by
  rw [State.putCorr]; simp (maxDischargeDepth := 40) +contextual [hw]

@[simp] theorem State.loadTrims_queue (s : State) (b : ℕ) : (State.loadTrims s b).queue = s.queue := by
  rw [State.loadTrims]; simp [apply_ite State.queue]

@[simp] theorem State.loadTrims_wf (s : State) (b : ℕ) (hw : s.memWf = true) : (State.loadTrims s b).memWf = true := by
  rw [State.loadTrims]; simp (maxDischargeDepth := 40) +contextual [hw]

@[simp] theorem State.becomePending_queue (s : State) (b : ℕ) (forced : Bool) : (State.becomePending s b forced).queue = s.queue := by
  rw [State.becomePending]; simp [apply_ite State.queue]

@[simp] theorem State.becomePending_wf (s : State) (b : ℕ) (forced : Bool) (hw : s.memWf = true) : (State.becomePending s b forced).memWf = true := by
  rw [State.becomePending]; simp (maxDischargeDepth := 40) +contextual [hw]

@[simp] theorem State.driftCheck_queue (s : State) (banks : List ℕ) : (State.driftCheck s banks).queue = s.queue := by
  rw [State.driftCheck]; simp [apply_ite State.queue]

@[simp] theorem State.driftCheck_wf (s : State) (banks : List ℕ) (hw : s.memWf = true) : (State.driftCheck s banks).memWf = true := by
  rw [State.driftCheck]; simp (maxDischargeDepth := 40) +contextual [hw]

theorem execTileTempSample_queue (dt : ℕ) (t : Fin 4) (raw : ℤ) (s : State) : Res.all (fun t => t.queue = s.queue) (execTileTempSample dt t raw s) := by
  rw [execTileTempSample]; simp [apply_ite State.queue]

theorem execTileTempSample_wf (dt : ℕ) (t : Fin 4) (raw : ℤ) (s : State) (hw : s.memWf = true) : Res.all (fun t => t.memWf = true) (execTileTempSample dt t raw s) := by
  rw [execTileTempSample]; simp (maxDischargeDepth := 40) +contextual [hw]

@[simp] theorem State.doCalRun_queue (s : State) (banks : ℕ) : (State.doCalRun s banks).queue = s.queue := by
  rw [State.doCalRun]; simp [apply_ite State.queue]

@[simp] theorem State.doCalRun_wf (s : State) (banks : ℕ) (hw : s.memWf = true) : (State.doCalRun s banks).memWf = true := by
  rw [State.doCalRun]; simp (maxDischargeDepth := 40) +contextual [hw]

theorem execCalRunRequest_queue (dt : ℕ) (rq : Requester) (value : Word) (s : State) : Res.all (fun t => t.queue = s.queue) (execCalRunRequest dt rq value s) := by
  rw [execCalRunRequest]; apply State.hostWrite_queue (by simp); intro u hu; (try dsimp only); (repeat' split) <;> simp [hu]

theorem execCalRunRequest_wf (dt : ℕ) (rq : Requester) (value : Word) (s : State) (hw : s.memWf = true) : Res.all (fun t => t.memWf = true) (execCalRunRequest dt rq value s) := by
  rw [execCalRunRequest]; apply State.hostWrite_wf (by simp [hw]); intro u hu; (try dsimp only); (repeat' split) <;> simp (maxDischargeDepth := 40) +contextual [hu]

@[simp] theorem State.doCalDefer_queue (s : State) (v : ℕ) : (State.doCalDefer s v).queue = s.queue := by
  rw [State.doCalDefer]; simp [apply_ite State.queue]

@[simp] theorem State.doCalDefer_wf (s : State) (v : ℕ) (hw : s.memWf = true) : (State.doCalDefer s v).memWf = true := by
  rw [State.doCalDefer]; simp (maxDischargeDepth := 40) +contextual [hw]

theorem execCalDeferWrite_queue (dt : ℕ) (rq : Requester) (value : Word) (s : State) : Res.all (fun t => t.queue = s.queue) (execCalDeferWrite dt rq value s) := by
  rw [execCalDeferWrite]; apply State.hostWrite_queue (by simp); intro u hu; (try dsimp only); (repeat' split) <;> simp [hu]

theorem execCalDeferWrite_wf (dt : ℕ) (rq : Requester) (value : Word) (s : State) (hw : s.memWf = true) : Res.all (fun t => t.memWf = true) (execCalDeferWrite dt rq value s) := by
  rw [execCalDeferWrite]; apply State.hostWrite_wf (by simp [hw]); intro u hu; (try dsimp only); (repeat' split) <;> simp (maxDischargeDepth := 40) +contextual [hu]

theorem execCalDeferExpiry_queue (dt : ℕ) (b : Fin 16) (s : State) : Res.all (fun t => t.queue = s.queue) (execCalDeferExpiry dt b s) := by
  rw [execCalDeferExpiry]; (repeat' split) <;> (try dsimp only) <;> (repeat' split) <;> simp_all

theorem execCalDeferExpiry_wf (dt : ℕ) (b : Fin 16) (s : State) (hw : s.memWf = true) : Res.all (fun t => t.memWf = true) (execCalDeferExpiry dt b s) := by
  rw [execCalDeferExpiry]; (repeat' split) <;> (try dsimp only) <;> (repeat' split) <;> simp (maxDischargeDepth := 40) +contextual [hw]

theorem execCalRunStart_queue (dt : ℕ) (s : State) : Res.all (fun t => t.queue = s.queue) (execCalRunStart dt s) := by
  rw [execCalRunStart]; dsimp only; (repeat' split) <;> simp [apply_ite State.queue]

theorem execCalRunStart_wf (dt : ℕ) (s : State) (hw : s.memWf = true) : Res.all (fun t => t.memWf = true) (execCalRunStart dt s) := by
  rw [execCalRunStart]; dsimp only; (repeat' split) <;> simp (maxDischargeDepth := 40) +contextual [hw]

@[simp] theorem State.closeRun_queue (s : State) (b : ℕ) : (State.closeRun s b).queue = s.queue := by
  rw [State.closeRun]; simp [apply_ite State.queue]

@[simp] theorem State.closeRun_wf (s : State) (b : ℕ) (hw : s.memWf = true) : (State.closeRun s b).memWf = true := by
  rw [State.closeRun]; simp (maxDischargeDepth := 40) +contextual [hw]

@[simp] theorem State.reloadDone_queue (s : State) : (State.reloadDone s).queue = s.queue := by
  rw [State.reloadDone]; simp [apply_ite State.queue]

@[simp] theorem State.reloadDone_wf (s : State) (hw : s.memWf = true) : (State.reloadDone s).memWf = true := by
  rw [State.reloadDone]; simp (maxDischargeDepth := 40) +contextual [hw]

theorem execCalRunEnd_queue (dt : ℕ) (rcalOk : Bool) (toneOk : Bool) (trims : List (List ℤ)) (corrections : List (List ℤ)) (s : State) : Res.all (fun t => t.queue = s.queue) (execCalRunEnd dt rcalOk toneOk trims corrections s) := by
  rw [execCalRunEnd]; dsimp only; (repeat' split) <;> simp [apply_ite State.queue]

theorem execCalRunEnd_wf (dt : ℕ) (rcalOk : Bool) (toneOk : Bool) (trims : List (List ℤ)) (corrections : List (List ℤ)) (s : State) (hw : s.memWf = true) : Res.all (fun t => t.memWf = true) (execCalRunEnd dt rcalOk toneOk trims corrections s) := by
  rw [execCalRunEnd]; dsimp only; (repeat' split) <;> simp (maxDischargeDepth := 40) +contextual [hw]

@[simp] theorem State.abortRun_queue (s : State) (again : Bool) : (State.abortRun s again).queue = s.queue := by
  rw [State.abortRun]; dsimp only; (repeat' split) <;> simp [apply_ite State.queue]

@[simp] theorem State.abortRun_wf (s : State) (again : Bool) (hw : s.memWf = true) : (State.abortRun s again).memWf = true := by
  rw [State.abortRun]; dsimp only; (repeat' split) <;> simp (maxDischargeDepth := 40) +contextual [hw]

@[simp] theorem State.doSeason_queue (s : State) (erase : Bool) : (State.doSeason s erase).queue = s.queue := by
  rw [State.doSeason]; simp [apply_ite State.queue]

@[simp] theorem State.doSeason_wf (s : State) (erase : Bool) (hw : s.memWf = true) : (State.doSeason s erase).memWf = true := by
  rw [State.doSeason]; simp (maxDischargeDepth := 40) +contextual [hw]

theorem execSeasonSave_queue (dt : ℕ) (s : State) : Res.all (fun t => t.queue = s.queue) (execSeasonSave dt s) := by
  rw [execSeasonSave]; simp [apply_ite State.queue]

theorem execSeasonSave_wf (dt : ℕ) (s : State) (hw : s.memWf = true) : Res.all (fun t => t.memWf = true) (execSeasonSave dt s) := by
  rw [execSeasonSave]; simp (maxDischargeDepth := 40) +contextual [hw]

theorem execSeasonErase_queue (dt : ℕ) (s : State) : Res.all (fun t => t.queue = s.queue) (execSeasonErase dt s) := by
  rw [execSeasonErase]; simp [apply_ite State.queue]

theorem execSeasonErase_wf (dt : ℕ) (s : State) (hw : s.memWf = true) : Res.all (fun t => t.memWf = true) (execSeasonErase dt s) := by
  rw [execSeasonErase]; simp (maxDischargeDepth := 40) +contextual [hw]

@[simp] theorem State.abandonSeason_queue (s : State) : (State.abandonSeason s).queue = s.queue := by
  rw [State.abandonSeason]; simp [apply_ite State.queue]

@[simp] theorem State.abandonSeason_wf (s : State) (hw : s.memWf = true) : (State.abandonSeason s).memWf = true := by
  rw [State.abandonSeason]; simp (maxDischargeDepth := 40) +contextual [hw]

theorem execSeasonWriteComplete_queue (dt : ℕ) (v : Verdict) (s : State) : Res.all (fun t => t.queue = s.queue) (execSeasonWriteComplete dt v s) := by
  unfold execSeasonWriteComplete; (repeat' split) <;> (try dsimp only) <;> (repeat' split) <;> simp_all

theorem execSeasonWriteComplete_wf (dt : ℕ) (v : Verdict) (s : State) (hw : s.memWf = true) : Res.all (fun t => t.memWf = true) (execSeasonWriteComplete dt v s) := by
  unfold execSeasonWriteComplete; (repeat' split) <;> (try dsimp only) <;> (repeat' split) <;> simp_all (maxDischargeDepth := 40)

end Sys2Proof.Machine
end

