-- ==== Sys2Proof/Laws/KeepHarvest.lean ====
section
/-! SUPPORT. What Harvest, intervals, triggers, fault commands, the Lantern, reads and converters keep: the queue of waiting commands, and the canonical form of every store. -/

namespace Sys2Proof.Machine

/-! ### Harvest -/

@[simp] theorem State.lwrite_queue (s : State) (e : ℕ) (x2 : ℕ) (bs : List Byte) : (State.lwrite s e x2 bs).queue = s.queue := by
  rw [State.lwrite]; simp [apply_ite State.queue]

@[simp] theorem State.lwrite_wf (s : State) (e : ℕ) (x2 : ℕ) (bs : List Byte) (hw : s.memWf = true) : (State.lwrite s e x2 bs).memWf = true := by
  rw [State.lwrite]; simp (maxDischargeDepth := 40) +contextual [hw]

@[simp] theorem State.wr64_queue (s : State) (off : ℕ) (v : ℕ) : (State.wr64 s off v).queue = s.queue := by
  rw [State.wr64]; simp [apply_ite State.queue]

@[simp] theorem State.wr64_wf (s : State) (off : ℕ) (v : ℕ) (hw : s.memWf = true) : (State.wr64 s off v).memWf = true := by
  rw [State.wr64]; simp (maxDischargeDepth := 40) +contextual [hw]

@[simp] theorem State.engineMsg_queue (s : State) (e : ℕ) : (State.engineMsg s e).queue = s.queue := by
  rw [State.engineMsg]; simp [apply_ite State.queue]

@[simp] theorem State.engineMsg_wf (s : State) (e : ℕ) (hw : s.memWf = true) : (State.engineMsg s e).memWf = true := by
  rw [State.engineMsg]; simp (maxDischargeDepth := 40) +contextual [hw]

@[simp] theorem State.writeCompletion_queue (s : State) (e : ℕ) (ch : ℕ) (tag : ℕ) (x : Ended) : (State.writeCompletion s e ch tag x).queue = s.queue := by
  rw [State.writeCompletion]; simp [apply_ite State.queue]

@[simp] theorem State.writeCompletion_wf (s : State) (e : ℕ) (ch : ℕ) (tag : ℕ) (x : Ended) (hw : s.memWf = true) : (State.writeCompletion s e ch tag x).memWf = true := by
  rw [State.writeCompletion]; simp (maxDischargeDepth := 40) +contextual [hw]

@[simp] theorem State.leaveStream_queue (s : State) (e : ℕ) : (State.leaveStream s e).queue = s.queue := by
  rw [State.leaveStream]; simp [apply_ite State.queue]

@[simp] theorem State.leaveStream_wf (s : State) (e : ℕ) (hw : s.memWf = true) : (State.leaveStream s e).memWf = true := by
  rw [State.leaveStream]; simp (maxDischargeDepth := 40) +contextual [hw]

@[simp] theorem State.freeEngine_queue (s : State) (e : ℕ) (j : HJob) : (State.freeEngine s e j).queue = s.queue := by
  rw [State.freeEngine]; simp [apply_ite State.queue]

@[simp] theorem State.freeEngine_wf (s : State) (e : ℕ) (j : HJob) (hw : s.memWf = true) : (State.freeEngine s e j).memWf = true := by
  rw [State.freeEngine]; simp (maxDischargeDepth := 40) +contextual [hw]

@[simp] theorem State.spoilDest_queue (s : State) (j : HJob) : (State.spoilDest s j).queue = s.queue := by
  rw [State.spoilDest]; simp [apply_ite State.queue]

@[simp] theorem State.spoilDest_wf (s : State) (j : HJob) (hw : s.memWf = true) : (State.spoilDest s j).memWf = true := by
  rw [State.spoilDest]; simp (maxDischargeDepth := 40) +contextual [hw]

@[simp] theorem State.lostLink_queue (s : State) (e : ℕ) (j : HJob) : (State.lostLink s e j).queue = s.queue := by
  rw [State.lostLink]; simp [apply_ite State.queue]

@[simp] theorem State.lostLink_wf (s : State) (e : ℕ) (j : HJob) (hw : s.memWf = true) : (State.lostLink s e j).memWf = true := by
  rw [State.lostLink]; simp (maxDischargeDepth := 40) +contextual [hw]

@[simp] theorem State.waitAt_queue (s : State) (e : ℕ) (j : HJob) : (State.waitAt s e j).queue = s.queue := by
  rw [State.waitAt]; simp [apply_ite State.queue]

@[simp] theorem State.waitAt_wf (s : State) (e : ℕ) (j : HJob) (hw : s.memWf = true) : (State.waitAt s e j).memWf = true := by
  rw [State.waitAt]; simp (maxDischargeDepth := 40) +contextual [hw]

@[simp] theorem State.record_queue (s : State) (e : ℕ) (j : HJob) (x : Ended) : (State.record s e j x).1.queue = s.queue := by
  rw [State.record]; dsimp only; (repeat' split) <;> simp [apply_ite State.queue]

@[simp] theorem State.record_wf (s : State) (e : ℕ) (j : HJob) (x : Ended) (hw : s.memWf = true) : (State.record s e j x).1.memWf = true := by
  rw [State.record]; dsimp only; (repeat' split) <;> simp (maxDischargeDepth := 40) +contextual [hw]

@[simp] theorem State.haltRegs_queue (s : State) (e : ℕ) (ch : ℕ) (status : ℕ) (addr : ℕ) : (State.haltRegs s e ch status addr).queue = s.queue := by
  rw [State.haltRegs]
  rw [State.fault_queue, State.inc_queue]
  split <;> simp

@[simp] theorem State.haltRegs_wf (s : State) (e : ℕ) (ch : ℕ) (status : ℕ) (addr : ℕ) (hw : s.memWf = true) : (State.haltRegs s e ch status addr).memWf = true := by
  rw [State.haltRegs]; simp (maxDischargeDepth := 40) +contextual [hw]

@[simp] theorem State.fetchAt_queue (s : State) (e : ℕ) (ch : ℕ) (x3 : ℕ) : (State.fetchAt s e ch x3).queue = s.queue := by
  rw [State.fetchAt]; simp [apply_ite State.queue]

@[simp] theorem State.fetchAt_wf (s : State) (e : ℕ) (ch : ℕ) (x3 : ℕ) (hw : s.memWf = true) : (State.fetchAt s e ch x3).memWf = true := by
  rw [State.fetchAt]; simp (maxDischargeDepth := 40) +contextual [hw]

@[simp] theorem State.endCounts_queue (s : State) (e : ℕ) (j : HJob) (x : Ended) (errAddr : ℕ) : (State.endCounts s e j x errAddr).queue = s.queue := by
  rw [State.endCounts]; simp [apply_ite State.queue]

@[simp] theorem State.endCounts_wf (s : State) (e : ℕ) (j : HJob) (x : Ended) (errAddr : ℕ) (hw : s.memWf = true) : (State.endCounts s e j x errAddr).memWf = true := by
  rw [State.endCounts]; simp (maxDischargeDepth := 40) +contextual [hw]

theorem State.endings_queue (k : Nat) :
    (∀ (s : State) e j x a n, (State.endDesc s e j x a n k).queue = s.queue)
    ∧ (∀ (s : State) e j x n, (State.settle s e j x n k).queue = s.queue)
    ∧ (∀ (s : State) e j n, (State.reread s e j n k).queue = s.queue) := by
  induction k with
  | zero => simp [State.endDesc, State.settle, State.reread]
  | succ k ih =>
    obtain ⟨h1, h2, h3⟩ := ih
    refine ⟨fun s e j x a n => by simp [State.endDesc, h2], fun s e j x n => ?_, fun s e j n => ?_⟩
    · unfold State.settle
      dsimp only
      (repeat' split) <;> simp [h3]
    · unfold State.reread
      dsimp only
      (repeat' split) <;> simp [h1]

@[simp] theorem State.endDesc_queue (s : State) (e : Nat) (j : HJob) (x : Ended) (a : Nat) (n : Option Nat) (k : Nat) :
    (State.endDesc s e j x a n k).queue = s.queue := (State.endings_queue k).1 s e j x a n

@[simp] theorem State.settle_queue (s : State) (e : Nat) (j : HJob) (x : Ended) (n : Option Nat) (k : Nat) :
    (State.settle s e j x n k).queue = s.queue := (State.endings_queue k).2.1 s e j x n

@[simp] theorem State.reread_queue (s : State) (e : Nat) (j : HJob) (n : Option Nat) (k : Nat) :
    (State.reread s e j n k).queue = s.queue := (State.endings_queue k).2.2 s e j n

theorem State.endings_wf (k : Nat) :
    (∀ (s : State) e j x a n, s.memWf = true → (State.endDesc s e j x a n k).memWf = true)
    ∧ (∀ (s : State) e j x n, s.memWf = true → (State.settle s e j x n k).memWf = true)
    ∧ (∀ (s : State) e j n, s.memWf = true → (State.reread s e j n k).memWf = true) := by
  induction k with
  | zero => simp +contextual [State.endDesc, State.settle, State.reread]
  | succ k ih =>
    obtain ⟨h1, h2, h3⟩ := ih
    refine ⟨fun s e j x a n h => by simp (maxDischargeDepth := 40) [State.endDesc, h2, h], fun s e j x n h => ?_, fun s e j n h => ?_⟩
    · unfold State.settle
      dsimp only
      (repeat' split) <;> simp (maxDischargeDepth := 40) [h3, h]
    · unfold State.reread
      dsimp only
      (repeat' split) <;> simp (maxDischargeDepth := 40) [h1, h]

@[simp] theorem State.endDesc_wf (s : State) (e : Nat) (j : HJob) (x : Ended) (a : Nat) (n : Option Nat) (k : Nat) (h : s.memWf = true) :
    (State.endDesc s e j x a n k).memWf = true := (State.endings_wf k).1 s e j x a n h

@[simp] theorem State.settle_wf (s : State) (e : Nat) (j : HJob) (x : Ended) (n : Option Nat) (k : Nat) (h : s.memWf = true) :
    (State.settle s e j x n k).memWf = true := (State.endings_wf k).2.1 s e j x n h

@[simp] theorem State.reread_wf (s : State) (e : Nat) (j : HJob) (n : Option Nat) (k : Nat) (h : s.memWf = true) :
    (State.reread s e j n k).memWf = true := (State.endings_wf k).2.2 s e j n h





@[simp] theorem State.doDoorbell_queue (s : State) (e : ℕ) (ch : ℕ) : (State.doDoorbell s e ch).queue = s.queue := by
  rw [State.doDoorbell]; simp [apply_ite State.queue]

@[simp] theorem State.doDoorbell_wf (s : State) (e : ℕ) (ch : ℕ) (hw : s.memWf = true) : (State.doDoorbell s e ch).memWf = true := by
  rw [State.doDoorbell]; simp (maxDischargeDepth := 40) +contextual [hw]

theorem execHarvestDoorbell_queue (dt : ℕ) (e : Fin 5) (c : Fin 64) (s : State) : Res.all (fun t => t.queue = s.queue) (execHarvestDoorbell dt e c s) := by
  rw [execHarvestDoorbell]; simp [apply_ite State.queue]

theorem execHarvestDoorbell_wf (dt : ℕ) (e : Fin 5) (c : Fin 64) (s : State) (hw : s.memWf = true) : Res.all (fun t => t.memWf = true) (execHarvestDoorbell dt e c s) := by
  rw [execHarvestDoorbell]; simp (maxDischargeDepth := 40) +contextual [hw]

@[simp] theorem State.takeChannel_queue (s : State) (e : ℕ) (ch : ℕ) (next : ℕ) : (State.takeChannel s e ch next).queue = s.queue := by
  rw [State.takeChannel]; dsimp only; (repeat' split) <;> simp [apply_ite State.queue]

@[simp] theorem State.takeChannel_wf (s : State) (e : ℕ) (ch : ℕ) (next : ℕ) (hw : s.memWf = true) : (State.takeChannel s e ch next).memWf = true := by
  rw [State.takeChannel]; dsimp only; (repeat' split) <;> simp (maxDischargeDepth := 40) +contextual [hw]

theorem execEngineTakeChannel_queue (dt : ℕ) (e : Fin 5) (next : ℕ) (s : State) : Res.all (fun t => t.queue = s.queue) (execEngineTakeChannel dt e next s) := by
  rw [execEngineTakeChannel]; (repeat' split) <;> (try dsimp only) <;> (repeat' split) <;> simp_all

theorem execEngineTakeChannel_wf (dt : ℕ) (e : Fin 5) (next : ℕ) (s : State) (hw : s.memWf = true) : Res.all (fun t => t.memWf = true) (execEngineTakeChannel dt e next s) := by
  rw [execEngineTakeChannel]; (repeat' split) <;> (try dsimp only) <;> (repeat' split) <;> simp (maxDischargeDepth := 40) +contextual [hw]

@[simp] theorem State.ringMoved_queue (s : State) (j : HJob) (n : ℕ) : (State.ringMoved s j n).queue = s.queue := by
  rw [State.ringMoved]; simp [apply_ite State.queue]

@[simp] theorem State.ringMoved_wf (s : State) (j : HJob) (n : ℕ) (hw : s.memWf = true) : (State.ringMoved s j n).memWf = true := by
  rw [State.ringMoved]; simp (maxDischargeDepth := 40) +contextual [hw]

@[simp] theorem State.beginDesc_queue (s : State) (e : ℕ) (j : HJob) : (State.beginDesc s e j).queue = s.queue := by
  rw [State.beginDesc]; simp [apply_ite State.queue]

@[simp] theorem State.beginDesc_wf (s : State) (e : ℕ) (j : HJob) (hw : s.memWf = true) : (State.beginDesc s e j).memWf = true := by
  rw [State.beginDesc]; simp (maxDischargeDepth := 40) +contextual [hw]

theorem execDescriptorFetch_queue (dt : ℕ) (e : Fin 5) (bytes : List Byte) (s : State) : Res.all (fun t => t.queue = s.queue) (execDescriptorFetch dt e bytes s) := by
  rw [execDescriptorFetch]; dsimp only; (repeat' split) <;> simp [apply_ite State.queue]

theorem execDescriptorFetch_wf (dt : ℕ) (e : Fin 5) (bytes : List Byte) (s : State) (hw : s.memWf = true) : Res.all (fun t => t.memWf = true) (execDescriptorFetch dt e bytes s) := by
  rw [execDescriptorFetch]; dsimp only; (repeat' split) <;> simp (maxDischargeDepth := 40) +contextual [hw]

@[simp] theorem State.haulGranules_queue (s : State) (j : HJob) (strict : Bool) : (State.haulGranules s j strict).2.queue = s.queue := by
  rw [State.haulGranules]; simp [apply_ite State.queue]

@[simp] theorem State.haulGranules_wf (s : State) (j : HJob) (strict : Bool) (hw : s.memWf = true) : (State.haulGranules s j strict).2.memWf = true := by
  rw [State.haulGranules]; simp (maxDischargeDepth := 40) +contextual [hw]

@[simp] theorem State.haulReshuffle_queue (s : State) (j : HJob) (strict : Bool) : (State.haulReshuffle s j strict).2.queue = s.queue := by
  rw [State.haulReshuffle]; dsimp only; (repeat' split) <;> simp [apply_ite State.queue]

@[simp] theorem State.haulReshuffle_wf (s : State) (j : HJob) (strict : Bool) (hw : s.memWf = true) : (State.haulReshuffle s j strict).2.memWf = true := by
  rw [State.haulReshuffle]; dsimp only; (repeat' split) <;> simp (maxDischargeDepth := 40) +contextual [hw]

@[simp] theorem State.haul_queue (s : State) (j : HJob) : (State.haul s j).2.queue = s.queue := by
  rw [State.haul]; (repeat' split) <;> (try dsimp only) <;> (repeat' split) <;> simp_all

@[simp] theorem State.haul_wf (s : State) (j : HJob) (hw : s.memWf = true) : (State.haul s j).2.memWf = true := by
  rw [State.haul]; (repeat' split) <;> (try dsimp only) <;> (repeat' split) <;> simp (maxDischargeDepth := 40) +contextual [hw]

@[simp] theorem State.deliverHost_queue (s : State) (j : HJob) (h : Haul) : (State.deliverHost s j h).queue = s.queue := by
  rw [State.deliverHost]; simp [apply_ite State.queue]

@[simp] theorem State.deliverHost_wf (s : State) (j : HJob) (h : Haul) (hw : s.memWf = true) : (State.deliverHost s j h).memWf = true := by
  rw [State.deliverHost]; simp (maxDischargeDepth := 40) +contextual [hw]

@[simp] theorem State.deliverDevice_queue (s : State) (j : HJob) (bytes : List Byte) (next : Option ℕ) : (State.deliverDevice s j bytes next).queue = s.queue := by
  rw [State.deliverDevice]; dsimp only; (repeat' split) <;> simp [apply_ite State.queue]

@[simp] theorem State.deliverDevice_wf (s : State) (j : HJob) (bytes : List Byte) (next : Option ℕ) (hw : s.memWf = true) : (State.deliverDevice s j bytes next).memWf = true := by
  rw [State.deliverDevice]; dsimp only; (repeat' split) <;> simp (maxDischargeDepth := 40) +contextual [hw]

theorem execDescriptorComplete_queue (dt : ℕ) (e : Fin 5) (bytes : List Byte) (next : ℕ) (s : State) : Res.all (fun t => t.queue = s.queue) (execDescriptorComplete dt e bytes next s) := by
  rw [execDescriptorComplete]; dsimp only; (repeat' split) <;> simp [apply_ite State.queue]

theorem execDescriptorComplete_wf (dt : ℕ) (e : Fin 5) (bytes : List Byte) (next : ℕ) (s : State) (hw : s.memWf = true) : Res.all (fun t => t.memWf = true) (execDescriptorComplete dt e bytes next s) := by
  rw [execDescriptorComplete]; dsimp only; (repeat' split) <;> simp (maxDischargeDepth := 40) +contextual [hw]

@[simp] theorem State.doCqHead_queue (s : State) (e : ℕ) (w : Word) : (State.doCqHead s e w).queue = s.queue := by
  rw [State.doCqHead]; (repeat' split) <;> (try dsimp only) <;> (repeat' split) <;> simp_all

@[simp] theorem State.doCqHead_wf (s : State) (e : ℕ) (w : Word) (hw : s.memWf = true) : (State.doCqHead s e w).memWf = true := by
  rw [State.doCqHead]; (repeat' split) <;> (try dsimp only) <;> (repeat' split) <;> simp (maxDischargeDepth := 40) +contextual [hw]

theorem execCqHeadWrite_queue (dt : ℕ) (e : Fin 5) (value : Word) (s : State) : Res.all (fun t => t.queue = s.queue) (execCqHeadWrite dt e value s) := by
  rw [execCqHeadWrite]; simp [apply_ite State.queue]

theorem execCqHeadWrite_wf (dt : ℕ) (e : Fin 5) (value : Word) (s : State) (hw : s.memWf = true) : Res.all (fun t => t.memWf = true) (execCqHeadWrite dt e value s) := by
  rw [execCqHeadWrite]; simp (maxDischargeDepth := 40) +contextual [hw]

theorem execHrvIrqGapExpiry_queue (dt : ℕ) (e : Fin 5) (s : State) : Res.all (fun t => t.queue = s.queue) (execHrvIrqGapExpiry dt e s) := by
  rw [execHrvIrqGapExpiry]; simp [apply_ite State.queue]

theorem execHrvIrqGapExpiry_wf (dt : ℕ) (e : Fin 5) (s : State) (hw : s.memWf = true) : Res.all (fun t => t.memWf = true) (execHrvIrqGapExpiry dt e s) := by
  rw [execHrvIrqGapExpiry]; simp (maxDischargeDepth := 40) +contextual [hw]

@[simp] theorem State.doResume_queue (s : State) (e : ℕ) (ch : ℕ) : (State.doResume s e ch).queue = s.queue := by
  rw [State.doResume]; simp [apply_ite State.queue]

@[simp] theorem State.doResume_wf (s : State) (e : ℕ) (ch : ℕ) (hw : s.memWf = true) : (State.doResume s e ch).memWf = true := by
  rw [State.doResume]; simp (maxDischargeDepth := 40) +contextual [hw]

theorem execChannelResume_queue (dt : ℕ) (e : Fin 5) (c : Fin 64) (s : State) : Res.all (fun t => t.queue = s.queue) (execChannelResume dt e c s) := by
  rw [execChannelResume]; simp [apply_ite State.queue]

theorem execChannelResume_wf (dt : ℕ) (e : Fin 5) (c : Fin 64) (s : State) (hw : s.memWf = true) : Res.all (fun t => t.memWf = true) (execChannelResume dt e c s) := by
  rw [execChannelResume]; simp (maxDischargeDepth := 40) +contextual [hw]

@[simp] theorem State.doEnable_queue (s : State) (e : ℕ) (ch : ℕ) : (State.doEnable s e ch).queue = s.queue := by
  rw [State.doEnable]; simp [apply_ite State.queue]

@[simp] theorem State.doEnable_wf (s : State) (e : ℕ) (ch : ℕ) (hw : s.memWf = true) : (State.doEnable s e ch).memWf = true := by
  rw [State.doEnable]; simp (maxDischargeDepth := 40) +contextual [hw]

theorem execChannelEnable_queue (dt : ℕ) (e : Fin 5) (c : Fin 64) (s : State) : Res.all (fun t => t.queue = s.queue) (execChannelEnable dt e c s) := by
  rw [execChannelEnable]; simp [apply_ite State.queue]

theorem execChannelEnable_wf (dt : ℕ) (e : Fin 5) (c : Fin 64) (s : State) (hw : s.memWf = true) : Res.all (fun t => t.memWf = true) (execChannelEnable dt e c s) := by
  rw [execChannelEnable]; simp (maxDischargeDepth := 40) +contextual [hw]

@[simp] theorem State.doDisable_queue (s : State) (e : ℕ) (ch : ℕ) : (State.doDisable s e ch).queue = s.queue := by
  rw [State.doDisable]; simp [apply_ite State.queue]

@[simp] theorem State.doDisable_wf (s : State) (e : ℕ) (ch : ℕ) (hw : s.memWf = true) : (State.doDisable s e ch).memWf = true := by
  rw [State.doDisable]; simp (maxDischargeDepth := 40) +contextual [hw]

theorem execChannelDisable_queue (dt : ℕ) (e : Fin 5) (c : Fin 64) (s : State) : Res.all (fun t => t.queue = s.queue) (execChannelDisable dt e c s) := by
  rw [execChannelDisable]; simp [apply_ite State.queue]

theorem execChannelDisable_wf (dt : ℕ) (e : Fin 5) (c : Fin 64) (s : State) (hw : s.memWf = true) : Res.all (fun t => t.memWf = true) (execChannelDisable dt e c s) := by
  rw [execChannelDisable]; simp (maxDischargeDepth := 40) +contextual [hw]

@[simp] theorem State.disableDone_queue (s : State) (e : ℕ) (j : HJob) : (State.disableDone s e j).queue = s.queue := by
  rw [State.disableDone]; dsimp only; (repeat' split) <;> simp [apply_ite State.queue]

@[simp] theorem State.disableDone_wf (s : State) (e : ℕ) (j : HJob) (hw : s.memWf = true) : (State.disableDone s e j).memWf = true := by
  rw [State.disableDone]; dsimp only; (repeat' split) <;> simp (maxDischargeDepth := 40) +contextual [hw]

theorem execChannelDisableDone_queue (dt : ℕ) (e : Fin 5) (c : Fin 64) (s : State) : Res.all (fun t => t.queue = s.queue) (execChannelDisableDone dt e c s) := by
  rw [execChannelDisableDone]; (repeat' split) <;> (try dsimp only) <;> (repeat' split) <;> simp_all

theorem execChannelDisableDone_wf (dt : ℕ) (e : Fin 5) (c : Fin 64) (s : State) (hw : s.memWf = true) : Res.all (fun t => t.memWf = true) (execChannelDisableDone dt e c s) := by
  rw [execChannelDisableDone]; (repeat' split) <;> (try dsimp only) <;> (repeat' split) <;> simp (maxDischargeDepth := 40) +contextual [hw]

theorem execHarvestBusError_queue (dt : ℕ) (e : Fin 5) (status : ℕ) (addr : ℕ) (s : State) : Res.all (fun t => t.queue = s.queue) (execHarvestBusError dt e status addr s) := by
  rw [execHarvestBusError]; dsimp only; (repeat' split) <;> simp [apply_ite State.queue]

theorem execHarvestBusError_wf (dt : ℕ) (e : Fin 5) (status : ℕ) (addr : ℕ) (s : State) (hw : s.memWf = true) : Res.all (fun t => t.memWf = true) (execHarvestBusError dt e status addr s) := by
  rw [execHarvestBusError]; dsimp only; (repeat' split) <;> simp (maxDischargeDepth := 40) +contextual [hw]

@[simp] theorem State.dropPcie_queue (s : State) : (State.dropPcie s).queue = s.queue := by
  unfold State.dropPcie
  dsimp only
  rw [forAll_queue]
  · simp
  · intro s e
    (repeat' split) <;> simp

@[simp] theorem State.dropPcie_wf (s : State) (hw : s.memWf = true) : (State.dropPcie s).memWf = true := by
  rw [State.dropPcie]
  dsimp only
  apply forAll_memWf
  · intro s e hs
    (repeat' split) <;> simp (maxDischargeDepth := 40) [hs]
  · apply foldl_memWf (h := hw)
    intro s e hs
    simp (maxDischargeDepth := 40) [hs]

@[simp] theorem State.regainPcie_queue (s : State) : (State.regainPcie s).queue = s.queue := by
  rw [State.regainPcie]; simp [apply_ite State.queue]

@[simp] theorem State.regainPcie_wf (s : State) (hw : s.memWf = true) : (State.regainPcie s).memWf = true := by
  rw [State.regainPcie]; simp (maxDischargeDepth := 40) +contextual [hw]

@[simp] theorem State.doHrvRun_queue (s : State) (e : ℕ) : (State.doHrvRun s e).queue = s.queue := by
  rw [State.doHrvRun]; simp [apply_ite State.queue]

@[simp] theorem State.doHrvRun_wf (s : State) (e : ℕ) (hw : s.memWf = true) : (State.doHrvRun s e).memWf = true := by
  rw [State.doHrvRun]; simp (maxDischargeDepth := 40) +contextual [hw]

theorem execHarvestRun_queue (dt : ℕ) (e : Fin 5) (s : State) : Res.all (fun t => t.queue = s.queue) (execHarvestRun dt e s) := by
  rw [execHarvestRun]; simp [apply_ite State.queue]

theorem execHarvestRun_wf (dt : ℕ) (e : Fin 5) (s : State) (hw : s.memWf = true) : Res.all (fun t => t.memWf = true) (execHarvestRun dt e s) := by
  rw [execHarvestRun]; simp (maxDischargeDepth := 40) +contextual [hw]

theorem execHarvestStop_queue (dt : ℕ) (e : Fin 5) (s : State) : Res.all (fun t => t.queue = s.queue) (execHarvestStop dt e s) := by
  rw [execHarvestStop]; simp [apply_ite State.queue]

theorem execHarvestStop_wf (dt : ℕ) (e : Fin 5) (s : State) (hw : s.memWf = true) : Res.all (fun t => t.memWf = true) (execHarvestStop dt e s) := by
  rw [execHarvestStop]; simp (maxDischargeDepth := 40) +contextual [hw]

theorem execHrvClr_queue (dt : ℕ) (e : Fin 5) (s : State) : Res.all (fun t => t.queue = s.queue) (execHrvClr dt e s) := by
  rw [execHrvClr]; simp [apply_ite State.queue]

theorem execHrvClr_wf (dt : ℕ) (e : Fin 5) (s : State) (hw : s.memWf = true) : Res.all (fun t => t.memWf = true) (execHrvClr dt e s) := by
  rw [execHrvClr]; simp (maxDischargeDepth := 40) +contextual [hw]

/-! ### Intervals -/

@[simp] theorem State.ivEvent_queue (s : State) (u : ℕ) (evt : ℕ) : (State.ivEvent s u evt).queue = s.queue := by
  rw [State.ivEvent]; simp [apply_ite State.queue]

@[simp] theorem State.ivEvent_wf (s : State) (u : ℕ) (evt : ℕ) (hw : s.memWf = true) : (State.ivEvent s u evt).memWf = true := by
  rw [State.ivEvent]; simp (maxDischargeDepth := 40) +contextual [hw]

@[simp] theorem State.ivTrigger_queue (s : State) (u : ℕ) (code : ℕ) (t : ℕ) : (State.ivTrigger s u code t).queue = s.queue := by
  rw [State.ivTrigger]; simp [apply_ite State.queue]

@[simp] theorem State.ivTrigger_wf (s : State) (u : ℕ) (code : ℕ) (t : ℕ) (hw : s.memWf = true) : (State.ivTrigger s u code t).memWf = true := by
  rw [State.ivTrigger]; simp (maxDischargeDepth := 40) +contextual [hw]

@[simp] theorem State.ivCopy_queue (s : State) (u : ℕ) : (State.ivCopy s u).queue = s.queue := by
  rw [State.ivCopy]; simp [apply_ite State.queue]

@[simp] theorem State.ivCopy_wf (s : State) (u : ℕ) (hw : s.memWf = true) : (State.ivCopy s u).memWf = true := by
  rw [State.ivCopy]; simp (maxDischargeDepth := 40) +contextual [hw]

@[simp] theorem State.ivStop_queue (s : State) (u : ℕ) : (State.ivStop s u).queue = s.queue := by
  rw [State.ivStop]; simp [apply_ite State.queue]

@[simp] theorem State.ivStop_wf (s : State) (u : ℕ) (hw : s.memWf = true) : (State.ivStop s u).memWf = true := by
  rw [State.ivStop]; simp (maxDischargeDepth := 40) +contextual [hw]

@[simp] theorem State.ivAbort_queue (s : State) : (State.ivAbort s).queue = s.queue := by
  rw [State.ivAbort]; simp [apply_ite State.queue]

@[simp] theorem State.ivAbort_wf (s : State) (hw : s.memWf = true) : (State.ivAbort s).memWf = true := by
  rw [State.ivAbort]; simp (maxDischargeDepth := 40) +contextual [hw]

@[simp] theorem State.ivOpenGate_queue (s : State) (u : ℕ) (t : ℕ) (count : Bool) : (State.ivOpenGate s u t count).queue = s.queue := by
  rw [State.ivOpenGate]; simp [apply_ite State.queue]

@[simp] theorem State.ivOpenGate_wf (s : State) (u : ℕ) (t : ℕ) (count : Bool) (hw : s.memWf = true) : (State.ivOpenGate s u t count).memWf = true := by
  rw [State.ivOpenGate]; simp (maxDischargeDepth := 40) +contextual [hw]

@[simp] theorem State.doIvRun_queue (s : State) (u : ℕ) : (State.doIvRun s u).queue = s.queue := by
  rw [State.doIvRun]; simp [apply_ite State.queue]

@[simp] theorem State.doIvRun_wf (s : State) (u : ℕ) (hw : s.memWf = true) : (State.doIvRun s u).memWf = true := by
  rw [State.doIvRun]; simp (maxDischargeDepth := 40) +contextual [hw]

theorem execIvRun_queue (dt : ℕ) (u : Fin 16) (s : State) : Res.all (fun t => t.queue = s.queue) (execIvRun dt u s) := by
  rw [execIvRun]; simp [apply_ite State.queue]

theorem execIvRun_wf (dt : ℕ) (u : Fin 16) (s : State) (hw : s.memWf = true) : Res.all (fun t => t.memWf = true) (execIvRun dt u s) := by
  rw [execIvRun]; simp (maxDischargeDepth := 40) +contextual [hw]

theorem execIvStop_queue (dt : ℕ) (u : Fin 16) (s : State) : Res.all (fun t => t.queue = s.queue) (execIvStop dt u s) := by
  rw [execIvStop]; simp [apply_ite State.queue]

theorem execIvStop_wf (dt : ℕ) (u : Fin 16) (s : State) (hw : s.memWf = true) : Res.all (fun t => t.memWf = true) (execIvStop dt u s) := by
  rw [execIvStop]; simp (maxDischargeDepth := 40) +contextual [hw]

@[simp] theorem State.ivContribute_queue (s : State) (u : ℕ) (x : ℕ) : (State.ivContribute s u x).1.queue = s.queue := by
  rw [State.ivContribute]; dsimp only; (repeat' split) <;> simp [apply_ite State.queue]

@[simp] theorem State.ivContribute_wf (s : State) (u : ℕ) (x : ℕ) (hw : s.memWf = true) : (State.ivContribute s u x).1.memWf = true := by
  rw [State.ivContribute]; dsimp only; (repeat' split) <;> simp (maxDischargeDepth := 40) +contextual [hw]

@[simp] theorem State.ivContributeAll_queue (s : State) (u : ℕ) (x2 : List ℕ) : (State.ivContributeAll s u x2).1.queue = s.queue := by
  induction x2 generalizing s u <;> simp_all [State.ivContributeAll]

@[simp] theorem State.ivContributeAll_wf (s : State) (u : ℕ) (x2 : List ℕ) (hw : s.memWf = true) : (State.ivContributeAll s u x2).1.memWf = true := by
  induction x2 generalizing s u <;> simp_all [State.ivContributeAll]

@[simp] theorem State.ivComplete_queue (s : State) (u : ℕ) (t : ℕ) : (State.ivComplete s u t).queue = s.queue := by
  rw [State.ivComplete]; simp [apply_ite State.queue]

@[simp] theorem State.ivComplete_wf (s : State) (u : ℕ) (t : ℕ) (hw : s.memWf = true) : (State.ivComplete s u t).memWf = true := by
  rw [State.ivComplete]; simp (maxDischargeDepth := 40) +contextual [hw]

@[simp] theorem State.ivDiscard_queue (s : State) (u : ℕ) (t0 : ℕ) : (State.ivDiscard s u t0).queue = s.queue := by
  rw [State.ivDiscard]; simp [apply_ite State.queue]

@[simp] theorem State.ivDiscard_wf (s : State) (u : ℕ) (t0 : ℕ) (hw : s.memWf = true) : (State.ivDiscard s u t0).memWf = true := by
  rw [State.ivDiscard]; simp (maxDischargeDepth := 40) +contextual [hw]

@[simp] theorem State.ivEvents_queue (s : State) (u : ℕ) (at_ : ℕ) (xs : List ℕ) : (State.ivEvents s u at_ xs).queue = s.queue := by
  rw [State.ivEvents]; simp [apply_ite State.queue]

@[simp] theorem State.ivEvents_wf (s : State) (u : ℕ) (at_ : ℕ) (xs : List ℕ) (hw : s.memWf = true) : (State.ivEvents s u at_ xs).memWf = true := by
  rw [State.ivEvents]; simp (maxDischargeDepth := 40) +contextual [hw]

@[simp] theorem State.ivCheckDone_queue (s : State) (u : ℕ) (at_ : ℕ) : (State.ivCheckDone s u at_).queue = s.queue := by
  rw [State.ivCheckDone]; simp [apply_ite State.queue]

@[simp] theorem State.ivCheckDone_wf (s : State) (u : ℕ) (at_ : ℕ) (hw : s.memWf = true) : (State.ivCheckDone s u at_).memWf = true := by
  rw [State.ivCheckDone]; simp (maxDischargeDepth := 40) +contextual [hw]

@[simp] theorem State.ivClose_queue (s : State) (u : ℕ) (closed : ℕ) : (State.ivClose s u closed).queue = s.queue := by
  rw [State.ivClose]; simp [apply_ite State.queue]

@[simp] theorem State.ivClose_wf (s : State) (u : ℕ) (closed : ℕ) (hw : s.memWf = true) : (State.ivClose s u closed).memWf = true := by
  rw [State.ivClose]; simp (maxDischargeDepth := 40) +contextual [hw]

@[simp] theorem State.ivExpire_queue (s : State) (u : ℕ) : (State.ivExpire s u).queue = s.queue := by
  rw [State.ivExpire]; dsimp only; (repeat' split) <;> simp [apply_ite State.queue]

@[simp] theorem State.ivExpire_wf (s : State) (u : ℕ) (hw : s.memWf = true) : (State.ivExpire s u).memWf = true := by
  rw [State.ivExpire]; dsimp only; (repeat' split) <;> simp (maxDischargeDepth := 40) +contextual [hw]

@[simp] theorem State.ivLate_queue (s : State) (u : ℕ) (t : ℕ) : (State.ivLate s u t).queue = s.queue := by
  rw [State.ivLate]; (repeat' split) <;> (try dsimp only) <;> (repeat' split) <;> simp_all

@[simp] theorem State.ivLate_wf (s : State) (u : ℕ) (t : ℕ) (hw : s.memWf = true) : (State.ivLate s u t).memWf = true := by
  rw [State.ivLate]; (repeat' split) <;> (try dsimp only) <;> (repeat' split) <;> simp (maxDischargeDepth := 40) +contextual [hw]

theorem execIvTimeout_queue (dt : ℕ) (u : Fin 16) (s : State) : Res.all (fun t => t.queue = s.queue) (execIvTimeout dt u s) := by
  rw [execIvTimeout]; (repeat' split) <;> (try dsimp only) <;> (repeat' split) <;> simp_all

theorem execIvTimeout_wf (dt : ℕ) (u : Fin 16) (s : State) (hw : s.memWf = true) : Res.all (fun t => t.memWf = true) (execIvTimeout dt u s) := by
  rw [execIvTimeout]; (repeat' split) <;> (try dsimp only) <;> (repeat' split) <;> simp (maxDischargeDepth := 40) +contextual [hw]

@[simp] theorem State.ivFall_queue (s : State) (u : ℕ) (cause : ℕ) : (State.ivFall s u cause).queue = s.queue := by
  rw [State.ivFall]; simp [apply_ite State.queue]

@[simp] theorem State.ivFall_wf (s : State) (u : ℕ) (cause : ℕ) (hw : s.memWf = true) : (State.ivFall s u cause).memWf = true := by
  rw [State.ivFall]; simp (maxDischargeDepth := 40) +contextual [hw]

@[simp] theorem State.ivFallStops_queue (s : State) (u : ℕ) : (State.ivFallStops s u).queue = s.queue := by
  rw [State.ivFallStops]; simp [apply_ite State.queue]

@[simp] theorem State.ivFallStops_wf (s : State) (u : ℕ) (hw : s.memWf = true) : (State.ivFallStops s u).memWf = true := by
  rw [State.ivFallStops]; simp (maxDischargeDepth := 40) +contextual [hw]

@[simp] theorem State.ivFallRate_queue (s : State) (u : ℕ) (l : List ℕ) (onStart : Bool) : (State.ivFallRate s u l onStart).queue = s.queue := by
  rw [State.ivFallRate]; simp [apply_ite State.queue]

@[simp] theorem State.ivFallRate_wf (s : State) (u : ℕ) (l : List ℕ) (onStart : Bool) (hw : s.memWf = true) : (State.ivFallRate s u l onStart).memWf = true := by
  rw [State.ivFallRate]; simp (maxDischargeDepth := 40) +contextual [hw]

@[simp] theorem State.ivStamp_queue (s : State) (u : ℕ) (t : ℕ) : (State.ivStamp s u t).queue = s.queue := by
  rw [State.ivStamp]; (repeat' split) <;> (try dsimp only) <;> (repeat' split) <;> simp_all

@[simp] theorem State.ivStamp_wf (s : State) (u : ℕ) (t : ℕ) (hw : s.memWf = true) : (State.ivStamp s u t).memWf = true := by
  rw [State.ivStamp]; (repeat' split) <;> (try dsimp only) <;> (repeat' split) <;> simp (maxDischargeDepth := 40) +contextual [hw]

@[simp] theorem State.ivFit_queue (s : State) (u : ℕ) (closed : ℕ) : (State.ivFit s u closed).queue = s.queue := by
  rw [State.ivFit]; simp [apply_ite State.queue]

@[simp] theorem State.ivFit_wf (s : State) (u : ℕ) (closed : ℕ) (hw : s.memWf = true) : (State.ivFit s u closed).memWf = true := by
  rw [State.ivFit]; simp (maxDischargeDepth := 40) +contextual [hw]

theorem execIvPrescaleCountEnd_queue (dt : ℕ) (u : Fin 16) (s : State) : Res.all (fun t => t.queue = s.queue) (execIvPrescaleCountEnd dt u s) := by
  rw [execIvPrescaleCountEnd]; dsimp only; (repeat' split) <;> simp [apply_ite State.queue]

theorem execIvPrescaleCountEnd_wf (dt : ℕ) (u : Fin 16) (s : State) (hw : s.memWf = true) : Res.all (fun t => t.memWf = true) (execIvPrescaleCountEnd dt u s) := by
  rw [execIvPrescaleCountEnd]; dsimp only; (repeat' split) <;> simp (maxDischargeDepth := 40) +contextual [hw]

theorem execIvGateClose_queue (dt : ℕ) (u : Fin 16) (s : State) : Res.all (fun t => t.queue = s.queue) (execIvGateClose dt u s) := by
  rw [execIvGateClose]; (repeat' split) <;> (try dsimp only) <;> (repeat' split) <;> simp_all

theorem execIvGateClose_wf (dt : ℕ) (u : Fin 16) (s : State) (hw : s.memWf = true) : Res.all (fun t => t.memWf = true) (execIvGateClose dt u s) := by
  rw [execIvGateClose]; (repeat' split) <;> (try dsimp only) <;> (repeat' split) <;> simp (maxDischargeDepth := 40) +contextual [hw]

@[simp] theorem State.ivStart_queue (s : State) (u : ℕ) (t : ℕ) : (State.ivStart s u t).queue = s.queue := by
  rw [State.ivStart]; simp [apply_ite State.queue]

@[simp] theorem State.ivStart_wf (s : State) (u : ℕ) (t : ℕ) (hw : s.memWf = true) : (State.ivStart s u t).memWf = true := by
  rw [State.ivStart]; simp (maxDischargeDepth := 40) +contextual [hw]

@[simp] theorem State.ivStopAt_queue (s : State) (u : ℕ) (t : ℕ) : (State.ivStopAt s u t).queue = s.queue := by
  rw [State.ivStopAt]; dsimp only; (repeat' split) <;> simp [apply_ite State.queue]

@[simp] theorem State.ivStopAt_wf (s : State) (u : ℕ) (t : ℕ) (hw : s.memWf = true) : (State.ivStopAt s u t).memWf = true := by
  rw [State.ivStopAt]; dsimp only; (repeat' split) <;> simp (maxDischargeDepth := 40) +contextual [hw]

theorem execIvStartEvent_queue (dt : ℕ) (u : Fin 16) (s : State) : Res.all (fun t => t.queue = s.queue) (execIvStartEvent dt u s) := by
  rw [execIvStartEvent]; dsimp only; (repeat' split) <;> simp [apply_ite State.queue]

theorem execIvStartEvent_wf (dt : ℕ) (u : Fin 16) (s : State) (hw : s.memWf = true) : Res.all (fun t => t.memWf = true) (execIvStartEvent dt u s) := by
  rw [execIvStartEvent]; dsimp only; (repeat' split) <;> simp (maxDischargeDepth := 40) +contextual [hw]

theorem execIvStopEvent_queue (dt : ℕ) (u : Fin 16) (s : State) : Res.all (fun t => t.queue = s.queue) (execIvStopEvent dt u s) := by
  rw [execIvStopEvent]; dsimp only; (repeat' split) <;> simp [apply_ite State.queue]

theorem execIvStopEvent_wf (dt : ℕ) (u : Fin 16) (s : State) (hw : s.memWf = true) : Res.all (fun t => t.memWf = true) (execIvStopEvent dt u s) := by
  rw [execIvStopEvent]; dsimp only; (repeat' split) <;> simp (maxDischargeDepth := 40) +contextual [hw]

/-! ### Trigger -/

@[simp] theorem State.mergeInto_queue (s : State) (src : ℕ × ℕ) (old : ℕ) (t : ℕ) (ring : Bool) : (State.mergeInto s src old t ring).queue = s.queue := by
  rw [State.mergeInto]; simp [apply_ite State.queue]

@[simp] theorem State.mergeInto_wf (s : State) (src : ℕ × ℕ) (old : ℕ) (t : ℕ) (ring : Bool) (hw : s.memWf = true) : (State.mergeInto s src old t ring).memWf = true := by
  rw [State.mergeInto]; simp (maxDischargeDepth := 40) +contextual [hw]

@[simp] theorem State.unitDetect_queue (s : State) (u : ℕ) (t : ℕ) (at_ : ℕ) : (State.unitDetect s u t at_).queue = s.queue := by
  rw [State.unitDetect]; dsimp only; (repeat' split) <;> simp [apply_ite State.queue]

@[simp] theorem State.unitDetect_wf (s : State) (u : ℕ) (t : ℕ) (at_ : ℕ) (hw : s.memWf = true) : (State.unitDetect s u t at_).memWf = true := by
  rw [State.unitDetect]; dsimp only; (repeat' split) <;> simp (maxDischargeDepth := 40) +contextual [hw]

@[simp] theorem State.unitSample_queue (s : State) (u : ℕ) (d : ℕ) (y : Seen) : (State.unitSample s u d y).queue = s.queue := by
  rw [State.unitSample]; dsimp only; (repeat' split) <;> simp [apply_ite State.queue]

@[simp] theorem State.unitSample_wf (s : State) (u : ℕ) (d : ℕ) (y : Seen) (hw : s.memWf = true) : (State.unitSample s u d y).memWf = true := by
  rw [State.unitSample]; dsimp only; (repeat' split) <;> simp (maxDischargeDepth := 40) +contextual [hw]

@[simp] theorem State.patternAt_queue (s : State) (u : ℕ) (t : ℕ) (ys : List (ℕ × Seen)) : (State.patternAt s u t ys).queue = s.queue := by
  rw [State.patternAt]; simp [apply_ite State.queue]

@[simp] theorem State.patternAt_wf (s : State) (u : ℕ) (t : ℕ) (ys : List (ℕ × Seen)) (hw : s.memWf = true) : (State.patternAt s u t ys).memWf = true := by
  rw [State.patternAt]; simp (maxDischargeDepth := 40) +contextual [hw]

@[simp] theorem State.streamRun_queue (s : State) (u : ℕ) (c : ℕ) (first : ℕ) (vins : List ℤ) : (State.streamRun s u c first vins).1.queue = s.queue := by
  rw [State.streamRun]; simp [apply_ite State.queue]

@[simp] theorem State.streamRun_wf (s : State) (u : ℕ) (c : ℕ) (first : ℕ) (vins : List ℤ) (hw : s.memWf = true) : (State.streamRun s u c first vins).1.memWf = true := by
  rw [State.streamRun]; simp (maxDischargeDepth := 40) +contextual [hw]

@[simp] theorem State.unitRun_queue (s : State) (u : ℕ) (first : ℕ) (vins : List (List ℤ)) : (State.unitRun s u first vins).queue = s.queue := by
  rw [State.unitRun]
  dsimp only
  split
  · rw [foldl_queue _ (fun s x => by simp), foldl_pair_queue _ (fun p a => by simp)]
  · rw [foldl_queue _ (fun s x => by simp)]
    simp

@[simp] theorem State.unitRun_wf (s : State) (u : ℕ) (first : ℕ) (vins : List (List ℤ)) (hw : s.memWf = true) : (State.unitRun s u first vins).memWf = true := by
  rw [State.unitRun]
  dsimp only
  split
  · exact foldl_memWf _ (fun s x hs => by simp (maxDischargeDepth := 40) [hs]) _ _ (foldl_pair_memWf _ (fun p a hp => by simp (maxDischargeDepth := 40) [hp]) _ _ hw)
  · exact foldl_memWf _ (fun s x hs => by simp (maxDischargeDepth := 40) [hs]) _ _ (by simp (maxDischargeDepth := 40) [hw])

theorem execTriggerUnitFire_queue (dt : ℕ) (b : Fin 16) (k : Fin 8) (first : ℕ) (vins : List (List ℤ)) (s : State) : Res.all (fun t => t.queue = s.queue) (execTriggerUnitFire dt b k first vins s) := by
  rw [execTriggerUnitFire]; dsimp only; (repeat' split) <;> simp [apply_ite State.queue]

theorem execTriggerUnitFire_wf (dt : ℕ) (b : Fin 16) (k : Fin 8) (first : ℕ) (vins : List (List ℤ)) (s : State) (hw : s.memWf = true) : Res.all (fun t => t.memWf = true) (execTriggerUnitFire dt b k first vins s) := by
  rw [execTriggerUnitFire]; dsimp only; (repeat' split) <;> simp (maxDischargeDepth := 40) +contextual [hw]

theorem execTriggerUnitStuck_queue (dt : ℕ) (b : Fin 16) (i : Fin 8) (s : State) : Res.all (fun t => t.queue = s.queue) (execTriggerUnitStuck dt b i s) := by
  rw [execTriggerUnitStuck]; dsimp only; (repeat' split) <;> simp [apply_ite State.queue]

theorem execTriggerUnitStuck_wf (dt : ℕ) (b : Fin 16) (i : Fin 8) (s : State) (hw : s.memWf = true) : Res.all (fun t => t.memWf = true) (execTriggerUnitStuck dt b i s) := by
  rw [execTriggerUnitStuck]; dsimp only; (repeat' split) <;> simp (maxDischargeDepth := 40) +contextual [hw]

@[simp] theorem State.doTrgUnmask_queue (s : State) (b : ℕ) (i : ℕ) : (State.doTrgUnmask s b i).queue = s.queue := by
  rw [State.doTrgUnmask]; simp [apply_ite State.queue]

@[simp] theorem State.doTrgUnmask_wf (s : State) (b : ℕ) (i : ℕ) (hw : s.memWf = true) : (State.doTrgUnmask s b i).memWf = true := by
  rw [State.doTrgUnmask]; simp (maxDischargeDepth := 40) +contextual [hw]

theorem execTrgUnmask_queue (dt : ℕ) (b : Fin 16) (i : Fin 8) (s : State) : Res.all (fun t => t.queue = s.queue) (execTrgUnmask dt b i s) := by
  rw [execTrgUnmask]; simp [apply_ite State.queue]

theorem execTrgUnmask_wf (dt : ℕ) (b : Fin 16) (i : Fin 8) (s : State) (hw : s.memWf = true) : Res.all (fun t => t.memWf = true) (execTrgUnmask dt b i s) := by
  rw [execTrgUnmask]; simp (maxDischargeDepth := 40) +contextual [hw]

@[simp] theorem State.doTrgClr_queue (s : State) (b : ℕ) (i : ℕ) : (State.doTrgClr s b i).queue = s.queue := by
  rw [State.doTrgClr]; simp [apply_ite State.queue]

@[simp] theorem State.doTrgClr_wf (s : State) (b : ℕ) (i : ℕ) (hw : s.memWf = true) : (State.doTrgClr s b i).memWf = true := by
  rw [State.doTrgClr]; simp (maxDischargeDepth := 40) +contextual [hw]

theorem execTrgClr_queue (dt : ℕ) (b : Fin 16) (i : Fin 8) (s : State) : Res.all (fun t => t.queue = s.queue) (execTrgClr dt b i s) := by
  rw [execTrgClr]; simp [apply_ite State.queue]

theorem execTrgClr_wf (dt : ℕ) (b : Fin 16) (i : Fin 8) (s : State) (hw : s.memWf = true) : Res.all (fun t => t.memWf = true) (execTrgClr dt b i s) := by
  rw [execTrgClr]; simp (maxDischargeDepth := 40) +contextual [hw]

@[simp] theorem State.wakeEvent_queue (s : State) (p : ℕ) (t : ℕ) : (State.wakeEvent s p t).queue = s.queue := by
  rw [State.wakeEvent]; simp [apply_ite State.queue]

@[simp] theorem State.wakeEvent_wf (s : State) (p : ℕ) (t : ℕ) (hw : s.memWf = true) : (State.wakeEvent s p t).memWf = true := by
  rw [State.wakeEvent]; simp (maxDischargeDepth := 40) +contextual [hw]

@[simp] theorem State.aonStamp_queue (s : State) : (State.aonStamp s).2.queue = s.queue := by
  rw [State.aonStamp]; simp [apply_ite State.queue]

@[simp] theorem State.aonStamp_wf (s : State) (hw : s.memWf = true) : (State.aonStamp s).2.memWf = true := by
  rw [State.aonStamp]; simp (maxDischargeDepth := 40) +contextual [hw]

@[simp] theorem State.pinEdge_queue (s : State) (p : ℕ) (level : Bool) (t : ℕ) : (State.pinEdge s p level t).queue = s.queue := by
  rw [State.pinEdge]; simp [apply_ite State.queue]

@[simp] theorem State.pinEdge_wf (s : State) (p : ℕ) (level : Bool) (t : ℕ) (hw : s.memWf = true) : (State.pinEdge s p level t).memWf = true := by
  rw [State.pinEdge]; simp (maxDischargeDepth := 40) +contextual [hw]

theorem execExtPinEdge_queue (dt : ℕ) (pin : Fin 12) (level : Bool) (ago : ℕ) (short : Bool) (s : State) : Res.all (fun t => t.queue = s.queue) (execExtPinEdge dt pin level ago short s) := by
  rw [execExtPinEdge]; dsimp only; (repeat' split) <;> simp [apply_ite State.queue]

theorem execExtPinEdge_wf (dt : ℕ) (pin : Fin 12) (level : Bool) (ago : ℕ) (short : Bool) (s : State) (hw : s.memWf = true) : Res.all (fun t => t.memWf = true) (execExtPinEdge dt pin level ago short s) := by
  rw [execExtPinEdge]; dsimp only; (repeat' split) <;> simp (maxDischargeDepth := 40) +contextual [hw]

theorem execPinStuck_queue (dt : ℕ) (pin : Fin 12) (s : State) : Res.all (fun t => t.queue = s.queue) (execPinStuck dt pin s) := by
  rw [execPinStuck]; (repeat' split) <;> (try dsimp only) <;> (repeat' split) <;> simp_all

theorem execPinStuck_wf (dt : ℕ) (pin : Fin 12) (s : State) (hw : s.memWf = true) : Res.all (fun t => t.memWf = true) (execPinStuck dt pin s) := by
  rw [execPinStuck]; (repeat' split) <;> (try dsimp only) <;> (repeat' split) <;> simp (maxDischargeDepth := 40) +contextual [hw]

@[simp] theorem State.doPinUnmask_queue (s : State) (p : ℕ) : (State.doPinUnmask s p).queue = s.queue := by
  rw [State.doPinUnmask]; simp [apply_ite State.queue]

@[simp] theorem State.doPinUnmask_wf (s : State) (p : ℕ) (hw : s.memWf = true) : (State.doPinUnmask s p).memWf = true := by
  rw [State.doPinUnmask]; simp (maxDischargeDepth := 40) +contextual [hw]

theorem execPinUnmask_queue (dt : ℕ) (pin : Fin 12) (s : State) : Res.all (fun t => t.queue = s.queue) (execPinUnmask dt pin s) := by
  rw [execPinUnmask]; simp [apply_ite State.queue]

theorem execPinUnmask_wf (dt : ℕ) (pin : Fin 12) (s : State) (hw : s.memWf = true) : Res.all (fun t => t.memWf = true) (execPinUnmask dt pin s) := by
  rw [execPinUnmask]; simp (maxDischargeDepth := 40) +contextual [hw]

@[simp] theorem State.doPinClr_queue (s : State) (p : ℕ) : (State.doPinClr s p).queue = s.queue := by
  rw [State.doPinClr]; simp [apply_ite State.queue]

@[simp] theorem State.doPinClr_wf (s : State) (p : ℕ) (hw : s.memWf = true) : (State.doPinClr s p).memWf = true := by
  rw [State.doPinClr]; simp (maxDischargeDepth := 40) +contextual [hw]

theorem execPinClr_queue (dt : ℕ) (pin : Fin 12) (s : State) : Res.all (fun t => t.queue = s.queue) (execPinClr dt pin s) := by
  rw [execPinClr]; simp [apply_ite State.queue]

theorem execPinClr_wf (dt : ℕ) (pin : Fin 12) (s : State) (hw : s.memWf = true) : Res.all (fun t => t.memWf = true) (execPinClr dt pin s) := by
  rw [execPinClr]; simp (maxDischargeDepth := 40) +contextual [hw]

@[simp] theorem State.doSoftFire_queue (s : State) : (State.doSoftFire s).queue = s.queue := by
  rw [State.doSoftFire]; simp [apply_ite State.queue]

@[simp] theorem State.doSoftFire_wf (s : State) (hw : s.memWf = true) : (State.doSoftFire s).memWf = true := by
  rw [State.doSoftFire]; simp (maxDischargeDepth := 40) +contextual [hw]

theorem execSoftFire_queue (dt : ℕ) (s : State) : Res.all (fun t => t.queue = s.queue) (execSoftFire dt s) := by
  rw [execSoftFire]; simp [apply_ite State.queue]

theorem execSoftFire_wf (dt : ℕ) (s : State) (hw : s.memWf = true) : Res.all (fun t => t.memWf = true) (execSoftFire dt s) := by
  rw [execSoftFire]; simp (maxDischargeDepth := 40) +contextual [hw]

theorem execWakePinEdge_queue (dt : ℕ) (pin : Fin 12) (ago : ℕ) (s : State) : Res.all (fun t => t.queue = s.queue) (execWakePinEdge dt pin ago s) := by
  rw [execWakePinEdge]; dsimp only; (repeat' split) <;> simp [apply_ite State.queue]

theorem execWakePinEdge_wf (dt : ℕ) (pin : Fin 12) (ago : ℕ) (s : State) (hw : s.memWf = true) : Res.all (fun t => t.memWf = true) (execWakePinEdge dt pin ago s) := by
  rw [execWakePinEdge]; dsimp only; (repeat' split) <;> simp (maxDischargeDepth := 40) +contextual [hw]

@[simp] theorem State.pinSense_queue (s : State) (p : ℕ) : (State.pinSense s p).queue = s.queue := by
  rw [State.pinSense]; simp [apply_ite State.queue]

@[simp] theorem State.pinSense_wf (s : State) (p : ℕ) (hw : s.memWf = true) : (State.pinSense s p).memWf = true := by
  rw [State.pinSense]; simp (maxDischargeDepth := 40) +contextual [hw]

@[simp] theorem State.sensePins_queue (s : State) : (State.sensePins s).queue = s.queue := by
  rw [State.sensePins]; simp [apply_ite State.queue]

@[simp] theorem State.sensePins_wf (s : State) (hw : s.memWf = true) : (State.sensePins s).memWf = true := by
  rw [State.sensePins]; simp (maxDischargeDepth := 40) +contextual [hw]

@[simp] theorem State.conjKeep_queue (s : State) (j : ℕ) (keep : Held → Bool) : (State.conjKeep s j keep).queue = s.queue := by
  rw [State.conjKeep]; simp [apply_ite State.queue]

@[simp] theorem State.conjKeep_wf (s : State) (j : ℕ) (keep : Held → Bool) (hw : s.memWf = true) : (State.conjKeep s j keep).memWf = true := by
  rw [State.conjKeep]; simp (maxDischargeDepth := 40) +contextual [hw]

@[simp] theorem State.conjExpire_queue (s : State) (j : ℕ) : (State.conjExpire s j).queue = s.queue := by
  rw [State.conjExpire]; simp [apply_ite State.queue]

@[simp] theorem State.conjExpire_wf (s : State) (j : ℕ) (hw : s.memWf = true) : (State.conjExpire s j).memWf = true := by
  rw [State.conjExpire]; simp (maxDischargeDepth := 40) +contextual [hw]

@[simp] theorem State.conjFire_queue (s : State) (j : ℕ) (t : ℕ) (ring : Bool) : (State.conjFire s j t ring).queue = s.queue := by
  rw [State.conjFire]; dsimp only; (repeat' split) <;> simp [apply_ite State.queue]

@[simp] theorem State.conjFire_wf (s : State) (j : ℕ) (t : ℕ) (ring : Bool) (hw : s.memWf = true) : (State.conjFire s j t ring).memWf = true := by
  rw [State.conjFire]; dsimp only; (repeat' split) <;> simp (maxDischargeDepth := 40) +contextual [hw]

@[simp] theorem State.conjTake_queue (s : State) (j : ℕ) (c : ConjCfg) (d : Delivery) : (State.conjTake s j c d).queue = s.queue := by
  rw [State.conjTake]; dsimp only; (repeat' split) <;> simp [apply_ite State.queue]

@[simp] theorem State.conjTake_wf (s : State) (j : ℕ) (c : ConjCfg) (d : Delivery) (hw : s.memWf = true) : (State.conjTake s j c d).memWf = true := by
  rw [State.conjTake]; dsimp only; (repeat' split) <;> simp (maxDischargeDepth := 40) +contextual [hw]

theorem execConjunctionEvent_queue (dt : ℕ) (j : Fin 16) (s : State) : Res.all (fun t => t.queue = s.queue) (execConjunctionEvent dt j s) := by
  rw [execConjunctionEvent]; dsimp only; (repeat' split) <;> simp [apply_ite State.queue]

theorem execConjunctionEvent_wf (dt : ℕ) (j : Fin 16) (s : State) (hw : s.memWf = true) : Res.all (fun t => t.memWf = true) (execConjunctionEvent dt j s) := by
  rw [execConjunctionEvent]; dsimp only; (repeat' split) <;> simp (maxDischargeDepth := 40) +contextual [hw]

theorem execConjunctionExpiry_queue (dt : ℕ) (j : Fin 16) (s : State) : Res.all (fun t => t.queue = s.queue) (execConjunctionExpiry dt j s) := by
  rw [execConjunctionExpiry]; simp [apply_ite State.queue]

theorem execConjunctionExpiry_wf (dt : ℕ) (j : Fin 16) (s : State) (hw : s.memWf = true) : Res.all (fun t => t.memWf = true) (execConjunctionExpiry dt j s) := by
  rw [execConjunctionExpiry]; simp (maxDischargeDepth := 40) +contextual [hw]

@[simp] theorem State.doCjClr_queue (s : State) (j : ℕ) : (State.doCjClr s j).queue = s.queue := by
  rw [State.doCjClr]; simp [apply_ite State.queue]

@[simp] theorem State.doCjClr_wf (s : State) (j : ℕ) (hw : s.memWf = true) : (State.doCjClr s j).memWf = true := by
  rw [State.doCjClr]; simp (maxDischargeDepth := 40) +contextual [hw]

theorem execCjClr_queue (dt : ℕ) (j : Fin 16) (s : State) : Res.all (fun t => t.queue = s.queue) (execCjClr dt j s) := by
  rw [execCjClr]; simp [apply_ite State.queue]

theorem execCjClr_wf (dt : ℕ) (j : Fin 16) (s : State) (hw : s.memWf = true) : Res.all (fun t => t.memWf = true) (execCjClr dt j s) := by
  rw [execCjClr]; simp (maxDischargeDepth := 40) +contextual [hw]

@[simp] theorem State.toutOverlap_queue (s : State) (o : ℕ) (n : ℕ) : (State.toutOverlap s o n).queue = s.queue := by
  rw [State.toutOverlap]; simp [apply_ite State.queue]

@[simp] theorem State.toutOverlap_wf (s : State) (o : ℕ) (n : ℕ) (hw : s.memWf = true) : (State.toutOverlap s o n).memWf = true := by
  rw [State.toutOverlap]; simp (maxDischargeDepth := 40) +contextual [hw]

@[simp] theorem State.toutDrop_queue (s : State) (o : ℕ) (x2 : ℕ) (e : ℕ) : (State.toutDrop s o x2 e).queue = s.queue := by
  rw [State.toutDrop]; simp [apply_ite State.queue]

@[simp] theorem State.toutDrop_wf (s : State) (o : ℕ) (x2 : ℕ) (e : ℕ) (hw : s.memWf = true) : (State.toutDrop s o x2 e).memWf = true := by
  rw [State.toutDrop]; simp (maxDischargeDepth := 40) +contextual [hw]

@[simp] theorem State.toutPulse_queue (s : State) (o : ℕ) (x2 : ℕ) : (State.toutPulse s o x2).queue = s.queue := by
  rw [State.toutPulse]; simp [apply_ite State.queue]

@[simp] theorem State.toutPulse_wf (s : State) (o : ℕ) (x2 : ℕ) (hw : s.memWf = true) : (State.toutPulse s o x2).memWf = true := by
  rw [State.toutPulse]; simp (maxDischargeDepth := 40) +contextual [hw]

@[simp] theorem State.toutAsap_queue (s : State) (o : ℕ) : (State.toutAsap s o).queue = s.queue := by
  rw [State.toutAsap]; dsimp only; (repeat' split) <;> simp [apply_ite State.queue]

@[simp] theorem State.toutAsap_wf (s : State) (o : ℕ) (hw : s.memWf = true) : (State.toutAsap s o).memWf = true := by
  rw [State.toutAsap]; dsimp only; (repeat' split) <;> simp (maxDischargeDepth := 40) +contextual [hw]

@[simp] theorem State.toutAligned_queue (s : State) (o : ℕ) (t : ℕ) : (State.toutAligned s o t).queue = s.queue := by
  rw [State.toutAligned]; simp [apply_ite State.queue]

@[simp] theorem State.toutAligned_wf (s : State) (o : ℕ) (t : ℕ) (hw : s.memWf = true) : (State.toutAligned s o t).memWf = true := by
  rw [State.toutAligned]; simp (maxDischargeDepth := 40) +contextual [hw]

theorem execTrigOutPulseStart_queue (dt : ℕ) (o : Fin 4) (s : State) : Res.all (fun t => t.queue = s.queue) (execTrigOutPulseStart dt o s) := by
  rw [execTrigOutPulseStart]; dsimp only; (repeat' split) <;> simp [apply_ite State.queue]

theorem execTrigOutPulseStart_wf (dt : ℕ) (o : Fin 4) (s : State) (hw : s.memWf = true) : Res.all (fun t => t.memWf = true) (execTrigOutPulseStart dt o s) := by
  rw [execTrigOutPulseStart]; dsimp only; (repeat' split) <;> simp (maxDischargeDepth := 40) +contextual [hw]

theorem execTrigOutPulseEnd_queue (dt : ℕ) (o : Fin 4) (s : State) : Res.all (fun t => t.queue = s.queue) (execTrigOutPulseEnd dt o s) := by
  rw [execTrigOutPulseEnd]; (repeat' split) <;> (try dsimp only) <;> (repeat' split) <;> simp_all

theorem execTrigOutPulseEnd_wf (dt : ℕ) (o : Fin 4) (s : State) (hw : s.memWf = true) : Res.all (fun t => t.memWf = true) (execTrigOutPulseEnd dt o s) := by
  rw [execTrigOutPulseEnd]; (repeat' split) <;> (try dsimp only) <;> (repeat' split) <;> simp (maxDischargeDepth := 40) +contextual [hw]

@[simp] theorem State.toutStop_queue (s : State) (o : ℕ) : (State.toutStop s o).queue = s.queue := by
  rw [State.toutStop]; simp [apply_ite State.queue]

@[simp] theorem State.toutStop_wf (s : State) (o : ℕ) (hw : s.memWf = true) : (State.toutStop s o).memWf = true := by
  rw [State.toutStop]; simp (maxDischargeDepth := 40) +contextual [hw]

@[simp] theorem State.toutsStop_queue (s : State) : (State.toutsStop s).queue = s.queue := by
  rw [State.toutsStop]; simp [apply_ite State.queue]

@[simp] theorem State.toutsStop_wf (s : State) (hw : s.memWf = true) : (State.toutsStop s).memWf = true := by
  rw [State.toutsStop]; simp (maxDischargeDepth := 40) +contextual [hw]

/-! ### FaultCmds -/

@[simp] theorem State.countReadback_queue (s : State) (n : ℕ) (banks : ℕ) : (State.countReadback s n banks).queue = s.queue := by
  rw [State.countReadback]; simp [apply_ite State.queue]

@[simp] theorem State.countReadback_wf (s : State) (n : ℕ) (banks : ℕ) (hw : s.memWf = true) : (State.countReadback s n banks).memWf = true := by
  rw [State.countReadback]; simp (maxDischargeDepth := 40) +contextual [hw]

theorem execFaultEvent_queue (dt : ℕ) (n : Fin 36) (banks : ℕ) (s : State) : Res.all (fun t => t.queue = s.queue) (execFaultEvent dt n banks s) := by
  rw [execFaultEvent]; simp [apply_ite State.queue]

theorem execFaultEvent_wf (dt : ℕ) (n : Fin 36) (banks : ℕ) (s : State) (hw : s.memWf = true) : Res.all (fun t => t.memWf = true) (execFaultEvent dt n banks s) := by
  rw [execFaultEvent]; simp (maxDischargeDepth := 40) +contextual [hw]

theorem execFaultWindowExpiry_queue (dt : ℕ) (n : Fin 36) (s : State) : Res.all (fun t => t.queue = s.queue) (execFaultWindowExpiry dt n s) := by
  rw [execFaultWindowExpiry]; (repeat' split) <;> (try dsimp only) <;> (repeat' split) <;> simp_all

theorem execFaultWindowExpiry_wf (dt : ℕ) (n : Fin 36) (s : State) (hw : s.memWf = true) : Res.all (fun t => t.memWf = true) (execFaultWindowExpiry dt n s) := by
  rw [execFaultWindowExpiry]; (repeat' split) <;> (try dsimp only) <;> (repeat' split) <;> simp (maxDischargeDepth := 40) +contextual [hw]

theorem execGraceExpiry_queue (dt : ℕ) (n : Fin 36) (s : State) : Res.all (fun t => t.queue = s.queue) (execGraceExpiry dt n s) := by
  rw [execGraceExpiry]; (repeat' split) <;> (try dsimp only) <;> (repeat' split) <;> simp_all

theorem execGraceExpiry_wf (dt : ℕ) (n : Fin 36) (s : State) (hw : s.memWf = true) : Res.all (fun t => t.memWf = true) (execGraceExpiry dt n s) := by
  rw [execGraceExpiry]; (repeat' split) <;> (try dsimp only) <;> (repeat' split) <;> simp (maxDischargeDepth := 40) +contextual [hw]

theorem execSafeHoldStackIdle_queue (dt : ℕ) (s : State) : Res.all (fun t => t.queue = s.queue) (execSafeHoldStackIdle dt s) := by
  rw [execSafeHoldStackIdle]; dsimp only; (repeat' split) <;> simp [apply_ite State.queue]

theorem execSafeHoldStackIdle_wf (dt : ℕ) (s : State) (hw : s.memWf = true) : Res.all (fun t => t.memWf = true) (execSafeHoldStackIdle dt s) := by
  rw [execSafeHoldStackIdle]; dsimp only; (repeat' split) <;> simp (maxDischargeDepth := 40) +contextual [hw]

@[simp] theorem State.doAdopt_queue (s : State) (v : ℕ) : (State.doAdopt s v).queue = s.queue := by
  rw [State.doAdopt]; simp [apply_ite State.queue]

@[simp] theorem State.doAdopt_wf (s : State) (v : ℕ) (hw : s.memWf = true) : (State.doAdopt s v).memWf = true := by
  rw [State.doAdopt]; simp (maxDischargeDepth := 40) +contextual [hw]

theorem execFaultAdopt_queue (dt : ℕ) (rq : Requester) (value : ℕ) (s : State) : Res.all (fun t => t.queue = s.queue) (execFaultAdopt dt rq value s) := by
  rw [execFaultAdopt]; apply State.hostWrite_queue (by simp); intro u hu; (try dsimp only); (repeat' split) <;> simp [hu]

theorem execFaultAdopt_wf (dt : ℕ) (rq : Requester) (value : ℕ) (s : State) (hw : s.memWf = true) : Res.all (fun t => t.memWf = true) (execFaultAdopt dt rq value s) := by
  rw [execFaultAdopt]; apply State.hostWrite_wf (by simp [hw]); intro u hu; (try dsimp only); (repeat' split) <;> simp (maxDischargeDepth := 40) +contextual [hu]

@[simp] theorem State.doStatusClear_queue (s : State) (v : ℕ) : (State.doStatusClear s v).queue = s.queue := by
  rw [State.doStatusClear]; simp [apply_ite State.queue]

@[simp] theorem State.doStatusClear_wf (s : State) (v : ℕ) (hw : s.memWf = true) : (State.doStatusClear s v).memWf = true := by
  rw [State.doStatusClear]; simp (maxDischargeDepth := 40) +contextual [hw]

theorem execFaultStatusClear_queue (dt : ℕ) (rq : Requester) (value : ℕ) (s : State) : Res.all (fun t => t.queue = s.queue) (execFaultStatusClear dt rq value s) := by
  rw [execFaultStatusClear]; apply State.hostWrite_queue (by simp); intro u hu; (try dsimp only); (repeat' split) <;> simp [hu]

theorem execFaultStatusClear_wf (dt : ℕ) (rq : Requester) (value : ℕ) (s : State) (hw : s.memWf = true) : Res.all (fun t => t.memWf = true) (execFaultStatusClear dt rq value s) := by
  rw [execFaultStatusClear]; apply State.hostWrite_wf (by simp [hw]); intro u hu; (try dsimp only); (repeat' split) <;> simp (maxDischargeDepth := 40) +contextual [hu]

@[simp] theorem State.sramGap_queue (s : State) (g : ℕ) : (State.sramGap s g).queue = s.queue := by
  rw [State.sramGap]; simp [apply_ite State.queue]

@[simp] theorem State.sramGap_wf (s : State) (g : ℕ) (hw : s.memWf = true) : (State.sramGap s g).memWf = true := by
  rw [State.sramGap]; simp (maxDischargeDepth := 40) +contextual [hw]

@[simp] theorem State.tallyBad_queue (s : State) (g : ℕ) : (State.tallyBad s g).queue = s.queue := by
  rw [State.tallyBad]; simp [apply_ite State.queue]

@[simp] theorem State.tallyBad_wf (s : State) (g : ℕ) (hw : s.memWf = true) : (State.tallyBad s g).memWf = true := by
  rw [State.tallyBad]; simp (maxDischargeDepth := 40) +contextual [hw]

@[simp] theorem State.lmemBad_queue (s : State) (e : ℕ) (w : ℕ) : (State.lmemBad s e w).queue = s.queue := by
  rw [State.lmemBad]; simp [apply_ite State.queue]

@[simp] theorem State.lmemBad_wf (s : State) (e : ℕ) (w : ℕ) (hw : s.memWf = true) : (State.lmemBad s e w).memWf = true := by
  rw [State.lmemBad]; simp (maxDischargeDepth := 40) +contextual [hw]

theorem execSramScrub_queue (dt : ℕ) (find : SramFind) (s : State) : Res.all (fun t => t.queue = s.queue) (execSramScrub dt find s) := by
  unfold execSramScrub; (repeat' split) <;> (try dsimp only) <;> (repeat' split) <;> simp_all

theorem execSramScrub_wf (dt : ℕ) (find : SramFind) (s : State) (hw : s.memWf = true) : Res.all (fun t => t.memWf = true) (execSramScrub dt find s) := by
  unfold execSramScrub; (repeat' split) <;> (try dsimp only) <;> (repeat' split) <;> simp_all (maxDischargeDepth := 40)

/-! ### Lantern -/

@[simp] theorem State.emitPush_queue (s : State) (r : ℕ × ℕ × ℕ × ℕ) : (State.emitPush s r).queue = s.queue := by
  rw [State.emitPush]; simp [apply_ite State.queue]

@[simp] theorem State.emitPush_wf (s : State) (r : ℕ × ℕ × ℕ × ℕ) (hw : s.memWf = true) : (State.emitPush s r).memWf = true := by
  rw [State.emitPush]; simp (maxDischargeDepth := 40) +contextual [hw]

@[simp] theorem State.takeCommit_queue (s : State) (c : Commit) : (State.takeCommit s c).queue = s.queue := by
  rw [State.takeCommit]; simp [apply_ite State.queue]

@[simp] theorem State.takeCommit_wf (s : State) (c : Commit) (hw : s.memWf = true) : (State.takeCommit s c).memWf = true := by
  rw [State.takeCommit]; simp (maxDischargeDepth := 40) +contextual [hw]

@[simp] theorem State.beginHold_queue (s : State) : (State.beginHold s).queue = s.queue := by
  rw [State.beginHold]; simp [apply_ite State.queue]

@[simp] theorem State.beginHold_wf (s : State) (hw : s.memWf = true) : (State.beginHold s).memWf = true := by
  rw [State.beginHold]; simp (maxDischargeDepth := 40) +contextual [hw]

@[simp] theorem State.applyLnt_queue (s : State) : (State.applyLnt s).queue = s.queue := by
  rw [State.applyLnt]; simp [apply_ite State.queue]

@[simp] theorem State.applyLnt_wf (s : State) (hw : s.memWf = true) : (State.applyLnt s).memWf = true := by
  rw [State.applyLnt]; simp (maxDischargeDepth := 40) +contextual [hw]

@[simp] theorem State.askRestart_queue (s : State) : (State.askRestart s).queue = s.queue := by
  rw [State.askRestart]; simp [apply_ite State.queue]

@[simp] theorem State.askRestart_wf (s : State) (hw : s.memWf = true) : (State.askRestart s).memWf = true := by
  rw [State.askRestart]; simp (maxDischargeDepth := 40) +contextual [hw]

@[simp] theorem State.applyIfOff_queue (s : State) : (State.applyIfOff s).queue = s.queue := by
  rw [State.applyIfOff]; simp [apply_ite State.queue]

@[simp] theorem State.applyIfOff_wf (s : State) (hw : s.memWf = true) : (State.applyIfOff s).memWf = true := by
  rw [State.applyIfOff]; simp (maxDischargeDepth := 40) +contextual [hw]

@[simp] theorem State.doCommit_queue (s : State) : (State.doCommit s).queue = s.queue := by
  rw [State.doCommit]; simp [apply_ite State.queue]

@[simp] theorem State.doCommit_wf (s : State) (hw : s.memWf = true) : (State.doCommit s).memWf = true := by
  rw [State.doCommit]; simp (maxDischargeDepth := 40) +contextual [hw]

theorem execLntCommit_queue (dt : ℕ) (s : State) : Res.all (fun t => t.queue = s.queue) (execLntCommit dt s) := by
  rw [execLntCommit]; simp [apply_ite State.queue]

theorem execLntCommit_wf (dt : ℕ) (s : State) (hw : s.memWf = true) : Res.all (fun t => t.memWf = true) (execLntCommit dt s) := by
  rw [execLntCommit]; simp (maxDischargeDepth := 40) +contextual [hw]

@[simp] theorem State.frameInstant_queue (s : State) : (State.frameInstant s).queue = s.queue := by
  rw [State.frameInstant]; simp [apply_ite State.queue]

@[simp] theorem State.frameInstant_wf (s : State) (hw : s.memWf = true) : (State.frameInstant s).memWf = true := by
  rw [State.frameInstant]; simp (maxDischargeDepth := 40) +contextual [hw]

theorem execLntTeEdge_queue (dt : ℕ) (line : Fin 2) (s : State) : Res.all (fun t => t.queue = s.queue) (execLntTeEdge dt line s) := by
  rw [execLntTeEdge]; (repeat' split) <;> (try dsimp only) <;> (repeat' split) <;> simp_all

theorem execLntTeEdge_wf (dt : ℕ) (line : Fin 2) (s : State) (hw : s.memWf = true) : Res.all (fun t => t.memWf = true) (execLntTeEdge dt line s) := by
  rw [execLntTeEdge]; (repeat' split) <;> (try dsimp only) <;> (repeat' split) <;> simp (maxDischargeDepth := 40) +contextual [hw]

theorem execTeMissTimeout_queue (dt : ℕ) (s : State) : Res.all (fun t => t.queue = s.queue) (execTeMissTimeout dt s) := by
  rw [execTeMissTimeout]; dsimp only; (repeat' split) <;> simp [apply_ite State.queue]

theorem execTeMissTimeout_wf (dt : ℕ) (s : State) (hw : s.memWf = true) : Res.all (fun t => t.memWf = true) (execTeMissTimeout dt s) := by
  rw [execTeMissTimeout]; dsimp only; (repeat' split) <;> simp (maxDischargeDepth := 40) +contextual [hw]

theorem execVideoFrameStart_queue (dt : ℕ) (s : State) : Res.all (fun t => t.queue = s.queue) (execVideoFrameStart dt s) := by
  rw [execVideoFrameStart]; (repeat' split) <;> (try dsimp only) <;> (repeat' split) <;> simp_all

theorem execVideoFrameStart_wf (dt : ℕ) (s : State) (hw : s.memWf = true) : Res.all (fun t => t.memWf = true) (execVideoFrameStart dt s) := by
  rw [execVideoFrameStart]; (repeat' split) <;> (try dsimp only) <;> (repeat' split) <;> simp (maxDischargeDepth := 40) +contextual [hw]

@[simp] theorem State.takePending_queue (s : State) : (State.takePending s).queue = s.queue := by
  rw [State.takePending]; (repeat' split) <;> (try dsimp only) <;> (repeat' split) <;> simp_all

@[simp] theorem State.takePending_wf (s : State) (hw : s.memWf = true) : (State.takePending s).memWf = true := by
  rw [State.takePending]; (repeat' split) <;> (try dsimp only) <;> (repeat' split) <;> simp (maxDischargeDepth := 40) +contextual [hw]

@[simp] theorem State.retire_queue (s : State) : (State.retire s).queue = s.queue := by
  rw [State.retire]; (repeat' split) <;> (try dsimp only) <;> (repeat' split) <;> simp_all

@[simp] theorem State.retire_wf (s : State) (hw : s.memWf = true) : (State.retire s).memWf = true := by
  rw [State.retire]; (repeat' split) <;> (try dsimp only) <;> (repeat' split) <;> simp (maxDischargeDepth := 40) +contextual [hw]

theorem execPushStart_queue (dt : ℕ) (s : State) : Res.all (fun t => t.queue = s.queue) (execPushStart dt s) := by
  rw [execPushStart]; dsimp only; (repeat' split) <;> simp [apply_ite State.queue]

theorem execPushStart_wf (dt : ℕ) (s : State) (hw : s.memWf = true) : Res.all (fun t => t.memWf = true) (execPushStart dt s) := by
  rw [execPushStart]; dsimp only; (repeat' split) <;> simp (maxDischargeDepth := 40) +contextual [hw]

theorem execPushEnd_queue (dt : ℕ) (s : State) : Res.all (fun t => t.queue = s.queue) (execPushEnd dt s) := by
  rw [execPushEnd]; dsimp only; (repeat' split) <;> simp [apply_ite State.queue]

theorem execPushEnd_wf (dt : ℕ) (s : State) (hw : s.memWf = true) : Res.all (fun t => t.memWf = true) (execPushEnd dt s) := by
  rw [execPushEnd]; dsimp only; (repeat' split) <;> simp (maxDischargeDepth := 40) +contextual [hw]

theorem execRestartHoldEnd_queue (dt : ℕ) (s : State) : Res.all (fun t => t.queue = s.queue) (execRestartHoldEnd dt s) := by
  rw [execRestartHoldEnd]; dsimp only; (repeat' split) <;> simp [apply_ite State.queue]

theorem execRestartHoldEnd_wf (dt : ℕ) (s : State) (hw : s.memWf = true) : Res.all (fun t => t.memWf = true) (execRestartHoldEnd dt s) := by
  rw [execRestartHoldEnd]; dsimp only; (repeat' split) <;> simp (maxDischargeDepth := 40) +contextual [hw]

@[simp] theorem State.stopLantern_queue (s : State) : (State.stopLantern s).queue = s.queue := by
  rw [State.stopLantern]; simp [apply_ite State.queue]

@[simp] theorem State.stopLantern_wf (s : State) (hw : s.memWf = true) : (State.stopLantern s).memWf = true := by
  rw [State.stopLantern]; simp (maxDischargeDepth := 40) +contextual [hw]

@[simp] theorem State.resumeLantern_queue (s : State) : (State.resumeLantern s).queue = s.queue := by
  rw [State.resumeLantern]; simp [apply_ite State.queue]

@[simp] theorem State.resumeLantern_wf (s : State) (hw : s.memWf = true) : (State.resumeLantern s).memWf = true := by
  rw [State.resumeLantern]; simp (maxDischargeDepth := 40) +contextual [hw]

@[simp] theorem State.doDcs_queue (s : State) : (State.doDcs s).queue = s.queue := by
  rw [State.doDcs]; simp [apply_ite State.queue]

@[simp] theorem State.doDcs_wf (s : State) (hw : s.memWf = true) : (State.doDcs s).memWf = true := by
  rw [State.doDcs]; simp (maxDischargeDepth := 40) +contextual [hw]

theorem execDcsSend_queue (dt : ℕ) (s : State) : Res.all (fun t => t.queue = s.queue) (execDcsSend dt s) := by
  rw [execDcsSend]; simp [apply_ite State.queue]

theorem execDcsSend_wf (dt : ℕ) (s : State) (hw : s.memWf = true) : Res.all (fun t => t.memWf = true) (execDcsSend dt s) := by
  rw [execDcsSend]; simp (maxDischargeDepth := 40) +contextual [hw]

theorem execDcsSent_queue (dt : ℕ) (s : State) : Res.all (fun t => t.queue = s.queue) (execDcsSent dt s) := by
  rw [execDcsSent]; dsimp only; (repeat' split) <;> simp [apply_ite State.queue]

theorem execDcsSent_wf (dt : ℕ) (s : State) (hw : s.memWf = true) : Res.all (fun t => t.memWf = true) (execDcsSent dt s) := by
  rw [execDcsSent]; dsimp only; (repeat' split) <;> simp (maxDischargeDepth := 40) +contextual [hw]

/-! ### Read -/

@[simp] theorem State.latchUpper_queue (s : State) (rq : Requester) (base : ℕ) (x3 : ℕ) : (State.latchUpper s rq base x3).queue = s.queue := by
  fun_induction State.latchUpper s rq base x3 <;> simp_all

@[simp] theorem State.latchUpper_wf (s : State) (rq : Requester) (base : ℕ) (x3 : ℕ) (hw : s.memWf = true) : (State.latchUpper s rq base x3).memWf = true := by
  fun_induction State.latchUpper s rq base x3 <;> simp_all (maxDischargeDepth := 40)

@[simp] theorem State.read32_queue (s : State) (rq : Requester) (off : ℕ) : (State.read32 s rq off).2.queue = s.queue := by
  rw [State.read32]; (repeat' split) <;> (try dsimp only) <;> (repeat' split) <;> simp_all

@[simp] theorem State.read32_wf (s : State) (rq : Requester) (off : ℕ) (hw : s.memWf = true) : (State.read32 s rq off).2.memWf = true := by
  rw [State.read32]; (repeat' split) <;> (try dsimp only) <;> (repeat' split) <;> simp (maxDischargeDepth := 40) +contextual [hw]

@[simp] theorem State.reachWord_queue (s : State) (rq : Requester) (off : ℕ) : (State.reachWord s rq off).2.queue = s.queue := by
  rw [State.reachWord]; (repeat' split) <;> (try dsimp only) <;> (repeat' split) <;> simp_all

@[simp] theorem State.reachWord_wf (s : State) (rq : Requester) (off : ℕ) (hw : s.memWf = true) : (State.reachWord s rq off).2.memWf = true := by
  rw [State.reachWord]; (repeat' split) <;> (try dsimp only) <;> (repeat' split) <;> simp (maxDischargeDepth := 40) +contextual [hw]

@[simp] theorem State.readAccess_queue (s : State) (rq : Requester) (off : ℕ) (width : ℕ) : (State.readAccess s rq off width).2.queue = s.queue := by
  rw [State.readAccess]; dsimp only; (repeat' split) <;> simp [apply_ite State.queue]

@[simp] theorem State.readAccess_wf (s : State) (rq : Requester) (off : ℕ) (width : ℕ) (hw : s.memWf = true) : (State.readAccess s rq off width).2.memWf = true := by
  rw [State.readAccess]; dsimp only; (repeat' split) <;> simp (maxDischargeDepth := 40) +contextual [hw]

/-! ### Converters -/

@[simp] theorem State.stopBank_queue (s : State) (b : ℕ) (down : Bool) : (State.stopBank s b down).queue = s.queue := by
  rw [State.stopBank]; simp [apply_ite State.queue]

@[simp] theorem State.stopBank_wf (s : State) (b : ℕ) (down : Bool) (hw : s.memWf = true) : (State.stopBank s b down).memWf = true := by
  rw [State.stopBank]; simp (maxDischargeDepth := 40) +contextual [hw]

@[simp] theorem State.stopBanks_queue (s : State) (bs : List ℕ) (down : Bool) : (State.stopBanks s bs down).queue = s.queue := by
  rw [State.stopBanks]; simp [apply_ite State.queue]

@[simp] theorem State.stopBanks_wf (s : State) (bs : List ℕ) (down : Bool) (hw : s.memWf = true) : (State.stopBanks s bs down).memWf = true := by
  rw [State.stopBanks]; simp (maxDischargeDepth := 40) +contextual [hw]

@[simp] theorem State.powerUp_queue (s : State) (b : ℕ) (full : Bool) : (State.powerUp s b full).queue = s.queue := by
  rw [State.powerUp]; simp [apply_ite State.queue]

@[simp] theorem State.powerUp_wf (s : State) (b : ℕ) (full : Bool) (hw : s.memWf = true) : (State.powerUp s b full).memWf = true := by
  rw [State.powerUp]; simp (maxDischargeDepth := 40) +contextual [hw]

@[simp] theorem State.bankReady_queue (s : State) (b : ℕ) : (State.bankReady s b).queue = s.queue := by
  rw [State.bankReady]; simp [apply_ite State.queue]

@[simp] theorem State.bankReady_wf (s : State) (b : ℕ) (hw : s.memWf = true) : (State.bankReady s b).memWf = true := by
  rw [State.bankReady]; simp (maxDischargeDepth := 40) +contextual [hw]

theorem execConverterReady_queue (dt : ℕ) (b : Fin 16) (s : State) : Res.all (fun t => t.queue = s.queue) (execConverterReady dt b s) := by
  rw [execConverterReady]; (repeat' split) <;> (try dsimp only) <;> (repeat' split) <;> simp_all

theorem execConverterReady_wf (dt : ℕ) (b : Fin 16) (s : State) (hw : s.memWf = true) : Res.all (fun t => t.memWf = true) (execConverterReady dt b s) := by
  rw [execConverterReady]; (repeat' split) <;> (try dsimp only) <;> (repeat' split) <;> simp (maxDischargeDepth := 40) +contextual [hw]

theorem execConverterStartTimeout_queue (dt : ℕ) (b : Fin 16) (s : State) : Res.all (fun t => t.queue = s.queue) (execConverterStartTimeout dt b s) := by
  rw [execConverterStartTimeout]; dsimp only; (repeat' split) <;> simp [apply_ite State.queue]

theorem execConverterStartTimeout_wf (dt : ℕ) (b : Fin 16) (s : State) (hw : s.memWf = true) : Res.all (fun t => t.memWf = true) (execConverterStartTimeout dt b s) := by
  rw [execConverterStartTimeout]; dsimp only; (repeat' split) <;> simp (maxDischargeDepth := 40) +contextual [hw]

theorem execConverterStartRetry_queue (dt : ℕ) (b : Fin 16) (s : State) : Res.all (fun t => t.queue = s.queue) (execConverterStartRetry dt b s) := by
  rw [execConverterStartRetry]; (repeat' split) <;> (try dsimp only) <;> (repeat' split) <;> simp_all

theorem execConverterStartRetry_wf (dt : ℕ) (b : Fin 16) (s : State) (hw : s.memWf = true) : Res.all (fun t => t.memWf = true) (execConverterStartRetry dt b s) := by
  rw [execConverterStartRetry]; (repeat' split) <;> (try dsimp only) <;> (repeat' split) <;> simp (maxDischargeDepth := 40) +contextual [hw]

@[simp] theorem State.doOvrClear_queue (s : State) (b : ℕ) : (State.doOvrClear s b).queue = s.queue := by
  rw [State.doOvrClear]; simp [apply_ite State.queue]

@[simp] theorem State.doOvrClear_wf (s : State) (b : ℕ) (hw : s.memWf = true) : (State.doOvrClear s b).memWf = true := by
  rw [State.doOvrClear]; simp (maxDischargeDepth := 40) +contextual [hw]

theorem execOvrClear_queue (dt : ℕ) (b : Fin 16) (s : State) : Res.all (fun t => t.queue = s.queue) (execOvrClear dt b s) := by
  rw [execOvrClear]; simp [apply_ite State.queue]

theorem execOvrClear_wf (dt : ℕ) (b : Fin 16) (s : State) (hw : s.memWf = true) : Res.all (fun t => t.memWf = true) (execOvrClear dt b s) := by
  rw [execOvrClear]; simp (maxDischargeDepth := 40) +contextual [hw]

theorem execSettlingEnd_queue (dt : ℕ) (b : Fin 16) (c : Fin 16) (s : State) : Res.all (fun t => t.queue = s.queue) (execSettlingEnd dt b c s) := by
  rw [execSettlingEnd]; dsimp only; (repeat' split) <;> simp [apply_ite State.queue]

theorem execSettlingEnd_wf (dt : ℕ) (b : Fin 16) (c : Fin 16) (s : State) (hw : s.memWf = true) : Res.all (fun t => t.memWf = true) (execSettlingEnd dt b c s) := by
  rw [execSettlingEnd]; dsimp only; (repeat' split) <;> simp (maxDischargeDepth := 40) +contextual [hw]

@[simp] theorem State.clockLost_queue (s : State) : (State.clockLost s).queue = s.queue := by
  rw [State.clockLost]; simp [apply_ite State.queue]

@[simp] theorem State.clockLost_wf (s : State) (hw : s.memWf = true) : (State.clockLost s).memWf = true := by
  rw [State.clockLost]; simp (maxDischargeDepth := 40) +contextual [hw]

theorem execSamplePllLoss_queue (dt : ℕ) (s : State) : Res.all (fun t => t.queue = s.queue) (execSamplePllLoss dt s) := by
  rw [execSamplePllLoss]; (repeat' split) <;> (try dsimp only) <;> (repeat' split) <;> simp_all

theorem execSamplePllLoss_wf (dt : ℕ) (s : State) (hw : s.memWf = true) : Res.all (fun t => t.memWf = true) (execSamplePllLoss dt s) := by
  rw [execSamplePllLoss]; (repeat' split) <;> (try dsimp only) <;> (repeat' split) <;> simp (maxDischargeDepth := 40) +contextual [hw]

theorem execSamplePllRelock_queue (dt : ℕ) (s : State) : Res.all (fun t => t.queue = s.queue) (execSamplePllRelock dt s) := by
  rw [execSamplePllRelock]; dsimp only; (repeat' split) <;> simp [apply_ite State.queue]

theorem execSamplePllRelock_wf (dt : ℕ) (s : State) (hw : s.memWf = true) : Res.all (fun t => t.memWf = true) (execSamplePllRelock dt s) := by
  rw [execSamplePllRelock]; dsimp only; (repeat' split) <;> simp (maxDischargeDepth := 40) +contextual [hw]

end Sys2Proof.Machine
end

