-- ==== Sys2Proof/Laws/KeepPorts.lean ====
section
/-! SUPPORT. What links, transport, the test port, resets, ports, the Almanac and power keep: the queue of waiting commands, and the canonical form of every store. -/

namespace Sys2Proof.Machine

/-! ### Links -/

@[simp] theorem State.drainWrites_queue (s : State) : (State.drainWrites s).queue = s.queue := by
  rw [State.drainWrites]; simp [apply_ite State.queue]

@[simp] theorem State.drainWrites_wf (s : State) (hw : s.memWf = true) : (State.drainWrites s).memWf = true := by
  rw [State.drainWrites]; simp (maxDischargeDepth := 40) +contextual [hw]

@[simp] theorem State.stacksSleep_queue (s : State) : (State.stacksSleep s).queue = s.queue := by
  rw [State.stacksSleep]; simp [apply_ite State.queue]

@[simp] theorem State.stacksSleep_wf (s : State) (hw : s.memWf = true) : (State.stacksSleep s).memWf = true := by
  rw [State.stacksSleep]; simp (maxDischargeDepth := 40) +contextual [hw]

@[simp] theorem State.stacksWake_queue (s : State) : (State.stacksWake s).queue = s.queue := by
  rw [State.stacksWake]; simp [apply_ite State.queue]

@[simp] theorem State.stacksWake_wf (s : State) (hw : s.memWf = true) : (State.stacksWake s).memWf = true := by
  rw [State.stacksWake]; simp (maxDischargeDepth := 40) +contextual [hw]

@[simp] theorem State.stacksOff_queue (s : State) : (State.stacksOff s).queue = s.queue := by
  rw [State.stacksOff]; simp [apply_ite State.queue]

@[simp] theorem State.stacksOff_wf (s : State) (hw : s.memWf = true) : (State.stacksOff s).memWf = true := by
  rw [State.stacksOff]
  apply forAll_memWf
  · intro s k hs
    simp [hs]
  · rw [State.memWf_mk]
    exact wf_space hw rfl

@[simp] theorem State.ethAllDown_queue (s : State) (count : Bool) : (State.ethAllDown s count).queue = s.queue := by
  rw [State.ethAllDown]; simp [apply_ite State.queue]

@[simp] theorem State.ethAllDown_wf (s : State) (count : Bool) (hw : s.memWf = true) : (State.ethAllDown s count).memWf = true := by
  rw [State.ethAllDown]; simp (maxDischargeDepth := 40) +contextual [hw]

@[simp] theorem State.elect_queue (s : State) : (State.elect s).queue = s.queue := by
  rw [State.elect]; dsimp only; (repeat' split) <;> simp [apply_ite State.queue]

@[simp] theorem State.elect_wf (s : State) (hw : s.memWf = true) : (State.elect s).memWf = true := by
  rw [State.elect]; dsimp only; (repeat' split) <;> simp (maxDischargeDepth := 40) +contextual [hw]

@[simp] theorem State.portClear_queue (s : State) (d : ℕ) : (State.portClear s d).queue = s.queue := by
  rw [State.portClear]; simp [apply_ite State.queue]

@[simp] theorem State.portClear_wf (s : State) (d : ℕ) (hw : s.memWf = true) : (State.portClear s d).memWf = true := by
  rw [State.portClear]; simp (maxDischargeDepth := 40) +contextual [hw]

@[simp] theorem State.ringOff_queue (s : State) (count : Bool) : (State.ringOff s count).queue = s.queue := by
  rw [State.ringOff]; simp [apply_ite State.queue]

@[simp] theorem State.ringOff_wf (s : State) (count : Bool) (hw : s.memWf = true) : (State.ringOff s count).memWf = true := by
  rw [State.ringOff]; simp (maxDischargeDepth := 40) +contextual [hw]

@[simp] theorem State.ringOn_queue (s : State) : (State.ringOn s).queue = s.queue := by
  rw [State.ringOn]; simp [apply_ite State.queue]

@[simp] theorem State.ringOn_wf (s : State) (hw : s.memWf = true) : (State.ringOn s).memWf = true := by
  rw [State.ringOn]; simp (maxDischargeDepth := 40) +contextual [hw]

@[simp] theorem State.pcieQuietDown_queue (s : State) : (State.pcieQuietDown s).queue = s.queue := by
  rw [State.pcieQuietDown]; simp [apply_ite State.queue]

@[simp] theorem State.pcieQuietDown_wf (s : State) (hw : s.memWf = true) : (State.pcieQuietDown s).memWf = true := by
  rw [State.pcieQuietDown]; simp (maxDischargeDepth := 40) +contextual [hw]

@[simp] theorem State.linksDown_queue (s : State) (count : Bool) : (State.linksDown s count).queue = s.queue := by
  rw [State.linksDown]; simp [apply_ite State.queue]

@[simp] theorem State.linksDown_wf (s : State) (count : Bool) (hw : s.memWf = true) : (State.linksDown s count).memWf = true := by
  rw [State.linksDown]; simp (maxDischargeDepth := 40) +contextual [hw]

@[simp] theorem State.holdSteps_queue (s : State) : (State.holdSteps s).queue = s.queue := by
  rw [State.holdSteps]; simp [apply_ite State.queue]

@[simp] theorem State.holdSteps_wf (s : State) (hw : s.memWf = true) : (State.holdSteps s).memWf = true := by
  rw [State.holdSteps]; simp (maxDischargeDepth := 40) +contextual [hw]

/-! ### Transport -/

@[simp] theorem State.dropMsg_queue (s : State) (q : ℕ) : (State.dropMsg s q).queue = s.queue := by
  rw [State.dropMsg]; simp [apply_ite State.queue]

@[simp] theorem State.dropMsg_wf (s : State) (q : ℕ) (hw : s.memWf = true) : (State.dropMsg s q).memWf = true := by
  rw [State.dropMsg]; simp (maxDischargeDepth := 40) +contextual [hw]

@[simp] theorem State.sendFrame_queue (s : State) (q : ℕ) (k : Option ℕ) (dst : Option NetAddr) (bs : List Byte) : (State.sendFrame s q k dst bs).queue = s.queue := by
  rw [State.sendFrame]; simp [apply_ite State.queue]

@[simp] theorem State.sendFrame_wf (s : State) (q : ℕ) (k : Option ℕ) (dst : Option NetAddr) (bs : List Byte) (hw : s.memWf = true) : (State.sendFrame s q k dst bs).memWf = true := by
  rw [State.sendFrame]; simp (maxDischargeDepth := 40) +contextual [hw]

@[simp] theorem State.placeStream_queue (s : State) (k : ℕ) (from_ : ℕ) : (State.placeStream s k from_).queue = s.queue := by
  rw [State.placeStream]; (repeat' split) <;> (try dsimp only) <;> (repeat' split) <;> simp_all

@[simp] theorem State.placeStream_wf (s : State) (k : ℕ) (from_ : ℕ) (hw : s.memWf = true) : (State.placeStream s k from_).memWf = true := by
  rw [State.placeStream]; (repeat' split) <;> (try dsimp only) <;> (repeat' split) <;> simp (maxDischargeDepth := 40) +contextual [hw]

@[simp] theorem State.failStream_queue (s : State) (k : ℕ) : (State.failStream s k).queue = s.queue := by
  rw [State.failStream]; (repeat' split) <;> (try dsimp only) <;> (repeat' split) <;> simp_all

@[simp] theorem State.failStream_wf (s : State) (k : ℕ) (hw : s.memWf = true) : (State.failStream s k).memWf = true := by
  rw [State.failStream]; (repeat' split) <;> (try dsimp only) <;> (repeat' split) <;> simp (maxDischargeDepth := 40) +contextual [hw]

@[simp] theorem State.doOpen_queue (s : State) (k : ℕ) : (State.doOpen s k).queue = s.queue := by
  rw [State.doOpen]; simp [apply_ite State.queue]

@[simp] theorem State.doOpen_wf (s : State) (k : ℕ) (hw : s.memWf = true) : (State.doOpen s k).memWf = true := by
  rw [State.doOpen]; simp (maxDischargeDepth := 40) +contextual [hw]

theorem execStreamOpen_queue (dt : ℕ) (k : Fin 256) (s : State) : Res.all (fun t => t.queue = s.queue) (execStreamOpen dt k s) := by
  rw [execStreamOpen]; simp [apply_ite State.queue]

theorem execStreamOpen_wf (dt : ℕ) (k : Fin 256) (s : State) (hw : s.memWf = true) : Res.all (fun t => t.memWf = true) (execStreamOpen dt k s) := by
  rw [execStreamOpen]; simp (maxDischargeDepth := 40) +contextual [hw]

@[simp] theorem State.doClose_queue (s : State) (k : ℕ) : (State.doClose s k).queue = s.queue := by
  rw [State.doClose]; simp [apply_ite State.queue]

@[simp] theorem State.doClose_wf (s : State) (k : ℕ) (hw : s.memWf = true) : (State.doClose s k).memWf = true := by
  rw [State.doClose]; simp (maxDischargeDepth := 40) +contextual [hw]

theorem execStreamClose_queue (dt : ℕ) (k : Fin 256) (s : State) : Res.all (fun t => t.queue = s.queue) (execStreamClose dt k s) := by
  rw [execStreamClose]; simp [apply_ite State.queue]

theorem execStreamClose_wf (dt : ℕ) (k : Fin 256) (s : State) (hw : s.memWf = true) : Res.all (fun t => t.memWf = true) (execStreamClose dt k s) := by
  rw [execStreamClose]; simp (maxDischargeDepth := 40) +contextual [hw]

theorem execEthPortDown_queue (dt : ℕ) (q : Fin 32) (s : State) : Res.all (fun t => t.queue = s.queue) (execEthPortDown dt q s) := by
  rw [execEthPortDown]; dsimp only; (repeat' split) <;> simp [apply_ite State.queue]

theorem execEthPortDown_wf (dt : ℕ) (q : Fin 32) (s : State) (hw : s.memWf = true) : Res.all (fun t => t.memWf = true) (execEthPortDown dt q s) := by
  rw [execEthPortDown]; dsimp only; (repeat' split) <;> simp (maxDischargeDepth := 40) +contextual [hw]

theorem execEthPortUp_queue (dt : ℕ) (q : Fin 32) (s : State) : Res.all (fun t => t.queue = s.queue) (execEthPortUp dt q s) := by
  rw [execEthPortUp]; dsimp only; (repeat' split) <;> simp [apply_ite State.queue]

theorem execEthPortUp_wf (dt : ℕ) (q : Fin 32) (s : State) (hw : s.memWf = true) : Res.all (fun t => t.memWf = true) (execEthPortUp dt q s) := by
  rw [execEthPortUp]; dsimp only; (repeat' split) <;> simp (maxDischargeDepth := 40) +contextual [hw]

@[simp] theorem State.cutRecord_queue (s : State) (k : ℕ) (e : ℕ) (j : HJob) : (State.cutRecord s k e j).queue = s.queue := by
  rw [State.cutRecord]; dsimp only; (repeat' split) <;> simp [apply_ite State.queue]

@[simp] theorem State.cutRecord_wf (s : State) (k : ℕ) (e : ℕ) (j : HJob) (hw : s.memWf = true) : (State.cutRecord s k e j).memWf = true := by
  rw [State.cutRecord]; dsimp only; (repeat' split) <;> simp (maxDischargeDepth := 40) +contextual [hw]

@[simp] theorem State.refillChunks_queue (s : State) (k : ℕ) : (State.refillChunks s k).queue = s.queue := by
  rw [State.refillChunks]; (repeat' split) <;> (try dsimp only) <;> (repeat' split) <;> simp_all

@[simp] theorem State.refillChunks_wf (s : State) (k : ℕ) (hw : s.memWf = true) : (State.refillChunks s k).memWf = true := by
  rw [State.refillChunks]; (repeat' split) <;> (try dsimp only) <;> (repeat' split) <;> simp (maxDischargeDepth := 40) +contextual [hw]

@[simp] theorem State.sendData_queue (s : State) (k : ℕ) (resent : Bool) (f : Frame) : (State.sendData s k resent f).queue = s.queue := by
  rw [State.sendData]; simp [apply_ite State.queue]

@[simp] theorem State.sendData_wf (s : State) (k : ℕ) (resent : Bool) (f : Frame) (hw : s.memWf = true) : (State.sendData s k resent f).memWf = true := by
  rw [State.sendData]; simp (maxDischargeDepth := 40) +contextual [hw]

@[simp] theorem State.doSend_queue (s : State) (k : ℕ) : (State.doSend s k).queue = s.queue := by
  rw [State.doSend]; dsimp only; (repeat' split) <;> simp [apply_ite State.queue]

@[simp] theorem State.doSend_wf (s : State) (k : ℕ) (hw : s.memWf = true) : (State.doSend s k).memWf = true := by
  rw [State.doSend]; dsimp only; (repeat' split) <;> simp (maxDischargeDepth := 40) +contextual [hw]

theorem execDataSend_queue (dt : ℕ) (k : Fin 256) (s : State) : Res.all (fun t => t.queue = s.queue) (execDataSend dt k s) := by
  rw [execDataSend]; (repeat' split) <;> (try dsimp only) <;> (repeat' split) <;> simp_all

theorem execDataSend_wf (dt : ℕ) (k : Fin 256) (s : State) (hw : s.memWf = true) : Res.all (fun t => t.memWf = true) (execDataSend dt k s) := by
  rw [execDataSend]; (repeat' split) <;> (try dsimp only) <;> (repeat' split) <;> simp (maxDischargeDepth := 40) +contextual [hw]

theorem execRetransmitTimeout_queue (dt : ℕ) (k : Fin 256) (s : State) : Res.all (fun t => t.queue = s.queue) (execRetransmitTimeout dt k s) := by
  rw [execRetransmitTimeout]; dsimp only; (repeat' split) <;> simp [apply_ite State.queue]

theorem execRetransmitTimeout_wf (dt : ℕ) (k : Fin 256) (s : State) (hw : s.memWf = true) : Res.all (fun t => t.memWf = true) (execRetransmitTimeout dt k s) := by
  rw [execRetransmitTimeout]; dsimp only; (repeat' split) <;> simp (maxDischargeDepth := 40) +contextual [hw]

@[simp] theorem State.sendReleaseAck_queue (s : State) (h : HeldRelease) (status : ℕ) : (State.sendReleaseAck s h status).queue = s.queue := by
  rw [State.sendReleaseAck]; (repeat' split) <;> (try dsimp only) <;> (repeat' split) <;> simp_all

@[simp] theorem State.sendReleaseAck_wf (s : State) (h : HeldRelease) (status : ℕ) (hw : s.memWf = true) : (State.sendReleaseAck s h status).memWf = true := by
  rw [State.sendReleaseAck]; (repeat' split) <;> (try dsimp only) <;> (repeat' split) <;> simp (maxDischargeDepth := 40) +contextual [hw]

@[simp] theorem State.serveRelease_queue (s : State) (h : HeldRelease) : (State.serveRelease s h).queue = s.queue := by
  rw [State.serveRelease]
  split
  · simp
  · split
    · simp
    · next h => simpa using State.release_queue _ _ _ _ _ h

@[simp] theorem State.serveRelease_wf (s : State) (h : HeldRelease) (hw : s.memWf = true) : (State.serveRelease s h).memWf = true := by
  rw [State.serveRelease]
  split
  · simp (maxDischargeDepth := 40) [hw]
  · split
    · simp (maxDischargeDepth := 40) [hw]
    · next hr => simp (maxDischargeDepth := 40) [State.release_wf _ _ _ _ hw _ hr]

@[simp] theorem State.serveHeld_queue (s : State) : (State.serveHeld s).queue = s.queue := by
  rw [State.serveHeld]; simp [apply_ite State.queue]

@[simp] theorem State.serveHeld_wf (s : State) (hw : s.memWf = true) : (State.serveHeld s).memWf = true := by
  rw [State.serveHeld]; simp (maxDischargeDepth := 40) +contextual [hw]

@[simp] theorem State.refuseHt_queue (s : State) (q : ℕ) (what : ℕ) : (State.refuseHt s q what).queue = s.queue := by
  rw [State.refuseHt]; simp [apply_ite State.queue]

@[simp] theorem State.refuseHt_wf (s : State) (q : ℕ) (what : ℕ) (hw : s.memWf = true) : (State.refuseHt s q what).memWf = true := by
  rw [State.refuseHt]; simp (maxDischargeDepth := 40) +contextual [hw]

@[simp] theorem State.doAck_queue (s : State) (q : ℕ) (k : ℕ) (nxt : ℕ) (credit : ℕ) : (State.doAck s q k nxt credit).queue = s.queue := by
  rw [State.doAck]; simp [apply_ite State.queue]

@[simp] theorem State.doAck_wf (s : State) (q : ℕ) (k : ℕ) (nxt : ℕ) (credit : ℕ) (hw : s.memWf = true) : (State.doAck s q k nxt credit).memWf = true := by
  rw [State.doAck]; simp (maxDischargeDepth := 40) +contextual [hw]

@[simp] theorem State.doResend_queue (s : State) (k : ℕ) (first : ℕ) (count : ℕ) : (State.doResend s k first count).queue = s.queue := by
  rw [State.doResend]; simp [apply_ite State.queue]

@[simp] theorem State.doResend_wf (s : State) (k : ℕ) (first : ℕ) (count : ℕ) (hw : s.memWf = true) : (State.doResend s k first count).memWf = true := by
  rw [State.doResend]; simp (maxDischargeDepth := 40) +contextual [hw]

@[simp] theorem State.passRelease_queue (s : State) (p : ℕ) (h : HeldRelease) : (State.passRelease s p h).queue = s.queue := by
  rw [State.passRelease]; simp [apply_ite State.queue]

@[simp] theorem State.passRelease_wf (s : State) (p : ℕ) (h : HeldRelease) (hw : s.memWf = true) : (State.passRelease s p h).memWf = true := by
  rw [State.passRelease]; simp (maxDischargeDepth := 40) +contextual [hw]

@[simp] theorem State.doReleaseMsg_queue (s : State) (q : ℕ) (k : ℕ) (bs : List Byte) : (State.doReleaseMsg s q k bs).queue = s.queue := by
  rw [State.doReleaseMsg]; dsimp only; (repeat' split) <;> simp [apply_ite State.queue]

@[simp] theorem State.doReleaseMsg_wf (s : State) (q : ℕ) (k : ℕ) (bs : List Byte) (hw : s.memWf = true) : (State.doReleaseMsg s q k bs).memWf = true := by
  rw [State.doReleaseMsg]; dsimp only; (repeat' split) <;> simp (maxDischargeDepth := 40) +contextual [hw]

@[simp] theorem State.streamMsg_queue (s : State) (q : ℕ) (ty : ℕ) (ip : ℕ) (udp : ℕ) (bs : List Byte) : (State.streamMsg s q ty ip udp bs).queue = s.queue := by
  rw [State.streamMsg]; simp [apply_ite State.queue]

@[simp] theorem State.streamMsg_wf (s : State) (q : ℕ) (ty : ℕ) (ip : ℕ) (udp : ℕ) (bs : List Byte) (hw : s.memWf = true) : (State.streamMsg s q ty ip udp bs).memWf = true := by
  rw [State.streamMsg]; simp (maxDischargeDepth := 40) +contextual [hw]

theorem execAckMessage_queue (dt : ℕ) (q : Fin 32) (ip : ℕ) (udp : ℕ) (bytes : List Byte) (s : State) : Res.all (fun t => t.queue = s.queue) (execAckMessage dt q ip udp bytes s) := by
  rw [execAckMessage]; simp [apply_ite State.queue]

theorem execAckMessage_wf (dt : ℕ) (q : Fin 32) (ip : ℕ) (udp : ℕ) (bytes : List Byte) (s : State) (hw : s.memWf = true) : Res.all (fun t => t.memWf = true) (execAckMessage dt q ip udp bytes s) := by
  rw [execAckMessage]; simp (maxDischargeDepth := 40) +contextual [hw]

theorem execResendMessage_queue (dt : ℕ) (q : Fin 32) (ip : ℕ) (udp : ℕ) (bytes : List Byte) (s : State) : Res.all (fun t => t.queue = s.queue) (execResendMessage dt q ip udp bytes s) := by
  rw [execResendMessage]; simp [apply_ite State.queue]

theorem execResendMessage_wf (dt : ℕ) (q : Fin 32) (ip : ℕ) (udp : ℕ) (bytes : List Byte) (s : State) (hw : s.memWf = true) : Res.all (fun t => t.memWf = true) (execResendMessage dt q ip udp bytes s) := by
  rw [execResendMessage]; simp (maxDischargeDepth := 40) +contextual [hw]

theorem execReleaseMessage_queue (dt : ℕ) (q : Fin 32) (ip : ℕ) (udp : ℕ) (bytes : List Byte) (s : State) : Res.all (fun t => t.queue = s.queue) (execReleaseMessage dt q ip udp bytes s) := by
  rw [execReleaseMessage]; simp [apply_ite State.queue]

theorem execReleaseMessage_wf (dt : ℕ) (q : Fin 32) (ip : ℕ) (udp : ℕ) (bytes : List Byte) (s : State) (hw : s.memWf = true) : Res.all (fun t => t.memWf = true) (execReleaseMessage dt q ip udp bytes s) := by
  rw [execReleaseMessage]; simp (maxDischargeDepth := 40) +contextual [hw]

/-! ### TestPort -/

theorem execTapInstruction_queue (dt : ℕ) (code : Fin 256) (s : State) : Res.all (fun t => t.queue = s.queue) (execTapInstruction dt code s) := by
  rw [execTapInstruction]; (repeat' split) <;> (try dsimp only) <;> (repeat' split) <;> simp_all

theorem execTapInstruction_wf (dt : ℕ) (code : Fin 256) (s : State) (hw : s.memWf = true) : Res.all (fun t => t.memWf = true) (execTapInstruction dt code s) := by
  rw [execTapInstruction]; (repeat' split) <;> (try dsimp only) <;> (repeat' split) <;> simp (maxDischargeDepth := 40) +contextual [hw]

theorem execTestLogicReset_queue (dt : ℕ) (s : State) : Res.all (fun t => t.queue = s.queue) (execTestLogicReset dt s) := by
  rw [execTestLogicReset]; simp [apply_ite State.queue]

theorem execTestLogicReset_wf (dt : ℕ) (s : State) (hw : s.memWf = true) : Res.all (fun t => t.memWf = true) (execTestLogicReset dt s) := by
  rw [execTestLogicReset]; simp (maxDischargeDepth := 40) +contextual [hw]

/-! ### Resets -/

@[simp] theorem State.takePosition_queue (s : State) : (State.takePosition s).queue = s.queue := by
  rw [State.takePosition]; (repeat' split) <;> (try dsimp only) <;> (repeat' split) <;> simp_all

@[simp] theorem State.takePosition_wf (s : State) (hw : s.memWf = true) : (State.takePosition s).memWf = true := by
  rw [State.takePosition]; (repeat' split) <;> (try dsimp only) <;> (repeat' split) <;> simp (maxDischargeDepth := 40) +contextual [hw]

@[simp] theorem State.discardSums_queue (s : State) : (State.discardSums s).queue = s.queue := by
  rw [State.discardSums]; simp [apply_ite State.queue]

@[simp] theorem State.discardSums_wf (s : State) (hw : s.memWf = true) : (State.discardSums s).memWf = true := by
  rw [State.discardSums]; simp (maxDischargeDepth := 40) +contextual [hw]

@[simp] theorem State.cutRuns_queue (s : State) : (State.cutRuns s).queue = s.queue := by
  rw [State.cutRuns]; simp [apply_ite State.queue]

@[simp] theorem State.cutRuns_wf (s : State) (hw : s.memWf = true) : (State.cutRuns s).memWf = true := by
  rw [State.cutRuns]; simp (maxDischargeDepth := 40) +contextual [hw]

@[simp] theorem State.showCut_queue (s : State) (l : List ℕ) : (State.showCut s l).queue = s.queue := by
  rw [State.showCut]; simp [apply_ite State.queue]

@[simp] theorem State.showCut_wf (s : State) (l : List ℕ) (hw : s.memWf = true) : (State.showCut s l).memWf = true := by
  rw [State.showCut]; simp (maxDischargeDepth := 40) +contextual [hw]

@[simp] theorem State.requestReset_queue (s : State) (cause : ℕ) : (State.requestReset s cause).queue = s.queue := by
  rw [State.requestReset]; simp [apply_ite State.queue]

@[simp] theorem State.requestReset_wf (s : State) (cause : ℕ) (hw : s.memWf = true) : (State.requestReset s cause).memWf = true := by
  rw [State.requestReset]; simp (maxDischargeDepth := 40) +contextual [hw]

@[simp] theorem State.keepFaults_queue (s : State) : (State.keepFaults s).queue = s.queue := by
  rw [State.keepFaults]; simp [apply_ite State.queue]

@[simp] theorem State.keepFaults_wf (s : State) (hw : s.memWf = true) : (State.keepFaults s).memWf = true := by
  rw [State.keepFaults]; simp (maxDischargeDepth := 40) +contextual [hw]

@[simp] theorem State.clearCore_queue (s : State) : (State.clearCore s).queue = s.queue := by
  rw [State.clearCore]; simp [apply_ite State.queue]

@[simp] theorem State.clearCore_wf (s : State) (hw : s.memWf = true) : (State.clearCore s).memWf = true := by
  rw [State.clearCore, State.memWf_mk]
  have hm := twf_of_wf hw
  simpa [Memory.wf, hm.1] using hm.2.2.1

@[simp] theorem State.updReset_queue (s : State) (st : ℕ) : (State.updReset s st).queue = s.queue := by
  rw [State.updReset]; simp [apply_ite State.queue]

@[simp] theorem State.updReset_wf (s : State) (st : ℕ) (hw : s.memWf = true) : (State.updReset s st).memWf = true := by
  rw [State.updReset]; simp (maxDischargeDepth := 40) +contextual [hw]

@[simp] theorem State.copyEpoch_queue (s : State) : (State.copyEpoch s).queue = s.queue := by
  rw [State.copyEpoch]; simp [apply_ite State.queue]

@[simp] theorem State.copyEpoch_wf (s : State) (hw : s.memWf = true) : (State.copyEpoch s).memWf = true := by
  rw [State.copyEpoch]; simp (maxDischargeDepth := 40) +contextual [hw]

@[simp] theorem State.resetRegs_queue (s : State) (f : ℕ → Word → Word) : (State.resetRegs s f).queue = s.queue := by
  rw [State.resetRegs]; simp [apply_ite State.queue]

@[simp] theorem State.resetRegs_wf (s : State) (f : ℕ → Word → Word) (hw : s.memWf = true) : (State.resetRegs s f).memWf = true := by
  rw [State.resetRegs, State.memWf_mk]
  exact wf_regs hw (twf_resetWords _ _ (twf_of_wf hw).1)

@[simp] theorem State.stacksAfter_queue (s : State) (states : List ℕ) : (State.stacksAfter s states).queue = s.queue := by
  rw [State.stacksAfter]; simp [apply_ite State.queue]

@[simp] theorem State.stacksAfter_wf (s : State) (states : List ℕ) (hw : s.memWf = true) : (State.stacksAfter s states).memWf = true := by
  rw [State.stacksAfter]; simp (maxDischargeDepth := 40) +contextual [hw]

@[simp] theorem State.endRunByReset_queue (s : State) (run : Option CalRun) (asked : List ℕ) (aborted : Bool) : (State.endRunByReset s run asked aborted).queue = s.queue := by
  unfold State.endRunByReset; (repeat' split) <;> (try dsimp only) <;> (repeat' split) <;> simp_all

@[simp] theorem State.endRunByReset_wf (s : State) (run : Option CalRun) (asked : List ℕ) (aborted : Bool) (hw : s.memWf = true) : (State.endRunByReset s run asked aborted).memWf = true := by
  unfold State.endRunByReset; (repeat' split) <;> (try dsimp only) <;> (repeat' split) <;> simp_all (maxDischargeDepth := 40)

@[simp] theorem State.assertReset_queue (s : State) : (State.assertReset s).queue = s.queue := by
  rw [State.assertReset]; simp [apply_ite State.queue]

@[simp] theorem State.assertReset_wf (s : State) (hw : s.memWf = true) : (State.assertReset s).memWf = true := by
  rw [State.assertReset]; simp (maxDischargeDepth := 40) +contextual [hw]

theorem execRstNAssert_queue (dt : ℕ) (s : State) : Res.all (fun t => t.queue = s.queue) (execRstNAssert dt s) := by
  rw [execRstNAssert]; simp [apply_ite State.queue]

theorem execRstNAssert_wf (dt : ℕ) (s : State) (hw : s.memWf = true) : Res.all (fun t => t.memWf = true) (execRstNAssert dt s) := by
  rw [execRstNAssert]; simp (maxDischargeDepth := 40) +contextual [hw]

@[simp] theorem State.doGlbReset_queue (s : State) (w : Word) : (State.doGlbReset s w).queue = s.queue := by
  rw [State.doGlbReset]; simp [apply_ite State.queue]

@[simp] theorem State.doGlbReset_wf (s : State) (w : Word) (hw : s.memWf = true) : (State.doGlbReset s w).memWf = true := by
  rw [State.doGlbReset]; simp (maxDischargeDepth := 40) +contextual [hw]

theorem execGlbResetWrite_queue (dt : ℕ) (rq : Requester) (value : Word) (s : State) : Res.all (fun t => t.queue = s.queue) (execGlbResetWrite dt rq value s) := by
  rw [execGlbResetWrite]; apply State.hostWrite_queue (by simp); intro u hu; (try dsimp only); (repeat' split) <;> simp [hu]

theorem execGlbResetWrite_wf (dt : ℕ) (rq : Requester) (value : Word) (s : State) (hw : s.memWf = true) : Res.all (fun t => t.memWf = true) (execGlbResetWrite dt rq value s) := by
  rw [execGlbResetWrite]; apply State.hostWrite_wf (by simp [hw]); intro u hu; (try dsimp only); (repeat' split) <;> simp (maxDischargeDepth := 40) +contextual [hu]

theorem execWatchdogExpiry_queue (dt : ℕ) (s : State) : Res.all (fun t => t.queue = s.queue) (execWatchdogExpiry dt s) := by
  rw [execWatchdogExpiry]; (repeat' split) <;> (try dsimp only) <;> (repeat' split) <;> simp_all

theorem execWatchdogExpiry_wf (dt : ℕ) (s : State) (hw : s.memWf = true) : Res.all (fun t => t.memWf = true) (execWatchdogExpiry dt s) := by
  rw [execWatchdogExpiry]; (repeat' split) <;> (try dsimp only) <;> (repeat' split) <;> simp (maxDischargeDepth := 40) +contextual [hw]

@[simp] theorem State.resetPcie_queue (s : State) : (State.resetPcie s).queue = s.queue := by
  rw [State.resetPcie]; simp [apply_ite State.queue]

@[simp] theorem State.resetPcie_wf (s : State) (hw : s.memWf = true) : (State.resetPcie s).memWf = true := by
  rw [State.resetPcie]; simp (maxDischargeDepth := 40) +contextual [hw]

theorem execFundamentalReset_queue (dt : ℕ) (s : State) : Res.all (fun t => t.queue = s.queue) (execFundamentalReset dt s) := by
  rw [execFundamentalReset]; simp [apply_ite State.queue]

theorem execFundamentalReset_wf (dt : ℕ) (s : State) (hw : s.memWf = true) : Res.all (fun t => t.memWf = true) (execFundamentalReset dt s) := by
  rw [execFundamentalReset]; simp (maxDischargeDepth := 40) +contextual [hw]

theorem execWarmResetAssert_queue (dt : ℕ) (s : State) : Res.all (fun t => t.queue = s.queue) (execWarmResetAssert dt s) := by
  rw [execWarmResetAssert]; (repeat' split) <;> (try dsimp only) <;> (repeat' split) <;> simp_all

theorem execWarmResetAssert_wf (dt : ℕ) (s : State) (hw : s.memWf = true) : Res.all (fun t => t.memWf = true) (execWarmResetAssert dt s) := by
  rw [execWarmResetAssert]; (repeat' split) <;> (try dsimp only) <;> (repeat' split) <;> simp (maxDischargeDepth := 40) +contextual [hw]

@[simp] theorem State.raiseAgain_queue (s : State) : (State.raiseAgain s).queue = s.queue := by
  rw [State.raiseAgain]; simp [apply_ite State.queue]

@[simp] theorem State.raiseAgain_wf (s : State) (hw : s.memWf = true) : (State.raiseAgain s).memWf = true := by
  rw [State.raiseAgain]; simp (maxDischargeDepth := 40) +contextual [hw]

theorem execResetRelease_queue (dt : ℕ) (s : State) : Res.all (fun t => t.queue = s.queue) (execResetRelease dt s) := by
  rw [execResetRelease]; (repeat' split) <;> (try dsimp only) <;> (repeat' split) <;> simp_all

theorem execResetRelease_wf (dt : ℕ) (s : State) (hw : s.memWf = true) : Res.all (fun t => t.memWf = true) (execResetRelease dt s) := by
  rw [execResetRelease]; (repeat' split) <;> (try dsimp only) <;> (repeat' split) <;> simp (maxDischargeDepth := 40) +contextual [hw]

@[simp] theorem State.coldBase_queue (s : State) : (State.coldBase s).queue = s.queue := by
  rw [State.coldBase]; simp [apply_ite State.queue]

@[simp] theorem State.coldBase_wf (s : State) (hw : s.memWf = true) : (State.coldBase s).memWf = true := by
  rw [State.coldBase, State.memWf_mk]
  simp [Memory.wf, Memory.empty, twf_resetWords _ _ (twf_of_wf hw).1]

@[simp] theorem State.coldReset_queue (s : State) : (State.coldReset s).queue = s.queue := by
  rw [State.coldReset]; simp [apply_ite State.queue]

@[simp] theorem State.coldReset_wf (s : State) (hw : s.memWf = true) : (State.coldReset s).memWf = true := by
  rw [State.coldReset]; simp (maxDischargeDepth := 40) +contextual [hw]

theorem execColdReset_queue (dt : ℕ) (s : State) : Res.all (fun t => t.queue = s.queue) (execColdReset dt s) := by
  rw [execColdReset]; simp [apply_ite State.queue]

theorem execColdReset_wf (dt : ℕ) (s : State) (hw : s.memWf = true) : Res.all (fun t => t.memWf = true) (execColdReset dt s) := by
  rw [execColdReset]; simp (maxDischargeDepth := 40) +contextual [hw]

/-! ### Ports -/

@[simp] theorem State.flushVector_queue (s : State) (v : ℕ) : (State.flushVector s v).queue = s.queue := by
  rw [State.flushVector]; simp [apply_ite State.queue]

@[simp] theorem State.flushVector_wf (s : State) (v : ℕ) (hw : s.memWf = true) : (State.flushVector s v).memWf = true := by
  rw [State.flushVector]; simp (maxDischargeDepth := 40) +contextual [hw]

@[simp] theorem State.flushVectors_queue (s : State) : (State.flushVectors s).queue = s.queue := by
  rw [State.flushVectors]; simp [apply_ite State.queue]

@[simp] theorem State.flushVectors_wf (s : State) (hw : s.memWf = true) : (State.flushVectors s).memWf = true := by
  rw [State.flushVectors]; simp (maxDischargeDepth := 40) +contextual [hw]

theorem execPcieLinkDown_queue (dt : ℕ) (s : State) : Res.all (fun t => t.queue = s.queue) (execPcieLinkDown dt s) := by
  rw [execPcieLinkDown]; (repeat' split) <;> (try dsimp only) <;> (repeat' split) <;> simp_all

theorem execPcieLinkDown_wf (dt : ℕ) (s : State) (hw : s.memWf = true) : Res.all (fun t => t.memWf = true) (execPcieLinkDown dt s) := by
  rw [execPcieLinkDown]; (repeat' split) <;> (try dsimp only) <;> (repeat' split) <;> simp (maxDischargeDepth := 40) +contextual [hw]

theorem execPcieLinkUp_queue (dt : ℕ) (gen : ℕ) (width : ℕ) (s : State) : Res.all (fun t => t.queue = s.queue) (execPcieLinkUp dt gen width s) := by
  rw [execPcieLinkUp]; dsimp only; (repeat' split) <;> simp [apply_ite State.queue]

theorem execPcieLinkUp_wf (dt : ℕ) (gen : ℕ) (width : ℕ) (s : State) (hw : s.memWf = true) : Res.all (fun t => t.memWf = true) (execPcieLinkUp dt gen width s) := by
  rw [execPcieLinkUp]; dsimp only; (repeat' split) <;> simp (maxDischargeDepth := 40) +contextual [hw]

theorem execPerstDeassert_queue (dt : ℕ) (s : State) : Res.all (fun t => t.queue = s.queue) (execPerstDeassert dt s) := by
  rw [execPerstDeassert]; simp [apply_ite State.queue]

theorem execPerstDeassert_wf (dt : ℕ) (s : State) (hw : s.memWf = true) : Res.all (fun t => t.memWf = true) (execPerstDeassert dt s) := by
  rw [execPerstDeassert]; simp (maxDischargeDepth := 40) +contextual [hw]

theorem execPcieReady_queue (dt : ℕ) (s : State) : Res.all (fun t => t.queue = s.queue) (execPcieReady dt s) := by
  rw [execPcieReady]; simp [apply_ite State.queue]

theorem execPcieReady_wf (dt : ℕ) (s : State) (hw : s.memWf = true) : Res.all (fun t => t.memWf = true) (execPcieReady dt s) := by
  rw [execPcieReady]; simp (maxDischargeDepth := 40) +contextual [hw]

theorem execMsixUnmask_queue (dt : ℕ) (v : Fin 64) (enable : Bool) (s : State) : Res.all (fun t => t.queue = s.queue) (execMsixUnmask dt v enable s) := by
  rw [execMsixUnmask]; simp [apply_ite State.queue]

theorem execMsixUnmask_wf (dt : ℕ) (v : Fin 64) (enable : Bool) (s : State) (hw : s.memWf = true) : Res.all (fun t => t.memWf = true) (execMsixUnmask dt v enable s) := by
  rw [execMsixUnmask]; simp (maxDischargeDepth := 40) +contextual [hw]

@[simp] theorem State.sampleBody_queue (s : State) : (State.sampleBody s).2.queue = s.queue := by
  rw [State.sampleBody]; simp [apply_ite State.queue]

@[simp] theorem State.sampleBody_wf (s : State) (hw : s.memWf = true) : (State.sampleBody s).2.memWf = true := by
  rw [State.sampleBody]; simp (maxDischargeDepth := 40) +contextual [hw]

theorem execTelemetrySend_queue (dt : ℕ) (o : Fin 4) (s : State) : Res.all (fun t => t.queue = s.queue) (execTelemetrySend dt o s) := by
  rw [execTelemetrySend]; dsimp only; (repeat' split) <;> simp [apply_ite State.queue]

theorem execTelemetrySend_wf (dt : ℕ) (o : Fin 4) (s : State) (hw : s.memWf = true) : Res.all (fun t => t.memWf = true) (execTelemetrySend dt o s) := by
  rw [execTelemetrySend]; dsimp only; (repeat' split) <;> simp (maxDischargeDepth := 40) +contextual [hw]

@[simp] theorem State.latestBody_queue (s : State) : (State.latestBody s).2.queue = s.queue := by
  rw [State.latestBody]; (repeat' split) <;> (try dsimp only) <;> (repeat' split) <;> simp_all

@[simp] theorem State.latestBody_wf (s : State) (hw : s.memWf = true) : (State.latestBody s).2.memWf = true := by
  rw [State.latestBody]; (repeat' split) <;> (try dsimp only) <;> (repeat' split) <;> simp (maxDischargeDepth := 40) +contextual [hw]

@[simp] theorem State.mgmtResp_queue (s : State) (q : ℕ) (req : ℕ) (status : ℕ) (vals : List ℕ) : (State.mgmtResp s q req status vals).queue = s.queue := by
  rw [State.mgmtResp]; simp [apply_ite State.queue]

@[simp] theorem State.mgmtResp_wf (s : State) (q : ℕ) (req : ℕ) (status : ℕ) (vals : List ℕ) (hw : s.memWf = true) : (State.mgmtResp s q req status vals).memWf = true := by
  rw [State.mgmtResp]; simp (maxDischargeDepth := 40) +contextual [hw]

@[simp] theorem State.readRun_queue (s : State) (rq : Requester) (off : ℕ) (x3 : ℕ) : (State.readRun s rq off x3).2.queue = s.queue := by
  induction x3 generalizing s rq off <;> simp_all [State.readRun]

@[simp] theorem State.readRun_wf (s : State) (rq : Requester) (off : ℕ) (x3 : ℕ) (hw : s.memWf = true) : (State.readRun s rq off x3).2.memWf = true := by
  induction x3 generalizing s rq off <;> simp_all [State.readRun]

@[simp] theorem State.doMgmtRead_queue (s : State) (q : ℕ) (bs : List Byte) : (State.doMgmtRead s q bs).queue = s.queue := by
  rw [State.doMgmtRead]; simp [apply_ite State.queue]

@[simp] theorem State.doMgmtRead_wf (s : State) (q : ℕ) (bs : List Byte) (hw : s.memWf = true) : (State.doMgmtRead s q bs).memWf = true := by
  rw [State.doMgmtRead]; simp (maxDischargeDepth := 40) +contextual [hw]

@[simp] theorem State.mgmtMsg_queue (s : State) (q : ℕ) (ty : ℕ) (bs : List Byte) : (State.mgmtMsg s q ty bs).queue = s.queue := by
  rw [State.mgmtMsg]; simp [apply_ite State.queue]

@[simp] theorem State.mgmtMsg_wf (s : State) (q : ℕ) (ty : ℕ) (bs : List Byte) (hw : s.memWf = true) : (State.mgmtMsg s q ty bs).memWf = true := by
  rw [State.mgmtMsg]; simp (maxDischargeDepth := 40) +contextual [hw]

theorem execMgmtRead_queue (dt : ℕ) (q : Fin 32) (bytes : List Byte) (s : State) : Res.all (fun t => t.queue = s.queue) (execMgmtRead dt q bytes s) := by
  rw [execMgmtRead]; simp [apply_ite State.queue]

theorem execMgmtRead_wf (dt : ℕ) (q : Fin 32) (bytes : List Byte) (s : State) (hw : s.memWf = true) : Res.all (fun t => t.memWf = true) (execMgmtRead dt q bytes s) := by
  rw [execMgmtRead]; simp (maxDischargeDepth := 40) +contextual [hw]

theorem execMgmtWrite_queue (dt : ℕ) (q : Fin 32) (bytes : List Byte) (s : State) : Res.all (fun t => t.queue = s.queue) (execMgmtWrite dt q bytes s) := by
  rw [execMgmtWrite]; simp [apply_ite State.queue]

theorem execMgmtWrite_wf (dt : ℕ) (q : Fin 32) (bytes : List Byte) (s : State) (hw : s.memWf = true) : Res.all (fun t => t.memWf = true) (execMgmtWrite dt q bytes s) := by
  rw [execMgmtWrite]; simp (maxDischargeDepth := 40) +contextual [hw]

@[simp] theorem State.anyMsg_queue (s : State) (q : ℕ) (ip : ℕ) (udp : ℕ) (bs : List Byte) : (State.anyMsg s q ip udp bs).queue = s.queue := by
  rw [State.anyMsg]; simp [apply_ite State.queue]

@[simp] theorem State.anyMsg_wf (s : State) (q : ℕ) (ip : ℕ) (udp : ℕ) (bs : List Byte) (hw : s.memWf = true) : (State.anyMsg s q ip udp bs).memWf = true := by
  rw [State.anyMsg]; simp (maxDischargeDepth := 40) +contextual [hw]

theorem execEthFrameReceive_queue (dt : ℕ) (q : Fin 32) (frame : List Byte) (s : State) : Res.all (fun t => t.queue = s.queue) (execEthFrameReceive dt q frame s) := by
  rw [execEthFrameReceive]; (repeat' split) <;> (try dsimp only) <;> (repeat' split) <;> simp_all

theorem execEthFrameReceive_wf (dt : ℕ) (q : Fin 32) (frame : List Byte) (s : State) (hw : s.memWf = true) : Res.all (fun t => t.memWf = true) (execEthFrameReceive dt q frame s) := by
  rw [execEthFrameReceive]; (repeat' split) <;> (try dsimp only) <;> (repeat' split) <;> simp (maxDischargeDepth := 40) +contextual [hw]

@[simp] theorem State.smbNack_queue (s : State) (what : ℕ) : (State.smbNack s what).queue = s.queue := by
  rw [State.smbNack]; simp [apply_ite State.queue]

@[simp] theorem State.smbNack_wf (s : State) (what : ℕ) (hw : s.memWf = true) : (State.smbNack s what).memWf = true := by
  rw [State.smbNack]; simp (maxDischargeDepth := 40) +contextual [hw]

@[simp] theorem State.smbServe_queue (s : State) (f : State → State) (hf : ∀ u : State, (f u).queue = u.queue) : (State.smbServe s f).queue = s.queue := by
  rw [State.smbServe]; (repeat' split) <;> (try dsimp only) <;> (repeat' split) <;> simp_all

@[simp] theorem State.smbServe_wf (s : State) (f : State → State) (hf : ∀ u : State, u.memWf = true → (f u).memWf = true) (hw : s.memWf = true) : (State.smbServe s f).memWf = true := by
  rw [State.smbServe]; (repeat' split) <;> (try dsimp only) <;> (repeat' split) <;> simp_all (maxDischargeDepth := 40)

theorem execSmbusRegisterRead_queue (dt : ℕ) (off : ℕ) (s : State) : Res.all (fun t => t.queue = s.queue) (execSmbusRegisterRead dt off s) := by
  rw [execSmbusRegisterRead]; simp [apply_ite State.queue]

theorem execSmbusRegisterRead_wf (dt : ℕ) (off : ℕ) (s : State) (hw : s.memWf = true) : Res.all (fun t => t.memWf = true) (execSmbusRegisterRead dt off s) := by
  rw [execSmbusRegisterRead]; simp (maxDischargeDepth := 40) +contextual [hw]

theorem execSmbusTelemetryRead_queue (dt : ℕ) (s : State) : Res.all (fun t => t.queue = s.queue) (execSmbusTelemetryRead dt s) := by
  rw [execSmbusTelemetryRead]; simp [apply_ite State.queue]

theorem execSmbusTelemetryRead_wf (dt : ℕ) (s : State) (hw : s.memWf = true) : Res.all (fun t => t.memWf = true) (execSmbusTelemetryRead dt s) := by
  rw [execSmbusTelemetryRead]; simp (maxDischargeDepth := 40) +contextual [hw]

theorem execSmbusSensorRead_queue (dt : ℕ) (s : State) : Res.all (fun t => t.queue = s.queue) (execSmbusSensorRead dt s) := by
  rw [execSmbusSensorRead, Res.all_next, State.smbServe_queue]
  · simp
  · intro u
    dsimp only
    split <;> simp

theorem execSmbusSensorRead_wf (dt : ℕ) (s : State) (hw : s.memWf = true) : Res.all (fun t => t.memWf = true) (execSmbusSensorRead dt s) := by
  rw [execSmbusSensorRead, Res.all_next]
  apply State.smbServe_wf
  · intro u hu
    dsimp only
    split <;> simp (maxDischargeDepth := 40) [hu]
  · simp (maxDischargeDepth := 40) [hw]

theorem execSmbusOtherCommand_queue (dt : ℕ) (command : ℕ) (isWrite : Bool) (s : State) : Res.all (fun t => t.queue = s.queue) (execSmbusOtherCommand dt command isWrite s) := by
  rw [execSmbusOtherCommand]; simp [apply_ite State.queue]

theorem execSmbusOtherCommand_wf (dt : ℕ) (command : ℕ) (isWrite : Bool) (s : State) (hw : s.memWf = true) : Res.all (fun t => t.memWf = true) (execSmbusOtherCommand dt command isWrite s) := by
  rw [execSmbusOtherCommand]; simp (maxDischargeDepth := 40) +contextual [hw]

@[simp] theorem State.uartServe_queue (s : State) (f : State → State) (hf : ∀ u : State, (f u).queue = u.queue) : (State.uartServe s f).queue = s.queue := by
  rw [State.uartServe]; (repeat' split) <;> (try dsimp only) <;> (repeat' split) <;> simp_all

@[simp] theorem State.uartServe_wf (s : State) (f : State → State) (hf : ∀ u : State, u.memWf = true → (f u).memWf = true) (hw : s.memWf = true) : (State.uartServe s f).memWf = true := by
  rw [State.uartServe]; (repeat' split) <;> (try dsimp only) <;> (repeat' split) <;> simp_all (maxDischargeDepth := 40)

theorem execUartStatus_queue (dt : ℕ) (s : State) : Res.all (fun t => t.queue = s.queue) (execUartStatus dt s) := by
  rw [execUartStatus]; simp [apply_ite State.queue]

theorem execUartStatus_wf (dt : ℕ) (s : State) (hw : s.memWf = true) : Res.all (fun t => t.memWf = true) (execUartStatus dt s) := by
  rw [execUartStatus]; simp (maxDischargeDepth := 40) +contextual [hw]

theorem execUartOtherLine_queue (dt : ℕ) (line : List Byte) (s : State) : Res.all (fun t => t.queue = s.queue) (execUartOtherLine dt line s) := by
  rw [execUartOtherLine]; simp [apply_ite State.queue]

theorem execUartOtherLine_wf (dt : ℕ) (line : List Byte) (s : State) (hw : s.memWf = true) : Res.all (fun t => t.memWf = true) (execUartOtherLine dt line s) := by
  rw [execUartOtherLine]; simp (maxDischargeDepth := 40) +contextual [hw]

theorem execMarginMeasure_queue (dt : ℕ) (lane : Fin 56) (height : ℕ) (width : ℕ) (s : State) : Res.all (fun t => t.queue = s.queue) (execMarginMeasure dt lane height width s) := by
  rw [execMarginMeasure]; (repeat' split) <;> (try dsimp only) <;> (repeat' split) <;> simp_all

theorem execMarginMeasure_wf (dt : ℕ) (lane : Fin 56) (height : ℕ) (width : ℕ) (s : State) (hw : s.memWf = true) : Res.all (fun t => t.memWf = true) (execMarginMeasure dt lane height width s) := by
  rw [execMarginMeasure]; (repeat' split) <;> (try dsimp only) <;> (repeat' split) <;> simp (maxDischargeDepth := 40) +contextual [hw]

/-! ### Almanac -/

@[simp] theorem State.almError_queue (s : State) (code : ℕ) (sect : ℕ) (off : ℕ) : (State.almError s code sect off).queue = s.queue := by
  rw [State.almError]; simp [apply_ite State.queue]

@[simp] theorem State.almError_wf (s : State) (code : ℕ) (sect : ℕ) (off : ℕ) (hw : s.memWf = true) : (State.almError s code sect off).memWf = true := by
  rw [State.almError]; simp (maxDischargeDepth := 40) +contextual [hw]

@[simp] theorem State.almRefuse_queue (s : State) (code : ℕ) : (State.almRefuse s code).queue = s.queue := by
  rw [State.almRefuse]; simp [apply_ite State.queue]

@[simp] theorem State.almRefuse_wf (s : State) (code : ℕ) (hw : s.memWf = true) : (State.almRefuse s code).memWf = true := by
  rw [State.almRefuse]; simp (maxDischargeDepth := 40) +contextual [hw]

@[simp] theorem State.beginCheck_queue (s : State) (image : List Byte) (why : CheckFor) : (State.beginCheck s image why).queue = s.queue := by
  rw [State.beginCheck]; simp [apply_ite State.queue]

@[simp] theorem State.beginCheck_wf (s : State) (image : List Byte) (why : CheckFor) (hw : s.memWf = true) : (State.beginCheck s image why).memWf = true := by
  rw [State.beginCheck]; simp (maxDischargeDepth := 40) +contextual [hw]

theorem execDefaultAlmanacLoad_queue (dt : ℕ) (s : State) : Res.all (fun t => t.queue = s.queue) (execDefaultAlmanacLoad dt s) := by
  rw [execDefaultAlmanacLoad]; (repeat' split) <;> (try dsimp only) <;> (repeat' split) <;> simp_all

theorem execDefaultAlmanacLoad_wf (dt : ℕ) (s : State) (hw : s.memWf = true) : Res.all (fun t => t.memWf = true) (execDefaultAlmanacLoad dt s) := by
  rw [execDefaultAlmanacLoad]; (repeat' split) <;> (try dsimp only) <;> (repeat' split) <;> simp (maxDischargeDepth := 40) +contextual [hw]

@[simp] theorem State.doLoad_queue (s : State) : (State.doLoad s).queue = s.queue := by
  rw [State.doLoad]; simp [apply_ite State.queue]

@[simp] theorem State.doLoad_wf (s : State) (hw : s.memWf = true) : (State.doLoad s).memWf = true := by
  rw [State.doLoad]; simp (maxDischargeDepth := 40) +contextual [hw]

theorem execAlmanacLoad_queue (dt : ℕ) (s : State) : Res.all (fun t => t.queue = s.queue) (execAlmanacLoad dt s) := by
  rw [execAlmanacLoad]; simp [apply_ite State.queue]

theorem execAlmanacLoad_wf (dt : ℕ) (s : State) (hw : s.memWf = true) : Res.all (fun t => t.memWf = true) (execAlmanacLoad dt s) := by
  rw [execAlmanacLoad]; simp (maxDischargeDepth := 40) +contextual [hw]

@[simp] theorem State.putDigest_queue (s : State) (x1 : Almanac) : (State.putDigest s x1).queue = s.queue := by
  rw [State.putDigest]; simp [apply_ite State.queue]

@[simp] theorem State.putDigest_wf (s : State) (x1 : Almanac) (hw : s.memWf = true) : (State.putDigest s x1).memWf = true := by
  rw [State.putDigest]; simp (maxDischargeDepth := 40) +contextual [hw]

@[simp] theorem State.almSuccess_queue (s : State) (x1 : Almanac) : (State.almSuccess s x1).queue = s.queue := by
  rw [State.almSuccess]; simp [apply_ite State.queue]

@[simp] theorem State.almSuccess_wf (s : State) (x1 : Almanac) (hw : s.memWf = true) : (State.almSuccess s x1).memWf = true := by
  rw [State.almSuccess]; simp (maxDischargeDepth := 40) +contextual [hw]

@[simp] theorem State.rebase_queue (s : State) : (State.rebase s).queue = s.queue := by
  rw [State.rebase]; simp [apply_ite State.queue]

@[simp] theorem State.rebase_wf (s : State) (hw : s.memWf = true) : (State.rebase s).memWf = true := by
  rw [State.rebase]; simp (maxDischargeDepth := 40) +contextual [hw]

@[simp] theorem State.writeLost_queue (s : State) (p : ℕ) (q : ℕ) (x3 : ℕ) : (State.writeLost s p q x3).queue = s.queue := by
  rw [State.writeLost]; simp [apply_ite State.queue]

@[simp] theorem State.writeLost_wf (s : State) (p : ℕ) (q : ℕ) (x3 : ℕ) (hw : s.memWf = true) : (State.writeLost s p q x3).memWf = true := by
  rw [State.writeLost]; simp (maxDischargeDepth := 40) +contextual [hw]

@[simp] theorem State.writeLosts_queue (s : State) (p : ℕ) (l : List ℕ) (x3 : ℕ) : (State.writeLosts s p l x3).1.queue = s.queue := by
  rw [State.writeLosts]
  generalize hb : (s, x3) = b
  have e : b.1.queue = s.queue := by rw [← hb]
  rw [← e]
  clear hb e
  induction l generalizing b with
  | nil => rfl
  | cons q r ih => rw [List.foldl_cons, ih, State.writeLost_queue]

@[simp] theorem State.writeLosts_wf (s : State) (p : ℕ) (l : List ℕ) (x3 : ℕ) (hw : s.memWf = true) : (State.writeLosts s p l x3).1.memWf = true := by
  rw [State.writeLosts]
  generalize hb : (s, x3) = b
  have e : b.1.memWf = true := by rw [← hb]; exact hw
  clear hb hw
  induction l generalizing b with
  | nil => exact e
  | cons q r ih =>
    rw [List.foldl_cons]
    apply ih
    exact State.writeLost_wf _ _ _ _ e

@[simp] theorem State.lostPart_queue (s : State) (p : ℕ) : (State.lostPart s p).queue = s.queue := by
  rw [State.lostPart]; simp [apply_ite State.queue]

@[simp] theorem State.lostPart_wf (s : State) (p : ℕ) (hw : s.memWf = true) : (State.lostPart s p).memWf = true := by
  rw [State.lostPart]; simp (maxDischargeDepth := 40) +contextual [hw]

@[simp] theorem State.restartRec_queue (s : State) (x : GapState) : (State.restartRec s x).queue = s.queue := by
  rw [State.restartRec]; simp [apply_ite State.queue]

@[simp] theorem State.restartRec_wf (s : State) (x : GapState) (hw : s.memWf = true) : (State.restartRec s x).memWf = true := by
  rw [State.restartRec]; simp (maxDischargeDepth := 40) +contextual [hw]

@[simp] theorem State.afterStart_queue (s : State) : (State.afterStart s).queue = s.queue := by
  rw [State.afterStart]; simp [apply_ite State.queue]

@[simp] theorem State.afterStart_wf (s : State) (hw : s.memWf = true) : (State.afterStart s).memWf = true := by
  rw [State.afterStart]; simp (maxDischargeDepth := 40) +contextual [hw]

@[simp] theorem State.startLoaded_queue (s : State) (x1 : Almanac) : (State.startLoaded s x1).queue = s.queue := by
  rw [State.startLoaded]; simp [apply_ite State.queue]

@[simp] theorem State.startLoaded_wf (s : State) (x1 : Almanac) (hw : s.memWf = true) : (State.startLoaded s x1).memWf = true := by
  rw [State.startLoaded]; simp (maxDischargeDepth := 40) +contextual [hw]

@[simp] theorem State.checkReload_queue (s : State) : (State.checkReload s).queue = s.queue := by
  rw [State.checkReload]; simp [apply_ite State.queue]

@[simp] theorem State.checkReload_wf (s : State) (hw : s.memWf = true) : (State.checkReload s).memWf = true := by
  rw [State.checkReload]; simp (maxDischargeDepth := 40) +contextual [hw]

@[simp] theorem State.doReload_queue (s : State) : (State.doReload s).queue = s.queue := by
  rw [State.doReload]; simp [apply_ite State.queue]

@[simp] theorem State.doReload_wf (s : State) (hw : s.memWf = true) : (State.doReload s).memWf = true := by
  rw [State.doReload]; simp (maxDischargeDepth := 40) +contextual [hw]

theorem execAlmanacReload_queue (dt : ℕ) (s : State) : Res.all (fun t => t.queue = s.queue) (execAlmanacReload dt s) := by
  rw [execAlmanacReload]; simp [apply_ite State.queue]

theorem execAlmanacReload_wf (dt : ℕ) (s : State) (hw : s.memWf = true) : Res.all (fun t => t.memWf = true) (execAlmanacReload dt s) := by
  rw [execAlmanacReload]; simp (maxDischargeDepth := 40) +contextual [hw]

theorem execReloadAsleepTimeout_queue (dt : ℕ) (s : State) : Res.all (fun t => t.queue = s.queue) (execReloadAsleepTimeout dt s) := by
  rw [execReloadAsleepTimeout]; (repeat' split) <;> (try dsimp only) <;> (repeat' split) <;> simp_all

theorem execReloadAsleepTimeout_wf (dt : ℕ) (s : State) (hw : s.memWf = true) : Res.all (fun t => t.memWf = true) (execReloadAsleepTimeout dt s) := by
  rw [execReloadAsleepTimeout]; (repeat' split) <;> (try dsimp only) <;> (repeat' split) <;> simp (maxDischargeDepth := 40) +contextual [hw]

@[simp] theorem State.schedule_queue (s : State) (x1 : Almanac) : (State.schedule s x1).queue = s.queue := by
  rw [State.schedule]; simp [apply_ite State.queue]

@[simp] theorem State.schedule_wf (s : State) (x1 : Almanac) (hw : s.memWf = true) : (State.schedule s x1).memWf = true := by
  rw [State.schedule]; simp (maxDischargeDepth := 40) +contextual [hw]

theorem execAlmanacCheckEnd_queue (dt : ℕ) (s : State) : Res.all (fun t => t.queue = s.queue) (execAlmanacCheckEnd dt s) := by
  rw [execAlmanacCheckEnd]; dsimp only; (repeat' split) <;> simp [apply_ite State.queue]

theorem execAlmanacCheckEnd_wf (dt : ℕ) (s : State) (hw : s.memWf = true) : Res.all (fun t => t.memWf = true) (execAlmanacCheckEnd dt s) := by
  rw [execAlmanacCheckEnd]; dsimp only; (repeat' split) <;> simp (maxDischargeDepth := 40) +contextual [hw]

@[simp] theorem State.doCancelReload_queue (s : State) : (State.doCancelReload s).queue = s.queue := by
  rw [State.doCancelReload]; simp [apply_ite State.queue]

@[simp] theorem State.doCancelReload_wf (s : State) (hw : s.memWf = true) : (State.doCancelReload s).memWf = true := by
  rw [State.doCancelReload]; simp (maxDischargeDepth := 40) +contextual [hw]

theorem execReloadCancel_queue (dt : ℕ) (s : State) : Res.all (fun t => t.queue = s.queue) (execReloadCancel dt s) := by
  rw [execReloadCancel]; simp [apply_ite State.queue]

theorem execReloadCancel_wf (dt : ℕ) (s : State) (hw : s.memWf = true) : Res.all (fun t => t.memWf = true) (execReloadCancel dt s) := by
  rw [execReloadCancel]; simp (maxDischargeDepth := 40) +contextual [hw]

@[simp] theorem State.dropEmission_queue (s : State) (g : ℕ) : (State.dropEmission s g).queue = s.queue := by
  rw [State.dropEmission]; dsimp only; (repeat' split) <;> simp [apply_ite State.queue]

@[simp] theorem State.dropEmission_wf (s : State) (g : ℕ) (hw : s.memWf = true) : (State.dropEmission s g).memWf = true := by
  rw [State.dropEmission]; dsimp only; (repeat' split) <;> simp (maxDischargeDepth := 40) +contextual [hw]

@[simp] theorem State.stopAtReload_queue (s : State) (g : ℕ) : (State.stopAtReload s g).queue = s.queue := by
  rw [State.stopAtReload]; dsimp only; (repeat' split) <;> simp [apply_ite State.queue]

@[simp] theorem State.stopAtReload_wf (s : State) (g : ℕ) (hw : s.memWf = true) : (State.stopAtReload s g).memWf = true := by
  rw [State.stopAtReload]; dsimp only; (repeat' split) <;> simp (maxDischargeDepth := 40) +contextual [hw]

theorem execReloadCommit_queue (dt : ℕ) (s : State) : Res.all (fun t => t.queue = s.queue) (execReloadCommit dt s) := by
  rw [execReloadCommit]; dsimp only; (repeat' split) <;> simp [apply_ite State.queue]

theorem execReloadCommit_wf (dt : ℕ) (s : State) (hw : s.memWf = true) : Res.all (fun t => t.memWf = true) (execReloadCommit dt s) := by
  rw [execReloadCommit]; dsimp only; (repeat' split) <;> simp (maxDischargeDepth := 40) +contextual [hw]

@[simp] theorem State.resetBanks_queue (s : State) (aff : List ℕ) : (State.resetBanks s aff).queue = s.queue := by
  rw [State.resetBanks]; simp [apply_ite State.queue]

@[simp] theorem State.resetBanks_wf (s : State) (aff : List ℕ) (hw : s.memWf = true) : (State.resetBanks s aff).memWf = true := by
  rw [State.resetBanks]
  apply forAll_memWf
  · intro s b hs
    simp (maxDischargeDepth := 40) [hs]
  · rw [State.memWf_mk]
    exact wf_active (m := { s.mem with regs := _ }) (wf_regs hw (twf_bankWords _ _ (twf_of_wf hw).1)) (twf_filter _ (twf_of_wf hw).2.1)

@[simp] theorem State.resetShadows_queue (s : State) (g : ℕ) : (State.resetShadows s g).queue = s.queue := by
  rw [State.resetShadows]; simp [apply_ite State.queue]

@[simp] theorem State.resetShadows_wf (s : State) (g : ℕ) (hw : s.memWf = true) : (State.resetShadows s g).memWf = true := by
  rw [State.resetShadows]; simp (maxDischargeDepth := 40) +contextual [hw]

@[simp] theorem State.applyNew_queue (s : State) (old : Almanac) (new : Almanac) (aff : List ℕ) : (State.applyNew s old new aff).queue = s.queue := by
  rw [State.applyNew]; simp [apply_ite State.queue]

@[simp] theorem State.applyNew_wf (s : State) (old : Almanac) (new : Almanac) (aff : List ℕ) (hw : s.memWf = true) : (State.applyNew s old new aff).memWf = true := by
  rw [State.applyNew]; simp (maxDischargeDepth := 40) +contextual [hw]

theorem execReloadBankResetEnd_queue (dt : ℕ) (s : State) : Res.all (fun t => t.queue = s.queue) (execReloadBankResetEnd dt s) := by
  rw [execReloadBankResetEnd]; dsimp only; (repeat' split) <;> simp [apply_ite State.queue]

theorem execReloadBankResetEnd_wf (dt : ℕ) (s : State) (hw : s.memWf = true) : Res.all (fun t => t.memWf = true) (execReloadBankResetEnd dt s) := by
  rw [execReloadBankResetEnd]; dsimp only; (repeat' split) <;> simp (maxDischargeDepth := 40) +contextual [hw]

/-! ### Power -/

@[simp] theorem State.countEntry_queue (s : State) (st : ℕ) : (State.countEntry s st).queue = s.queue := by
  rw [State.countEntry]; simp [apply_ite State.queue]

@[simp] theorem State.countEntry_wf (s : State) (st : ℕ) (hw : s.memWf = true) : (State.countEntry s st).memWf = true := by
  rw [State.countEntry]; simp (maxDischargeDepth := 40) +contextual [hw]

theorem execPowerStateEntry_queue (dt : ℕ) (s : State) : Res.all (fun t => t.queue = s.queue) (execPowerStateEntry dt s) := by
  rw [execPowerStateEntry]; (repeat' split) <;> (try dsimp only) <;> (repeat' split) <;> simp_all

theorem execPowerStateEntry_wf (dt : ℕ) (s : State) (hw : s.memWf = true) : Res.all (fun t => t.memWf = true) (execPowerStateEntry dt s) := by
  rw [execPowerStateEntry]; (repeat' split) <;> (try dsimp only) <;> (repeat' split) <;> simp (maxDischargeDepth := 40) +contextual [hw]

@[simp] theorem State.sleepGroup_queue (s : State) (g : ℕ) : (State.sleepGroup s g).queue = s.queue := by
  rw [State.sleepGroup]; simp [apply_ite State.queue]

@[simp] theorem State.sleepGroup_wf (s : State) (g : ℕ) (hw : s.memWf = true) : (State.sleepGroup s g).memWf = true := by
  rw [State.sleepGroup]; simp (maxDischargeDepth := 40) +contextual [hw]

@[simp] theorem State.enterFast_queue (s : State) : (State.enterFast s).queue = s.queue := by
  rw [State.enterFast]; simp [apply_ite State.queue]

@[simp] theorem State.enterFast_wf (s : State) (hw : s.memWf = true) : (State.enterFast s).memWf = true := by
  rw [State.enterFast]; simp (maxDischargeDepth := 40) +contextual [hw]

@[simp] theorem State.enterFallow_queue (s : State) : (State.enterFallow s).queue = s.queue := by
  rw [State.enterFallow]; simp [apply_ite State.queue]

@[simp] theorem State.enterFallow_wf (s : State) (hw : s.memWf = true) : (State.enterFallow s).memWf = true := by
  rw [State.enterFallow]; simp (maxDischargeDepth := 40) +contextual [hw]

theorem execSelfRefreshEntry_queue (dt : ℕ) (s : State) : Res.all (fun t => t.queue = s.queue) (execSelfRefreshEntry dt s) := by
  rw [execSelfRefreshEntry]; dsimp only; (repeat' split) <;> simp [apply_ite State.queue]

theorem execSelfRefreshEntry_wf (dt : ℕ) (s : State) (hw : s.memWf = true) : Res.all (fun t => t.memWf = true) (execSelfRefreshEntry dt s) := by
  rw [execSelfRefreshEntry]; dsimp only; (repeat' split) <;> simp (maxDischargeDepth := 40) +contextual [hw]

theorem execSelfRefreshExit_queue (dt : ℕ) (s : State) : Res.all (fun t => t.queue = s.queue) (execSelfRefreshExit dt s) := by
  rw [execSelfRefreshExit]; (repeat' split) <;> (try dsimp only) <;> (repeat' split) <;> simp_all

theorem execSelfRefreshExit_wf (dt : ℕ) (s : State) (hw : s.memWf = true) : Res.all (fun t => t.memWf = true) (execSelfRefreshExit dt s) := by
  rw [execSelfRefreshExit]; (repeat' split) <;> (try dsimp only) <;> (repeat' split) <;> simp (maxDischargeDepth := 40) +contextual [hw]

theorem execPowerStateExit_queue (dt : ℕ) (s : State) : Res.all (fun t => t.queue = s.queue) (execPowerStateExit dt s) := by
  rw [execPowerStateExit]; simp [apply_ite State.queue]

theorem execPowerStateExit_wf (dt : ℕ) (s : State) (hw : s.memWf = true) : Res.all (fun t => t.memWf = true) (execPowerStateExit dt s) := by
  rw [execPowerStateExit]; simp (maxDischargeDepth := 40) +contextual [hw]

theorem execWakeNEdge_queue (dt : ℕ) (s : State) : Res.all (fun t => t.queue = s.queue) (execWakeNEdge dt s) := by
  rw [execWakeNEdge]; simp [apply_ite State.queue]

theorem execWakeNEdge_wf (dt : ℕ) (s : State) (hw : s.memWf = true) : Res.all (fun t => t.memWf = true) (execWakeNEdge dt s) := by
  rw [execWakeNEdge]; simp (maxDischargeDepth := 40) +contextual [hw]

@[simp] theorem State.resumeLinks_queue (s : State) (ring : Bool) : (State.resumeLinks s ring).queue = s.queue := by
  rw [State.resumeLinks]; simp [apply_ite State.queue]

@[simp] theorem State.resumeLinks_wf (s : State) (ring : Bool) (hw : s.memWf = true) : (State.resumeLinks s ring).memWf = true := by
  rw [State.resumeLinks]; simp (maxDischargeDepth := 40) +contextual [hw]

@[simp] theorem State.deliverWake_queue (s : State) : (State.deliverWake s).queue = s.queue := by
  rw [State.deliverWake]
  apply forAll_queue
  intro s a
  (repeat' split) <;> simp

@[simp] theorem State.deliverWake_wf (s : State) (hw : s.memWf = true) : (State.deliverWake s).memWf = true := by
  rw [State.deliverWake]
  apply forAll_memWf (h := hw)
  intro s a hs
  (repeat' split) <;> simp (maxDischargeDepth := 40) [hs]

theorem execPowerExitComplete_queue (dt : ℕ) (s : State) : Res.all (fun t => t.queue = s.queue) (execPowerExitComplete dt s) := by
  rw [execPowerExitComplete]; dsimp only; (repeat' split) <;> simp [apply_ite State.queue]

theorem execPowerExitComplete_wf (dt : ℕ) (s : State) (hw : s.memWf = true) : Res.all (fun t => t.memWf = true) (execPowerExitComplete dt s) := by
  rw [execPowerExitComplete]; dsimp only; (repeat' split) <;> simp (maxDischargeDepth := 40) +contextual [hw]

theorem execPowerPolicyWrite_queue (dt : ℕ) (rq : Requester) (off : ℕ) (value : Word) (s : State) : Res.all (fun t => t.queue = s.queue) (execPowerPolicyWrite dt rq off value s) := by
  rw [execPowerPolicyWrite]
  split
  · apply State.hostWrite_queue (by simp)
    intro u hu
    simp [hu]
  · split
    · apply State.hostWrite_queue (by simp)
      intro u hu
      simp [hu]
    · simp

theorem execPowerPolicyWrite_wf (dt : ℕ) (rq : Requester) (off : ℕ) (value : Word) (s : State) (hw : s.memWf = true) : Res.all (fun t => t.memWf = true) (execPowerPolicyWrite dt rq off value s) := by
  rw [execPowerPolicyWrite]
  split
  · apply State.hostWrite_wf (by simp (maxDischargeDepth := 40) [hw])
    intro u hu
    simp (maxDischargeDepth := 40) [hu]
  · split
    · apply State.hostWrite_wf (by simp (maxDischargeDepth := 40) [hw])
      intro u hu
      simp (maxDischargeDepth := 40) [hu]
    · simp (maxDischargeDepth := 40) [hw]

@[simp] theorem State.setThrottle_queue (s : State) (on : Bool) : (State.setThrottle s on).queue = s.queue := by
  rw [State.setThrottle]; simp [apply_ite State.queue]

@[simp] theorem State.setThrottle_wf (s : State) (on : Bool) (hw : s.memWf = true) : (State.setThrottle s on).memWf = true := by
  rw [State.setThrottle]; simp (maxDischargeDepth := 40) +contextual [hw]

theorem execPowerMeasure_queue (dt : ℕ) (milliwatts : ℕ) (s : State) : Res.all (fun t => t.queue = s.queue) (execPowerMeasure dt milliwatts s) := by
  rw [execPowerMeasure]; dsimp only; (repeat' split) <;> simp [apply_ite State.queue]

theorem execPowerMeasure_wf (dt : ℕ) (milliwatts : ℕ) (s : State) (hw : s.memWf = true) : Res.all (fun t => t.memWf = true) (execPowerMeasure dt milliwatts s) := by
  rw [execPowerMeasure]; dsimp only; (repeat' split) <;> simp (maxDischargeDepth := 40) +contextual [hw]

theorem execRailWarn_queue (dt : ℕ) (r : Fin 9) (millivolts : ℕ) (s : State) : Res.all (fun t => t.queue = s.queue) (execRailWarn dt r millivolts s) := by
  rw [execRailWarn]; (repeat' split) <;> (try dsimp only) <;> (repeat' split) <;> simp_all

theorem execRailWarn_wf (dt : ℕ) (r : Fin 9) (millivolts : ℕ) (s : State) (hw : s.memWf = true) : Res.all (fun t => t.memWf = true) (execRailWarn dt r millivolts s) := by
  rw [execRailWarn]; (repeat' split) <;> (try dsimp only) <;> (repeat' split) <;> simp (maxDischargeDepth := 40) +contextual [hw]

@[simp] theorem State.tripRail_queue (s : State) (r : ℕ) (mv : ℕ) : (State.tripRail s r mv).queue = s.queue := by
  rw [State.tripRail]; simp [apply_ite State.queue]

@[simp] theorem State.tripRail_wf (s : State) (r : ℕ) (mv : ℕ) (hw : s.memWf = true) : (State.tripRail s r mv).memWf = true := by
  rw [State.tripRail]; simp (maxDischargeDepth := 40) +contextual [hw]

@[simp] theorem State.tripPause_queue (s : State) : (State.tripPause s).queue = s.queue := by
  rw [State.tripPause]; simp [apply_ite State.queue]

@[simp] theorem State.tripPause_wf (s : State) (hw : s.memWf = true) : (State.tripPause s).memWf = true := by
  rw [State.tripPause]; simp (maxDischargeDepth := 40) +contextual [hw]

@[simp] theorem State.tripAction_queue (s : State) (r : ℕ) : (State.tripAction s r).queue = s.queue := by
  rw [State.tripAction]; simp [apply_ite State.queue]

@[simp] theorem State.tripAction_wf (s : State) (r : ℕ) (hw : s.memWf = true) : (State.tripAction s r).memWf = true := by
  rw [State.tripAction]; simp (maxDischargeDepth := 40) +contextual [hw]

theorem execRailTrip_queue (dt : ℕ) (r : Fin 9) (millivolts : ℕ) (s : State) : Res.all (fun t => t.queue = s.queue) (execRailTrip dt r millivolts s) := by
  rw [execRailTrip]; (repeat' split) <;> (try dsimp only) <;> (repeat' split) <;> simp_all

theorem execRailTrip_wf (dt : ℕ) (r : Fin 9) (millivolts : ℕ) (s : State) (hw : s.memWf = true) : Res.all (fun t => t.memWf = true) (execRailTrip dt r millivolts s) := by
  rw [execRailTrip]; (repeat' split) <;> (try dsimp only) <;> (repeat' split) <;> simp (maxDischargeDepth := 40) +contextual [hw]

theorem execRailReturn_queue (dt : ℕ) (r : Fin 9) (millivolts : ℕ) (s : State) : Res.all (fun t => t.queue = s.queue) (execRailReturn dt r millivolts s) := by
  rw [execRailReturn]; dsimp only; (repeat' split) <;> simp [apply_ite State.queue]

theorem execRailReturn_wf (dt : ℕ) (r : Fin 9) (millivolts : ℕ) (s : State) (hw : s.memWf = true) : Res.all (fun t => t.memWf = true) (execRailReturn dt r millivolts s) := by
  rw [execRailReturn]; dsimp only; (repeat' split) <;> simp (maxDischargeDepth := 40) +contextual [hw]

@[simp] theorem State.failPause_queue (s : State) : (State.failPause s).queue = s.queue := by
  rw [State.failPause]
  apply forAll_queue
  intro s a
  (repeat' split) <;> simp

@[simp] theorem State.failPause_wf (s : State) (hw : s.memWf = true) : (State.failPause s).memWf = true := by
  rw [State.failPause]
  apply forAll_memWf (h := hw)
  intro s a hs
  (repeat' split) <;> simp (maxDischargeDepth := 40) [hs]

theorem execPwrFailAssert_queue (dt : ℕ) (s : State) : Res.all (fun t => t.queue = s.queue) (execPwrFailAssert dt s) := by
  rw [execPwrFailAssert]; dsimp only; (repeat' split) <;> simp [apply_ite State.queue]

theorem execPwrFailAssert_wf (dt : ℕ) (s : State) (hw : s.memWf = true) : Res.all (fun t => t.memWf = true) (execPwrFailAssert dt s) := by
  rw [execPwrFailAssert]; dsimp only; (repeat' split) <;> simp (maxDischargeDepth := 40) +contextual [hw]

@[simp] theorem State.failHeld_queue (s : State) : (State.failHeld s).queue = s.queue := by
  rw [State.failHeld]; simp [apply_ite State.queue]

@[simp] theorem State.failHeld_wf (s : State) (hw : s.memWf = true) : (State.failHeld s).memWf = true := by
  rw [State.failHeld]; simp (maxDischargeDepth := 40) +contextual [hw]

theorem execJournalWritten_queue (dt : ℕ) (s : State) : Res.all (fun t => t.queue = s.queue) (execJournalWritten dt s) := by
  rw [execJournalWritten]; dsimp only; (repeat' split) <;> simp [apply_ite State.queue]

theorem execJournalWritten_wf (dt : ℕ) (s : State) (hw : s.memWf = true) : Res.all (fun t => t.memWf = true) (execJournalWritten dt s) := by
  rw [execJournalWritten]; dsimp only; (repeat' split) <;> simp (maxDischargeDepth := 40) +contextual [hw]

theorem execPwrFailRideThrough_queue (dt : ℕ) (s : State) : Res.all (fun t => t.queue = s.queue) (execPwrFailRideThrough dt s) := by
  rw [execPwrFailRideThrough]; dsimp only; (repeat' split) <;> simp [apply_ite State.queue]

theorem execPwrFailRideThrough_wf (dt : ℕ) (s : State) (hw : s.memWf = true) : Res.all (fun t => t.memWf = true) (execPwrFailRideThrough dt s) := by
  rw [execPwrFailRideThrough]; dsimp only; (repeat' split) <;> simp (maxDischargeDepth := 40) +contextual [hw]

end Sys2Proof.Machine
end

