-- ==== Sys2Proof/Laws/KeepRing.lean ====
section
/-! SUPPORT. What ring control, clocks, segments, marks, updates and accumulation keep: the queue of waiting commands, and the canonical form of every store. -/

namespace Sys2Proof.Machine

/-! ### Ctl -/

@[simp] theorem State.rngEvent_queue (s : State) (k : ℕ) : (State.rngEvent s k).queue = s.queue := by
  rw [State.rngEvent]; simp [apply_ite State.queue]

@[simp] theorem State.rngEvent_wf (s : State) (k : ℕ) (hw : s.memWf = true) : (State.rngEvent s k).memWf = true := by
  rw [State.rngEvent]; simp (maxDischargeDepth := 40) +contextual [hw]

@[simp] theorem State.holdMark_queue (s : State) (m : Mark) : (State.holdMark s m).queue = s.queue := by
  rw [State.holdMark]; simp [apply_ite State.queue]

@[simp] theorem State.holdMark_wf (s : State) (m : Mark) (hw : s.memWf = true) : (State.holdMark s m).memWf = true := by
  rw [State.holdMark]; simp (maxDischargeDepth := 40) +contextual [hw]

@[simp] theorem State.issueMark_queue (s : State) (instant : ℕ) (snap : Bool) (byMark : Bool) : (State.issueMark s instant snap byMark).queue = s.queue := by
  rw [State.issueMark]; simp [apply_ite State.queue]

@[simp] theorem State.issueMark_wf (s : State) (instant : ℕ) (snap : Bool) (byMark : Bool) (hw : s.memWf = true) : (State.issueMark s instant snap byMark).memWf = true := by
  rw [State.issueMark]; simp (maxDischargeDepth := 40) +contextual [hw]

/-! ### Clocks -/

@[simp] theorem State.aonSource_queue (s : State) (rc : Bool) : (State.aonSource s rc).queue = s.queue := by
  rw [State.aonSource]; simp [apply_ite State.queue]

@[simp] theorem State.aonSource_wf (s : State) (rc : Bool) (hw : s.memWf = true) : (State.aonSource s rc).memWf = true := by
  rw [State.aonSource]; simp (maxDischargeDepth := 40) +contextual [hw]

@[simp] theorem State.refGone_queue (s : State) : (State.refGone s).queue = s.queue := by
  rw [State.refGone]; simp [apply_ite State.queue]

@[simp] theorem State.refGone_wf (s : State) (hw : s.memWf = true) : (State.refGone s).memWf = true := by
  rw [State.refGone]; simp (maxDischargeDepth := 40) +contextual [hw]

theorem execRefQualified_queue (dt : ℕ) (hundred : Bool) (s : State) : Res.all (fun t => t.queue = s.queue) (execRefQualified dt hundred s) := by
  rw [execRefQualified]; (repeat' split) <;> (try dsimp only) <;> (repeat' split) <;> simp_all

theorem execRefQualified_wf (dt : ℕ) (hundred : Bool) (s : State) (hw : s.memWf = true) : Res.all (fun t => t.memWf = true) (execRefQualified dt hundred s) := by
  rw [execRefQualified]; (repeat' split) <;> (try dsimp only) <;> (repeat' split) <;> simp (maxDischargeDepth := 40) +contextual [hw]

@[simp] theorem State.reloadEpoch_queue (s : State) : (State.reloadEpoch s).queue = s.queue := by
  rw [State.reloadEpoch]; simp [apply_ite State.queue]

@[simp] theorem State.reloadEpoch_wf (s : State) (hw : s.memWf = true) : (State.reloadEpoch s).memWf = true := by
  rw [State.reloadEpoch]; simp (maxDischargeDepth := 40) +contextual [hw]

theorem execCorePllLock_queue (dt : ℕ) (s : State) : Res.all (fun t => t.queue = s.queue) (execCorePllLock dt s) := by
  rw [execCorePllLock]; (repeat' split) <;> (try dsimp only) <;> (repeat' split) <;> simp_all

theorem execCorePllLock_wf (dt : ℕ) (s : State) (hw : s.memWf = true) : Res.all (fun t => t.memWf = true) (execCorePllLock dt s) := by
  rw [execCorePllLock]; (repeat' split) <;> (try dsimp only) <;> (repeat' split) <;> simp (maxDischargeDepth := 40) +contextual [hw]

theorem execSamplePllLock_queue (dt : ℕ) (s : State) : Res.all (fun t => t.queue = s.queue) (execSamplePllLock dt s) := by
  rw [execSamplePllLock]; dsimp only; (repeat' split) <;> simp [apply_ite State.queue]

theorem execSamplePllLock_wf (dt : ℕ) (s : State) (hw : s.memWf = true) : Res.all (fun t => t.memWf = true) (execSamplePllLock dt s) := by
  rw [execSamplePllLock]; dsimp only; (repeat' split) <;> simp (maxDischargeDepth := 40) +contextual [hw]

theorem execRefLostBeforeLock_queue (dt : ℕ) (s : State) : Res.all (fun t => t.queue = s.queue) (execRefLostBeforeLock dt s) := by
  rw [execRefLostBeforeLock]; (repeat' split) <;> (try dsimp only) <;> (repeat' split) <;> simp_all

theorem execRefLostBeforeLock_wf (dt : ℕ) (s : State) (hw : s.memWf = true) : Res.all (fun t => t.memWf = true) (execRefLostBeforeLock dt s) := by
  rw [execRefLostBeforeLock]; (repeat' split) <;> (try dsimp only) <;> (repeat' split) <;> simp (maxDischargeDepth := 40) +contextual [hw]

theorem execRefLoss_queue (dt : ℕ) (s : State) : Res.all (fun t => t.queue = s.queue) (execRefLoss dt s) := by
  rw [execRefLoss]; (repeat' split) <;> (try dsimp only) <;> (repeat' split) <;> simp_all

theorem execRefLoss_wf (dt : ℕ) (s : State) (hw : s.memWf = true) : Res.all (fun t => t.memWf = true) (execRefLoss dt s) := by
  rw [execRefLoss]; (repeat' split) <;> (try dsimp only) <;> (repeat' split) <;> simp (maxDischargeDepth := 40) +contextual [hw]

theorem execRefRelock_queue (dt : ℕ) (s : State) : Res.all (fun t => t.queue = s.queue) (execRefRelock dt s) := by
  rw [execRefRelock]; (repeat' split) <;> (try dsimp only) <;> (repeat' split) <;> simp_all

theorem execRefRelock_wf (dt : ℕ) (s : State) (hw : s.memWf = true) : Res.all (fun t => t.memWf = true) (execRefRelock dt s) := by
  rw [execRefRelock]; (repeat' split) <;> (try dsimp only) <;> (repeat' split) <;> simp (maxDischargeDepth := 40) +contextual [hw]

theorem execUnsettledClear_queue (dt : ℕ) (s : State) : Res.all (fun t => t.queue = s.queue) (execUnsettledClear dt s) := by
  rw [execUnsettledClear]; (repeat' split) <;> (try dsimp only) <;> (repeat' split) <;> simp_all

theorem execUnsettledClear_wf (dt : ℕ) (s : State) (hw : s.memWf = true) : Res.all (fun t => t.memWf = true) (execUnsettledClear dt s) := by
  rw [execUnsettledClear]; (repeat' split) <;> (try dsimp only) <;> (repeat' split) <;> simp (maxDischargeDepth := 40) +contextual [hw]

theorem execOvenReadyChange_queue (dt : ℕ) (level : Bool) (s : State) : Res.all (fun t => t.queue = s.queue) (execOvenReadyChange dt level s) := by
  rw [execOvenReadyChange]; simp [apply_ite State.queue]

theorem execOvenReadyChange_wf (dt : ℕ) (level : Bool) (s : State) (hw : s.memWf = true) : Res.all (fun t => t.memWf = true) (execOvenReadyChange dt level s) := by
  rw [execOvenReadyChange]; simp (maxDischargeDepth := 40) +contextual [hw]

theorem execCorePllLoss_queue (dt : ℕ) (s : State) : Res.all (fun t => t.queue = s.queue) (execCorePllLoss dt s) := by
  rw [execCorePllLoss]; dsimp only; (repeat' split) <;> simp [apply_ite State.queue]

theorem execCorePllLoss_wf (dt : ℕ) (s : State) (hw : s.memWf = true) : Res.all (fun t => t.memWf = true) (execCorePllLoss dt s) := by
  rw [execCorePllLoss]; dsimp only; (repeat' split) <;> simp (maxDischargeDepth := 40) +contextual [hw]

@[simp] theorem State.doLoadNow_queue (s : State) : (State.doLoadNow s).queue = s.queue := by
  rw [State.doLoadNow]; simp [apply_ite State.queue]

@[simp] theorem State.doLoadNow_wf (s : State) (hw : s.memWf = true) : (State.doLoadNow s).memWf = true := by
  rw [State.doLoadNow]; simp (maxDischargeDepth := 40) +contextual [hw]

theorem execLoadNow_queue (dt : ℕ) (s : State) : Res.all (fun t => t.queue = s.queue) (execLoadNow dt s) := by
  rw [execLoadNow]; simp [apply_ite State.queue]

theorem execLoadNow_wf (dt : ℕ) (s : State) (hw : s.memWf = true) : Res.all (fun t => t.memWf = true) (execLoadNow dt s) := by
  rw [execLoadNow]; simp (maxDischargeDepth := 40) +contextual [hw]

@[simp] theorem State.doLoadPps_queue (s : State) : (State.doLoadPps s).queue = s.queue := by
  rw [State.doLoadPps]; simp [apply_ite State.queue]

@[simp] theorem State.doLoadPps_wf (s : State) (hw : s.memWf = true) : (State.doLoadPps s).memWf = true := by
  rw [State.doLoadPps]; simp (maxDischargeDepth := 40) +contextual [hw]

theorem execLoadPps_queue (dt : ℕ) (s : State) : Res.all (fun t => t.queue = s.queue) (execLoadPps dt s) := by
  rw [execLoadPps]; simp [apply_ite State.queue]

theorem execLoadPps_wf (dt : ℕ) (s : State) (hw : s.memWf = true) : Res.all (fun t => t.memWf = true) (execLoadPps dt s) := by
  rw [execLoadPps]; simp (maxDischargeDepth := 40) +contextual [hw]

@[simp] theorem State.doPpsCancel_queue (s : State) : (State.doPpsCancel s).queue = s.queue := by
  rw [State.doPpsCancel]; simp [apply_ite State.queue]

@[simp] theorem State.doPpsCancel_wf (s : State) (hw : s.memWf = true) : (State.doPpsCancel s).memWf = true := by
  rw [State.doPpsCancel]; simp (maxDischargeDepth := 40) +contextual [hw]

theorem execPpsLoadCancel_queue (dt : ℕ) (s : State) : Res.all (fun t => t.queue = s.queue) (execPpsLoadCancel dt s) := by
  rw [execPpsLoadCancel]; simp [apply_ite State.queue]

theorem execPpsLoadCancel_wf (dt : ℕ) (s : State) (hw : s.memWf = true) : Res.all (fun t => t.memWf = true) (execPpsLoadCancel dt s) := by
  rw [execPpsLoadCancel]; simp (maxDischargeDepth := 40) +contextual [hw]

@[simp] theorem State.ppsAccept_queue (s : State) (t : ℕ) (ago : ℕ) : (State.ppsAccept s t ago).queue = s.queue := by
  rw [State.ppsAccept]; simp [apply_ite State.queue]

@[simp] theorem State.ppsAccept_wf (s : State) (t : ℕ) (ago : ℕ) (hw : s.memWf = true) : (State.ppsAccept s t ago).memWf = true := by
  rw [State.ppsAccept]; simp (maxDischargeDepth := 40) +contextual [hw]

@[simp] theorem State.ppsLoad_queue (s : State) (t : ℕ) : (State.ppsLoad s t).queue = s.queue := by
  rw [State.ppsLoad]; simp [apply_ite State.queue]

@[simp] theorem State.ppsLoad_wf (s : State) (t : ℕ) (hw : s.memWf = true) : (State.ppsLoad s t).memWf = true := by
  rw [State.ppsLoad]; simp (maxDischargeDepth := 40) +contextual [hw]

theorem execPpsEdge_queue (dt : ℕ) (ago : ℕ) (s : State) : Res.all (fun t => t.queue = s.queue) (execPpsEdge dt ago s) := by
  rw [execPpsEdge]; dsimp only; (repeat' split) <;> simp [apply_ite State.queue]

theorem execPpsEdge_wf (dt : ℕ) (ago : ℕ) (s : State) (hw : s.memWf = true) : Res.all (fun t => t.memWf = true) (execPpsEdge dt ago s) := by
  rw [execPpsEdge]; dsimp only; (repeat' split) <;> simp (maxDischargeDepth := 40) +contextual [hw]

theorem execPpsMissing_queue (dt : ℕ) (s : State) : Res.all (fun t => t.queue = s.queue) (execPpsMissing dt s) := by
  rw [execPpsMissing]; dsimp only; (repeat' split) <;> simp [apply_ite State.queue]

theorem execPpsMissing_wf (dt : ℕ) (s : State) (hw : s.memWf = true) : Res.all (fun t => t.memWf = true) (execPpsMissing dt s) := by
  rw [execPpsMissing]; dsimp only; (repeat' split) <;> simp (maxDischargeDepth := 40) +contextual [hw]

/-! ### Segments -/

@[simp] theorem State.setForeign_queue (s : State) : (State.setForeign s).queue = s.queue := by
  rw [State.setForeign]; simp [apply_ite State.queue]

@[simp] theorem State.setForeign_wf (s : State) (hw : s.memWf = true) : (State.setForeign s).memWf = true := by
  rw [State.setForeign]; simp (maxDischargeDepth := 40) +contextual [hw]

theorem execSegmentTrainEnd_queue (dt : ℕ) (d : Dir) (v : Verdict) (peer : FarEnd) (bypassed : ℕ) (s : State) : Res.all (fun t => t.queue = s.queue) (execSegmentTrainEnd dt d v peer bypassed s) := by
  unfold execSegmentTrainEnd; (repeat' split) <;> (try dsimp only) <;> (repeat' split) <;> simp_all

theorem execSegmentTrainEnd_wf (dt : ℕ) (d : Dir) (v : Verdict) (peer : FarEnd) (bypassed : ℕ) (s : State) (hw : s.memWf = true) : Res.all (fun t => t.memWf = true) (execSegmentTrainEnd dt d v peer bypassed s) := by
  unfold execSegmentTrainEnd; (repeat' split) <;> (try dsimp only) <;> (repeat' split) <;> simp_all (maxDischargeDepth := 40)

theorem execSegmentDown_queue (dt : ℕ) (d : Dir) (s : State) : Res.all (fun t => t.queue = s.queue) (execSegmentDown dt d s) := by
  rw [execSegmentDown]; dsimp only; (repeat' split) <;> simp [apply_ite State.queue]

theorem execSegmentDown_wf (dt : ℕ) (d : Dir) (s : State) (hw : s.memWf = true) : Res.all (fun t => t.memWf = true) (execSegmentDown dt d s) := by
  rw [execSegmentDown]; dsimp only; (repeat' split) <;> simp (maxDischargeDepth := 40) +contextual [hw]

theorem execSegmentDownTimeout_queue (dt : ℕ) (d : Dir) (s : State) : Res.all (fun t => t.queue = s.queue) (execSegmentDownTimeout dt d s) := by
  rw [execSegmentDownTimeout]; (repeat' split) <;> (try dsimp only) <;> (repeat' split) <;> simp_all

theorem execSegmentDownTimeout_wf (dt : ℕ) (d : Dir) (s : State) (hw : s.memWf = true) : Res.all (fun t => t.memWf = true) (execSegmentDownTimeout dt d s) := by
  rw [execSegmentDownTimeout]; (repeat' split) <;> (try dsimp only) <;> (repeat' split) <;> simp (maxDischargeDepth := 40) +contextual [hw]

theorem execLinkFrameCrcFail_queue (dt : ℕ) (d : Dir) (frame : BadFrame) (s : State) : Res.all (fun t => t.queue = s.queue) (execLinkFrameCrcFail dt d frame s) := by
  rw [execLinkFrameCrcFail]; (repeat' split) <;> (try dsimp only) <;> (repeat' split) <;> simp_all

theorem execLinkFrameCrcFail_wf (dt : ℕ) (d : Dir) (frame : BadFrame) (s : State) (hw : s.memWf = true) : Res.all (fun t => t.memWf = true) (execLinkFrameCrcFail dt d frame s) := by
  rw [execLinkFrameCrcFail]; (repeat' split) <;> (try dsimp only) <;> (repeat' split) <;> simp (maxDischargeDepth := 40) +contextual [hw]

@[simp] theorem State.doPosCommit_queue (s : State) : (State.doPosCommit s).queue = s.queue := by
  rw [State.doPosCommit]; simp [apply_ite State.queue]

@[simp] theorem State.doPosCommit_wf (s : State) (hw : s.memWf = true) : (State.doPosCommit s).memWf = true := by
  rw [State.doPosCommit]; simp (maxDischargeDepth := 40) +contextual [hw]

theorem execPositionCommit_queue (dt : ℕ) (rq : Requester) (s : State) : Res.all (fun t => t.queue = s.queue) (execPositionCommit dt rq s) := by
  rw [execPositionCommit]; apply State.hostWrite_queue (by simp); intro u hu; (try dsimp only); (repeat' split) <;> simp [hu]

theorem execPositionCommit_wf (dt : ℕ) (rq : Requester) (s : State) (hw : s.memWf = true) : Res.all (fun t => t.memWf = true) (execPositionCommit dt rq s) := by
  rw [execPositionCommit]; apply State.hostWrite_wf (by simp [hw]); intro u hu; (try dsimp only); (repeat' split) <;> simp (maxDischargeDepth := 40) +contextual [hu]

theorem execPositionFlashWriteDone_queue (dt : ℕ) (s : State) : Res.all (fun t => t.queue = s.queue) (execPositionFlashWriteDone dt s) := by
  rw [execPositionFlashWriteDone]; (repeat' split) <;> (try dsimp only) <;> (repeat' split) <;> simp_all

theorem execPositionFlashWriteDone_wf (dt : ℕ) (s : State) (hw : s.memWf = true) : Res.all (fun t => t.memWf = true) (execPositionFlashWriteDone dt s) := by
  rw [execPositionFlashWriteDone]; (repeat' split) <;> (try dsimp only) <;> (repeat' split) <;> simp (maxDischargeDepth := 40) +contextual [hw]

theorem execBypassOpen_queue (dt : ℕ) (s : State) : Res.all (fun t => t.queue = s.queue) (execBypassOpen dt s) := by
  rw [execBypassOpen]; dsimp only; (repeat' split) <;> simp [apply_ite State.queue]

theorem execBypassOpen_wf (dt : ℕ) (s : State) (hw : s.memWf = true) : Res.all (fun t => t.memWf = true) (execBypassOpen dt s) := by
  rw [execBypassOpen]; dsimp only; (repeat' split) <;> simp (maxDischargeDepth := 40) +contextual [hw]

@[simp] theorem State.judgePlace_queue (s : State) : (State.judgePlace s).queue = s.queue := by
  rw [State.judgePlace]; simp [apply_ite State.queue]

@[simp] theorem State.judgePlace_wf (s : State) (hw : s.memWf = true) : (State.judgePlace s).memWf = true := by
  rw [State.judgePlace]; simp (maxDischargeDepth := 40) +contextual [hw]

@[simp] theorem State.takePeer_queue (s : State) (k : ℕ) (peer : AlignBody) : (State.takePeer s k peer).queue = s.queue := by
  rw [State.takePeer]; simp [apply_ite State.queue]

@[simp] theorem State.takePeer_wf (s : State) (k : ℕ) (peer : AlignBody) (hw : s.memWf = true) : (State.takePeer s k peer).memWf = true := by
  rw [State.takePeer]; simp (maxDischargeDepth := 40) +contextual [hw]

@[simp] theorem State.shiftEpoch_queue (s : State) (m : ℤ) : (State.shiftEpoch s m).queue = s.queue := by
  rw [State.shiftEpoch]; simp [apply_ite State.queue]

@[simp] theorem State.shiftEpoch_wf (s : State) (m : ℤ) (hw : s.memWf = true) : (State.shiftEpoch s m).memWf = true := by
  rw [State.shiftEpoch]; simp (maxDischargeDepth := 40) +contextual [hw]

@[simp] theorem State.takeLoad_queue (s : State) (m : ℤ) : (State.takeLoad s m).queue = s.queue := by
  rw [State.takeLoad]; simp [apply_ite State.queue]

@[simp] theorem State.takeLoad_wf (s : State) (m : ℤ) (hw : s.memWf = true) : (State.takeLoad s m).memWf = true := by
  rw [State.takeLoad]; simp (maxDischargeDepth := 40) +contextual [hw]

@[simp] theorem State.oweStep_queue (s : State) (o : Option ℤ) : (State.oweStep s o).queue = s.queue := by
  rw [State.oweStep]; simp [apply_ite State.queue]

@[simp] theorem State.oweStep_wf (s : State) (o : Option ℤ) (hw : s.memWf = true) : (State.oweStep s o).memWf = true := by
  rw [State.oweStep]; simp (maxDischargeDepth := 40) +contextual [hw]

@[simp] theorem State.setGood_queue (s : State) (n : ℕ) : (State.setGood s n).queue = s.queue := by
  rw [State.setGood]; simp [apply_ite State.queue]

@[simp] theorem State.setGood_wf (s : State) (n : ℕ) (hw : s.memWf = true) : (State.setGood s n).memWf = true := by
  rw [State.setGood]; simp (maxDischargeDepth := 40) +contextual [hw]

@[simp] theorem State.putMeasure_queue (s : State) (k : ℕ) (theta : ℤ) (delta : ℤ) (free : ℕ) : (State.putMeasure s k theta delta free).queue = s.queue := by
  rw [State.putMeasure]; simp [apply_ite State.queue]

@[simp] theorem State.putMeasure_wf (s : State) (k : ℕ) (theta : ℤ) (delta : ℤ) (free : ℕ) (hw : s.memWf = true) : (State.putMeasure s k theta delta free).memWf = true := by
  rw [State.putMeasure]; simp (maxDischargeDepth := 40) +contextual [hw]

@[simp] theorem State.nowAligned_queue (s : State) : (State.nowAligned s).queue = s.queue := by
  rw [State.nowAligned]; simp [apply_ite State.queue]

@[simp] theorem State.nowAligned_wf (s : State) (hw : s.memWf = true) : (State.nowAligned s).memWf = true := by
  rw [State.nowAligned]; simp (maxDischargeDepth := 40) +contextual [hw]

@[simp] theorem State.lostAlign_queue (s : State) (theta : ℤ) : (State.lostAlign s theta).queue = s.queue := by
  rw [State.lostAlign]; simp [apply_ite State.queue]

@[simp] theorem State.lostAlign_wf (s : State) (theta : ℤ) (hw : s.memWf = true) : (State.lostAlign s theta).memWf = true := by
  rw [State.lostAlign]; simp (maxDischargeDepth := 40) +contextual [hw]

@[simp] theorem State.judgeStep_queue (s : State) (theta : ℤ) : (State.judgeStep s theta).queue = s.queue := by
  rw [State.judgeStep]; simp [apply_ite State.queue]

@[simp] theorem State.judgeStep_wf (s : State) (theta : ℤ) (hw : s.memWf = true) : (State.judgeStep s theta).memWf = true := by
  rw [State.judgeStep]; simp (maxDischargeDepth := 40) +contextual [hw]

@[simp] theorem State.measure_queue (s : State) (k : ℕ) (t1 : ℕ) (t2 : ℕ) (t3 : ℕ) (t4 : ℕ) : (State.measure s k t1 t2 t3 t4).queue = s.queue := by
  rw [State.measure]; simp [apply_ite State.queue]

@[simp] theorem State.measure_wf (s : State) (k : ℕ) (t1 : ℕ) (t2 : ℕ) (t3 : ℕ) (t4 : ℕ) (hw : s.memWf = true) : (State.measure s k t1 t2 t3 t4).memWf = true := by
  rw [State.measure]; simp (maxDischargeDepth := 40) +contextual [hw]

theorem execAlignFlit_queue (dt : ℕ) (d : Dir) (ago : ℕ) (peer : AlignBody) (s : State) : Res.all (fun t => t.queue = s.queue) (execAlignFlit dt d ago peer s) := by
  rw [execAlignFlit]; dsimp only; (repeat' split) <;> simp [apply_ite State.queue]

theorem execAlignFlit_wf (dt : ℕ) (d : Dir) (ago : ℕ) (peer : AlignBody) (s : State) (hw : s.memWf = true) : Res.all (fun t => t.memWf = true) (execAlignFlit dt d ago peer s) := by
  rw [execAlignFlit]; dsimp only; (repeat' split) <;> simp (maxDischargeDepth := 40) +contextual [hw]

theorem execAlignSend_queue (dt : ℕ) (d : Dir) (s : State) : Res.all (fun t => t.queue = s.queue) (execAlignSend dt d s) := by
  rw [execAlignSend]; dsimp only; (repeat' split) <;> simp [apply_ite State.queue]

theorem execAlignSend_wf (dt : ℕ) (d : Dir) (s : State) (hw : s.memWf = true) : Res.all (fun t => t.memWf = true) (execAlignSend dt d s) := by
  rw [execAlignSend]; dsimp only; (repeat' split) <;> simp (maxDischargeDepth := 40) +contextual [hw]

theorem execAlignLoss_queue (dt : ℕ) (s : State) : Res.all (fun t => t.queue = s.queue) (execAlignLoss dt s) := by
  rw [execAlignLoss]; dsimp only; (repeat' split) <;> simp [apply_ite State.queue]

theorem execAlignLoss_wf (dt : ℕ) (s : State) (hw : s.memWf = true) : Res.all (fun t => t.memWf = true) (execAlignLoss dt s) := by
  rw [execAlignLoss]; dsimp only; (repeat' split) <;> simp (maxDischargeDepth := 40) +contextual [hw]

theorem execEpochStep_queue (dt : ℕ) (s : State) : Res.all (fun t => t.queue = s.queue) (execEpochStep dt s) := by
  rw [execEpochStep]; dsimp only; (repeat' split) <;> simp [apply_ite State.queue]

theorem execEpochStep_wf (dt : ℕ) (s : State) (hw : s.memWf = true) : Res.all (fun t => t.memWf = true) (execEpochStep dt s) := by
  rw [execEpochStep]; dsimp only; (repeat' split) <;> simp (maxDischargeDepth := 40) +contextual [hw]

/-! ### Marks -/

@[simp] theorem State.repeatFlit_queue (s : State) (d : Dir) (h : FlitHdr) (body : ℕ) : (State.repeatFlit s d h body).queue = s.queue := by
  rw [State.repeatFlit]; simp [apply_ite State.queue]

@[simp] theorem State.repeatFlit_wf (s : State) (d : Dir) (h : FlitHdr) (body : ℕ) (hw : s.memWf = true) : (State.repeatFlit s d h body).memWf = true := by
  rw [State.repeatFlit]; simp (maxDischargeDepth := 40) +contextual [hw]

@[simp] theorem State.noteSeen_queue (s : State) (l : ℕ) (src : ℕ) (t : ℕ) : (State.noteSeen s l src t).queue = s.queue := by
  rw [State.noteSeen]; simp [apply_ite State.queue]

@[simp] theorem State.noteSeen_wf (s : State) (l : ℕ) (src : ℕ) (t : ℕ) (hw : s.memWf = true) : (State.noteSeen s l src t).memWf = true := by
  rw [State.noteSeen]; simp (maxDischargeDepth := 40) +contextual [hw]

@[simp] theorem State.takeTrig_queue (s : State) (src : ℕ) (l : ℕ) (t : ℕ) : (State.takeTrig s src l t).queue = s.queue := by
  rw [State.takeTrig]; simp [apply_ite State.queue]

@[simp] theorem State.takeTrig_wf (s : State) (src : ℕ) (l : ℕ) (t : ℕ) (hw : s.memWf = true) : (State.takeTrig s src l t).memWf = true := by
  rw [State.takeTrig]; simp (maxDischargeDepth := 40) +contextual [hw]

theorem execTrigFlit_queue (dt : ℕ) (d : Dir) (flit : List Native) (s : State) : Res.all (fun t => t.queue = s.queue) (execTrigFlit dt d flit s) := by
  rw [execTrigFlit]; dsimp only; (repeat' split) <;> simp [apply_ite State.queue]

theorem execTrigFlit_wf (dt : ℕ) (d : Dir) (flit : List Native) (s : State) (hw : s.memWf = true) : Res.all (fun t => t.memWf = true) (execTrigFlit dt d flit s) := by
  rw [execTrigFlit]; dsimp only; (repeat' split) <;> simp (maxDischargeDepth := 40) +contextual [hw]

theorem execCalFlit_queue (dt : ℕ) (d : Dir) (flit : List Native) (s : State) : Res.all (fun t => t.queue = s.queue) (execCalFlit dt d flit s) := by
  rw [execCalFlit]; dsimp only; (repeat' split) <;> simp [apply_ite State.queue]

theorem execCalFlit_wf (dt : ℕ) (d : Dir) (flit : List Native) (s : State) (hw : s.memWf = true) : Res.all (fun t => t.memWf = true) (execCalFlit dt d flit s) := by
  rw [execCalFlit]; dsimp only; (repeat' split) <;> simp (maxDischargeDepth := 40) +contextual [hw]

@[simp] theorem State.doMark_queue (s : State) : (State.doMark s).queue = s.queue := by
  rw [State.doMark]; simp [apply_ite State.queue]

@[simp] theorem State.doMark_wf (s : State) (hw : s.memWf = true) : (State.doMark s).memWf = true := by
  rw [State.doMark]; simp (maxDischargeDepth := 40) +contextual [hw]

theorem execCalendsMark_queue (dt : ℕ) (s : State) : Res.all (fun t => t.queue = s.queue) (execCalendsMark dt s) := by
  rw [execCalendsMark]; simp [apply_ite State.queue]

theorem execCalendsMark_wf (dt : ℕ) (s : State) (hw : s.memWf = true) : Res.all (fun t => t.memWf = true) (execCalendsMark dt s) := by
  rw [execCalendsMark]; simp (maxDischargeDepth := 40) +contextual [hw]

@[simp] theorem State.setPeriodic_queue (s : State) (on : Bool) : (State.setPeriodic s on).queue = s.queue := by
  rw [State.setPeriodic]; simp [apply_ite State.queue]

@[simp] theorem State.setPeriodic_wf (s : State) (on : Bool) (hw : s.memWf = true) : (State.setPeriodic s on).memWf = true := by
  rw [State.setPeriodic]; simp (maxDischargeDepth := 40) +contextual [hw]

theorem execCalendsPeriodic_queue (dt : ℕ) (s : State) : Res.all (fun t => t.queue = s.queue) (execCalendsPeriodic dt s) := by
  rw [execCalendsPeriodic]; dsimp only; (repeat' split) <;> simp [apply_ite State.queue]

theorem execCalendsPeriodic_wf (dt : ℕ) (s : State) (hw : s.memWf = true) : Res.all (fun t => t.memWf = true) (execCalendsPeriodic dt s) := by
  rw [execCalendsPeriodic]; dsimp only; (repeat' split) <;> simp (maxDischargeDepth := 40) +contextual [hw]

@[simp] theorem State.takeSnap_queue (s : State) (m : Mark) : (State.takeSnap s m).queue = s.queue := by
  rw [State.takeSnap]; simp [apply_ite State.queue]

@[simp] theorem State.takeSnap_wf (s : State) (m : Mark) (hw : s.memWf = true) : (State.takeSnap s m).memWf = true := by
  rw [State.takeSnap]; simp (maxDischargeDepth := 40) +contextual [hw]

@[simp] theorem State.nameDivergent_queue (s : State) (k : ℕ) (i : ℕ) (m : ℕ) : (State.nameDivergent s k i m).queue = s.queue := by
  rw [State.nameDivergent]; simp [apply_ite State.queue]

@[simp] theorem State.nameDivergent_wf (s : State) (k : ℕ) (i : ℕ) (m : ℕ) (hw : s.memWf = true) : (State.nameDivergent s k i m).memWf = true := by
  rw [State.nameDivergent]; simp (maxDischargeDepth := 40) +contextual [hw]

@[simp] theorem State.divergentReg_queue (s : State) (k : ℕ) (i : ℕ) : (State.divergentReg s k i).queue = s.queue := by
  rw [State.divergentReg]; dsimp only; (repeat' split) <;> simp [apply_ite State.queue]

@[simp] theorem State.divergentReg_wf (s : State) (k : ℕ) (i : ℕ) (hw : s.memWf = true) : (State.divergentReg s k i).memWf = true := by
  rw [State.divergentReg]; dsimp only; (repeat' split) <;> simp (maxDischargeDepth := 40) +contextual [hw]

@[simp] theorem State.digRegs_queue (s : State) : (State.digRegs s).queue = s.queue := by
  rw [State.digRegs]; simp [apply_ite State.queue]

@[simp] theorem State.digRegs_wf (s : State) (hw : s.memWf = true) : (State.digRegs s).memWf = true := by
  rw [State.digRegs]; simp (maxDischargeDepth := 40) +contextual [hw]

@[simp] theorem State.markDiverge_queue (s : State) (i : ℕ) (m : ℕ) : (State.markDiverge s i m).queue = s.queue := by
  rw [State.markDiverge]; simp [apply_ite State.queue]

@[simp] theorem State.markDiverge_wf (s : State) (i : ℕ) (m : ℕ) (hw : s.memWf = true) : (State.markDiverge s i m).memWf = true := by
  rw [State.markDiverge]; simp (maxDischargeDepth := 40) +contextual [hw]

@[simp] theorem State.putMember_queue (s : State) (i : ℕ) (m : ℕ) (dg : List Byte) : (State.putMember s i m dg).queue = s.queue := by
  rw [State.putMember]; dsimp only; (repeat' split) <;> simp [apply_ite State.queue]

@[simp] theorem State.putMember_wf (s : State) (i : ℕ) (m : ℕ) (dg : List Byte) (hw : s.memWf = true) : (State.putMember s i m dg).memWf = true := by
  rw [State.putMember]; dsimp only; (repeat' split) <;> simp (maxDischargeDepth := 40) +contextual [hw]

@[simp] theorem State.sendDigest_queue (s : State) (i : ℕ) (dg : List Byte) : (State.sendDigest s i dg).queue = s.queue := by
  rw [State.sendDigest]; simp [apply_ite State.queue]

@[simp] theorem State.sendDigest_wf (s : State) (i : ℕ) (dg : List Byte) (hw : s.memWf = true) : (State.sendDigest s i dg).memWf = true := by
  rw [State.sendDigest]; simp (maxDischargeDepth := 40) +contextual [hw]

@[simp] theorem State.cascade_queue (s : State) (x1 : List ℕ) : (State.cascade s x1).queue = s.queue := by
  fun_induction State.cascade s x1 <;> simp_all

@[simp] theorem State.cascade_wf (s : State) (x1 : List ℕ) (hw : s.memWf = true) : (State.cascade s x1).memWf = true := by
  fun_induction State.cascade s x1 <;> simp_all (maxDischargeDepth := 40)

@[simp] theorem State.endPeriod_queue (s : State) : (State.endPeriod s).queue = s.queue := by
  rw [State.endPeriod]; simp [apply_ite State.queue]

@[simp] theorem State.endPeriod_wf (s : State) (hw : s.memWf = true) : (State.endPeriod s).memWf = true := by
  rw [State.endPeriod]; simp (maxDischargeDepth := 40) +contextual [hw]

@[simp] theorem State.takeDigest_queue (s : State) : (State.takeDigest s).queue = s.queue := by
  rw [State.takeDigest]; (repeat' split) <;> (try dsimp only) <;> (repeat' split) <;> simp_all

@[simp] theorem State.takeDigest_wf (s : State) (hw : s.memWf = true) : (State.takeDigest s).memWf = true := by
  rw [State.takeDigest]; (repeat' split) <;> (try dsimp only) <;> (repeat' split) <;> simp (maxDischargeDepth := 40) +contextual [hw]

theorem execSnapshotInstant_queue (dt : ℕ) (s : State) : Res.all (fun t => t.queue = s.queue) (execSnapshotInstant dt s) := by
  rw [execSnapshotInstant]; dsimp only; (repeat' split) <;> simp [apply_ite State.queue]

theorem execSnapshotInstant_wf (dt : ℕ) (s : State) (hw : s.memWf = true) : Res.all (fun t => t.memWf = true) (execSnapshotInstant dt s) := by
  rw [execSnapshotInstant]; dsimp only; (repeat' split) <;> simp (maxDischargeDepth := 40) +contextual [hw]

@[simp] theorem State.takeDig_queue (s : State) (h : FlitHdr) (b : ℕ) : (State.takeDig s h b).queue = s.queue := by
  rw [State.takeDig]; dsimp only; (repeat' split) <;> simp [apply_ite State.queue]

@[simp] theorem State.takeDig_wf (s : State) (h : FlitHdr) (b : ℕ) (hw : s.memWf = true) : (State.takeDig s h b).memWf = true := by
  rw [State.takeDig]; dsimp only; (repeat' split) <;> simp (maxDischargeDepth := 40) +contextual [hw]

theorem execDigFlit_queue (dt : ℕ) (d : Dir) (flit : List Native) (s : State) : Res.all (fun t => t.queue = s.queue) (execDigFlit dt d flit s) := by
  rw [execDigFlit]; (repeat' split) <;> (try dsimp only) <;> (repeat' split) <;> simp_all

theorem execDigFlit_wf (dt : ℕ) (d : Dir) (flit : List Native) (s : State) (hw : s.memWf = true) : Res.all (fun t => t.memWf = true) (execDigFlit dt d flit s) := by
  rw [execDigFlit]; (repeat' split) <;> (try dsimp only) <;> (repeat' split) <;> simp (maxDischargeDepth := 40) +contextual [hw]

@[simp] theorem State.doResolve_queue (s : State) (w : ℕ) : (State.doResolve s w).queue = s.queue := by
  rw [State.doResolve]; simp [apply_ite State.queue]

@[simp] theorem State.doResolve_wf (s : State) (w : ℕ) (hw : s.memWf = true) : (State.doResolve s w).memWf = true := by
  rw [State.doResolve]; simp (maxDischargeDepth := 40) +contextual [hw]

theorem execWindowResolve_queue (dt : ℕ) (w : Fin 64) (s : State) : Res.all (fun t => t.queue = s.queue) (execWindowResolve dt w s) := by
  rw [execWindowResolve]; simp [apply_ite State.queue]

theorem execWindowResolve_wf (dt : ℕ) (w : Fin 64) (s : State) (hw : s.memWf = true) : Res.all (fun t => t.memWf = true) (execWindowResolve dt w s) := by
  rw [execWindowResolve]; simp (maxDischargeDepth := 40) +contextual [hw]

@[simp] theorem State.setFwd_queue (s : State) (p : ℕ) (on : Bool) (next : ℕ) : (State.setFwd s p on next).queue = s.queue := by
  rw [State.setFwd]; simp [apply_ite State.queue]

@[simp] theorem State.setFwd_wf (s : State) (p : ℕ) (on : Bool) (next : ℕ) (hw : s.memWf = true) : (State.setFwd s p on next).memWf = true := by
  rw [State.setFwd]; simp (maxDischargeDepth := 40) +contextual [hw]

@[simp] theorem State.doForward_queue (s : State) (p : ℕ) : (State.doForward s p).queue = s.queue := by
  rw [State.doForward]; simp [apply_ite State.queue]

@[simp] theorem State.doForward_wf (s : State) (p : ℕ) (hw : s.memWf = true) : (State.doForward s p).memWf = true := by
  rw [State.doForward]; simp (maxDischargeDepth := 40) +contextual [hw]

theorem execForwardEnable_queue (dt : ℕ) (p : Fin 32) (s : State) : Res.all (fun t => t.queue = s.queue) (execForwardEnable dt p s) := by
  rw [execForwardEnable]; simp [apply_ite State.queue]

theorem execForwardEnable_wf (dt : ℕ) (p : Fin 32) (s : State) (hw : s.memWf = true) : Res.all (fun t => t.memWf = true) (execForwardEnable dt p s) := by
  rw [execForwardEnable]; simp (maxDischargeDepth := 40) +contextual [hw]

@[simp] theorem State.sendRecord_queue (s : State) (pos : ℕ) (stream : ℕ) (p : ℕ) (seq : ℕ) (bs : List Byte) : (State.sendRecord s pos stream p seq bs).queue = s.queue := by
  rw [State.sendRecord]; simp [apply_ite State.queue]

@[simp] theorem State.sendRecord_wf (s : State) (pos : ℕ) (stream : ℕ) (p : ℕ) (seq : ℕ) (bs : List Byte) (hw : s.memWf = true) : (State.sendRecord s pos stream p seq bs).memWf = true := by
  rw [State.sendRecord]; simp (maxDischargeDepth := 40) +contextual [hw]

theorem execForwardRecord_queue (dt : ℕ) (p : Fin 32) (reach : Bool) (s : State) : Res.all (fun t => t.queue = s.queue) (execForwardRecord dt p reach s) := by
  rw [execForwardRecord]; dsimp only; (repeat' split) <;> simp [apply_ite State.queue]

theorem execForwardRecord_wf (dt : ℕ) (p : Fin 32) (reach : Bool) (s : State) (hw : s.memWf = true) : Res.all (fun t => t.memWf = true) (execForwardRecord dt p reach s) := by
  rw [execForwardRecord]; dsimp only; (repeat' split) <;> simp (maxDischargeDepth := 40) +contextual [hw]

@[simp] theorem State.takeRec_queue (s : State) (h : FlitHdr) (b : ℕ) : (State.takeRec s h b).queue = s.queue := by
  rw [State.takeRec]; simp [apply_ite State.queue]

@[simp] theorem State.takeRec_wf (s : State) (h : FlitHdr) (b : ℕ) (hw : s.memWf = true) : (State.takeRec s h b).memWf = true := by
  rw [State.takeRec]; simp (maxDischargeDepth := 40) +contextual [hw]

theorem execRecFlit_queue (dt : ℕ) (d : Dir) (flit : List Native) (s : State) : Res.all (fun t => t.queue = s.queue) (execRecFlit dt d flit s) := by
  rw [execRecFlit]; (repeat' split) <;> (try dsimp only) <;> (repeat' split) <;> simp_all

theorem execRecFlit_wf (dt : ℕ) (d : Dir) (flit : List Native) (s : State) (hw : s.memWf = true) : Res.all (fun t => t.memWf = true) (execRecFlit dt d flit s) := by
  rw [execRecFlit]; (repeat' split) <;> (try dsimp only) <;> (repeat' split) <;> simp (maxDischargeDepth := 40) +contextual [hw]

/-! ### Update -/

@[simp] theorem State.updError_queue (s : State) (code : ℕ) : (State.updError s code).queue = s.queue := by
  rw [State.updError]; simp [apply_ite State.queue]

@[simp] theorem State.updError_wf (s : State) (code : ℕ) (hw : s.memWf = true) : (State.updError s code).memWf = true := by
  rw [State.updError]; simp (maxDischargeDepth := 40) +contextual [hw]

@[simp] theorem State.setUpd_queue (s : State) (st : ℕ) : (State.setUpd s st).queue = s.queue := by
  rw [State.setUpd]; simp [apply_ite State.queue]

@[simp] theorem State.setUpd_wf (s : State) (st : ℕ) (hw : s.memWf = true) : (State.setUpd s st).memWf = true := by
  rw [State.setUpd]; simp (maxDischargeDepth := 40) +contextual [hw]

@[simp] theorem State.updEvent_queue (s : State) (k : ℕ) : (State.updEvent s k).queue = s.queue := by
  rw [State.updEvent]; simp [apply_ite State.queue]

@[simp] theorem State.updEvent_wf (s : State) (k : ℕ) (hw : s.memWf = true) : (State.updEvent s k).memWf = true := by
  rw [State.updEvent]; simp (maxDischargeDepth := 40) +contextual [hw]

@[simp] theorem State.setFlags_queue (s : State) (b : ℕ) (valid : Bool) (confirmed : Bool) (version : ℕ) (floor : ℕ) : (State.setFlags s b valid confirmed version floor).queue = s.queue := by
  rw [State.setFlags]; simp [apply_ite State.queue]

@[simp] theorem State.setFlags_wf (s : State) (b : ℕ) (valid : Bool) (confirmed : Bool) (version : ℕ) (floor : ℕ) (hw : s.memWf = true) : (State.setFlags s b valid confirmed version floor).memWf = true := by
  rw [State.setFlags]; simp (maxDischargeDepth := 40) +contextual [hw]

@[simp] theorem State.invalidate_queue (s : State) (b : ℕ) : (State.invalidate s b).queue = s.queue := by
  rw [State.invalidate]; simp [apply_ite State.queue]

@[simp] theorem State.invalidate_wf (s : State) (b : ℕ) (hw : s.memWf = true) : (State.invalidate s b).memWf = true := by
  rw [State.invalidate]; simp (maxDischargeDepth := 40) +contextual [hw]

@[simp] theorem State.commitWord_queue (s : State) (b : ℕ) : (State.commitWord s b).queue = s.queue := by
  rw [State.commitWord]; simp [apply_ite State.queue]

@[simp] theorem State.commitWord_wf (s : State) (b : ℕ) (hw : s.memWf = true) : (State.commitWord s b).memWf = true := by
  rw [State.commitWord]; simp (maxDischargeDepth := 40) +contextual [hw]

@[simp] theorem State.doBegin_queue (s : State) : (State.doBegin s).queue = s.queue := by
  rw [State.doBegin]; simp [apply_ite State.queue]

@[simp] theorem State.doBegin_wf (s : State) (hw : s.memWf = true) : (State.doBegin s).memWf = true := by
  rw [State.doBegin]; simp (maxDischargeDepth := 40) +contextual [hw]

theorem execUpdBegin_queue (dt : ℕ) (s : State) : Res.all (fun t => t.queue = s.queue) (execUpdBegin dt s) := by
  rw [execUpdBegin]; simp [apply_ite State.queue]

theorem execUpdBegin_wf (dt : ℕ) (s : State) (hw : s.memWf = true) : Res.all (fun t => t.memWf = true) (execUpdBegin dt s) := by
  rw [execUpdBegin]; simp (maxDischargeDepth := 40) +contextual [hw]

theorem execUpdEraseComplete_queue (dt : ℕ) (s : State) : Res.all (fun t => t.queue = s.queue) (execUpdEraseComplete dt s) := by
  rw [execUpdEraseComplete]; (repeat' split) <;> (try dsimp only) <;> (repeat' split) <;> simp_all

theorem execUpdEraseComplete_wf (dt : ℕ) (s : State) (hw : s.memWf = true) : Res.all (fun t => t.memWf = true) (execUpdEraseComplete dt s) := by
  rw [execUpdEraseComplete]; (repeat' split) <;> (try dsimp only) <;> (repeat' split) <;> simp (maxDischargeDepth := 40) +contextual [hw]

@[simp] theorem State.doAbandon_queue (s : State) : (State.doAbandon s).queue = s.queue := by
  rw [State.doAbandon]; simp [apply_ite State.queue]

@[simp] theorem State.doAbandon_wf (s : State) (hw : s.memWf = true) : (State.doAbandon s).memWf = true := by
  rw [State.doAbandon]; simp (maxDischargeDepth := 40) +contextual [hw]

theorem execUpdAbandon_queue (dt : ℕ) (s : State) : Res.all (fun t => t.queue = s.queue) (execUpdAbandon dt s) := by
  rw [execUpdAbandon]; simp [apply_ite State.queue]

theorem execUpdAbandon_wf (dt : ℕ) (s : State) (hw : s.memWf = true) : Res.all (fun t => t.memWf = true) (execUpdAbandon dt s) := by
  rw [execUpdAbandon]; simp (maxDischargeDepth := 40) +contextual [hw]

@[simp] theorem State.doBlkGo_queue (s : State) : (State.doBlkGo s).queue = s.queue := by
  rw [State.doBlkGo]; dsimp only; (repeat' split) <;> simp [apply_ite State.queue]

@[simp] theorem State.doBlkGo_wf (s : State) (hw : s.memWf = true) : (State.doBlkGo s).memWf = true := by
  rw [State.doBlkGo]; dsimp only; (repeat' split) <;> simp (maxDischargeDepth := 40) +contextual [hw]

theorem execUpdBlkGo_queue (dt : ℕ) (s : State) : Res.all (fun t => t.queue = s.queue) (execUpdBlkGo dt s) := by
  rw [execUpdBlkGo]; simp [apply_ite State.queue]

theorem execUpdBlkGo_wf (dt : ℕ) (s : State) (hw : s.memWf = true) : Res.all (fun t => t.memWf = true) (execUpdBlkGo dt s) := by
  rw [execUpdBlkGo]; simp (maxDischargeDepth := 40) +contextual [hw]

@[simp] theorem State.answer_queue (s : State) (bs : List Byte) : (State.answer s bs).queue = s.queue := by
  rw [State.answer]; simp [apply_ite State.queue]

@[simp] theorem State.answer_wf (s : State) (bs : List Byte) (hw : s.memWf = true) : (State.answer s bs).memWf = true := by
  rw [State.answer]; simp (maxDischargeDepth := 40) +contextual [hw]

@[simp] theorem State.answerErr_queue (s : State) (code : ℕ) : (State.answerErr s code).queue = s.queue := by
  rw [State.answerErr]; simp [apply_ite State.queue]

@[simp] theorem State.answerErr_wf (s : State) (code : ℕ) (hw : s.memWf = true) : (State.answerErr s code).memWf = true := by
  rw [State.answerErr]; simp (maxDischargeDepth := 40) +contextual [hw]

@[simp] theorem State.answerBlk_queue (s : State) (ok : Bool) (off : ℕ) : (State.answerBlk s ok off).queue = s.queue := by
  rw [State.answerBlk]; simp [apply_ite State.queue]

@[simp] theorem State.answerBlk_wf (s : State) (ok : Bool) (off : ℕ) (hw : s.memWf = true) : (State.answerBlk s ok off).memWf = true := by
  rw [State.answerBlk]; simp (maxDischargeDepth := 40) +contextual [hw]

@[simp] theorem State.blockEnd_queue (s : State) (j : BlkJob) (status : ℕ) : (State.blockEnd s j status).queue = s.queue := by
  rw [State.blockEnd]; (repeat' split) <;> (try dsimp only) <;> (repeat' split) <;> simp_all

@[simp] theorem State.blockEnd_wf (s : State) (j : BlkJob) (status : ℕ) (hw : s.memWf = true) : (State.blockEnd s j status).memWf = true := by
  rw [State.blockEnd]; (repeat' split) <;> (try dsimp only) <;> (repeat' split) <;> simp (maxDischargeDepth := 40) +contextual [hw]

theorem execBlockStaged_queue (dt : ℕ) (v : Verdict) (s : State) : Res.all (fun t => t.queue = s.queue) (execBlockStaged dt v s) := by
  unfold execBlockStaged; (repeat' split) <;> (try dsimp only) <;> (repeat' split) <;> simp_all

theorem execBlockStaged_wf (dt : ℕ) (v : Verdict) (s : State) (hw : s.memWf = true) : Res.all (fun t => t.memWf = true) (execBlockStaged dt v s) := by
  unfold execBlockStaged; (repeat' split) <;> (try dsimp only) <;> (repeat' split) <;> simp_all (maxDischargeDepth := 40)

@[simp] theorem State.doVerify_queue (s : State) : (State.doVerify s).queue = s.queue := by
  rw [State.doVerify]; simp [apply_ite State.queue]

@[simp] theorem State.doVerify_wf (s : State) (hw : s.memWf = true) : (State.doVerify s).memWf = true := by
  rw [State.doVerify]; simp (maxDischargeDepth := 40) +contextual [hw]

theorem execUpdVerify_queue (dt : ℕ) (s : State) : Res.all (fun t => t.queue = s.queue) (execUpdVerify dt s) := by
  rw [execUpdVerify]; simp [apply_ite State.queue]

theorem execUpdVerify_wf (dt : ℕ) (s : State) (hw : s.memWf = true) : Res.all (fun t => t.memWf = true) (execUpdVerify dt s) := by
  rw [execUpdVerify]; simp (maxDischargeDepth := 40) +contextual [hw]

@[simp] theorem State.verifyOutcome_queue (s : State) : (State.verifyOutcome s).2.queue = s.queue := by
  rw [State.verifyOutcome]; dsimp only; (repeat' split) <;> simp [apply_ite State.queue]

@[simp] theorem State.verifyOutcome_wf (s : State) (hw : s.memWf = true) : (State.verifyOutcome s).2.memWf = true := by
  rw [State.verifyOutcome]; dsimp only; (repeat' split) <;> simp (maxDischargeDepth := 40) +contextual [hw]

@[simp] theorem State.setPos_queue (s : State) (off : ℕ) (pos : ℕ) : (State.setPos s off pos).queue = s.queue := by
  rw [State.setPos]; simp [apply_ite State.queue]

@[simp] theorem State.setPos_wf (s : State) (off : ℕ) (pos : ℕ) (hw : s.memWf = true) : (State.setPos s off pos).memWf = true := by
  rw [State.setPos]; simp (maxDischargeDepth := 40) +contextual [hw]

@[simp] theorem State.concludeVote_queue (s : State) : (State.concludeVote s).queue = s.queue := by
  rw [State.concludeVote]; dsimp only; (repeat' split) <;> simp [apply_ite State.queue]

@[simp] theorem State.concludeVote_wf (s : State) (hw : s.memWf = true) : (State.concludeVote s).memWf = true := by
  rw [State.concludeVote]; dsimp only; (repeat' split) <;> simp (maxDischargeDepth := 40) +contextual [hw]

@[simp] theorem State.castVote_queue (s : State) (pos : ℕ) (yes : Bool) : (State.castVote s pos yes).queue = s.queue := by
  rw [State.castVote]; (repeat' split) <;> (try dsimp only) <;> (repeat' split) <;> simp_all

@[simp] theorem State.castVote_wf (s : State) (pos : ℕ) (yes : Bool) (hw : s.memWf = true) : (State.castVote s pos yes).memWf = true := by
  rw [State.castVote]; (repeat' split) <;> (try dsimp only) <;> (repeat' split) <;> simp (maxDischargeDepth := 40) +contextual [hw]

theorem execUpdVerifyComplete_queue (dt : ℕ) (s : State) : Res.all (fun t => t.queue = s.queue) (execUpdVerifyComplete dt s) := by
  rw [execUpdVerifyComplete]; dsimp only; (repeat' split) <;> simp [apply_ite State.queue]

theorem execUpdVerifyComplete_wf (dt : ℕ) (s : State) (hw : s.memWf = true) : Res.all (fun t => t.memWf = true) (execUpdVerifyComplete dt s) := by
  rw [execUpdVerifyComplete]; dsimp only; (repeat' split) <;> simp (maxDischargeDepth := 40) +contextual [hw]

@[simp] theorem State.doVote_queue (s : State) : (State.doVote s).queue = s.queue := by
  rw [State.doVote]; simp [apply_ite State.queue]

@[simp] theorem State.doVote_wf (s : State) (hw : s.memWf = true) : (State.doVote s).memWf = true := by
  rw [State.doVote]; simp (maxDischargeDepth := 40) +contextual [hw]

theorem execUpdVote_queue (dt : ℕ) (s : State) : Res.all (fun t => t.queue = s.queue) (execUpdVote dt s) := by
  rw [execUpdVote]; simp [apply_ite State.queue]

theorem execUpdVote_wf (dt : ℕ) (s : State) (hw : s.memWf = true) : Res.all (fun t => t.memWf = true) (execUpdVote dt s) := by
  rw [execUpdVote]; simp (maxDischargeDepth := 40) +contextual [hw]

theorem execUpdVoteTimeout_queue (dt : ℕ) (s : State) : Res.all (fun t => t.queue = s.queue) (execUpdVoteTimeout dt s) := by
  rw [execUpdVoteTimeout]; (repeat' split) <;> (try dsimp only) <;> (repeat' split) <;> simp_all

theorem execUpdVoteTimeout_wf (dt : ℕ) (s : State) (hw : s.memWf = true) : Res.all (fun t => t.memWf = true) (execUpdVoteTimeout dt s) := by
  rw [execUpdVoteTimeout]; (repeat' split) <;> (try dsimp only) <;> (repeat' split) <;> simp (maxDischargeDepth := 40) +contextual [hw]

@[simp] theorem State.doDistribute_queue (s : State) : (State.doDistribute s).queue = s.queue := by
  rw [State.doDistribute]; simp [apply_ite State.queue]

@[simp] theorem State.doDistribute_wf (s : State) (hw : s.memWf = true) : (State.doDistribute s).memWf = true := by
  rw [State.doDistribute]; simp (maxDischargeDepth := 40) +contextual [hw]

theorem execUpdDistribute_queue (dt : ℕ) (s : State) : Res.all (fun t => t.queue = s.queue) (execUpdDistribute dt s) := by
  rw [execUpdDistribute]; simp [apply_ite State.queue]

theorem execUpdDistribute_wf (dt : ℕ) (s : State) (hw : s.memWf = true) : Res.all (fun t => t.memWf = true) (execUpdDistribute dt s) := by
  rw [execUpdDistribute]; simp (maxDischargeDepth := 40) +contextual [hw]

@[simp] theorem State.sendBlock_queue (s : State) (off : ℕ) : (State.sendBlock s off).queue = s.queue := by
  rw [State.sendBlock]; simp [apply_ite State.queue]

@[simp] theorem State.sendBlock_wf (s : State) (off : ℕ) (hw : s.memWf = true) : (State.sendBlock s off).memWf = true := by
  rw [State.sendBlock]; simp (maxDischargeDepth := 40) +contextual [hw]

@[simp] theorem State.distStep_queue (s : State) (d : Dist) : (State.distStep s d).queue = s.queue := by
  rw [State.distStep]; (repeat' split) <;> (try dsimp only) <;> (repeat' split) <;> simp_all

@[simp] theorem State.distStep_wf (s : State) (d : Dist) (hw : s.memWf = true) : (State.distStep s d).memWf = true := by
  rw [State.distStep]; (repeat' split) <;> (try dsimp only) <;> (repeat' split) <;> simp (maxDischargeDepth := 40) +contextual [hw]

theorem execDistributeEraseWaitExpiry_queue (dt : ℕ) (s : State) : Res.all (fun t => t.queue = s.queue) (execDistributeEraseWaitExpiry dt s) := by
  rw [execDistributeEraseWaitExpiry]; (repeat' split) <;> (try dsimp only) <;> (repeat' split) <;> simp_all

theorem execDistributeEraseWaitExpiry_wf (dt : ℕ) (s : State) (hw : s.memWf = true) : Res.all (fun t => t.memWf = true) (execDistributeEraseWaitExpiry dt s) := by
  rw [execDistributeEraseWaitExpiry]; (repeat' split) <;> (try dsimp only) <;> (repeat' split) <;> simp (maxDischargeDepth := 40) +contextual [hw]

theorem execDistributeBlockInterval_queue (dt : ℕ) (s : State) : Res.all (fun t => t.queue = s.queue) (execDistributeBlockInterval dt s) := by
  rw [execDistributeBlockInterval]; (repeat' split) <;> (try dsimp only) <;> (repeat' split) <;> simp_all

theorem execDistributeBlockInterval_wf (dt : ℕ) (s : State) (hw : s.memWf = true) : Res.all (fun t => t.memWf = true) (execDistributeBlockInterval dt s) := by
  rw [execDistributeBlockInterval]; (repeat' split) <;> (try dsimp only) <;> (repeat' split) <;> simp (maxDischargeDepth := 40) +contextual [hw]

@[simp] theorem State.distErased_queue (s : State) (pos : ℕ) (st : ℕ) : (State.distErased s pos st).queue = s.queue := by
  rw [State.distErased]; dsimp only; (repeat' split) <;> simp [apply_ite State.queue]

@[simp] theorem State.distErased_wf (s : State) (pos : ℕ) (st : ℕ) (hw : s.memWf = true) : (State.distErased s pos st).memWf = true := by
  rw [State.distErased]; dsimp only; (repeat' split) <;> simp (maxDischargeDepth := 40) +contextual [hw]

@[simp] theorem State.passOver_queue (s : State) (d : Dist) : (State.passOver s d).queue = s.queue := by
  rw [State.passOver]; simp [apply_ite State.queue]

@[simp] theorem State.passOver_wf (s : State) (d : Dist) (hw : s.memWf = true) : (State.passOver s d).memWf = true := by
  rw [State.passOver]; simp (maxDischargeDepth := 40) +contextual [hw]

@[simp] theorem State.distMissing_queue (s : State) (pos : ℕ) (next : Option ℕ) : (State.distMissing s pos next).queue = s.queue := by
  rw [State.distMissing]; dsimp only; (repeat' split) <;> simp [apply_ite State.queue]

@[simp] theorem State.distMissing_wf (s : State) (pos : ℕ) (next : Option ℕ) (hw : s.memWf = true) : (State.distMissing s pos next).memWf = true := by
  rw [State.distMissing]; dsimp only; (repeat' split) <;> simp (maxDischargeDepth := 40) +contextual [hw]

@[simp] theorem State.startActivation_queue (s : State) (x1 : Act) : (State.startActivation s x1).queue = s.queue := by
  rw [State.startActivation]; simp [apply_ite State.queue]

@[simp] theorem State.startActivation_wf (s : State) (x1 : Act) (hw : s.memWf = true) : (State.startActivation s x1).memWf = true := by
  rw [State.startActivation]; simp (maxDischargeDepth := 40) +contextual [hw]

@[simp] theorem State.askActivation_queue (s : State) (x1 : Act) : (State.askActivation s x1).queue = s.queue := by
  rw [State.askActivation]; simp [apply_ite State.queue]

@[simp] theorem State.askActivation_wf (s : State) (x1 : Act) (hw : s.memWf = true) : (State.askActivation s x1).memWf = true := by
  rw [State.askActivation]; simp (maxDischargeDepth := 40) +contextual [hw]

@[simp] theorem State.romActivate_queue (s : State) : (State.romActivate s).queue = s.queue := by
  rw [State.romActivate]; simp [apply_ite State.queue]

@[simp] theorem State.romActivate_wf (s : State) (hw : s.memWf = true) : (State.romActivate s).memWf = true := by
  rw [State.romActivate]; simp (maxDischargeDepth := 40) +contextual [hw]

@[simp] theorem State.doActivate_queue (s : State) : (State.doActivate s).queue = s.queue := by
  rw [State.doActivate]; simp [apply_ite State.queue]

@[simp] theorem State.doActivate_wf (s : State) (hw : s.memWf = true) : (State.doActivate s).memWf = true := by
  rw [State.doActivate]; simp (maxDischargeDepth := 40) +contextual [hw]

theorem execUpdActivate_queue (dt : ℕ) (s : State) : Res.all (fun t => t.queue = s.queue) (execUpdActivate dt s) := by
  rw [execUpdActivate]; simp [apply_ite State.queue]

theorem execUpdActivate_wf (dt : ℕ) (s : State) (hw : s.memWf = true) : Res.all (fun t => t.memWf = true) (execUpdActivate dt s) := by
  rw [execUpdActivate]; simp (maxDischargeDepth := 40) +contextual [hw]

@[simp] theorem State.callOff_queue (s : State) : (State.callOff s).queue = s.queue := by
  rw [State.callOff]; simp [apply_ite State.queue]

@[simp] theorem State.callOff_wf (s : State) (hw : s.memWf = true) : (State.callOff s).memWf = true := by
  rw [State.callOff]; simp (maxDischargeDepth := 40) +contextual [hw]

@[simp] theorem State.activateAnswer_queue (s : State) (ok : Bool) (left : List ℕ) : (State.activateAnswer s ok left).queue = s.queue := by
  rw [State.activateAnswer]; (repeat' split) <;> (try dsimp only) <;> (repeat' split) <;> simp_all

@[simp] theorem State.activateAnswer_wf (s : State) (ok : Bool) (left : List ℕ) (hw : s.memWf = true) : (State.activateAnswer s ok left).memWf = true := by
  rw [State.activateAnswer]; (repeat' split) <;> (try dsimp only) <;> (repeat' split) <;> simp (maxDischargeDepth := 40) +contextual [hw]

theorem execActivateAnswerTimeout_queue (dt : ℕ) (s : State) : Res.all (fun t => t.queue = s.queue) (execActivateAnswerTimeout dt s) := by
  rw [execActivateAnswerTimeout]; dsimp only; (repeat' split) <;> simp [apply_ite State.queue]

theorem execActivateAnswerTimeout_wf (dt : ℕ) (s : State) (hw : s.memWf = true) : Res.all (fun t => t.memWf = true) (execActivateAnswerTimeout dt s) := by
  rw [execActivateAnswerTimeout]; dsimp only; (repeat' split) <;> simp (maxDischargeDepth := 40) +contextual [hw]

@[simp] theorem State.doCancelActivation_queue (s : State) : (State.doCancelActivation s).queue = s.queue := by
  rw [State.doCancelActivation]; simp [apply_ite State.queue]

@[simp] theorem State.doCancelActivation_wf (s : State) (hw : s.memWf = true) : (State.doCancelActivation s).memWf = true := by
  rw [State.doCancelActivation]; simp (maxDischargeDepth := 40) +contextual [hw]

theorem execUpdCancel_queue (dt : ℕ) (s : State) : Res.all (fun t => t.queue = s.queue) (execUpdCancel dt s) := by
  rw [execUpdCancel]; simp [apply_ite State.queue]

theorem execUpdCancel_wf (dt : ℕ) (s : State) (hw : s.memWf = true) : Res.all (fun t => t.memWf = true) (execUpdCancel dt s) := by
  rw [execUpdCancel]; simp (maxDischargeDepth := 40) +contextual [hw]

theorem execActivationStart_queue (dt : ℕ) (s : State) : Res.all (fun t => t.queue = s.queue) (execActivationStart dt s) := by
  rw [execActivationStart]; (repeat' split) <;> (try dsimp only) <;> (repeat' split) <;> simp_all

theorem execActivationStart_wf (dt : ℕ) (s : State) (hw : s.memWf = true) : Res.all (fun t => t.memWf = true) (execActivationStart dt s) := by
  rw [execActivationStart]; (repeat' split) <;> (try dsimp only) <;> (repeat' split) <;> simp (maxDischargeDepth := 40) +contextual [hw]

theorem execActivationResume_queue (dt : ℕ) (s : State) : Res.all (fun t => t.queue = s.queue) (execActivationResume dt s) := by
  rw [execActivationResume]; dsimp only; (repeat' split) <;> simp [apply_ite State.queue]

theorem execActivationResume_wf (dt : ℕ) (s : State) (hw : s.memWf = true) : Res.all (fun t => t.memWf = true) (execActivationResume dt s) := by
  rw [execActivationResume]; dsimp only; (repeat' split) <;> simp (maxDischargeDepth := 40) +contextual [hw]

@[simp] theorem State.doConfirm_queue (s : State) : (State.doConfirm s).queue = s.queue := by
  rw [State.doConfirm]; simp [apply_ite State.queue]

@[simp] theorem State.doConfirm_wf (s : State) (hw : s.memWf = true) : (State.doConfirm s).memWf = true := by
  rw [State.doConfirm]; simp (maxDischargeDepth := 40) +contextual [hw]

theorem execUpdConfirm_queue (dt : ℕ) (s : State) : Res.all (fun t => t.queue = s.queue) (execUpdConfirm dt s) := by
  rw [execUpdConfirm]; simp [apply_ite State.queue]

theorem execUpdConfirm_wf (dt : ℕ) (s : State) (hw : s.memWf = true) : Res.all (fun t => t.memWf = true) (execUpdConfirm dt s) := by
  rw [execUpdConfirm]; simp (maxDischargeDepth := 40) +contextual [hw]

theorem execConfirmWindowExpiry_queue (dt : ℕ) (s : State) : Res.all (fun t => t.queue = s.queue) (execConfirmWindowExpiry dt s) := by
  rw [execConfirmWindowExpiry]; (repeat' split) <;> (try dsimp only) <;> (repeat' split) <;> simp_all

theorem execConfirmWindowExpiry_wf (dt : ℕ) (s : State) (hw : s.memWf = true) : Res.all (fun t => t.memWf = true) (execConfirmWindowExpiry dt s) := by
  rw [execConfirmWindowExpiry]; (repeat' split) <;> (try dsimp only) <;> (repeat' split) <;> simp (maxDischargeDepth := 40) +contextual [hw]

@[simp] theorem State.lateActivation_queue (s : State) : (State.lateActivation s).queue = s.queue := by
  rw [State.lateActivation]; (repeat' split) <;> (try dsimp only) <;> (repeat' split) <;> simp_all

@[simp] theorem State.lateActivation_wf (s : State) (hw : s.memWf = true) : (State.lateActivation s).memWf = true := by
  rw [State.lateActivation]; (repeat' split) <;> (try dsimp only) <;> (repeat' split) <;> simp (maxDischargeDepth := 40) +contextual [hw]

@[simp] theorem State.countTry_queue (s : State) : (State.countTry s).queue = s.queue := by
  rw [State.countTry]; simp [apply_ite State.queue]

@[simp] theorem State.countTry_wf (s : State) (hw : s.memWf = true) : (State.countTry s).memWf = true := by
  rw [State.countTry]; simp (maxDischargeDepth := 40) +contextual [hw]

@[simp] theorem State.chooseBank_queue (s : State) : (State.chooseBank s).queue = s.queue := by
  rw [State.chooseBank]; simp [apply_ite State.queue]

@[simp] theorem State.chooseBank_wf (s : State) (hw : s.memWf = true) : (State.chooseBank s).memWf = true := by
  rw [State.chooseBank]; simp (maxDischargeDepth := 40) +contextual [hw]

theorem execBootImageCheck_queue (dt : ℕ) (recoveryN : Bool) (s : State) : Res.all (fun t => t.queue = s.queue) (execBootImageCheck dt recoveryN s) := by
  rw [execBootImageCheck]; dsimp only; (repeat' split) <;> simp [apply_ite State.queue]

theorem execBootImageCheck_wf (dt : ℕ) (recoveryN : Bool) (s : State) (hw : s.memWf = true) : Res.all (fun t => t.memWf = true) (execBootImageCheck dt recoveryN s) := by
  rw [execBootImageCheck]; dsimp only; (repeat' split) <;> simp (maxDischargeDepth := 40) +contextual [hw]

@[simp] theorem State.romBegin_queue (s : State) (n : ℕ) : (State.romBegin s n).queue = s.queue := by
  rw [State.romBegin]; simp [apply_ite State.queue]

@[simp] theorem State.romBegin_wf (s : State) (n : ℕ) (hw : s.memWf = true) : (State.romBegin s n).memWf = true := by
  rw [State.romBegin]; simp (maxDischargeDepth := 40) +contextual [hw]

@[simp] theorem State.romBlock_queue (s : State) (off : ℕ) (crc : ℕ) (bs : List Byte) : (State.romBlock s off crc bs).queue = s.queue := by
  rw [State.romBlock]; (repeat' split) <;> (try dsimp only) <;> (repeat' split) <;> simp_all

@[simp] theorem State.romBlock_wf (s : State) (off : ℕ) (crc : ℕ) (bs : List Byte) (hw : s.memWf = true) : (State.romBlock s off crc bs).memWf = true := by
  rw [State.romBlock]; (repeat' split) <;> (try dsimp only) <;> (repeat' split) <;> simp (maxDischargeDepth := 40) +contextual [hw]

@[simp] theorem State.romVerify_queue (s : State) : (State.romVerify s).queue = s.queue := by
  rw [State.romVerify]; simp [apply_ite State.queue]

@[simp] theorem State.romVerify_wf (s : State) (hw : s.memWf = true) : (State.romVerify s).memWf = true := by
  rw [State.romVerify]; simp (maxDischargeDepth := 40) +contextual [hw]

@[simp] theorem State.romActivateLine_queue (s : State) : (State.romActivateLine s).queue = s.queue := by
  rw [State.romActivateLine]; simp [apply_ite State.queue]

@[simp] theorem State.romActivateLine_wf (s : State) (hw : s.memWf = true) : (State.romActivateLine s).memWf = true := by
  rw [State.romActivateLine]; simp (maxDischargeDepth := 40) +contextual [hw]

@[simp] theorem State.romLine_queue (s : State) (line : List Byte) : (State.romLine s line).queue = s.queue := by
  rw [State.romLine]; (repeat' split) <;> (try dsimp only) <;> (repeat' split) <;> simp_all

@[simp] theorem State.romLine_wf (s : State) (line : List Byte) (hw : s.memWf = true) : (State.romLine s line).memWf = true := by
  rw [State.romLine]; (repeat' split) <;> (try dsimp only) <;> (repeat' split) <;> simp (maxDischargeDepth := 40) +contextual [hw]

@[simp] theorem State.romServe_queue (s : State) (f : State → State) (hf : ∀ u : State, (f u).queue = u.queue) : (State.romServe s f).queue = s.queue := by
  rw [State.romServe]; (repeat' split) <;> (try dsimp only) <;> (repeat' split) <;> simp_all

@[simp] theorem State.romServe_wf (s : State) (f : State → State) (hf : ∀ u : State, u.memWf = true → (f u).memWf = true) (hw : s.memWf = true) : (State.romServe s f).memWf = true := by
  rw [State.romServe]; (repeat' split) <;> (try dsimp only) <;> (repeat' split) <;> simp_all (maxDischargeDepth := 40)

theorem execRecoveryUartBegin_queue (dt : ℕ) (line : List Byte) (s : State) : Res.all (fun t => t.queue = s.queue) (execRecoveryUartBegin dt line s) := by
  rw [execRecoveryUartBegin]; simp [apply_ite State.queue]

theorem execRecoveryUartBegin_wf (dt : ℕ) (line : List Byte) (s : State) (hw : s.memWf = true) : Res.all (fun t => t.memWf = true) (execRecoveryUartBegin dt line s) := by
  rw [execRecoveryUartBegin]; simp (maxDischargeDepth := 40) +contextual [hw]

theorem execRecoveryUartBlock_queue (dt : ℕ) (line : List Byte) (s : State) : Res.all (fun t => t.queue = s.queue) (execRecoveryUartBlock dt line s) := by
  rw [execRecoveryUartBlock]; simp [apply_ite State.queue]

theorem execRecoveryUartBlock_wf (dt : ℕ) (line : List Byte) (s : State) (hw : s.memWf = true) : Res.all (fun t => t.memWf = true) (execRecoveryUartBlock dt line s) := by
  rw [execRecoveryUartBlock]; simp (maxDischargeDepth := 40) +contextual [hw]

theorem execRecoveryUartVerify_queue (dt : ℕ) (s : State) : Res.all (fun t => t.queue = s.queue) (execRecoveryUartVerify dt s) := by
  rw [execRecoveryUartVerify]; simp [apply_ite State.queue]

theorem execRecoveryUartVerify_wf (dt : ℕ) (s : State) (hw : s.memWf = true) : Res.all (fun t => t.memWf = true) (execRecoveryUartVerify dt s) := by
  rw [execRecoveryUartVerify]; simp (maxDischargeDepth := 40) +contextual [hw]

theorem execRecoveryUartActivate_queue (dt : ℕ) (s : State) : Res.all (fun t => t.queue = s.queue) (execRecoveryUartActivate dt s) := by
  rw [execRecoveryUartActivate]; simp [apply_ite State.queue]

theorem execRecoveryUartActivate_wf (dt : ℕ) (s : State) (hw : s.memWf = true) : Res.all (fun t => t.memWf = true) (execRecoveryUartActivate dt s) := by
  rw [execRecoveryUartActivate]; simp (maxDischargeDepth := 40) +contextual [hw]

theorem execRecoveryUartStatus_queue (dt : ℕ) (s : State) : Res.all (fun t => t.queue = s.queue) (execRecoveryUartStatus dt s) := by
  rw [execRecoveryUartStatus]; simp [apply_ite State.queue]

theorem execRecoveryUartStatus_wf (dt : ℕ) (s : State) (hw : s.memWf = true) : Res.all (fun t => t.memWf = true) (execRecoveryUartStatus dt s) := by
  rw [execRecoveryUartStatus]; simp (maxDischargeDepth := 40) +contextual [hw]

theorem execRecoveryUartOther_queue (dt : ℕ) (line : List Byte) (s : State) : Res.all (fun t => t.queue = s.queue) (execRecoveryUartOther dt line s) := by
  rw [execRecoveryUartOther]; simp [apply_ite State.queue]

theorem execRecoveryUartOther_wf (dt : ℕ) (line : List Byte) (s : State) (hw : s.memWf = true) : Res.all (fun t => t.memWf = true) (execRecoveryUartOther dt line s) := by
  rw [execRecoveryUartOther]; simp (maxDischargeDepth := 40) +contextual [hw]

@[simp] theorem State.keyRefused_queue (s : State) : (State.keyRefused s).queue = s.queue := by
  rw [State.keyRefused]; simp [apply_ite State.queue]

@[simp] theorem State.keyRefused_wf (s : State) (hw : s.memWf = true) : (State.keyRefused s).memWf = true := by
  rw [State.keyRefused]; simp (maxDischargeDepth := 40) +contextual [hw]

@[simp] theorem State.doKeyProg_queue (s : State) : (State.doKeyProg s).queue = s.queue := by
  rw [State.doKeyProg]; simp [apply_ite State.queue]

@[simp] theorem State.doKeyProg_wf (s : State) (hw : s.memWf = true) : (State.doKeyProg s).memWf = true := by
  rw [State.doKeyProg]; simp (maxDischargeDepth := 40) +contextual [hw]

@[simp] theorem State.doKeyRevoke_queue (s : State) : (State.doKeyRevoke s).queue = s.queue := by
  rw [State.doKeyRevoke]; simp [apply_ite State.queue]

@[simp] theorem State.doKeyRevoke_wf (s : State) (hw : s.memWf = true) : (State.doKeyRevoke s).memWf = true := by
  rw [State.doKeyRevoke]; simp (maxDischargeDepth := 40) +contextual [hw]

@[simp] theorem State.doKeyRequire_queue (s : State) : (State.doKeyRequire s).queue = s.queue := by
  rw [State.doKeyRequire]; simp [apply_ite State.queue]

@[simp] theorem State.doKeyRequire_wf (s : State) (hw : s.memWf = true) : (State.doKeyRequire s).memWf = true := by
  rw [State.doKeyRequire]; simp (maxDischargeDepth := 40) +contextual [hw]

theorem execKeyProg_queue (dt : ℕ) (s : State) : Res.all (fun t => t.queue = s.queue) (execKeyProg dt s) := by
  rw [execKeyProg]; simp [apply_ite State.queue]

theorem execKeyProg_wf (dt : ℕ) (s : State) (hw : s.memWf = true) : Res.all (fun t => t.memWf = true) (execKeyProg dt s) := by
  rw [execKeyProg]; simp (maxDischargeDepth := 40) +contextual [hw]

theorem execKeyRevoke_queue (dt : ℕ) (s : State) : Res.all (fun t => t.queue = s.queue) (execKeyRevoke dt s) := by
  rw [execKeyRevoke]; simp [apply_ite State.queue]

theorem execKeyRevoke_wf (dt : ℕ) (s : State) (hw : s.memWf = true) : Res.all (fun t => t.memWf = true) (execKeyRevoke dt s) := by
  rw [execKeyRevoke]; simp (maxDischargeDepth := 40) +contextual [hw]

theorem execKeySetRequire_queue (dt : ℕ) (s : State) : Res.all (fun t => t.queue = s.queue) (execKeySetRequire dt s) := by
  rw [execKeySetRequire]; simp [apply_ite State.queue]

theorem execKeySetRequire_wf (dt : ℕ) (s : State) (hw : s.memWf = true) : Res.all (fun t => t.memWf = true) (execKeySetRequire dt s) := by
  rw [execKeySetRequire]; simp (maxDischargeDepth := 40) +contextual [hw]

theorem execFlashBlockRetire_queue (dt : ℕ) (s : State) : Res.all (fun t => t.queue = s.queue) (execFlashBlockRetire dt s) := by
  rw [execFlashBlockRetire]; simp [apply_ite State.queue]

theorem execFlashBlockRetire_wf (dt : ℕ) (s : State) (hw : s.memWf = true) : Res.all (fun t => t.memWf = true) (execFlashBlockRetire dt s) := by
  rw [execFlashBlockRetire]; simp (maxDischargeDepth := 40) +contextual [hw]

/-! ### Accum -/

@[simp] theorem State.doFltWrite_queue (s : State) (b : ℕ) (c : ℕ) (w : Word) : (State.doFltWrite s b c w).queue = s.queue := by
  have h : ((s.writeFlt b c w).handLooseChan (16 * b + c)).queue = s.queue := by rw [State.handLooseChan_queue, State.writeFlt_queue]
  unfold State.doFltWrite
  revert h
  generalize (s.writeFlt b c w).handLooseChan (16 * b + c) = u
  intro h
  dsimp only
  split
  · rw [State.recheckHand_queue, h]
  · exact h

@[simp] theorem State.doFltWrite_wf (s : State) (b : ℕ) (c : ℕ) (w : Word) (hw : s.memWf = true) : (State.doFltWrite s b c w).memWf = true := by
  have h : ((s.writeFlt b c w).handLooseChan (16 * b + c)).memWf = true := State.handLooseChan_wf _ _ (State.writeFlt_wf _ _ _ _ hw)
  unfold State.doFltWrite
  revert h
  generalize (s.writeFlt b c w).handLooseChan (16 * b + c) = u
  intro h
  dsimp only
  split
  · exact State.recheckHand_wf _ _ h
  · exact h

theorem execBnkFltWrite_queue (dt : ℕ) (rq : Requester) (b : Fin 16) (c : Fin 16) (value : Word) (s : State) : Res.all (fun t => t.queue = s.queue) (execBnkFltWrite dt rq b c value s) := by
  rw [execBnkFltWrite]; apply State.hostWrite_queue (by simp); intro u hu; (try dsimp only); (repeat' split) <;> simp [hu]

theorem execBnkFltWrite_wf (dt : ℕ) (rq : Requester) (b : Fin 16) (c : Fin 16) (value : Word) (s : State) (hw : s.memWf = true) : Res.all (fun t => t.memWf = true) (execBnkFltWrite dt rq b c value s) := by
  rw [execBnkFltWrite]; apply State.hostWrite_wf (by simp [hw]); intro u hu; (try dsimp only); (repeat' split) <;> simp (maxDischargeDepth := 40) +contextual [hu]

theorem execFilterPrimed_queue (dt : ℕ) (b : Fin 16) (c : Fin 16) (s : State) : Res.all (fun t => t.queue = s.queue) (execFilterPrimed dt b c s) := by
  rw [execFilterPrimed]; (repeat' split) <;> (try dsimp only) <;> (repeat' split) <;> simp_all

theorem execFilterPrimed_wf (dt : ℕ) (b : Fin 16) (c : Fin 16) (s : State) (hw : s.memWf = true) : Res.all (fun t => t.memWf = true) (execFilterPrimed dt b c s) := by
  rw [execFilterPrimed]; (repeat' split) <;> (try dsimp only) <;> (repeat' split) <;> simp (maxDischargeDepth := 40) +contextual [hw]

theorem execClrSat_queue (dt : ℕ) (b : Fin 16) (s : State) : Res.all (fun t => t.queue = s.queue) (execClrSat dt b s) := by
  rw [execClrSat]; simp [apply_ite State.queue]

theorem execClrSat_wf (dt : ℕ) (b : Fin 16) (s : State) (hw : s.memWf = true) : Res.all (fun t => t.memWf = true) (execClrSat dt b s) := by
  rw [execClrSat]; simp (maxDischargeDepth := 40) +contextual [hw]

theorem execFoldStart_queue (dt : ℕ) (s : State) : Res.all (fun t => t.queue = s.queue) (execFoldStart dt s) := by
  rw [execFoldStart]; (repeat' split) <;> (try dsimp only) <;> (repeat' split) <;> simp_all

theorem execFoldStart_wf (dt : ℕ) (s : State) (hw : s.memWf = true) : Res.all (fun t => t.memWf = true) (execFoldStart dt s) := by
  rw [execFoldStart]; (repeat' split) <;> (try dsimp only) <;> (repeat' split) <;> simp (maxDischargeDepth := 40) +contextual [hw]

@[simp] theorem State.foldDone_queue (s : State) (g : ℕ) : (State.foldDone s g).queue = s.queue := by
  rw [State.foldDone]; simp [apply_ite State.queue]

@[simp] theorem State.foldDone_wf (s : State) (g : ℕ) (hw : s.memWf = true) : (State.foldDone s g).memWf = true := by
  rw [State.foldDone]; simp (maxDischargeDepth := 40) +contextual [hw]

theorem execFoldEnd_queue (dt : ℕ) (s : State) : Res.all (fun t => t.queue = s.queue) (execFoldEnd dt s) := by
  rw [execFoldEnd]; (repeat' split) <;> (try dsimp only) <;> (repeat' split) <;> simp_all

theorem execFoldEnd_wf (dt : ℕ) (s : State) (hw : s.memWf = true) : Res.all (fun t => t.memWf = true) (execFoldEnd dt s) := by
  rw [execFoldEnd]; (repeat' split) <;> (try dsimp only) <;> (repeat' split) <;> simp (maxDischargeDepth := 40) +contextual [hw]

theorem execEmissionTokensReady_queue (dt : ℕ) (g : Fin 32) (s : State) : Res.all (fun t => t.queue = s.queue) (execEmissionTokensReady dt g s) := by
  rw [execEmissionTokensReady]; dsimp only; (repeat' split) <;> simp [apply_ite State.queue]

theorem execEmissionTokensReady_wf (dt : ℕ) (g : Fin 32) (s : State) (hw : s.memWf = true) : Res.all (fun t => t.memWf = true) (execEmissionTokensReady dt g s) := by
  rw [execEmissionTokensReady]; dsimp only; (repeat' split) <;> simp (maxDischargeDepth := 40) +contextual [hw]

@[simp] theorem State.doFlush_queue (s : State) (g : ℕ) : (State.doFlush s g).queue = s.queue := by
  rw [State.doFlush]; simp [apply_ite State.queue]

@[simp] theorem State.doFlush_wf (s : State) (g : ℕ) (hw : s.memWf = true) : (State.doFlush s g).memWf = true := by
  rw [State.doFlush]; simp (maxDischargeDepth := 40) +contextual [hw]

theorem execAccFlush_queue (dt : ℕ) (g : Fin 32) (s : State) : Res.all (fun t => t.queue = s.queue) (execAccFlush dt g s) := by
  rw [execAccFlush]; simp [apply_ite State.queue]

theorem execAccFlush_wf (dt : ℕ) (g : Fin 32) (s : State) (hw : s.memWf = true) : Res.all (fun t => t.memWf = true) (execAccFlush dt g s) := by
  rw [execAccFlush]; simp (maxDischargeDepth := 40) +contextual [hw]

@[simp] theorem State.doHistEmit_queue (s : State) (g : ℕ) : (State.doHistEmit s g).queue = s.queue := by
  rw [State.doHistEmit]; simp [apply_ite State.queue]

@[simp] theorem State.doHistEmit_wf (s : State) (g : ℕ) (hw : s.memWf = true) : (State.doHistEmit s g).memWf = true := by
  rw [State.doHistEmit]; simp (maxDischargeDepth := 40) +contextual [hw]

theorem execHistEmit_queue (dt : ℕ) (g : Fin 32) (s : State) : Res.all (fun t => t.queue = s.queue) (execHistEmit dt g s) := by
  rw [execHistEmit]; simp [apply_ite State.queue]

theorem execHistEmit_wf (dt : ℕ) (g : Fin 32) (s : State) (hw : s.memWf = true) : Res.all (fun t => t.memWf = true) (execHistEmit dt g s) := by
  rw [execHistEmit]; simp (maxDischargeDepth := 40) +contextual [hw]

end Sys2Proof.Machine
end

