-- ==== Sys2Proof/Laws/KeepAccess.lean ====
section
/-! SUPPORT. What register writes and accesses keep: the queue of waiting commands, and the canonical form of every store. -/

namespace Sys2Proof.Machine

/-! ### Write -/

@[simp] theorem State.storeAs_queue (s : State) (q : QWrite) (rw : ℕ) : (State.storeAs s q rw).queue = s.queue := by
  rw [State.storeAs]; simp [apply_ite State.queue]

@[simp] theorem State.storeAs_wf (s : State) (q : QWrite) (rw : ℕ) (hw : s.memWf = true) : (State.storeAs s q rw).memWf = true := by
  rw [State.storeAs]; simp (maxDischargeDepth := 40) +contextual [hw]

@[simp] theorem State.store_queue (s : State) (q : QWrite) : (State.store s q).queue = s.queue := by
  rw [State.store]; simp [apply_ite State.queue]

@[simp] theorem State.store_wf (s : State) (q : QWrite) (hw : s.memWf = true) : (State.store s q).memWf = true := by
  rw [State.store]; simp (maxDischargeDepth := 40) +contextual [hw]

@[simp] theorem State.onBit_queue (s : State) (q : QWrite) (i : ℕ) (f : State → State) (hf : ∀ u : State, (f u).queue = u.queue) : (State.onBit s q i f).queue = s.queue := by
  rw [State.onBit]; (repeat' split) <;> (try dsimp only) <;> (repeat' split) <;> simp_all

@[simp] theorem State.onBit_wf (s : State) (q : QWrite) (i : ℕ) (f : State → State) (hf : ∀ u : State, u.memWf = true → (f u).memWf = true) (hw : s.memWf = true) : (State.onBit s q i f).memWf = true := by
  rw [State.onBit]; (repeat' split) <;> (try dsimp only) <;> (repeat' split) <;> simp_all (maxDischargeDepth := 40)

@[simp] theorem State.writeFltBlk_queue (s : State) (q : QWrite) : (State.writeFltBlk s q).queue = s.queue := by
  rw [State.writeFltBlk]; simp [apply_ite State.queue]

@[simp] theorem State.writeFltBlk_wf (s : State) (q : QWrite) (hw : s.memWf = true) : (State.writeFltBlk s q).memWf = true := by
  rw [State.writeFltBlk]; simp (maxDischargeDepth := 40) +contextual [hw]

@[simp] theorem State.writeAlm_queue (s : State) (q : QWrite) : (State.writeAlm s q).queue = s.queue := by
  rw [State.writeAlm]; simp [apply_ite State.queue]

@[simp] theorem State.writeAlm_wf (s : State) (q : QWrite) (hw : s.memWf = true) : (State.writeAlm s q).memWf = true := by
  rw [State.writeAlm]; simp (maxDischargeDepth := 40) +contextual [hw]

@[simp] theorem State.ppsFirst_queue (s : State) (old : ℕ) : (State.ppsFirst s old).queue = s.queue := by
  rw [State.ppsFirst]; simp [apply_ite State.queue]

@[simp] theorem State.ppsFirst_wf (s : State) (old : ℕ) (hw : s.memWf = true) : (State.ppsFirst s old).memWf = true := by
  rw [State.ppsFirst]; simp (maxDischargeDepth := 40) +contextual [hw]

@[simp] theorem State.writeIv_queue (s : State) (q : QWrite) : (State.writeIv s q).queue = s.queue := by
  rw [State.writeIv]; simp [apply_ite State.queue]

@[simp] theorem State.writeIv_wf (s : State) (q : QWrite) (hw : s.memWf = true) : (State.writeIv s q).memWf = true := by
  rw [State.writeIv]; simp (maxDischargeDepth := 40) +contextual [hw]

@[simp] theorem State.writeEpc_queue (s : State) (q : QWrite) : (State.writeEpc s q).queue = s.queue := by
  rw [State.writeEpc]; dsimp only; (repeat' split) <;> simp [apply_ite State.queue]

@[simp] theorem State.writeEpc_wf (s : State) (q : QWrite) (hw : s.memWf = true) : (State.writeEpc s q).memWf = true := by
  rw [State.writeEpc]; dsimp only; (repeat' split) <;> simp (maxDischargeDepth := 40) +contextual [hw]

@[simp] theorem State.writeCal_queue (s : State) (q : QWrite) : (State.writeCal s q).queue = s.queue := by
  rw [State.writeCal]; simp [apply_ite State.queue]

@[simp] theorem State.writeCal_wf (s : State) (q : QWrite) (hw : s.memWf = true) : (State.writeCal s q).memWf = true := by
  rw [State.writeCal]; simp (maxDischargeDepth := 40) +contextual [hw]

@[simp] theorem State.writeUpd_queue (s : State) (q : QWrite) : (State.writeUpd s q).queue = s.queue := by
  rw [State.writeUpd]; simp [apply_ite State.queue]

@[simp] theorem State.writeUpd_wf (s : State) (q : QWrite) (hw : s.memWf = true) : (State.writeUpd s q).memWf = true := by
  rw [State.writeUpd]; simp (maxDischargeDepth := 40) +contextual [hw]

@[simp] theorem State.lntSwitched_queue (s : State) : (State.lntSwitched s).queue = s.queue := by
  rw [State.lntSwitched]; simp [apply_ite State.queue]

@[simp] theorem State.lntSwitched_wf (s : State) (hw : s.memWf = true) : (State.lntSwitched s).memWf = true := by
  rw [State.lntSwitched]; simp (maxDischargeDepth := 40) +contextual [hw]

@[simp] theorem State.writeLnt_queue (s : State) (q : QWrite) : (State.writeLnt s q).queue = s.queue := by
  rw [State.writeLnt]; simp [apply_ite State.queue]

@[simp] theorem State.writeLnt_wf (s : State) (q : QWrite) (hw : s.memWf = true) : (State.writeLnt s q).memWf = true := by
  rw [State.writeLnt]; simp (maxDischargeDepth := 40) +contextual [hw]

@[simp] theorem State.writePrt_queue (s : State) (q : QWrite) : (State.writePrt s q).queue = s.queue := by
  rw [State.writePrt]; simp [apply_ite State.queue]

@[simp] theorem State.writePrt_wf (s : State) (q : QWrite) (hw : s.memWf = true) : (State.writePrt s q).memWf = true := by
  rw [State.writePrt]; simp (maxDischargeDepth := 40) +contextual [hw]

@[simp] theorem State.writeRng_queue (s : State) (q : QWrite) : (State.writeRng s q).queue = s.queue := by
  rw [State.writeRng]; simp [apply_ite State.queue]

@[simp] theorem State.writeRng_wf (s : State) (q : QWrite) (hw : s.memWf = true) : (State.writeRng s q).memWf = true := by
  rw [State.writeRng]; simp (maxDischargeDepth := 40) +contextual [hw]

@[simp] theorem State.chanWritten_queue (s : State) (c : ℕ) : (State.chanWritten s c).queue = s.queue := by
  rw [State.chanWritten]; (repeat' split) <;> (try dsimp only) <;> (repeat' split) <;> simp_all

@[simp] theorem State.chanWritten_wf (s : State) (c : ℕ) (hw : s.memWf = true) : (State.chanWritten s c).memWf = true := by
  rw [State.chanWritten]; (repeat' split) <;> (try dsimp only) <;> (repeat' split) <;> simp (maxDischargeDepth := 40) +contextual [hw]

@[simp] theorem State.writeBnk_queue (s : State) (q : QWrite) : (State.writeBnk s q).queue = s.queue := by
  rw [State.writeBnk]; dsimp only; (repeat' split) <;> simp [apply_ite State.queue]

@[simp] theorem State.writeBnk_wf (s : State) (q : QWrite) (hw : s.memWf = true) : (State.writeBnk s q).memWf = true := by
  rw [State.writeBnk]; dsimp only; (repeat' split) <;> simp (maxDischargeDepth := 40) +contextual [hw]

@[simp] theorem State.writeAqg_queue (s : State) (q : QWrite) : (State.writeAqg s q).queue = s.queue := by
  rw [State.writeAqg]; simp [apply_ite State.queue]

@[simp] theorem State.writeAqg_wf (s : State) (q : QWrite) (hw : s.memWf = true) : (State.writeAqg s q).memWf = true := by
  rw [State.writeAqg]; simp (maxDischargeDepth := 40) +contextual [hw]

@[simp] theorem State.writeMem_queue (s : State) (q : QWrite) : (State.writeMem s q).queue = s.queue := by
  rw [State.writeMem]; simp [apply_ite State.queue]

@[simp] theorem State.writeMem_wf (s : State) (q : QWrite) (hw : s.memWf = true) : (State.writeMem s q).memWf = true := by
  rw [State.writeMem]; simp (maxDischargeDepth := 40) +contextual [hw]

@[simp] theorem State.writeMemc_queue (s : State) (q : QWrite) : (State.writeMemc s q).queue = s.queue := by
  rw [State.writeMemc]; simp [apply_ite State.queue]

@[simp] theorem State.writeMemc_wf (s : State) (q : QWrite) (hw : s.memWf = true) : (State.writeMemc s q).memWf = true := by
  rw [State.writeMemc]; simp (maxDischargeDepth := 40) +contextual [hw]

@[simp] theorem State.writeHrvCtl_queue (s : State) (q : QWrite) : (State.writeHrvCtl s q).queue = s.queue := by
  rw [State.writeHrvCtl]; simp [apply_ite State.queue]

@[simp] theorem State.writeHrvCtl_wf (s : State) (q : QWrite) (hw : s.memWf = true) : (State.writeHrvCtl s q).memWf = true := by
  rw [State.writeHrvCtl]; simp (maxDischargeDepth := 40) +contextual [hw]

@[simp] theorem State.writeChCtl_queue (s : State) (q : QWrite) : (State.writeChCtl s q).queue = s.queue := by
  rw [State.writeChCtl]; simp [apply_ite State.queue]

@[simp] theorem State.writeChCtl_wf (s : State) (q : QWrite) (hw : s.memWf = true) : (State.writeChCtl s q).memWf = true := by
  rw [State.writeChCtl]; simp (maxDischargeDepth := 40) +contextual [hw]

@[simp] theorem State.writeHrv_queue (s : State) (q : QWrite) : (State.writeHrv s q).queue = s.queue := by
  rw [State.writeHrv]; simp [apply_ite State.queue]

@[simp] theorem State.writeHrv_wf (s : State) (q : QWrite) (hw : s.memWf = true) : (State.writeHrv s q).memWf = true := by
  rw [State.writeHrv]; simp (maxDischargeDepth := 40) +contextual [hw]

@[simp] theorem State.applyWrite_queue (s : State) (q : QWrite) : (State.applyWrite s q).queue = s.queue := by
  rw [State.applyWrite]; (repeat' split) <;> (try dsimp only) <;> (repeat' split) <;> simp_all

@[simp] theorem State.applyWrite_wf (s : State) (q : QWrite) (hw : s.memWf = true) : (State.applyWrite s q).memWf = true := by
  rw [State.applyWrite]; (repeat' split) <;> (try dsimp only) <;> (repeat' split) <;> simp (maxDischargeDepth := 40) +contextual [hw]

theorem State.writeBuffer_queue (s : State) (off : ℕ) (w : Word) : ∀ t ∈ State.writeBuffer s off w, t.queue = s.queue := by
  rw [State.writeBuffer]; (repeat' split) <;> (try dsimp only) <;> (repeat' split) <;> simp_all

theorem State.writeBuffer_wf (s : State) (off : ℕ) (w : Word) (hw : s.memWf = true) : ∀ t ∈ State.writeBuffer s off w, t.memWf = true := by
  rw [State.writeBuffer]; (repeat' split) <;> (try dsimp only) <;> (repeat' split) <;> simp (maxDischargeDepth := 40) +contextual [hw]

@[simp] theorem State.spendHeld_queue (s : State) (rq : Requester) (base : ℕ) (n : ℕ) : (State.spendHeld s rq base n).queue = s.queue := by
  rw [State.spendHeld]; simp [apply_ite State.queue]

@[simp] theorem State.spendHeld_wf (s : State) (rq : Requester) (base : ℕ) (n : ℕ) (hw : s.memWf = true) : (State.spendHeld s rq base n).memWf = true := by
  rw [State.spendHeld]; simp (maxDischargeDepth := 40) +contextual [hw]

@[simp] theorem State.writeQuantity_queue (s : State) (rq : Requester) (h : Hit) (off : ℕ) (v : ℕ) (given : ℕ) : Res.all (fun t => t.queue = s.queue) (State.writeQuantity s rq h off v given) := by
  rw [State.writeQuantity]; (repeat' split) <;> (try dsimp only) <;> (repeat' split) <;> simp_all

@[simp] theorem State.writeQuantity_wf (s : State) (rq : Requester) (h : Hit) (off : ℕ) (v : ℕ) (given : ℕ) (hw : s.memWf = true) : Res.all (fun t => t.memWf = true) (State.writeQuantity s rq h off v given) := by
  rw [State.writeQuantity]; (repeat' split) <;> (try dsimp only) <;> (repeat' split) <;> simp (maxDischargeDepth := 40) +contextual [hw]

@[simp] theorem State.holdPart_queue (s : State) (rq : Requester) (h : Hit) (off : ℕ) (w : Word) : Res.all (fun t => t.queue = s.queue) (State.holdPart s rq h off w) := by
  rw [State.holdPart]; (repeat' split) <;> (try dsimp only) <;> (repeat' split) <;> simp_all

@[simp] theorem State.holdPart_wf (s : State) (rq : Requester) (h : Hit) (off : ℕ) (w : Word) (hw : s.memWf = true) : Res.all (fun t => t.memWf = true) (State.holdPart s rq h off w) := by
  rw [State.holdPart]; (repeat' split) <;> (try dsimp only) <;> (repeat' split) <;> simp (maxDischargeDepth := 40) +contextual [hw]

@[simp] theorem State.write32_queue (s : State) (rq : Requester) (off : ℕ) (w : Word) : Res.all (fun t => t.queue = s.queue) (State.write32 s rq off w) := by
  rw [State.write32]
  split
  · next h => simpa using State.writeBuffer_queue s off w _ h
  · split
    · simp
    · split <;> simp

@[simp] theorem State.write32_wf (s : State) (rq : Requester) (off : ℕ) (w : Word) (hw : s.memWf = true) : Res.all (fun t => t.memWf = true) (State.write32 s rq off w) := by
  rw [State.write32]
  split
  · next hb => simpa using State.writeBuffer_wf s off w hw _ hb
  · split
    · simp (maxDischargeDepth := 40) [hw]
    · split <;> simp (maxDischargeDepth := 40) [hw]

theorem State.judged_queue {q : List Instr} {s : State} {rq : Requester} {port : Nat} {r : Reach} {f : State → Res} (h : s.queue = q)
    (hf : ∀ u : State, u.queue = q → Res.all (fun t => t.queue = q) (f u)) :
    Res.all (fun t => t.queue = q) (s.judged rq port r f) := by
  unfold State.judged
  split
  · exact hf _ (by simp [h])
  · simp [h]
  · simp [h]

theorem Res.all_mono {p q : State → Prop} {r : Res} (hr : Res.all p r) (h : ∀ t, p t → q t) : Res.all q r := by
  cases r with
  | next t => simpa using h t (by simpa using hr)
  | fault f => simp
  | refused f => simp

theorem Res.all_of_eq {p : State → Prop} {r : Res} {t : State} (hr : Res.all p r) (h : r = .next t) : p t := by
  subst h; simpa using hr

theorem State.judged_wf {s : State} {rq : Requester} {port : Nat} {r : Reach} {f : State → Res} (h : s.memWf = true)
    (hf : ∀ u : State, u.memWf = true → Res.all (fun t => t.memWf = true) (f u)) :
    Res.all (fun t => t.memWf = true) (s.judged rq port r f) := by
  unfold State.judged
  split
  · exact hf _ (by simp (maxDischargeDepth := 40) [h])
  · simp (maxDischargeDepth := 40) [h]
  · simp (maxDischargeDepth := 40) [h]

@[simp] theorem State.writeBy_queue (s : State) (rq : Requester) (off width v port : Nat) (judge : State → Nat → Reach) :
    Res.all (fun t => t.queue = s.queue) (State.writeBy s rq off width v port judge) := by
  have h32 : ∀ (u : State) o w, Res.all (fun t => t.queue = u.queue) (u.judged rq port (judge u o) (fun s => s.write32 rq o w)) :=
    fun u o w => State.judged_queue rfl (fun x hx => Res.all_mono (State.write32_queue x rq o w) (fun t ht => ht.trans hx))
  rw [State.writeBy]
  split
  · exact h32 _ _ _
  · split
    · split
      · exact State.judged_queue rfl (fun x hx => Res.all_mono (State.writeQuantity_queue x rq _ _ _ _) (fun t ht => ht.trans hx))
      · split
        · next u hu => exact Res.all_mono (h32 u _ _) (fun t ht => ht.trans (Res.all_of_eq (h32 s off _) hu))
        · exact h32 _ _ _
    · simp

@[simp] theorem State.writeBy_wf (s : State) (rq : Requester) (off width v port : Nat) (judge : State → Nat → Reach) (h : s.memWf = true) :
    Res.all (fun t => t.memWf = true) (State.writeBy s rq off width v port judge) := by
  have h32 : ∀ (u : State) o w, u.memWf = true →
      Res.all (fun t => t.memWf = true) (u.judged rq port (judge u o) (fun s => s.write32 rq o w)) :=
    fun u o w hu => State.judged_wf hu (fun x hx => State.write32_wf x rq o w hx)
  rw [State.writeBy]
  split
  · exact h32 _ _ _ h
  · split
    · split
      · exact State.judged_wf h (fun x hx => State.writeQuantity_wf x rq _ _ _ _ hx)
      · split
        · next u hu => exact h32 u _ _ (Res.all_of_eq (h32 s off _ h) hu)
        · exact h32 _ _ _ h
    · simp (maxDischargeDepth := 40) [h]

@[simp] theorem State.writeAccess_queue (s : State) (rq : Requester) (off : ℕ) (width : ℕ) (v : ℕ) (broadcast : Bool) (east : Bool) : Res.all (fun t => t.queue = s.queue) (State.writeAccess s rq off width v broadcast east) := by
  rw [State.writeAccess]; simp [apply_ite State.queue]

@[simp] theorem State.writeAccess_wf (s : State) (rq : Requester) (off : ℕ) (width : ℕ) (v : ℕ) (broadcast : Bool) (east : Bool) (hw : s.memWf = true) : Res.all (fun t => t.memWf = true) (State.writeAccess s rq off width v broadcast east) := by
  rw [State.writeAccess]; simp (maxDischargeDepth := 40) +contextual [hw]

/-! ### Access -/

theorem execRegisterWrite_queue (dt : ℕ) (rq : Requester) (off : ℕ) (width : ℕ) (value : ℕ) (s : State) : Res.all (fun t => t.queue = s.queue) (execRegisterWrite dt rq off width value s) := by
  rw [execRegisterWrite]
  exact Res.all_mono (State.writeAccess_queue _ _ _ _ _ _ _) (fun t ht => by simpa using ht)

theorem execRegisterWrite_wf (dt : ℕ) (rq : Requester) (off : ℕ) (width : ℕ) (value : ℕ) (s : State) (hw : s.memWf = true) : Res.all (fun t => t.memWf = true) (execRegisterWrite dt rq off width value s) := by
  rw [execRegisterWrite]; simp (maxDischargeDepth := 40) +contextual [hw]

@[simp] theorem State.disabledAnswer_queue (s : State) (rq : Requester) : (State.disabledAnswer s rq).queue = s.queue := by
  unfold State.disabledAnswer; (repeat' split) <;> (try dsimp only) <;> (repeat' split) <;> simp_all

@[simp] theorem State.disabledAnswer_wf (s : State) (rq : Requester) (hw : s.memWf = true) : (State.disabledAnswer s rq).memWf = true := by
  unfold State.disabledAnswer; (repeat' split) <;> (try dsimp only) <;> (repeat' split) <;> simp_all (maxDischargeDepth := 40)

theorem execSplitLowRead_queue (dt : ℕ) (rq : Requester) (off : ℕ) (width : ℕ) (s : State) : Res.all (fun t => t.queue = s.queue) (execSplitLowRead dt rq off width s) := by
  rw [execSplitLowRead]; dsimp only; (repeat' split) <;> simp [apply_ite State.queue]

theorem execSplitLowRead_wf (dt : ℕ) (rq : Requester) (off : ℕ) (width : ℕ) (s : State) (hw : s.memWf = true) : Res.all (fun t => t.memWf = true) (execSplitLowRead dt rq off width s) := by
  rw [execSplitLowRead]; dsimp only; (repeat' split) <;> simp (maxDischargeDepth := 40) +contextual [hw]

@[simp] theorem State.procWord_queue (s : State) (i : ℕ) (o : ℕ) (acc : ℕ) : (State.procWord s i o acc).2.queue = s.queue := by
  rw [State.procWord]; dsimp only; (repeat' split) <;> simp [apply_ite State.queue]

@[simp] theorem State.procWord_wf (s : State) (i : ℕ) (o : ℕ) (acc : ℕ) (hw : s.memWf = true) : (State.procWord s i o acc).2.memWf = true := by
  rw [State.procWord]; dsimp only; (repeat' split) <;> simp (maxDischargeDepth := 40) +contextual [hw]

@[simp] theorem State.headerAnswer_queue (s : State) (i : ℕ) (o : ℕ) (wide : Bool) (acc : ℕ) : (State.headerAnswer s i o wide acc).queue = s.queue := by
  rw [State.headerAnswer]; simp [apply_ite State.queue]

@[simp] theorem State.headerAnswer_wf (s : State) (i : ℕ) (o : ℕ) (wide : Bool) (acc : ℕ) (hw : s.memWf = true) : (State.headerAnswer s i o wide acc).memWf = true := by
  rw [State.headerAnswer]; simp (maxDischargeDepth := 40) +contextual [hw]

@[simp] theorem State.readOnes_queue (s : State) (width : ℕ) : (State.readOnes s width).queue = s.queue := by
  rw [State.readOnes]; simp [apply_ite State.queue]

@[simp] theorem State.readOnes_wf (s : State) (width : ℕ) (hw : s.memWf = true) : (State.readOnes s width).memWf = true := by
  rw [State.readOnes]; simp (maxDischargeDepth := 40) +contextual [hw]

@[simp] theorem State.sendReads_queue (s : State) (tag : ℕ) (off : ℕ) (wide : Bool) (l : List ℕ) : (State.sendReads s tag off wide l).queue = s.queue := by
  rw [State.sendReads]; simp [apply_ite State.queue]

@[simp] theorem State.sendReads_wf (s : State) (tag : ℕ) (off : ℕ) (wide : Bool) (l : List ℕ) (hw : s.memWf = true) : (State.sendReads s tag off wide l).memWf = true := by
  rw [State.sendReads]; simp (maxDischargeDepth := 40) +contextual [hw]

@[simp] theorem State.readHeader_queue (s : State) (w : ℕ) (i : ℕ) (off : ℕ) (wide : Bool) : (State.readHeader s w i off wide).queue = s.queue := by
  rw [State.readHeader]; dsimp only; (repeat' split) <;> simp [apply_ite State.queue]

@[simp] theorem State.readHeader_wf (s : State) (w : ℕ) (i : ℕ) (off : ℕ) (wide : Bool) (hw : s.memWf = true) : (State.readHeader s w i off wide).memWf = true := by
  rw [State.readHeader]; dsimp only; (repeat' split) <;> simp (maxDischargeDepth := 40) +contextual [hw]

@[simp] theorem State.readWindow_queue (s : State) (w : ℕ) (off : ℕ) (width : ℕ) : (State.readWindow s w off width).queue = s.queue := by
  rw [State.readWindow]; dsimp only; (repeat' split) <;> simp [apply_ite State.queue]

@[simp] theorem State.readWindow_wf (s : State) (w : ℕ) (off : ℕ) (width : ℕ) (hw : s.memWf = true) : (State.readWindow s w off width).memWf = true := by
  rw [State.readWindow]; dsimp only; (repeat' split) <;> simp (maxDischargeDepth := 40) +contextual [hw]

theorem execWindowRead_queue (dt : ℕ) (w : Fin 64) (off : ℕ) (width : ℕ) (s : State) : Res.all (fun t => t.queue = s.queue) (execWindowRead dt w off width s) := by
  rw [execWindowRead]; dsimp only; (repeat' split) <;> simp [apply_ite State.queue]

theorem execWindowRead_wf (dt : ℕ) (w : Fin 64) (off : ℕ) (width : ℕ) (s : State) (hw : s.memWf = true) : Res.all (fun t => t.memWf = true) (execWindowRead dt w off width s) := by
  rw [execWindowRead]; dsimp only; (repeat' split) <;> simp (maxDischargeDepth := 40) +contextual [hw]

@[simp] theorem State.serveWaits_queue (s : State) (tag : ℕ) : (State.serveWaits s tag).queue = s.queue := by
  rw [State.serveWaits]; simp [apply_ite State.queue]

@[simp] theorem State.serveWaits_wf (s : State) (tag : ℕ) (hw : s.memWf = true) : (State.serveWaits s tag).memWf = true := by
  rw [State.serveWaits]; simp (maxDischargeDepth := 40) +contextual [hw]

@[simp] theorem State.writeOwn_queue (s : State) (off : ℕ) (width : ℕ) (v : ℕ) (broadcast : Bool) : Res.all (fun t => t.queue = s.queue) (State.writeOwn s off width v broadcast) := by
  rw [State.writeOwn]; (repeat' split) <;> (try dsimp only) <;> (repeat' split) <;> simp_all

@[simp] theorem State.writeOwn_wf (s : State) (off : ℕ) (width : ℕ) (v : ℕ) (broadcast : Bool) (hw : s.memWf = true) : Res.all (fun t => t.memWf = true) (State.writeOwn s off width v broadcast) := by
  rw [State.writeOwn]; (repeat' split) <;> (try dsimp only) <;> (repeat' split) <;> simp (maxDischargeDepth := 40) +contextual [hw]

theorem execWindowWrite_queue (dt : ℕ) (w : Fin 64) (off : ℕ) (width : ℕ) (value : ℕ) (s : State) : Res.all (fun t => t.queue = s.queue) (execWindowWrite dt w off width value s) := by
  rw [execWindowWrite]
  dsimp only
  split
  · simp
  · split
    · simp
    · split
      · exact Res.all_mono (State.writeOwn_queue _ _ _ _ _) (fun t ht => by simpa using ht)
      · simp
    · split
      · simp
      · split
        · refine Res.all_mono (State.writeOwn_queue _ _ _ _ _) (fun t ht => ht.trans ?_)
          split <;> simp
        · split <;> simp

theorem execWindowWrite_wf (dt : ℕ) (w : Fin 64) (off : ℕ) (width : ℕ) (value : ℕ) (s : State) (hw : s.memWf = true) : Res.all (fun t => t.memWf = true) (execWindowWrite dt w off width value s) := by
  rw [execWindowWrite]
  (try dsimp only)
  split
  · simp (maxDischargeDepth := 40) [hw]
  · split
    · simp (maxDischargeDepth := 40) [hw]
    · split
      · exact State.writeOwn_wf _ _ _ _ _ (by simp (maxDischargeDepth := 40) [hw])
      · simp (maxDischargeDepth := 40) [hw]
    · split
      · simp (maxDischargeDepth := 40) [hw]
      · split
        · refine State.writeOwn_wf _ _ _ _ _ ?_
          split <;> simp (maxDischargeDepth := 40) [hw]
        · split <;> simp (maxDischargeDepth := 40) [hw]

@[simp] theorem State.putReq_queue (s : State) (tag : ℕ) (q : Option CtlReq) : (State.putReq s tag q).queue = s.queue := by
  rw [State.putReq]; simp [apply_ite State.queue]

@[simp] theorem State.putReq_wf (s : State) (tag : ℕ) (q : Option CtlReq) (hw : s.memWf = true) : (State.putReq s tag q).memWf = true := by
  rw [State.putReq]; simp (maxDischargeDepth := 40) +contextual [hw]

@[simp] theorem State.statusRead_queue (s : State) (pos : ℕ) (st : ℕ) : (State.statusRead s pos st).queue = s.queue := by
  rw [State.statusRead]; simp [apply_ite State.queue]

@[simp] theorem State.statusRead_wf (s : State) (pos : ℕ) (st : ℕ) (hw : s.memWf = true) : (State.statusRead s pos st).memWf = true := by
  rw [State.statusRead]; simp (maxDischargeDepth := 40) +contextual [hw]

@[simp] theorem State.answered_queue (s : State) (q : CtlReq) (pos : ℕ) (op : ℕ) (data : ℕ) (left : List ℕ) : (State.answered s q pos op data left).queue = s.queue := by
  rw [State.answered]; (repeat' split) <;> (try dsimp only) <;> (repeat' split) <;> simp_all

@[simp] theorem State.answered_wf (s : State) (q : CtlReq) (pos : ℕ) (op : ℕ) (data : ℕ) (left : List ℕ) (hw : s.memWf = true) : (State.answered s q pos op data left).memWf = true := by
  rw [State.answered]; (repeat' split) <;> (try dsimp only) <;> (repeat' split) <;> simp (maxDischargeDepth := 40) +contextual [hw]

@[simp] theorem State.takeResponse_queue (s : State) (src : ℕ) (op : ℕ) (tag : ℕ) (data : ℕ) : (State.takeResponse s src op tag data).queue = s.queue := by
  rw [State.takeResponse]; dsimp only; (repeat' split) <;> simp [apply_ite State.queue]

@[simp] theorem State.takeResponse_wf (s : State) (src : ℕ) (op : ℕ) (tag : ℕ) (data : ℕ) (hw : s.memWf = true) : (State.takeResponse s src op tag data).memWf = true := by
  rw [State.takeResponse]; dsimp only; (repeat' split) <;> simp (maxDischargeDepth := 40) +contextual [hw]

@[simp] theorem State.respond_queue (s : State) (src : ℕ) (op : ℕ) (tag : ℕ) (off : ℕ) (wide : Bool) (data : ℕ) : (State.respond s src op tag off wide data).queue = s.queue := by
  rw [State.respond]; simp [apply_ite State.queue]

@[simp] theorem State.respond_wf (s : State) (src : ℕ) (op : ℕ) (tag : ℕ) (off : ℕ) (wide : Bool) (data : ℕ) (hw : s.memWf = true) : (State.respond s src op tag off wide data).memWf = true := by
  rw [State.respond]; simp (maxDischargeDepth := 40) +contextual [hw]

@[simp] theorem State.serveWrite_queue (s : State) (rq : Requester) (east : Bool) (src : ℕ) (op : ℕ) (tag : ℕ) (off : ℕ) (wide : Bool) (data : ℕ) : Res.all (fun t => t.queue = s.queue) (State.serveWrite s rq east src op tag off wide data) := by
  rw [State.serveWrite]
  split
  · simp
  · split
    · next u hu => simpa using Res.all_of_eq (State.writeAccess_queue _ _ _ _ _ _ _) hu
    · exact State.writeAccess_queue _ _ _ _ _ _ _

@[simp] theorem State.serveWrite_wf (s : State) (rq : Requester) (east : Bool) (src : ℕ) (op : ℕ) (tag : ℕ) (off : ℕ) (wide : Bool) (data : ℕ) (hw : s.memWf = true) : Res.all (fun t => t.memWf = true) (State.serveWrite s rq east src op tag off wide data) := by
  rw [State.serveWrite]
  split
  · simp (maxDischargeDepth := 40) [hw]
  · split
    · next u hu => simp (maxDischargeDepth := 40) [Res.all_of_eq (State.writeAccess_wf _ _ _ _ _ _ _ hw) hu]
    · exact State.writeAccess_wf _ _ _ _ _ _ _ hw

@[simp] theorem State.serveCtl_queue (s : State) (d : Dir) (src : ℕ) (op : ℕ) (tag : ℕ) (off : ℕ) (wide : Bool) (data : ℕ) : Res.all (fun t => t.queue = s.queue) (State.serveCtl s d src op tag off wide data) := by
  rw [State.serveCtl]; dsimp only; (repeat' split) <;> simp [apply_ite State.queue]

@[simp] theorem State.serveCtl_wf (s : State) (d : Dir) (src : ℕ) (op : ℕ) (tag : ℕ) (off : ℕ) (wide : Bool) (data : ℕ) (hw : s.memWf = true) : Res.all (fun t => t.memWf = true) (State.serveCtl s d src op tag off wide data) := by
  rw [State.serveCtl]; dsimp only; (repeat' split) <;> simp (maxDischargeDepth := 40) +contextual [hw]

@[simp] theorem State.takeCtl_queue (s : State) (d : Dir) (src : ℕ) (b : ℕ) : Res.all (fun t => t.queue = s.queue) (State.takeCtl s d src b) := by
  rw [State.takeCtl]
  dsimp only
  split
  · simp
  · split
    · simp
    · split
      · split
        · simp
        · exact Res.all_mono (State.serveCtl_queue _ _ _ _ _ _ _ _) (fun t ht => by simpa using ht)
      · exact State.serveCtl_queue _ _ _ _ _ _ _ _

@[simp] theorem State.takeCtl_wf (s : State) (d : Dir) (src : ℕ) (b : ℕ) (hw : s.memWf = true) : Res.all (fun t => t.memWf = true) (State.takeCtl s d src b) := by
  rw [State.takeCtl]; dsimp only; (repeat' split) <;> simp (maxDischargeDepth := 40) +contextual [hw]

theorem execCtlFlit_queue (dt : ℕ) (d : Dir) (flit : List Native) (s : State) : Res.all (fun t => t.queue = s.queue) (execCtlFlit dt d flit s) := by
  rw [execCtlFlit]
  dsimp only
  split
  · simp
  · split
    · exact Res.all_mono (State.takeCtl_queue _ _ _ _) (fun t ht => by simpa using ht)
    · simp

theorem execCtlFlit_wf (dt : ℕ) (d : Dir) (flit : List Native) (s : State) (hw : s.memWf = true) : Res.all (fun t => t.memWf = true) (execCtlFlit dt d flit s) := by
  rw [execCtlFlit]; dsimp only; (repeat' split) <;> simp (maxDischargeDepth := 40) +contextual [hw]

@[simp] theorem State.unanswered_queue (s : State) (q : CtlReq) : (State.unanswered s q).queue = s.queue := by
  rw [State.unanswered]; (repeat' split) <;> (try dsimp only) <;> (repeat' split) <;> simp_all

@[simp] theorem State.unanswered_wf (s : State) (q : CtlReq) (hw : s.memWf = true) : (State.unanswered s q).memWf = true := by
  rw [State.unanswered]; (repeat' split) <;> (try dsimp only) <;> (repeat' split) <;> simp (maxDischargeDepth := 40) +contextual [hw]

theorem execCtlTimeout_queue (dt : ℕ) (tag : ℕ) (s : State) : Res.all (fun t => t.queue = s.queue) (execCtlTimeout dt tag s) := by
  rw [execCtlTimeout]; (repeat' split) <;> (try dsimp only) <;> (repeat' split) <;> simp_all

theorem execCtlTimeout_wf (dt : ℕ) (tag : ℕ) (s : State) (hw : s.memWf = true) : Res.all (fun t => t.memWf = true) (execCtlTimeout dt tag s) := by
  rw [execCtlTimeout]; (repeat' split) <;> (try dsimp only) <;> (repeat' split) <;> simp (maxDischargeDepth := 40) +contextual [hw]

end Sys2Proof.Machine
end

