-- ==== Sys2Proof/Laws/State.lean ====
section
/-! SUPPORT. What the named updates of State leave as it was, field by field: each lemma holds by definition. -/

namespace Sys2Proof.Machine

variable (s : State)

/-! ### A register word -/

@[simp] theorem State.put_pending (o : Nat) (w : Word) : (s.put o w).pending = s.pending := Eq.trans rfl rfl
@[simp] theorem State.put_out (o : Nat) (w : Word) : (s.put o w).out = s.out := Eq.trans rfl rfl
@[simp] theorem State.put_now (o : Nat) (w : Word) : (s.put o w).now = s.now := Eq.trans rfl rfl
@[simp] theorem State.put_freeCtr (o : Nat) (w : Word) : (s.put o w).freeCtr = s.freeCtr := Eq.trans rfl rfl
@[simp] theorem State.put_latches (o : Nat) (w : Word) : (s.put o w).latches = s.latches := Eq.trans rfl rfl
@[simp] theorem State.put_heldWords (o : Nat) (w : Word) : (s.put o w).heldWords = s.heldWords := Eq.trans rfl rfl
@[simp] theorem State.put_epoch (o : Nat) (w : Word) : (s.put o w).epoch = s.epoch := Eq.trans rfl rfl
@[simp] theorem State.put_counting (o : Nat) (w : Word) : (s.put o w).counting = s.counting := Eq.trans rfl rfl
@[simp] theorem State.put_coreLocked (o : Nat) (w : Word) : (s.put o w).coreLocked = s.coreLocked := Eq.trans rfl rfl
@[simp] theorem State.put_sampleLocked (o : Nat) (w : Word) : (s.put o w).sampleLocked = s.sampleLocked := Eq.trans rfl rfl
@[simp] theorem State.put_aonEpoch (o : Nat) (w : Word) : (s.put o w).aonEpoch = s.aonEpoch := Eq.trans rfl rfl
@[simp] theorem State.put_aonAt (o : Nat) (w : Word) : (s.put o w).aonAt = s.aonAt := Eq.trans rfl rfl
@[simp] theorem State.put_aonRc (o : Nat) (w : Word) : (s.put o w).aonRc = s.aonRc := Eq.trans rfl rfl
@[simp] theorem State.put_relockAt (o : Nat) (w : Word) : (s.put o w).relockAt = s.relockAt := Eq.trans rfl rfl
@[simp] theorem State.put_ppsPrev (o : Nat) (w : Word) : (s.put o w).ppsPrev = s.ppsPrev := Eq.trans rfl rfl
@[simp] theorem State.put_ppsLast (o : Nat) (w : Word) : (s.put o w).ppsLast = s.ppsLast := Eq.trans rfl rfl
@[simp] theorem State.put_loadAt (o : Nat) (w : Word) : (s.put o w).loadAt = s.loadAt := Eq.trans rfl rfl
@[simp] theorem State.put_ppsGood (o : Nat) (w : Word) : (s.put o w).ppsGood = s.ppsGood := Eq.trans rfl rfl
@[simp] theorem State.put_iv (o : Nat) (w : Word) : (s.put o w).iv = s.iv := Eq.trans rfl rfl
@[simp] theorem State.put_ivCut (o : Nat) (w : Word) : (s.put o w).ivCut = s.ivCut := Eq.trans rfl rfl
@[simp] theorem State.put_trig (o : Nat) (w : Word) : (s.put o w).trig = s.trig := Eq.trans rfl rfl
@[simp] theorem State.put_conj (o : Nat) (w : Word) : (s.put o w).conj = s.conj := Eq.trans rfl rfl
@[simp] theorem State.put_pins (o : Nat) (w : Word) : (s.put o w).pins = s.pins := Eq.trans rfl rfl
@[simp] theorem State.put_touts (o : Nat) (w : Word) : (s.put o w).touts = s.touts := Eq.trans rfl rfl
@[simp] theorem State.put_fabric (o : Nat) (w : Word) : (s.put o w).fabric = s.fabric := Eq.trans rfl rfl
@[simp] theorem State.put_softAt (o : Nat) (w : Word) : (s.put o w).softAt = s.softAt := Eq.trans rfl rfl
@[simp] theorem State.put_rlineAt (o : Nat) (w : Word) : (s.put o w).rlineAt = s.rlineAt := Eq.trans rfl rfl
@[simp] theorem State.put_alm (o : Nat) (w : Word) : (s.put o w).alm = s.alm := Eq.trans rfl rfl
@[simp] theorem State.put_check (o : Nat) (w : Word) : (s.put o w).check = s.check := Eq.trans rfl rfl
@[simp] theorem State.put_nextAlm (o : Nat) (w : Word) : (s.put o w).nextAlm = s.nextAlm := Eq.trans rfl rfl
@[simp] theorem State.put_reloadWait (o : Nat) (w : Word) : (s.put o w).reloadWait = s.reloadWait := Eq.trans rfl rfl
@[simp] theorem State.put_reloadAt (o : Nat) (w : Word) : (s.put o w).reloadAt = s.reloadAt := Eq.trans rfl rfl
@[simp] theorem State.put_reloadGaps (o : Nat) (w : Word) : (s.put o w).reloadGaps = s.reloadGaps := Eq.trans rfl rfl
@[simp] theorem State.put_reloadRearm (o : Nat) (w : Word) : (s.put o w).reloadRearm = s.reloadRearm := Eq.trans rfl rfl
@[simp] theorem State.put_lateGaps (o : Nat) (w : Word) : (s.put o w).lateGaps = s.lateGaps := Eq.trans rfl rfl
@[simp] theorem State.put_banks (o : Nat) (w : Word) : (s.put o w).banks = s.banks := Eq.trans rfl rfl
@[simp] theorem State.put_groups (o : Nat) (w : Word) : (s.put o w).groups = s.groups := Eq.trans rfl rfl
@[simp] theorem State.put_parts (o : Nat) (w : Word) : (s.put o w).parts = s.parts := Eq.trans rfl rfl
@[simp] theorem State.put_tokens (o : Nat) (w : Word) : (s.put o w).tokens = s.tokens := Eq.trans rfl rfl
@[simp] theorem State.put_short (o : Nat) (w : Word) : (s.put o w).short = s.short := Eq.trans rfl rfl
@[simp] theorem State.put_lost (o : Nat) (w : Word) : (s.put o w).lost = s.lost := Eq.trans rfl rfl
@[simp] theorem State.put_foldQueue (o : Nat) (w : Word) : (s.put o w).foldQueue = s.foldQueue := Eq.trans rfl rfl
@[simp] theorem State.put_foldAt (o : Nat) (w : Word) : (s.put o w).foldAt = s.foldAt := Eq.trans rfl rfl
@[simp] theorem State.put_heldSteward (o : Nat) (w : Word) : (s.put o w).heldSteward = s.heldSteward := Eq.trans rfl rfl
@[simp] theorem State.put_stackTbl (o : Nat) (w : Word) : (s.put o w).stackTbl = s.stackTbl := Eq.trans rfl rfl
@[simp] theorem State.put_tileRaw (o : Nat) (w : Word) : (s.put o w).tileRaw = s.tileRaw := Eq.trans rfl rfl
@[simp] theorem State.put_calRun (o : Nat) (w : Word) : (s.put o w).calRun = s.calRun := Eq.trans rfl rfl
@[simp] theorem State.put_calLast (o : Nat) (w : Word) : (s.put o w).calLast = s.calLast := Eq.trans rfl rfl
@[simp] theorem State.put_calModeBanks (o : Nat) (w : Word) : (s.put o w).calModeBanks = s.calModeBanks := Eq.trans rfl rfl
@[simp] theorem State.put_seasons (o : Nat) (w : Word) : (s.put o w).seasons = s.seasons := Eq.trans rfl rfl
@[simp] theorem State.put_calAsked (o : Nat) (w : Word) : (s.put o w).calAsked = s.calAsked := Eq.trans rfl rfl
@[simp] theorem State.put_ovrSeen (o : Nat) (w : Word) : (s.put o w).ovrSeen = s.ovrSeen := Eq.trans rfl rfl
@[simp] theorem State.put_satSeen (o : Nat) (w : Word) : (s.put o w).satSeen = s.satSeen := Eq.trans rfl rfl
@[simp] theorem State.put_feCorr (o : Nat) (w : Word) : (s.put o w).feCorr = s.feCorr := Eq.trans rfl rfl
@[simp] theorem State.put_seasonJob (o : Nat) (w : Word) : (s.put o w).seasonJob = s.seasonJob := Eq.trans rfl rfl
@[simp] theorem State.put_scrubbed (o : Nat) (w : Word) : (s.put o w).scrubbed = s.scrubbed := Eq.trans rfl rfl
@[simp] theorem State.put_scrubAt (o : Nat) (w : Word) : (s.put o w).scrubAt = s.scrubAt := Eq.trans rfl rfl
@[simp] theorem State.put_memReqs (o : Nat) (w : Word) : (s.put o w).memReqs = s.memReqs := Eq.trans rfl rfl
@[simp] theorem State.put_fltWin (o : Nat) (w : Word) : (s.put o w).fltWin = s.fltWin := Eq.trans rfl rfl
@[simp] theorem State.put_fltGrace (o : Nat) (w : Word) : (s.put o w).fltGrace = s.fltGrace := Eq.trans rfl rfl
@[simp] theorem State.put_fltBanks (o : Nat) (w : Word) : (s.put o w).fltBanks = s.fltBanks := Eq.trans rfl rfl
@[simp] theorem State.put_safeHoldAt (o : Nat) (w : Word) : (s.put o w).safeHoldAt = s.safeHoldAt := Eq.trans rfl rfl
@[simp] theorem State.put_holdDue (o : Nat) (w : Word) : (s.put o w).holdDue = s.holdDue := Eq.trans rfl rfl
@[simp] theorem State.put_move (o : Nat) (w : Word) : (s.put o w).move = s.move := Eq.trans rfl rfl
@[simp] theorem State.put_idleSince (o : Nat) (w : Word) : (s.put o w).idleSince = s.idleSince := Eq.trans rfl rfl
@[simp] theorem State.put_resetStep (o : Nat) (w : Word) : (s.put o w).resetStep = s.resetStep := Eq.trans rfl rfl
@[simp] theorem State.put_resetAt (o : Nat) (w : Word) : (s.put o w).resetAt = s.resetAt := Eq.trans rfl rfl
@[simp] theorem State.put_gaps (o : Nat) (w : Word) : (s.put o w).gaps = s.gaps := Eq.trans rfl rfl
@[simp] theorem State.put_restartDue (o : Nat) (w : Word) : (s.put o w).restartDue = s.restartDue := Eq.trans rfl rfl
@[simp] theorem State.put_lostDue (o : Nat) (w : Word) : (s.put o w).lostDue = s.lostDue := Eq.trans rfl rfl
@[simp] theorem State.put_ledgerMem (o : Nat) (w : Word) : (s.put o w).ledgerMem = s.ledgerMem := Eq.trans rfl rfl
@[simp] theorem State.put_journal (o : Nat) (w : Word) : (s.put o w).journal = s.journal := Eq.trans rfl rfl
@[simp] theorem State.put_tripped (o : Nat) (w : Word) : (s.put o w).tripped = s.tripped := Eq.trans rfl rfl
@[simp] theorem State.put_throttleOk (o : Nat) (w : Word) : (s.put o w).throttleOk = s.throttleOk := Eq.trans rfl rfl
@[simp] theorem State.put_pfAt (o : Nat) (w : Word) : (s.put o w).pfAt = s.pfAt := Eq.trans rfl rfl
@[simp] theorem State.put_progressAt (o : Nat) (w : Word) : (s.put o w).progressAt = s.progressAt := Eq.trans rfl rfl
@[simp] theorem State.put_faultHeld (o : Nat) (w : Word) : (s.put o w).faultHeld = s.faultHeld := Eq.trans rfl rfl
@[simp] theorem State.put_marks (o : Nat) (w : Word) : (s.put o w).marks = s.marks := Eq.trans rfl rfl
@[simp] theorem State.put_aonHas (o : Nat) (w : Word) : (s.put o w).aonHas = s.aonHas := Eq.trans rfl rfl
@[simp] theorem State.put_msixOn (o : Nat) (w : Word) : (s.put o w).msixOn = s.msixOn := Eq.trans rfl rfl
@[simp] theorem State.put_pcieReady (o : Nat) (w : Word) : (s.put o w).pcieReady = s.pcieReady := Eq.trans rfl rfl
@[simp] theorem State.put_perst (o : Nat) (w : Word) : (s.put o w).perst = s.perst := Eq.trans rfl rfl
@[simp] theorem State.put_perstAt (o : Nat) (w : Word) : (s.put o w).perstAt = s.perstAt := Eq.trans rfl rfl
@[simp] theorem State.put_recovery (o : Nat) (w : Word) : (s.put o w).recovery = s.recovery := Eq.trans rfl rfl
@[simp] theorem State.put_hrv (o : Nat) (w : Word) : (s.put o w).hrv = s.hrv := Eq.trans rfl rfl
@[simp] theorem State.put_eng (o : Nat) (w : Word) : (s.put o w).eng = s.eng := Eq.trans rfl rfl
@[simp] theorem State.put_streams (o : Nat) (w : Word) : (s.put o w).streams = s.streams := Eq.trans rfl rfl
@[simp] theorem State.put_heldRel (o : Nat) (w : Word) : (s.put o w).heldRel = s.heldRel := Eq.trans rfl rfl
@[simp] theorem State.put_telem (o : Nat) (w : Word) : (s.put o w).telem = s.telem := Eq.trans rfl rfl
@[simp] theorem State.put_telemSeq (o : Nat) (w : Word) : (s.put o w).telemSeq = s.telemSeq := Eq.trans rfl rfl
@[simp] theorem State.put_mgmtWin (o : Nat) (w : Word) : (s.put o w).mgmtWin = s.mgmtWin := Eq.trans rfl rfl
@[simp] theorem State.put_margins (o : Nat) (w : Word) : (s.put o w).margins = s.margins := Eq.trans rfl rfl
@[simp] theorem State.put_rports (o : Nat) (w : Word) : (s.put o w).rports = s.rports := Eq.trans rfl rfl
@[simp] theorem State.put_ringReady (o : Nat) (w : Word) : (s.put o w).ringReady = s.ringReady := Eq.trans rfl rfl
@[simp] theorem State.put_bypassOpen (o : Nat) (w : Word) : (s.put o w).bypassOpen = s.bypassOpen := Eq.trans rfl rfl
@[simp] theorem State.put_alignGood (o : Nat) (w : Word) : (s.put o w).alignGood = s.alignGood := Eq.trans rfl rfl
@[simp] theorem State.put_seen (o : Nat) (w : Word) : (s.put o w).seen = s.seen := Eq.trans rfl rfl
@[simp] theorem State.put_ctlTag (o : Nat) (w : Word) : (s.put o w).ctlTag = s.ctlTag := Eq.trans rfl rfl
@[simp] theorem State.put_ctlReqs (o : Nat) (w : Word) : (s.put o w).ctlReqs = s.ctlReqs := Eq.trans rfl rfl
@[simp] theorem State.put_ctlSeen (o : Nat) (w : Word) : (s.put o w).ctlSeen = s.ctlSeen := Eq.trans rfl rfl
@[simp] theorem State.put_fwd (o : Nat) (w : Word) : (s.put o w).fwd = s.fwd := Eq.trans rfl rfl
@[simp] theorem State.put_posWrite (o : Nat) (w : Word) : (s.put o w).posWrite = s.posWrite := Eq.trans rfl rfl
@[simp] theorem State.put_posNext (o : Nat) (w : Word) : (s.put o w).posNext = s.posNext := Eq.trans rfl rfl
@[simp] theorem State.put_calNext (o : Nat) (w : Word) : (s.put o w).calNext = s.calNext := Eq.trans rfl rfl
@[simp] theorem State.put_snapSeq (o : Nat) (w : Word) : (s.put o w).snapSeq = s.snapSeq := Eq.trans rfl rfl
@[simp] theorem State.put_snap (o : Nat) (w : Word) : (s.put o w).snap = s.snap := Eq.trans rfl rfl
@[simp] theorem State.put_digest (o : Nat) (w : Word) : (s.put o w).digest = s.digest := Eq.trans rfl rfl
@[simp] theorem State.put_digests (o : Nat) (w : Word) : (s.put o w).digests = s.digests := Eq.trans rfl rfl
@[simp] theorem State.put_diverge (o : Nat) (w : Word) : (s.put o w).diverge = s.diverge := Eq.trans rfl rfl
@[simp] theorem State.put_digestOn (o : Nat) (w : Word) : (s.put o w).digestOn = s.digestOn := Eq.trans rfl rfl
@[simp] theorem State.put_imgs (o : Nat) (w : Word) : (s.put o w).imgs = s.imgs := Eq.trans rfl rfl
@[simp] theorem State.put_pkgLen (o : Nat) (w : Word) : (s.put o w).pkgLen = s.pkgLen := Eq.trans rfl rfl
@[simp] theorem State.put_stageBank (o : Nat) (w : Word) : (s.put o w).stageBank = s.stageBank := Eq.trans rfl rfl
@[simp] theorem State.put_keys (o : Nat) (w : Word) : (s.put o w).keys = s.keys := Eq.trans rfl rfl
@[simp] theorem State.put_blkJob (o : Nat) (w : Word) : (s.put o w).blkJob = s.blkJob := Eq.trans rfl rfl
@[simp] theorem State.put_eraseAt (o : Nat) (w : Word) : (s.put o w).eraseAt = s.eraseAt := Eq.trans rfl rfl
@[simp] theorem State.put_verifyFor (o : Nat) (w : Word) : (s.put o w).verifyFor = s.verifyFor := Eq.trans rfl rfl
@[simp] theorem State.put_dist (o : Nat) (w : Word) : (s.put o w).dist = s.dist := Eq.trans rfl rfl
@[simp] theorem State.put_vote (o : Nat) (w : Word) : (s.put o w).vote = s.vote := Eq.trans rfl rfl
@[simp] theorem State.put_voteAll (o : Nat) (w : Word) : (s.put o w).voteAll = s.voteAll := Eq.trans rfl rfl
@[simp] theorem State.put_actReq (o : Nat) (w : Word) : (s.put o w).actReq = s.actReq := Eq.trans rfl rfl
@[simp] theorem State.put_actWait (o : Nat) (w : Word) : (s.put o w).actWait = s.actWait := Eq.trans rfl rfl
@[simp] theorem State.put_confirmFrom (o : Nat) (w : Word) : (s.put o w).confirmFrom = s.confirmFrom := Eq.trans rfl rfl
@[simp] theorem State.put_lnt (o : Nat) (w : Word) : (s.put o w).lnt = s.lnt := Eq.trans rfl rfl
@[simp] theorem State.put_tap (o : Nat) (w : Word) : (s.put o w).tap = s.tap := Eq.trans rfl rfl
@[simp] theorem State.put_scanReg (o : Nat) (w : Word) : (s.put o w).scanReg = s.scanReg := Eq.trans rfl rfl
@[simp] theorem State.put_powerRaw (o : Nat) (w : Word) : (s.put o w).powerRaw = s.powerRaw := Eq.trans rfl rfl
@[simp] theorem State.put_holdDone (o : Nat) (w : Word) : (s.put o w).holdDone = s.holdDone := Eq.trans rfl rfl
@[simp] theorem State.put_coldStart (o : Nat) (w : Word) : (s.put o w).coldStart = s.coldStart := Eq.trans rfl rfl
@[simp] theorem State.put_booted (o : Nat) (w : Word) : (s.put o w).booted = s.booted := Eq.trans rfl rfl
@[simp] theorem State.put_eventLog (o : Nat) (w : Word) : (s.put o w).eventLog = s.eventLog := Eq.trans rfl rfl
@[simp] theorem State.put_stepDue (o : Nat) (w : Word) : (s.put o w).stepDue = s.stepDue := Eq.trans rfl rfl
@[simp] theorem State.put_winWait (o : Nat) (w : Word) : (s.put o w).winWait = s.winWait := Eq.trans rfl rfl
@[simp] theorem State.put_markId (o : Nat) (w : Word) : (s.put o w).markId = s.markId := Eq.trans rfl rfl
@[simp] theorem State.put_mem_active (o : Nat) (w : Word) : (s.put o w).mem.active = s.mem.active := Eq.trans rfl rfl
@[simp] theorem State.put_mem_space (o : Nat) (w : Word) : (s.put o w).mem.space = s.mem.space := Eq.trans rfl rfl
@[simp] theorem State.put_mem_lmem (o : Nat) (w : Word) : (s.put o w).mem.lmem = s.mem.lmem := Eq.trans rfl rfl
@[simp] theorem State.put_mem_staging (o : Nat) (w : Word) : (s.put o w).mem.staging = s.mem.staging := Eq.trans rfl rfl
@[simp] theorem State.put_mem_note (o : Nat) (w : Word) : (s.put o w).mem.note = s.mem.note := Eq.trans rfl rfl
@[simp] theorem State.put_mem_updWin (o : Nat) (w : Word) : (s.put o w).mem.updWin = s.mem.updWin := Eq.trans rfl rfl

/-! ### setHch -/

@[simp] theorem State.setHch_mem (e c : Nat) (x : HCh) : (s.setHch e c x).mem = s.mem := Eq.trans rfl rfl
@[simp] theorem State.setHch_pending (e c : Nat) (x : HCh) : (s.setHch e c x).pending = s.pending := Eq.trans rfl rfl
@[simp] theorem State.setHch_out (e c : Nat) (x : HCh) : (s.setHch e c x).out = s.out := Eq.trans rfl rfl
@[simp] theorem State.setHch_now (e c : Nat) (x : HCh) : (s.setHch e c x).now = s.now := Eq.trans rfl rfl
@[simp] theorem State.setHch_freeCtr (e c : Nat) (x : HCh) : (s.setHch e c x).freeCtr = s.freeCtr := Eq.trans rfl rfl
@[simp] theorem State.setHch_epoch (e c : Nat) (x : HCh) : (s.setHch e c x).epoch = s.epoch := Eq.trans rfl rfl
@[simp] theorem State.setHch_counting (e c : Nat) (x : HCh) : (s.setHch e c x).counting = s.counting := Eq.trans rfl rfl
@[simp] theorem State.setHch_alm (e c : Nat) (x : HCh) : (s.setHch e c x).alm = s.alm := Eq.trans rfl rfl
@[simp] theorem State.setHch_eng (e c : Nat) (x : HCh) : (s.setHch e c x).eng = s.eng := Eq.trans rfl rfl
@[simp] theorem State.setHch_streams (e c : Nat) (x : HCh) : (s.setHch e c x).streams = s.streams := Eq.trans rfl rfl
@[simp] theorem State.setHch_rports (e c : Nat) (x : HCh) : (s.setHch e c x).rports = s.rports := Eq.trans rfl rfl
@[simp] theorem State.setHch_imgs (e c : Nat) (x : HCh) : (s.setHch e c x).imgs = s.imgs := Eq.trans rfl rfl
@[simp] theorem State.setHch_trig (e c : Nat) (x : HCh) : (s.setHch e c x).trig = s.trig := Eq.trans rfl rfl
@[simp] theorem State.setHch_conj (e c : Nat) (x : HCh) : (s.setHch e c x).conj = s.conj := Eq.trans rfl rfl
@[simp] theorem State.setHch_pins (e c : Nat) (x : HCh) : (s.setHch e c x).pins = s.pins := Eq.trans rfl rfl
@[simp] theorem State.setHch_touts (e c : Nat) (x : HCh) : (s.setHch e c x).touts = s.touts := Eq.trans rfl rfl
@[simp] theorem State.setHch_iv (e c : Nat) (x : HCh) : (s.setHch e c x).iv = s.iv := Eq.trans rfl rfl
@[simp] theorem State.setHch_groups (e c : Nat) (x : HCh) : (s.setHch e c x).groups = s.groups := Eq.trans rfl rfl
@[simp] theorem State.setHch_parts (e c : Nat) (x : HCh) : (s.setHch e c x).parts = s.parts := Eq.trans rfl rfl
@[simp] theorem State.setHch_banks (e c : Nat) (x : HCh) : (s.setHch e c x).banks = s.banks := Eq.trans rfl rfl
@[simp] theorem State.setHch_stackTbl (e c : Nat) (x : HCh) : (s.setHch e c x).stackTbl = s.stackTbl := Eq.trans rfl rfl
@[simp] theorem State.setHch_tokens (e c : Nat) (x : HCh) : (s.setHch e c x).tokens = s.tokens := Eq.trans rfl rfl
@[simp] theorem State.setHch_move (e c : Nat) (x : HCh) : (s.setHch e c x).move = s.move := Eq.trans rfl rfl
@[simp] theorem State.setHch_resetStep (e c : Nat) (x : HCh) : (s.setHch e c x).resetStep = s.resetStep := Eq.trans rfl rfl
@[simp] theorem State.setHch_short (e c : Nat) (x : HCh) : (s.setHch e c x).short = s.short := Eq.trans rfl rfl
@[simp] theorem State.setHch_loadAt (e c : Nat) (x : HCh) : (s.setHch e c x).loadAt = s.loadAt := Eq.trans rfl rfl
@[simp] theorem State.setHch_ivCut (e c : Nat) (x : HCh) : (s.setHch e c x).ivCut = s.ivCut := Eq.trans rfl rfl
@[simp] theorem State.setHch_scanReg (e c : Nat) (x : HCh) : (s.setHch e c x).scanReg = s.scanReg := Eq.trans rfl rfl
@[simp] theorem State.setHch_memReqs (e c : Nat) (x : HCh) : (s.setHch e c x).memReqs = s.memReqs := Eq.trans rfl rfl
@[simp] theorem State.setHch_faultHeld (e c : Nat) (x : HCh) : (s.setHch e c x).faultHeld = s.faultHeld := Eq.trans rfl rfl

/-! ### setEngine -/

@[simp] theorem State.setEngine_mem (e : Nat) (x : HEng) : (s.setEngine e x).mem = s.mem := Eq.trans rfl rfl
@[simp] theorem State.setEngine_pending (e : Nat) (x : HEng) : (s.setEngine e x).pending = s.pending := Eq.trans rfl rfl
@[simp] theorem State.setEngine_out (e : Nat) (x : HEng) : (s.setEngine e x).out = s.out := Eq.trans rfl rfl
@[simp] theorem State.setEngine_now (e : Nat) (x : HEng) : (s.setEngine e x).now = s.now := Eq.trans rfl rfl
@[simp] theorem State.setEngine_freeCtr (e : Nat) (x : HEng) : (s.setEngine e x).freeCtr = s.freeCtr := Eq.trans rfl rfl
@[simp] theorem State.setEngine_epoch (e : Nat) (x : HEng) : (s.setEngine e x).epoch = s.epoch := Eq.trans rfl rfl
@[simp] theorem State.setEngine_counting (e : Nat) (x : HEng) : (s.setEngine e x).counting = s.counting := Eq.trans rfl rfl
@[simp] theorem State.setEngine_alm (e : Nat) (x : HEng) : (s.setEngine e x).alm = s.alm := Eq.trans rfl rfl
@[simp] theorem State.setEngine_hrv (e : Nat) (x : HEng) : (s.setEngine e x).hrv = s.hrv := Eq.trans rfl rfl
@[simp] theorem State.setEngine_streams (e : Nat) (x : HEng) : (s.setEngine e x).streams = s.streams := Eq.trans rfl rfl
@[simp] theorem State.setEngine_rports (e : Nat) (x : HEng) : (s.setEngine e x).rports = s.rports := Eq.trans rfl rfl
@[simp] theorem State.setEngine_imgs (e : Nat) (x : HEng) : (s.setEngine e x).imgs = s.imgs := Eq.trans rfl rfl
@[simp] theorem State.setEngine_trig (e : Nat) (x : HEng) : (s.setEngine e x).trig = s.trig := Eq.trans rfl rfl
@[simp] theorem State.setEngine_conj (e : Nat) (x : HEng) : (s.setEngine e x).conj = s.conj := Eq.trans rfl rfl
@[simp] theorem State.setEngine_pins (e : Nat) (x : HEng) : (s.setEngine e x).pins = s.pins := Eq.trans rfl rfl
@[simp] theorem State.setEngine_touts (e : Nat) (x : HEng) : (s.setEngine e x).touts = s.touts := Eq.trans rfl rfl
@[simp] theorem State.setEngine_iv (e : Nat) (x : HEng) : (s.setEngine e x).iv = s.iv := Eq.trans rfl rfl
@[simp] theorem State.setEngine_groups (e : Nat) (x : HEng) : (s.setEngine e x).groups = s.groups := Eq.trans rfl rfl
@[simp] theorem State.setEngine_parts (e : Nat) (x : HEng) : (s.setEngine e x).parts = s.parts := Eq.trans rfl rfl
@[simp] theorem State.setEngine_banks (e : Nat) (x : HEng) : (s.setEngine e x).banks = s.banks := Eq.trans rfl rfl
@[simp] theorem State.setEngine_stackTbl (e : Nat) (x : HEng) : (s.setEngine e x).stackTbl = s.stackTbl := Eq.trans rfl rfl
@[simp] theorem State.setEngine_tokens (e : Nat) (x : HEng) : (s.setEngine e x).tokens = s.tokens := Eq.trans rfl rfl
@[simp] theorem State.setEngine_move (e : Nat) (x : HEng) : (s.setEngine e x).move = s.move := Eq.trans rfl rfl
@[simp] theorem State.setEngine_resetStep (e : Nat) (x : HEng) : (s.setEngine e x).resetStep = s.resetStep := Eq.trans rfl rfl
@[simp] theorem State.setEngine_short (e : Nat) (x : HEng) : (s.setEngine e x).short = s.short := Eq.trans rfl rfl
@[simp] theorem State.setEngine_loadAt (e : Nat) (x : HEng) : (s.setEngine e x).loadAt = s.loadAt := Eq.trans rfl rfl
@[simp] theorem State.setEngine_ivCut (e : Nat) (x : HEng) : (s.setEngine e x).ivCut = s.ivCut := Eq.trans rfl rfl
@[simp] theorem State.setEngine_scanReg (e : Nat) (x : HEng) : (s.setEngine e x).scanReg = s.scanReg := Eq.trans rfl rfl
@[simp] theorem State.setEngine_memReqs (e : Nat) (x : HEng) : (s.setEngine e x).memReqs = s.memReqs := Eq.trans rfl rfl
@[simp] theorem State.setEngine_faultHeld (e : Nat) (x : HEng) : (s.setEngine e x).faultHeld = s.faultHeld := Eq.trans rfl rfl

/-! ### setStream -/

@[simp] theorem State.setStream_mem (k : Nat) (x : Stream) : (s.setStream k x).mem = s.mem := Eq.trans rfl rfl
@[simp] theorem State.setStream_pending (k : Nat) (x : Stream) : (s.setStream k x).pending = s.pending := Eq.trans rfl rfl
@[simp] theorem State.setStream_out (k : Nat) (x : Stream) : (s.setStream k x).out = s.out := Eq.trans rfl rfl
@[simp] theorem State.setStream_now (k : Nat) (x : Stream) : (s.setStream k x).now = s.now := Eq.trans rfl rfl
@[simp] theorem State.setStream_freeCtr (k : Nat) (x : Stream) : (s.setStream k x).freeCtr = s.freeCtr := Eq.trans rfl rfl
@[simp] theorem State.setStream_epoch (k : Nat) (x : Stream) : (s.setStream k x).epoch = s.epoch := Eq.trans rfl rfl
@[simp] theorem State.setStream_counting (k : Nat) (x : Stream) : (s.setStream k x).counting = s.counting := Eq.trans rfl rfl
@[simp] theorem State.setStream_alm (k : Nat) (x : Stream) : (s.setStream k x).alm = s.alm := Eq.trans rfl rfl
@[simp] theorem State.setStream_hrv (k : Nat) (x : Stream) : (s.setStream k x).hrv = s.hrv := Eq.trans rfl rfl
@[simp] theorem State.setStream_eng (k : Nat) (x : Stream) : (s.setStream k x).eng = s.eng := Eq.trans rfl rfl
@[simp] theorem State.setStream_rports (k : Nat) (x : Stream) : (s.setStream k x).rports = s.rports := Eq.trans rfl rfl
@[simp] theorem State.setStream_imgs (k : Nat) (x : Stream) : (s.setStream k x).imgs = s.imgs := Eq.trans rfl rfl
@[simp] theorem State.setStream_trig (k : Nat) (x : Stream) : (s.setStream k x).trig = s.trig := Eq.trans rfl rfl
@[simp] theorem State.setStream_conj (k : Nat) (x : Stream) : (s.setStream k x).conj = s.conj := Eq.trans rfl rfl
@[simp] theorem State.setStream_pins (k : Nat) (x : Stream) : (s.setStream k x).pins = s.pins := Eq.trans rfl rfl
@[simp] theorem State.setStream_touts (k : Nat) (x : Stream) : (s.setStream k x).touts = s.touts := Eq.trans rfl rfl
@[simp] theorem State.setStream_iv (k : Nat) (x : Stream) : (s.setStream k x).iv = s.iv := Eq.trans rfl rfl
@[simp] theorem State.setStream_groups (k : Nat) (x : Stream) : (s.setStream k x).groups = s.groups := Eq.trans rfl rfl
@[simp] theorem State.setStream_parts (k : Nat) (x : Stream) : (s.setStream k x).parts = s.parts := Eq.trans rfl rfl
@[simp] theorem State.setStream_banks (k : Nat) (x : Stream) : (s.setStream k x).banks = s.banks := Eq.trans rfl rfl
@[simp] theorem State.setStream_stackTbl (k : Nat) (x : Stream) : (s.setStream k x).stackTbl = s.stackTbl := Eq.trans rfl rfl
@[simp] theorem State.setStream_tokens (k : Nat) (x : Stream) : (s.setStream k x).tokens = s.tokens := Eq.trans rfl rfl
@[simp] theorem State.setStream_move (k : Nat) (x : Stream) : (s.setStream k x).move = s.move := Eq.trans rfl rfl
@[simp] theorem State.setStream_resetStep (k : Nat) (x : Stream) : (s.setStream k x).resetStep = s.resetStep := Eq.trans rfl rfl
@[simp] theorem State.setStream_short (k : Nat) (x : Stream) : (s.setStream k x).short = s.short := Eq.trans rfl rfl
@[simp] theorem State.setStream_loadAt (k : Nat) (x : Stream) : (s.setStream k x).loadAt = s.loadAt := Eq.trans rfl rfl
@[simp] theorem State.setStream_ivCut (k : Nat) (x : Stream) : (s.setStream k x).ivCut = s.ivCut := Eq.trans rfl rfl
@[simp] theorem State.setStream_scanReg (k : Nat) (x : Stream) : (s.setStream k x).scanReg = s.scanReg := Eq.trans rfl rfl
@[simp] theorem State.setStream_memReqs (k : Nat) (x : Stream) : (s.setStream k x).memReqs = s.memReqs := Eq.trans rfl rfl
@[simp] theorem State.setStream_faultHeld (k : Nat) (x : Stream) : (s.setStream k x).faultHeld = s.faultHeld := Eq.trans rfl rfl

/-! ### setRport -/

@[simp] theorem State.setRport_mem (d : Nat) (x : RPort) : (s.setRport d x).mem = s.mem := Eq.trans rfl rfl
@[simp] theorem State.setRport_pending (d : Nat) (x : RPort) : (s.setRport d x).pending = s.pending := Eq.trans rfl rfl
@[simp] theorem State.setRport_out (d : Nat) (x : RPort) : (s.setRport d x).out = s.out := Eq.trans rfl rfl
@[simp] theorem State.setRport_now (d : Nat) (x : RPort) : (s.setRport d x).now = s.now := Eq.trans rfl rfl
@[simp] theorem State.setRport_freeCtr (d : Nat) (x : RPort) : (s.setRport d x).freeCtr = s.freeCtr := Eq.trans rfl rfl
@[simp] theorem State.setRport_epoch (d : Nat) (x : RPort) : (s.setRport d x).epoch = s.epoch := Eq.trans rfl rfl
@[simp] theorem State.setRport_counting (d : Nat) (x : RPort) : (s.setRport d x).counting = s.counting := Eq.trans rfl rfl
@[simp] theorem State.setRport_alm (d : Nat) (x : RPort) : (s.setRport d x).alm = s.alm := Eq.trans rfl rfl
@[simp] theorem State.setRport_hrv (d : Nat) (x : RPort) : (s.setRport d x).hrv = s.hrv := Eq.trans rfl rfl
@[simp] theorem State.setRport_eng (d : Nat) (x : RPort) : (s.setRport d x).eng = s.eng := Eq.trans rfl rfl
@[simp] theorem State.setRport_streams (d : Nat) (x : RPort) : (s.setRport d x).streams = s.streams := Eq.trans rfl rfl
@[simp] theorem State.setRport_imgs (d : Nat) (x : RPort) : (s.setRport d x).imgs = s.imgs := Eq.trans rfl rfl
@[simp] theorem State.setRport_trig (d : Nat) (x : RPort) : (s.setRport d x).trig = s.trig := Eq.trans rfl rfl
@[simp] theorem State.setRport_conj (d : Nat) (x : RPort) : (s.setRport d x).conj = s.conj := Eq.trans rfl rfl
@[simp] theorem State.setRport_pins (d : Nat) (x : RPort) : (s.setRport d x).pins = s.pins := Eq.trans rfl rfl
@[simp] theorem State.setRport_touts (d : Nat) (x : RPort) : (s.setRport d x).touts = s.touts := Eq.trans rfl rfl
@[simp] theorem State.setRport_iv (d : Nat) (x : RPort) : (s.setRport d x).iv = s.iv := Eq.trans rfl rfl
@[simp] theorem State.setRport_groups (d : Nat) (x : RPort) : (s.setRport d x).groups = s.groups := Eq.trans rfl rfl
@[simp] theorem State.setRport_parts (d : Nat) (x : RPort) : (s.setRport d x).parts = s.parts := Eq.trans rfl rfl
@[simp] theorem State.setRport_banks (d : Nat) (x : RPort) : (s.setRport d x).banks = s.banks := Eq.trans rfl rfl
@[simp] theorem State.setRport_stackTbl (d : Nat) (x : RPort) : (s.setRport d x).stackTbl = s.stackTbl := Eq.trans rfl rfl
@[simp] theorem State.setRport_tokens (d : Nat) (x : RPort) : (s.setRport d x).tokens = s.tokens := Eq.trans rfl rfl
@[simp] theorem State.setRport_move (d : Nat) (x : RPort) : (s.setRport d x).move = s.move := Eq.trans rfl rfl
@[simp] theorem State.setRport_resetStep (d : Nat) (x : RPort) : (s.setRport d x).resetStep = s.resetStep := Eq.trans rfl rfl
@[simp] theorem State.setRport_short (d : Nat) (x : RPort) : (s.setRport d x).short = s.short := Eq.trans rfl rfl
@[simp] theorem State.setRport_loadAt (d : Nat) (x : RPort) : (s.setRport d x).loadAt = s.loadAt := Eq.trans rfl rfl
@[simp] theorem State.setRport_ivCut (d : Nat) (x : RPort) : (s.setRport d x).ivCut = s.ivCut := Eq.trans rfl rfl
@[simp] theorem State.setRport_scanReg (d : Nat) (x : RPort) : (s.setRport d x).scanReg = s.scanReg := Eq.trans rfl rfl
@[simp] theorem State.setRport_memReqs (d : Nat) (x : RPort) : (s.setRport d x).memReqs = s.memReqs := Eq.trans rfl rfl
@[simp] theorem State.setRport_faultHeld (d : Nat) (x : RPort) : (s.setRport d x).faultHeld = s.faultHeld := Eq.trans rfl rfl

/-! ### setImg -/

@[simp] theorem State.setImg_mem (b : Nat) (x : ImgBank) : (s.setImg b x).mem = s.mem := Eq.trans rfl rfl
@[simp] theorem State.setImg_pending (b : Nat) (x : ImgBank) : (s.setImg b x).pending = s.pending := Eq.trans rfl rfl
@[simp] theorem State.setImg_out (b : Nat) (x : ImgBank) : (s.setImg b x).out = s.out := Eq.trans rfl rfl
@[simp] theorem State.setImg_now (b : Nat) (x : ImgBank) : (s.setImg b x).now = s.now := Eq.trans rfl rfl
@[simp] theorem State.setImg_freeCtr (b : Nat) (x : ImgBank) : (s.setImg b x).freeCtr = s.freeCtr := Eq.trans rfl rfl
@[simp] theorem State.setImg_epoch (b : Nat) (x : ImgBank) : (s.setImg b x).epoch = s.epoch := Eq.trans rfl rfl
@[simp] theorem State.setImg_counting (b : Nat) (x : ImgBank) : (s.setImg b x).counting = s.counting := Eq.trans rfl rfl
@[simp] theorem State.setImg_alm (b : Nat) (x : ImgBank) : (s.setImg b x).alm = s.alm := Eq.trans rfl rfl
@[simp] theorem State.setImg_hrv (b : Nat) (x : ImgBank) : (s.setImg b x).hrv = s.hrv := Eq.trans rfl rfl
@[simp] theorem State.setImg_eng (b : Nat) (x : ImgBank) : (s.setImg b x).eng = s.eng := Eq.trans rfl rfl
@[simp] theorem State.setImg_streams (b : Nat) (x : ImgBank) : (s.setImg b x).streams = s.streams := Eq.trans rfl rfl
@[simp] theorem State.setImg_rports (b : Nat) (x : ImgBank) : (s.setImg b x).rports = s.rports := Eq.trans rfl rfl
@[simp] theorem State.setImg_trig (b : Nat) (x : ImgBank) : (s.setImg b x).trig = s.trig := Eq.trans rfl rfl
@[simp] theorem State.setImg_conj (b : Nat) (x : ImgBank) : (s.setImg b x).conj = s.conj := Eq.trans rfl rfl
@[simp] theorem State.setImg_pins (b : Nat) (x : ImgBank) : (s.setImg b x).pins = s.pins := Eq.trans rfl rfl
@[simp] theorem State.setImg_touts (b : Nat) (x : ImgBank) : (s.setImg b x).touts = s.touts := Eq.trans rfl rfl
@[simp] theorem State.setImg_iv (b : Nat) (x : ImgBank) : (s.setImg b x).iv = s.iv := Eq.trans rfl rfl
@[simp] theorem State.setImg_groups (b : Nat) (x : ImgBank) : (s.setImg b x).groups = s.groups := Eq.trans rfl rfl
@[simp] theorem State.setImg_parts (b : Nat) (x : ImgBank) : (s.setImg b x).parts = s.parts := Eq.trans rfl rfl
@[simp] theorem State.setImg_banks (b : Nat) (x : ImgBank) : (s.setImg b x).banks = s.banks := Eq.trans rfl rfl
@[simp] theorem State.setImg_stackTbl (b : Nat) (x : ImgBank) : (s.setImg b x).stackTbl = s.stackTbl := Eq.trans rfl rfl
@[simp] theorem State.setImg_tokens (b : Nat) (x : ImgBank) : (s.setImg b x).tokens = s.tokens := Eq.trans rfl rfl
@[simp] theorem State.setImg_move (b : Nat) (x : ImgBank) : (s.setImg b x).move = s.move := Eq.trans rfl rfl
@[simp] theorem State.setImg_resetStep (b : Nat) (x : ImgBank) : (s.setImg b x).resetStep = s.resetStep := Eq.trans rfl rfl
@[simp] theorem State.setImg_short (b : Nat) (x : ImgBank) : (s.setImg b x).short = s.short := Eq.trans rfl rfl
@[simp] theorem State.setImg_loadAt (b : Nat) (x : ImgBank) : (s.setImg b x).loadAt = s.loadAt := Eq.trans rfl rfl
@[simp] theorem State.setImg_ivCut (b : Nat) (x : ImgBank) : (s.setImg b x).ivCut = s.ivCut := Eq.trans rfl rfl
@[simp] theorem State.setImg_scanReg (b : Nat) (x : ImgBank) : (s.setImg b x).scanReg = s.scanReg := Eq.trans rfl rfl
@[simp] theorem State.setImg_memReqs (b : Nat) (x : ImgBank) : (s.setImg b x).memReqs = s.memReqs := Eq.trans rfl rfl
@[simp] theorem State.setImg_faultHeld (b : Nat) (x : ImgBank) : (s.setImg b x).faultHeld = s.faultHeld := Eq.trans rfl rfl

/-! ### setTrig -/

@[simp] theorem State.setTrig_mem (u : Nat) (x : TrigUnit) : (s.setTrig u x).mem = s.mem := Eq.trans rfl rfl
@[simp] theorem State.setTrig_pending (u : Nat) (x : TrigUnit) : (s.setTrig u x).pending = s.pending := Eq.trans rfl rfl
@[simp] theorem State.setTrig_out (u : Nat) (x : TrigUnit) : (s.setTrig u x).out = s.out := Eq.trans rfl rfl
@[simp] theorem State.setTrig_now (u : Nat) (x : TrigUnit) : (s.setTrig u x).now = s.now := Eq.trans rfl rfl
@[simp] theorem State.setTrig_freeCtr (u : Nat) (x : TrigUnit) : (s.setTrig u x).freeCtr = s.freeCtr := Eq.trans rfl rfl
@[simp] theorem State.setTrig_epoch (u : Nat) (x : TrigUnit) : (s.setTrig u x).epoch = s.epoch := Eq.trans rfl rfl
@[simp] theorem State.setTrig_counting (u : Nat) (x : TrigUnit) : (s.setTrig u x).counting = s.counting := Eq.trans rfl rfl
@[simp] theorem State.setTrig_alm (u : Nat) (x : TrigUnit) : (s.setTrig u x).alm = s.alm := Eq.trans rfl rfl
@[simp] theorem State.setTrig_hrv (u : Nat) (x : TrigUnit) : (s.setTrig u x).hrv = s.hrv := Eq.trans rfl rfl
@[simp] theorem State.setTrig_eng (u : Nat) (x : TrigUnit) : (s.setTrig u x).eng = s.eng := Eq.trans rfl rfl
@[simp] theorem State.setTrig_streams (u : Nat) (x : TrigUnit) : (s.setTrig u x).streams = s.streams := Eq.trans rfl rfl
@[simp] theorem State.setTrig_rports (u : Nat) (x : TrigUnit) : (s.setTrig u x).rports = s.rports := Eq.trans rfl rfl
@[simp] theorem State.setTrig_imgs (u : Nat) (x : TrigUnit) : (s.setTrig u x).imgs = s.imgs := Eq.trans rfl rfl
@[simp] theorem State.setTrig_conj (u : Nat) (x : TrigUnit) : (s.setTrig u x).conj = s.conj := Eq.trans rfl rfl
@[simp] theorem State.setTrig_pins (u : Nat) (x : TrigUnit) : (s.setTrig u x).pins = s.pins := Eq.trans rfl rfl
@[simp] theorem State.setTrig_touts (u : Nat) (x : TrigUnit) : (s.setTrig u x).touts = s.touts := Eq.trans rfl rfl
@[simp] theorem State.setTrig_iv (u : Nat) (x : TrigUnit) : (s.setTrig u x).iv = s.iv := Eq.trans rfl rfl
@[simp] theorem State.setTrig_groups (u : Nat) (x : TrigUnit) : (s.setTrig u x).groups = s.groups := Eq.trans rfl rfl
@[simp] theorem State.setTrig_parts (u : Nat) (x : TrigUnit) : (s.setTrig u x).parts = s.parts := Eq.trans rfl rfl
@[simp] theorem State.setTrig_banks (u : Nat) (x : TrigUnit) : (s.setTrig u x).banks = s.banks := Eq.trans rfl rfl
@[simp] theorem State.setTrig_stackTbl (u : Nat) (x : TrigUnit) : (s.setTrig u x).stackTbl = s.stackTbl := Eq.trans rfl rfl
@[simp] theorem State.setTrig_tokens (u : Nat) (x : TrigUnit) : (s.setTrig u x).tokens = s.tokens := Eq.trans rfl rfl
@[simp] theorem State.setTrig_move (u : Nat) (x : TrigUnit) : (s.setTrig u x).move = s.move := Eq.trans rfl rfl
@[simp] theorem State.setTrig_resetStep (u : Nat) (x : TrigUnit) : (s.setTrig u x).resetStep = s.resetStep := Eq.trans rfl rfl
@[simp] theorem State.setTrig_short (u : Nat) (x : TrigUnit) : (s.setTrig u x).short = s.short := Eq.trans rfl rfl
@[simp] theorem State.setTrig_loadAt (u : Nat) (x : TrigUnit) : (s.setTrig u x).loadAt = s.loadAt := Eq.trans rfl rfl
@[simp] theorem State.setTrig_ivCut (u : Nat) (x : TrigUnit) : (s.setTrig u x).ivCut = s.ivCut := Eq.trans rfl rfl
@[simp] theorem State.setTrig_scanReg (u : Nat) (x : TrigUnit) : (s.setTrig u x).scanReg = s.scanReg := Eq.trans rfl rfl
@[simp] theorem State.setTrig_memReqs (u : Nat) (x : TrigUnit) : (s.setTrig u x).memReqs = s.memReqs := Eq.trans rfl rfl
@[simp] theorem State.setTrig_faultHeld (u : Nat) (x : TrigUnit) : (s.setTrig u x).faultHeld = s.faultHeld := Eq.trans rfl rfl

/-! ### setConj -/

@[simp] theorem State.setConj_mem (j : Nat) (x : Conj) : (s.setConj j x).mem = s.mem := Eq.trans rfl rfl
@[simp] theorem State.setConj_pending (j : Nat) (x : Conj) : (s.setConj j x).pending = s.pending := Eq.trans rfl rfl
@[simp] theorem State.setConj_out (j : Nat) (x : Conj) : (s.setConj j x).out = s.out := Eq.trans rfl rfl
@[simp] theorem State.setConj_now (j : Nat) (x : Conj) : (s.setConj j x).now = s.now := Eq.trans rfl rfl
@[simp] theorem State.setConj_freeCtr (j : Nat) (x : Conj) : (s.setConj j x).freeCtr = s.freeCtr := Eq.trans rfl rfl
@[simp] theorem State.setConj_epoch (j : Nat) (x : Conj) : (s.setConj j x).epoch = s.epoch := Eq.trans rfl rfl
@[simp] theorem State.setConj_counting (j : Nat) (x : Conj) : (s.setConj j x).counting = s.counting := Eq.trans rfl rfl
@[simp] theorem State.setConj_alm (j : Nat) (x : Conj) : (s.setConj j x).alm = s.alm := Eq.trans rfl rfl
@[simp] theorem State.setConj_hrv (j : Nat) (x : Conj) : (s.setConj j x).hrv = s.hrv := Eq.trans rfl rfl
@[simp] theorem State.setConj_eng (j : Nat) (x : Conj) : (s.setConj j x).eng = s.eng := Eq.trans rfl rfl
@[simp] theorem State.setConj_streams (j : Nat) (x : Conj) : (s.setConj j x).streams = s.streams := Eq.trans rfl rfl
@[simp] theorem State.setConj_rports (j : Nat) (x : Conj) : (s.setConj j x).rports = s.rports := Eq.trans rfl rfl
@[simp] theorem State.setConj_imgs (j : Nat) (x : Conj) : (s.setConj j x).imgs = s.imgs := Eq.trans rfl rfl
@[simp] theorem State.setConj_trig (j : Nat) (x : Conj) : (s.setConj j x).trig = s.trig := Eq.trans rfl rfl
@[simp] theorem State.setConj_pins (j : Nat) (x : Conj) : (s.setConj j x).pins = s.pins := Eq.trans rfl rfl
@[simp] theorem State.setConj_touts (j : Nat) (x : Conj) : (s.setConj j x).touts = s.touts := Eq.trans rfl rfl
@[simp] theorem State.setConj_iv (j : Nat) (x : Conj) : (s.setConj j x).iv = s.iv := Eq.trans rfl rfl
@[simp] theorem State.setConj_groups (j : Nat) (x : Conj) : (s.setConj j x).groups = s.groups := Eq.trans rfl rfl
@[simp] theorem State.setConj_parts (j : Nat) (x : Conj) : (s.setConj j x).parts = s.parts := Eq.trans rfl rfl
@[simp] theorem State.setConj_banks (j : Nat) (x : Conj) : (s.setConj j x).banks = s.banks := Eq.trans rfl rfl
@[simp] theorem State.setConj_stackTbl (j : Nat) (x : Conj) : (s.setConj j x).stackTbl = s.stackTbl := Eq.trans rfl rfl
@[simp] theorem State.setConj_tokens (j : Nat) (x : Conj) : (s.setConj j x).tokens = s.tokens := Eq.trans rfl rfl
@[simp] theorem State.setConj_move (j : Nat) (x : Conj) : (s.setConj j x).move = s.move := Eq.trans rfl rfl
@[simp] theorem State.setConj_resetStep (j : Nat) (x : Conj) : (s.setConj j x).resetStep = s.resetStep := Eq.trans rfl rfl
@[simp] theorem State.setConj_short (j : Nat) (x : Conj) : (s.setConj j x).short = s.short := Eq.trans rfl rfl
@[simp] theorem State.setConj_loadAt (j : Nat) (x : Conj) : (s.setConj j x).loadAt = s.loadAt := Eq.trans rfl rfl
@[simp] theorem State.setConj_ivCut (j : Nat) (x : Conj) : (s.setConj j x).ivCut = s.ivCut := Eq.trans rfl rfl
@[simp] theorem State.setConj_scanReg (j : Nat) (x : Conj) : (s.setConj j x).scanReg = s.scanReg := Eq.trans rfl rfl
@[simp] theorem State.setConj_memReqs (j : Nat) (x : Conj) : (s.setConj j x).memReqs = s.memReqs := Eq.trans rfl rfl
@[simp] theorem State.setConj_faultHeld (j : Nat) (x : Conj) : (s.setConj j x).faultHeld = s.faultHeld := Eq.trans rfl rfl

/-! ### setPin -/

@[simp] theorem State.setPin_mem (p : Nat) (x : Pin) : (s.setPin p x).mem = s.mem := Eq.trans rfl rfl
@[simp] theorem State.setPin_pending (p : Nat) (x : Pin) : (s.setPin p x).pending = s.pending := Eq.trans rfl rfl
@[simp] theorem State.setPin_out (p : Nat) (x : Pin) : (s.setPin p x).out = s.out := Eq.trans rfl rfl
@[simp] theorem State.setPin_now (p : Nat) (x : Pin) : (s.setPin p x).now = s.now := Eq.trans rfl rfl
@[simp] theorem State.setPin_freeCtr (p : Nat) (x : Pin) : (s.setPin p x).freeCtr = s.freeCtr := Eq.trans rfl rfl
@[simp] theorem State.setPin_epoch (p : Nat) (x : Pin) : (s.setPin p x).epoch = s.epoch := Eq.trans rfl rfl
@[simp] theorem State.setPin_counting (p : Nat) (x : Pin) : (s.setPin p x).counting = s.counting := Eq.trans rfl rfl
@[simp] theorem State.setPin_alm (p : Nat) (x : Pin) : (s.setPin p x).alm = s.alm := Eq.trans rfl rfl
@[simp] theorem State.setPin_hrv (p : Nat) (x : Pin) : (s.setPin p x).hrv = s.hrv := Eq.trans rfl rfl
@[simp] theorem State.setPin_eng (p : Nat) (x : Pin) : (s.setPin p x).eng = s.eng := Eq.trans rfl rfl
@[simp] theorem State.setPin_streams (p : Nat) (x : Pin) : (s.setPin p x).streams = s.streams := Eq.trans rfl rfl
@[simp] theorem State.setPin_rports (p : Nat) (x : Pin) : (s.setPin p x).rports = s.rports := Eq.trans rfl rfl
@[simp] theorem State.setPin_imgs (p : Nat) (x : Pin) : (s.setPin p x).imgs = s.imgs := Eq.trans rfl rfl
@[simp] theorem State.setPin_trig (p : Nat) (x : Pin) : (s.setPin p x).trig = s.trig := Eq.trans rfl rfl
@[simp] theorem State.setPin_conj (p : Nat) (x : Pin) : (s.setPin p x).conj = s.conj := Eq.trans rfl rfl
@[simp] theorem State.setPin_touts (p : Nat) (x : Pin) : (s.setPin p x).touts = s.touts := Eq.trans rfl rfl
@[simp] theorem State.setPin_iv (p : Nat) (x : Pin) : (s.setPin p x).iv = s.iv := Eq.trans rfl rfl
@[simp] theorem State.setPin_groups (p : Nat) (x : Pin) : (s.setPin p x).groups = s.groups := Eq.trans rfl rfl
@[simp] theorem State.setPin_parts (p : Nat) (x : Pin) : (s.setPin p x).parts = s.parts := Eq.trans rfl rfl
@[simp] theorem State.setPin_banks (p : Nat) (x : Pin) : (s.setPin p x).banks = s.banks := Eq.trans rfl rfl
@[simp] theorem State.setPin_stackTbl (p : Nat) (x : Pin) : (s.setPin p x).stackTbl = s.stackTbl := Eq.trans rfl rfl
@[simp] theorem State.setPin_tokens (p : Nat) (x : Pin) : (s.setPin p x).tokens = s.tokens := Eq.trans rfl rfl
@[simp] theorem State.setPin_move (p : Nat) (x : Pin) : (s.setPin p x).move = s.move := Eq.trans rfl rfl
@[simp] theorem State.setPin_resetStep (p : Nat) (x : Pin) : (s.setPin p x).resetStep = s.resetStep := Eq.trans rfl rfl
@[simp] theorem State.setPin_short (p : Nat) (x : Pin) : (s.setPin p x).short = s.short := Eq.trans rfl rfl
@[simp] theorem State.setPin_loadAt (p : Nat) (x : Pin) : (s.setPin p x).loadAt = s.loadAt := Eq.trans rfl rfl
@[simp] theorem State.setPin_ivCut (p : Nat) (x : Pin) : (s.setPin p x).ivCut = s.ivCut := Eq.trans rfl rfl
@[simp] theorem State.setPin_scanReg (p : Nat) (x : Pin) : (s.setPin p x).scanReg = s.scanReg := Eq.trans rfl rfl
@[simp] theorem State.setPin_memReqs (p : Nat) (x : Pin) : (s.setPin p x).memReqs = s.memReqs := Eq.trans rfl rfl
@[simp] theorem State.setPin_faultHeld (p : Nat) (x : Pin) : (s.setPin p x).faultHeld = s.faultHeld := Eq.trans rfl rfl

/-! ### setTout -/

@[simp] theorem State.setTout_mem (k : Nat) (x : Tout) : (s.setTout k x).mem = s.mem := Eq.trans rfl rfl
@[simp] theorem State.setTout_pending (k : Nat) (x : Tout) : (s.setTout k x).pending = s.pending := Eq.trans rfl rfl
@[simp] theorem State.setTout_out (k : Nat) (x : Tout) : (s.setTout k x).out = s.out := Eq.trans rfl rfl
@[simp] theorem State.setTout_now (k : Nat) (x : Tout) : (s.setTout k x).now = s.now := Eq.trans rfl rfl
@[simp] theorem State.setTout_freeCtr (k : Nat) (x : Tout) : (s.setTout k x).freeCtr = s.freeCtr := Eq.trans rfl rfl
@[simp] theorem State.setTout_epoch (k : Nat) (x : Tout) : (s.setTout k x).epoch = s.epoch := Eq.trans rfl rfl
@[simp] theorem State.setTout_counting (k : Nat) (x : Tout) : (s.setTout k x).counting = s.counting := Eq.trans rfl rfl
@[simp] theorem State.setTout_alm (k : Nat) (x : Tout) : (s.setTout k x).alm = s.alm := Eq.trans rfl rfl
@[simp] theorem State.setTout_hrv (k : Nat) (x : Tout) : (s.setTout k x).hrv = s.hrv := Eq.trans rfl rfl
@[simp] theorem State.setTout_eng (k : Nat) (x : Tout) : (s.setTout k x).eng = s.eng := Eq.trans rfl rfl
@[simp] theorem State.setTout_streams (k : Nat) (x : Tout) : (s.setTout k x).streams = s.streams := Eq.trans rfl rfl
@[simp] theorem State.setTout_rports (k : Nat) (x : Tout) : (s.setTout k x).rports = s.rports := Eq.trans rfl rfl
@[simp] theorem State.setTout_imgs (k : Nat) (x : Tout) : (s.setTout k x).imgs = s.imgs := Eq.trans rfl rfl
@[simp] theorem State.setTout_trig (k : Nat) (x : Tout) : (s.setTout k x).trig = s.trig := Eq.trans rfl rfl
@[simp] theorem State.setTout_conj (k : Nat) (x : Tout) : (s.setTout k x).conj = s.conj := Eq.trans rfl rfl
@[simp] theorem State.setTout_pins (k : Nat) (x : Tout) : (s.setTout k x).pins = s.pins := Eq.trans rfl rfl
@[simp] theorem State.setTout_iv (k : Nat) (x : Tout) : (s.setTout k x).iv = s.iv := Eq.trans rfl rfl
@[simp] theorem State.setTout_groups (k : Nat) (x : Tout) : (s.setTout k x).groups = s.groups := Eq.trans rfl rfl
@[simp] theorem State.setTout_parts (k : Nat) (x : Tout) : (s.setTout k x).parts = s.parts := Eq.trans rfl rfl
@[simp] theorem State.setTout_banks (k : Nat) (x : Tout) : (s.setTout k x).banks = s.banks := Eq.trans rfl rfl
@[simp] theorem State.setTout_stackTbl (k : Nat) (x : Tout) : (s.setTout k x).stackTbl = s.stackTbl := Eq.trans rfl rfl
@[simp] theorem State.setTout_tokens (k : Nat) (x : Tout) : (s.setTout k x).tokens = s.tokens := Eq.trans rfl rfl
@[simp] theorem State.setTout_move (k : Nat) (x : Tout) : (s.setTout k x).move = s.move := Eq.trans rfl rfl
@[simp] theorem State.setTout_resetStep (k : Nat) (x : Tout) : (s.setTout k x).resetStep = s.resetStep := Eq.trans rfl rfl
@[simp] theorem State.setTout_short (k : Nat) (x : Tout) : (s.setTout k x).short = s.short := Eq.trans rfl rfl
@[simp] theorem State.setTout_loadAt (k : Nat) (x : Tout) : (s.setTout k x).loadAt = s.loadAt := Eq.trans rfl rfl
@[simp] theorem State.setTout_ivCut (k : Nat) (x : Tout) : (s.setTout k x).ivCut = s.ivCut := Eq.trans rfl rfl
@[simp] theorem State.setTout_scanReg (k : Nat) (x : Tout) : (s.setTout k x).scanReg = s.scanReg := Eq.trans rfl rfl
@[simp] theorem State.setTout_memReqs (k : Nat) (x : Tout) : (s.setTout k x).memReqs = s.memReqs := Eq.trans rfl rfl
@[simp] theorem State.setTout_faultHeld (k : Nat) (x : Tout) : (s.setTout k x).faultHeld = s.faultHeld := Eq.trans rfl rfl

/-! ### setIv -/

@[simp] theorem State.setIv_mem (u : Nat) (x : IvUnit) : (s.setIv u x).mem = s.mem := Eq.trans rfl rfl
@[simp] theorem State.setIv_pending (u : Nat) (x : IvUnit) : (s.setIv u x).pending = s.pending := Eq.trans rfl rfl
@[simp] theorem State.setIv_out (u : Nat) (x : IvUnit) : (s.setIv u x).out = s.out := Eq.trans rfl rfl
@[simp] theorem State.setIv_now (u : Nat) (x : IvUnit) : (s.setIv u x).now = s.now := Eq.trans rfl rfl
@[simp] theorem State.setIv_freeCtr (u : Nat) (x : IvUnit) : (s.setIv u x).freeCtr = s.freeCtr := Eq.trans rfl rfl
@[simp] theorem State.setIv_epoch (u : Nat) (x : IvUnit) : (s.setIv u x).epoch = s.epoch := Eq.trans rfl rfl
@[simp] theorem State.setIv_counting (u : Nat) (x : IvUnit) : (s.setIv u x).counting = s.counting := Eq.trans rfl rfl
@[simp] theorem State.setIv_alm (u : Nat) (x : IvUnit) : (s.setIv u x).alm = s.alm := Eq.trans rfl rfl
@[simp] theorem State.setIv_hrv (u : Nat) (x : IvUnit) : (s.setIv u x).hrv = s.hrv := Eq.trans rfl rfl
@[simp] theorem State.setIv_eng (u : Nat) (x : IvUnit) : (s.setIv u x).eng = s.eng := Eq.trans rfl rfl
@[simp] theorem State.setIv_streams (u : Nat) (x : IvUnit) : (s.setIv u x).streams = s.streams := Eq.trans rfl rfl
@[simp] theorem State.setIv_rports (u : Nat) (x : IvUnit) : (s.setIv u x).rports = s.rports := Eq.trans rfl rfl
@[simp] theorem State.setIv_imgs (u : Nat) (x : IvUnit) : (s.setIv u x).imgs = s.imgs := Eq.trans rfl rfl
@[simp] theorem State.setIv_trig (u : Nat) (x : IvUnit) : (s.setIv u x).trig = s.trig := Eq.trans rfl rfl
@[simp] theorem State.setIv_conj (u : Nat) (x : IvUnit) : (s.setIv u x).conj = s.conj := Eq.trans rfl rfl
@[simp] theorem State.setIv_pins (u : Nat) (x : IvUnit) : (s.setIv u x).pins = s.pins := Eq.trans rfl rfl
@[simp] theorem State.setIv_touts (u : Nat) (x : IvUnit) : (s.setIv u x).touts = s.touts := Eq.trans rfl rfl
@[simp] theorem State.setIv_groups (u : Nat) (x : IvUnit) : (s.setIv u x).groups = s.groups := Eq.trans rfl rfl
@[simp] theorem State.setIv_parts (u : Nat) (x : IvUnit) : (s.setIv u x).parts = s.parts := Eq.trans rfl rfl
@[simp] theorem State.setIv_banks (u : Nat) (x : IvUnit) : (s.setIv u x).banks = s.banks := Eq.trans rfl rfl
@[simp] theorem State.setIv_stackTbl (u : Nat) (x : IvUnit) : (s.setIv u x).stackTbl = s.stackTbl := Eq.trans rfl rfl
@[simp] theorem State.setIv_tokens (u : Nat) (x : IvUnit) : (s.setIv u x).tokens = s.tokens := Eq.trans rfl rfl
@[simp] theorem State.setIv_move (u : Nat) (x : IvUnit) : (s.setIv u x).move = s.move := Eq.trans rfl rfl
@[simp] theorem State.setIv_resetStep (u : Nat) (x : IvUnit) : (s.setIv u x).resetStep = s.resetStep := Eq.trans rfl rfl
@[simp] theorem State.setIv_short (u : Nat) (x : IvUnit) : (s.setIv u x).short = s.short := Eq.trans rfl rfl
@[simp] theorem State.setIv_loadAt (u : Nat) (x : IvUnit) : (s.setIv u x).loadAt = s.loadAt := Eq.trans rfl rfl
@[simp] theorem State.setIv_ivCut (u : Nat) (x : IvUnit) : (s.setIv u x).ivCut = s.ivCut := Eq.trans rfl rfl
@[simp] theorem State.setIv_scanReg (u : Nat) (x : IvUnit) : (s.setIv u x).scanReg = s.scanReg := Eq.trans rfl rfl
@[simp] theorem State.setIv_memReqs (u : Nat) (x : IvUnit) : (s.setIv u x).memReqs = s.memReqs := Eq.trans rfl rfl
@[simp] theorem State.setIv_faultHeld (u : Nat) (x : IvUnit) : (s.setIv u x).faultHeld = s.faultHeld := Eq.trans rfl rfl

/-! ### setGrp -/

@[simp] theorem State.setGrp_mem (g : Nat) (x : Group) : (s.setGrp g x).mem = s.mem := Eq.trans rfl rfl
@[simp] theorem State.setGrp_pending (g : Nat) (x : Group) : (s.setGrp g x).pending = s.pending := Eq.trans rfl rfl
@[simp] theorem State.setGrp_out (g : Nat) (x : Group) : (s.setGrp g x).out = s.out := Eq.trans rfl rfl
@[simp] theorem State.setGrp_now (g : Nat) (x : Group) : (s.setGrp g x).now = s.now := Eq.trans rfl rfl
@[simp] theorem State.setGrp_freeCtr (g : Nat) (x : Group) : (s.setGrp g x).freeCtr = s.freeCtr := Eq.trans rfl rfl
@[simp] theorem State.setGrp_epoch (g : Nat) (x : Group) : (s.setGrp g x).epoch = s.epoch := Eq.trans rfl rfl
@[simp] theorem State.setGrp_counting (g : Nat) (x : Group) : (s.setGrp g x).counting = s.counting := Eq.trans rfl rfl
@[simp] theorem State.setGrp_alm (g : Nat) (x : Group) : (s.setGrp g x).alm = s.alm := Eq.trans rfl rfl
@[simp] theorem State.setGrp_hrv (g : Nat) (x : Group) : (s.setGrp g x).hrv = s.hrv := Eq.trans rfl rfl
@[simp] theorem State.setGrp_eng (g : Nat) (x : Group) : (s.setGrp g x).eng = s.eng := Eq.trans rfl rfl
@[simp] theorem State.setGrp_streams (g : Nat) (x : Group) : (s.setGrp g x).streams = s.streams := Eq.trans rfl rfl
@[simp] theorem State.setGrp_rports (g : Nat) (x : Group) : (s.setGrp g x).rports = s.rports := Eq.trans rfl rfl
@[simp] theorem State.setGrp_imgs (g : Nat) (x : Group) : (s.setGrp g x).imgs = s.imgs := Eq.trans rfl rfl
@[simp] theorem State.setGrp_trig (g : Nat) (x : Group) : (s.setGrp g x).trig = s.trig := Eq.trans rfl rfl
@[simp] theorem State.setGrp_conj (g : Nat) (x : Group) : (s.setGrp g x).conj = s.conj := Eq.trans rfl rfl
@[simp] theorem State.setGrp_pins (g : Nat) (x : Group) : (s.setGrp g x).pins = s.pins := Eq.trans rfl rfl
@[simp] theorem State.setGrp_touts (g : Nat) (x : Group) : (s.setGrp g x).touts = s.touts := Eq.trans rfl rfl
@[simp] theorem State.setGrp_iv (g : Nat) (x : Group) : (s.setGrp g x).iv = s.iv := Eq.trans rfl rfl
@[simp] theorem State.setGrp_parts (g : Nat) (x : Group) : (s.setGrp g x).parts = s.parts := Eq.trans rfl rfl
@[simp] theorem State.setGrp_banks (g : Nat) (x : Group) : (s.setGrp g x).banks = s.banks := Eq.trans rfl rfl
@[simp] theorem State.setGrp_stackTbl (g : Nat) (x : Group) : (s.setGrp g x).stackTbl = s.stackTbl := Eq.trans rfl rfl
@[simp] theorem State.setGrp_tokens (g : Nat) (x : Group) : (s.setGrp g x).tokens = s.tokens := Eq.trans rfl rfl
@[simp] theorem State.setGrp_move (g : Nat) (x : Group) : (s.setGrp g x).move = s.move := Eq.trans rfl rfl
@[simp] theorem State.setGrp_resetStep (g : Nat) (x : Group) : (s.setGrp g x).resetStep = s.resetStep := Eq.trans rfl rfl
@[simp] theorem State.setGrp_short (g : Nat) (x : Group) : (s.setGrp g x).short = s.short := Eq.trans rfl rfl
@[simp] theorem State.setGrp_loadAt (g : Nat) (x : Group) : (s.setGrp g x).loadAt = s.loadAt := Eq.trans rfl rfl
@[simp] theorem State.setGrp_ivCut (g : Nat) (x : Group) : (s.setGrp g x).ivCut = s.ivCut := Eq.trans rfl rfl
@[simp] theorem State.setGrp_scanReg (g : Nat) (x : Group) : (s.setGrp g x).scanReg = s.scanReg := Eq.trans rfl rfl
@[simp] theorem State.setGrp_memReqs (g : Nat) (x : Group) : (s.setGrp g x).memReqs = s.memReqs := Eq.trans rfl rfl
@[simp] theorem State.setGrp_faultHeld (g : Nat) (x : Group) : (s.setGrp g x).faultHeld = s.faultHeld := Eq.trans rfl rfl

/-! ### setPart -/

@[simp] theorem State.setPart_mem (p : Nat) (x : Partition) : (s.setPart p x).mem = s.mem := Eq.trans rfl rfl
@[simp] theorem State.setPart_pending (p : Nat) (x : Partition) : (s.setPart p x).pending = s.pending := Eq.trans rfl rfl
@[simp] theorem State.setPart_out (p : Nat) (x : Partition) : (s.setPart p x).out = s.out := Eq.trans rfl rfl
@[simp] theorem State.setPart_now (p : Nat) (x : Partition) : (s.setPart p x).now = s.now := Eq.trans rfl rfl
@[simp] theorem State.setPart_freeCtr (p : Nat) (x : Partition) : (s.setPart p x).freeCtr = s.freeCtr := Eq.trans rfl rfl
@[simp] theorem State.setPart_epoch (p : Nat) (x : Partition) : (s.setPart p x).epoch = s.epoch := Eq.trans rfl rfl
@[simp] theorem State.setPart_counting (p : Nat) (x : Partition) : (s.setPart p x).counting = s.counting := Eq.trans rfl rfl
@[simp] theorem State.setPart_alm (p : Nat) (x : Partition) : (s.setPart p x).alm = s.alm := Eq.trans rfl rfl
@[simp] theorem State.setPart_hrv (p : Nat) (x : Partition) : (s.setPart p x).hrv = s.hrv := Eq.trans rfl rfl
@[simp] theorem State.setPart_eng (p : Nat) (x : Partition) : (s.setPart p x).eng = s.eng := Eq.trans rfl rfl
@[simp] theorem State.setPart_streams (p : Nat) (x : Partition) : (s.setPart p x).streams = s.streams := Eq.trans rfl rfl
@[simp] theorem State.setPart_rports (p : Nat) (x : Partition) : (s.setPart p x).rports = s.rports := Eq.trans rfl rfl
@[simp] theorem State.setPart_imgs (p : Nat) (x : Partition) : (s.setPart p x).imgs = s.imgs := Eq.trans rfl rfl
@[simp] theorem State.setPart_trig (p : Nat) (x : Partition) : (s.setPart p x).trig = s.trig := Eq.trans rfl rfl
@[simp] theorem State.setPart_conj (p : Nat) (x : Partition) : (s.setPart p x).conj = s.conj := Eq.trans rfl rfl
@[simp] theorem State.setPart_pins (p : Nat) (x : Partition) : (s.setPart p x).pins = s.pins := Eq.trans rfl rfl
@[simp] theorem State.setPart_touts (p : Nat) (x : Partition) : (s.setPart p x).touts = s.touts := Eq.trans rfl rfl
@[simp] theorem State.setPart_iv (p : Nat) (x : Partition) : (s.setPart p x).iv = s.iv := Eq.trans rfl rfl
@[simp] theorem State.setPart_groups (p : Nat) (x : Partition) : (s.setPart p x).groups = s.groups := Eq.trans rfl rfl
@[simp] theorem State.setPart_banks (p : Nat) (x : Partition) : (s.setPart p x).banks = s.banks := Eq.trans rfl rfl
@[simp] theorem State.setPart_stackTbl (p : Nat) (x : Partition) : (s.setPart p x).stackTbl = s.stackTbl := Eq.trans rfl rfl
@[simp] theorem State.setPart_tokens (p : Nat) (x : Partition) : (s.setPart p x).tokens = s.tokens := Eq.trans rfl rfl
@[simp] theorem State.setPart_move (p : Nat) (x : Partition) : (s.setPart p x).move = s.move := Eq.trans rfl rfl
@[simp] theorem State.setPart_resetStep (p : Nat) (x : Partition) : (s.setPart p x).resetStep = s.resetStep := Eq.trans rfl rfl
@[simp] theorem State.setPart_short (p : Nat) (x : Partition) : (s.setPart p x).short = s.short := Eq.trans rfl rfl
@[simp] theorem State.setPart_loadAt (p : Nat) (x : Partition) : (s.setPart p x).loadAt = s.loadAt := Eq.trans rfl rfl
@[simp] theorem State.setPart_ivCut (p : Nat) (x : Partition) : (s.setPart p x).ivCut = s.ivCut := Eq.trans rfl rfl
@[simp] theorem State.setPart_scanReg (p : Nat) (x : Partition) : (s.setPart p x).scanReg = s.scanReg := Eq.trans rfl rfl
@[simp] theorem State.setPart_memReqs (p : Nat) (x : Partition) : (s.setPart p x).memReqs = s.memReqs := Eq.trans rfl rfl
@[simp] theorem State.setPart_faultHeld (p : Nat) (x : Partition) : (s.setPart p x).faultHeld = s.faultHeld := Eq.trans rfl rfl

/-! ### setBank -/

@[simp] theorem State.setBank_mem (b : Nat) (x : BankSt) : (s.setBank b x).mem = s.mem := Eq.trans rfl rfl
@[simp] theorem State.setBank_pending (b : Nat) (x : BankSt) : (s.setBank b x).pending = s.pending := Eq.trans rfl rfl
@[simp] theorem State.setBank_out (b : Nat) (x : BankSt) : (s.setBank b x).out = s.out := Eq.trans rfl rfl
@[simp] theorem State.setBank_now (b : Nat) (x : BankSt) : (s.setBank b x).now = s.now := Eq.trans rfl rfl
@[simp] theorem State.setBank_freeCtr (b : Nat) (x : BankSt) : (s.setBank b x).freeCtr = s.freeCtr := Eq.trans rfl rfl
@[simp] theorem State.setBank_epoch (b : Nat) (x : BankSt) : (s.setBank b x).epoch = s.epoch := Eq.trans rfl rfl
@[simp] theorem State.setBank_counting (b : Nat) (x : BankSt) : (s.setBank b x).counting = s.counting := Eq.trans rfl rfl
@[simp] theorem State.setBank_alm (b : Nat) (x : BankSt) : (s.setBank b x).alm = s.alm := Eq.trans rfl rfl
@[simp] theorem State.setBank_hrv (b : Nat) (x : BankSt) : (s.setBank b x).hrv = s.hrv := Eq.trans rfl rfl
@[simp] theorem State.setBank_eng (b : Nat) (x : BankSt) : (s.setBank b x).eng = s.eng := Eq.trans rfl rfl
@[simp] theorem State.setBank_streams (b : Nat) (x : BankSt) : (s.setBank b x).streams = s.streams := Eq.trans rfl rfl
@[simp] theorem State.setBank_rports (b : Nat) (x : BankSt) : (s.setBank b x).rports = s.rports := Eq.trans rfl rfl
@[simp] theorem State.setBank_imgs (b : Nat) (x : BankSt) : (s.setBank b x).imgs = s.imgs := Eq.trans rfl rfl
@[simp] theorem State.setBank_trig (b : Nat) (x : BankSt) : (s.setBank b x).trig = s.trig := Eq.trans rfl rfl
@[simp] theorem State.setBank_conj (b : Nat) (x : BankSt) : (s.setBank b x).conj = s.conj := Eq.trans rfl rfl
@[simp] theorem State.setBank_pins (b : Nat) (x : BankSt) : (s.setBank b x).pins = s.pins := Eq.trans rfl rfl
@[simp] theorem State.setBank_touts (b : Nat) (x : BankSt) : (s.setBank b x).touts = s.touts := Eq.trans rfl rfl
@[simp] theorem State.setBank_iv (b : Nat) (x : BankSt) : (s.setBank b x).iv = s.iv := Eq.trans rfl rfl
@[simp] theorem State.setBank_groups (b : Nat) (x : BankSt) : (s.setBank b x).groups = s.groups := Eq.trans rfl rfl
@[simp] theorem State.setBank_parts (b : Nat) (x : BankSt) : (s.setBank b x).parts = s.parts := Eq.trans rfl rfl
@[simp] theorem State.setBank_stackTbl (b : Nat) (x : BankSt) : (s.setBank b x).stackTbl = s.stackTbl := Eq.trans rfl rfl
@[simp] theorem State.setBank_tokens (b : Nat) (x : BankSt) : (s.setBank b x).tokens = s.tokens := Eq.trans rfl rfl
@[simp] theorem State.setBank_move (b : Nat) (x : BankSt) : (s.setBank b x).move = s.move := Eq.trans rfl rfl
@[simp] theorem State.setBank_resetStep (b : Nat) (x : BankSt) : (s.setBank b x).resetStep = s.resetStep := Eq.trans rfl rfl
@[simp] theorem State.setBank_short (b : Nat) (x : BankSt) : (s.setBank b x).short = s.short := Eq.trans rfl rfl
@[simp] theorem State.setBank_loadAt (b : Nat) (x : BankSt) : (s.setBank b x).loadAt = s.loadAt := Eq.trans rfl rfl
@[simp] theorem State.setBank_ivCut (b : Nat) (x : BankSt) : (s.setBank b x).ivCut = s.ivCut := Eq.trans rfl rfl
@[simp] theorem State.setBank_scanReg (b : Nat) (x : BankSt) : (s.setBank b x).scanReg = s.scanReg := Eq.trans rfl rfl
@[simp] theorem State.setBank_memReqs (b : Nat) (x : BankSt) : (s.setBank b x).memReqs = s.memReqs := Eq.trans rfl rfl
@[simp] theorem State.setBank_faultHeld (b : Nat) (x : BankSt) : (s.setBank b x).faultHeld = s.faultHeld := Eq.trans rfl rfl

/-! ### setStack -/

@[simp] theorem State.setStack_mem (k : Nat) (x : Stack) : (s.setStack k x).mem = s.mem := Eq.trans rfl rfl
@[simp] theorem State.setStack_pending (k : Nat) (x : Stack) : (s.setStack k x).pending = s.pending := Eq.trans rfl rfl
@[simp] theorem State.setStack_out (k : Nat) (x : Stack) : (s.setStack k x).out = s.out := Eq.trans rfl rfl
@[simp] theorem State.setStack_now (k : Nat) (x : Stack) : (s.setStack k x).now = s.now := Eq.trans rfl rfl
@[simp] theorem State.setStack_freeCtr (k : Nat) (x : Stack) : (s.setStack k x).freeCtr = s.freeCtr := Eq.trans rfl rfl
@[simp] theorem State.setStack_epoch (k : Nat) (x : Stack) : (s.setStack k x).epoch = s.epoch := Eq.trans rfl rfl
@[simp] theorem State.setStack_counting (k : Nat) (x : Stack) : (s.setStack k x).counting = s.counting := Eq.trans rfl rfl
@[simp] theorem State.setStack_alm (k : Nat) (x : Stack) : (s.setStack k x).alm = s.alm := Eq.trans rfl rfl
@[simp] theorem State.setStack_hrv (k : Nat) (x : Stack) : (s.setStack k x).hrv = s.hrv := Eq.trans rfl rfl
@[simp] theorem State.setStack_eng (k : Nat) (x : Stack) : (s.setStack k x).eng = s.eng := Eq.trans rfl rfl
@[simp] theorem State.setStack_streams (k : Nat) (x : Stack) : (s.setStack k x).streams = s.streams := Eq.trans rfl rfl
@[simp] theorem State.setStack_rports (k : Nat) (x : Stack) : (s.setStack k x).rports = s.rports := Eq.trans rfl rfl
@[simp] theorem State.setStack_imgs (k : Nat) (x : Stack) : (s.setStack k x).imgs = s.imgs := Eq.trans rfl rfl
@[simp] theorem State.setStack_trig (k : Nat) (x : Stack) : (s.setStack k x).trig = s.trig := Eq.trans rfl rfl
@[simp] theorem State.setStack_conj (k : Nat) (x : Stack) : (s.setStack k x).conj = s.conj := Eq.trans rfl rfl
@[simp] theorem State.setStack_pins (k : Nat) (x : Stack) : (s.setStack k x).pins = s.pins := Eq.trans rfl rfl
@[simp] theorem State.setStack_touts (k : Nat) (x : Stack) : (s.setStack k x).touts = s.touts := Eq.trans rfl rfl
@[simp] theorem State.setStack_iv (k : Nat) (x : Stack) : (s.setStack k x).iv = s.iv := Eq.trans rfl rfl
@[simp] theorem State.setStack_groups (k : Nat) (x : Stack) : (s.setStack k x).groups = s.groups := Eq.trans rfl rfl
@[simp] theorem State.setStack_parts (k : Nat) (x : Stack) : (s.setStack k x).parts = s.parts := Eq.trans rfl rfl
@[simp] theorem State.setStack_banks (k : Nat) (x : Stack) : (s.setStack k x).banks = s.banks := Eq.trans rfl rfl
@[simp] theorem State.setStack_tokens (k : Nat) (x : Stack) : (s.setStack k x).tokens = s.tokens := Eq.trans rfl rfl
@[simp] theorem State.setStack_move (k : Nat) (x : Stack) : (s.setStack k x).move = s.move := Eq.trans rfl rfl
@[simp] theorem State.setStack_resetStep (k : Nat) (x : Stack) : (s.setStack k x).resetStep = s.resetStep := Eq.trans rfl rfl
@[simp] theorem State.setStack_short (k : Nat) (x : Stack) : (s.setStack k x).short = s.short := Eq.trans rfl rfl
@[simp] theorem State.setStack_loadAt (k : Nat) (x : Stack) : (s.setStack k x).loadAt = s.loadAt := Eq.trans rfl rfl
@[simp] theorem State.setStack_ivCut (k : Nat) (x : Stack) : (s.setStack k x).ivCut = s.ivCut := Eq.trans rfl rfl
@[simp] theorem State.setStack_scanReg (k : Nat) (x : Stack) : (s.setStack k x).scanReg = s.scanReg := Eq.trans rfl rfl
@[simp] theorem State.setStack_memReqs (k : Nat) (x : Stack) : (s.setStack k x).memReqs = s.memReqs := Eq.trans rfl rfl
@[simp] theorem State.setStack_faultHeld (k : Nat) (x : Stack) : (s.setStack k x).faultHeld = s.faultHeld := Eq.trans rfl rfl

/-! ### setTok -/

@[simp] theorem State.setTok_mem (p v : Nat) : (s.setTok p v).mem = s.mem := Eq.trans rfl rfl
@[simp] theorem State.setTok_pending (p v : Nat) : (s.setTok p v).pending = s.pending := Eq.trans rfl rfl
@[simp] theorem State.setTok_out (p v : Nat) : (s.setTok p v).out = s.out := Eq.trans rfl rfl
@[simp] theorem State.setTok_now (p v : Nat) : (s.setTok p v).now = s.now := Eq.trans rfl rfl
@[simp] theorem State.setTok_freeCtr (p v : Nat) : (s.setTok p v).freeCtr = s.freeCtr := Eq.trans rfl rfl
@[simp] theorem State.setTok_epoch (p v : Nat) : (s.setTok p v).epoch = s.epoch := Eq.trans rfl rfl
@[simp] theorem State.setTok_counting (p v : Nat) : (s.setTok p v).counting = s.counting := Eq.trans rfl rfl
@[simp] theorem State.setTok_alm (p v : Nat) : (s.setTok p v).alm = s.alm := Eq.trans rfl rfl
@[simp] theorem State.setTok_hrv (p v : Nat) : (s.setTok p v).hrv = s.hrv := Eq.trans rfl rfl
@[simp] theorem State.setTok_eng (p v : Nat) : (s.setTok p v).eng = s.eng := Eq.trans rfl rfl
@[simp] theorem State.setTok_streams (p v : Nat) : (s.setTok p v).streams = s.streams := Eq.trans rfl rfl
@[simp] theorem State.setTok_rports (p v : Nat) : (s.setTok p v).rports = s.rports := Eq.trans rfl rfl
@[simp] theorem State.setTok_imgs (p v : Nat) : (s.setTok p v).imgs = s.imgs := Eq.trans rfl rfl
@[simp] theorem State.setTok_trig (p v : Nat) : (s.setTok p v).trig = s.trig := Eq.trans rfl rfl
@[simp] theorem State.setTok_conj (p v : Nat) : (s.setTok p v).conj = s.conj := Eq.trans rfl rfl
@[simp] theorem State.setTok_pins (p v : Nat) : (s.setTok p v).pins = s.pins := Eq.trans rfl rfl
@[simp] theorem State.setTok_touts (p v : Nat) : (s.setTok p v).touts = s.touts := Eq.trans rfl rfl
@[simp] theorem State.setTok_iv (p v : Nat) : (s.setTok p v).iv = s.iv := Eq.trans rfl rfl
@[simp] theorem State.setTok_groups (p v : Nat) : (s.setTok p v).groups = s.groups := Eq.trans rfl rfl
@[simp] theorem State.setTok_parts (p v : Nat) : (s.setTok p v).parts = s.parts := Eq.trans rfl rfl
@[simp] theorem State.setTok_banks (p v : Nat) : (s.setTok p v).banks = s.banks := Eq.trans rfl rfl
@[simp] theorem State.setTok_stackTbl (p v : Nat) : (s.setTok p v).stackTbl = s.stackTbl := Eq.trans rfl rfl
@[simp] theorem State.setTok_move (p v : Nat) : (s.setTok p v).move = s.move := Eq.trans rfl rfl
@[simp] theorem State.setTok_resetStep (p v : Nat) : (s.setTok p v).resetStep = s.resetStep := Eq.trans rfl rfl
@[simp] theorem State.setTok_short (p v : Nat) : (s.setTok p v).short = s.short := Eq.trans rfl rfl
@[simp] theorem State.setTok_loadAt (p v : Nat) : (s.setTok p v).loadAt = s.loadAt := Eq.trans rfl rfl
@[simp] theorem State.setTok_ivCut (p v : Nat) : (s.setTok p v).ivCut = s.ivCut := Eq.trans rfl rfl
@[simp] theorem State.setTok_scanReg (p v : Nat) : (s.setTok p v).scanReg = s.scanReg := Eq.trans rfl rfl
@[simp] theorem State.setTok_memReqs (p v : Nat) : (s.setTok p v).memReqs = s.memReqs := Eq.trans rfl rfl
@[simp] theorem State.setTok_faultHeld (p v : Nat) : (s.setTok p v).faultHeld = s.faultHeld := Eq.trans rfl rfl

/-! ### emit -/

@[simp] theorem State.emit_mem (x : Out) : (s.emit x).mem = s.mem := Eq.trans rfl rfl
@[simp] theorem State.emit_pending (x : Out) : (s.emit x).pending = s.pending := Eq.trans rfl rfl
@[simp] theorem State.emit_now (x : Out) : (s.emit x).now = s.now := Eq.trans rfl rfl
@[simp] theorem State.emit_freeCtr (x : Out) : (s.emit x).freeCtr = s.freeCtr := Eq.trans rfl rfl
@[simp] theorem State.emit_epoch (x : Out) : (s.emit x).epoch = s.epoch := Eq.trans rfl rfl
@[simp] theorem State.emit_counting (x : Out) : (s.emit x).counting = s.counting := Eq.trans rfl rfl
@[simp] theorem State.emit_alm (x : Out) : (s.emit x).alm = s.alm := Eq.trans rfl rfl
@[simp] theorem State.emit_hrv (x : Out) : (s.emit x).hrv = s.hrv := Eq.trans rfl rfl
@[simp] theorem State.emit_eng (x : Out) : (s.emit x).eng = s.eng := Eq.trans rfl rfl
@[simp] theorem State.emit_streams (x : Out) : (s.emit x).streams = s.streams := Eq.trans rfl rfl
@[simp] theorem State.emit_rports (x : Out) : (s.emit x).rports = s.rports := Eq.trans rfl rfl
@[simp] theorem State.emit_imgs (x : Out) : (s.emit x).imgs = s.imgs := Eq.trans rfl rfl
@[simp] theorem State.emit_trig (x : Out) : (s.emit x).trig = s.trig := Eq.trans rfl rfl
@[simp] theorem State.emit_conj (x : Out) : (s.emit x).conj = s.conj := Eq.trans rfl rfl
@[simp] theorem State.emit_pins (x : Out) : (s.emit x).pins = s.pins := Eq.trans rfl rfl
@[simp] theorem State.emit_touts (x : Out) : (s.emit x).touts = s.touts := Eq.trans rfl rfl
@[simp] theorem State.emit_iv (x : Out) : (s.emit x).iv = s.iv := Eq.trans rfl rfl
@[simp] theorem State.emit_groups (x : Out) : (s.emit x).groups = s.groups := Eq.trans rfl rfl
@[simp] theorem State.emit_parts (x : Out) : (s.emit x).parts = s.parts := Eq.trans rfl rfl
@[simp] theorem State.emit_banks (x : Out) : (s.emit x).banks = s.banks := Eq.trans rfl rfl
@[simp] theorem State.emit_stackTbl (x : Out) : (s.emit x).stackTbl = s.stackTbl := Eq.trans rfl rfl
@[simp] theorem State.emit_tokens (x : Out) : (s.emit x).tokens = s.tokens := Eq.trans rfl rfl
@[simp] theorem State.emit_move (x : Out) : (s.emit x).move = s.move := Eq.trans rfl rfl
@[simp] theorem State.emit_resetStep (x : Out) : (s.emit x).resetStep = s.resetStep := Eq.trans rfl rfl
@[simp] theorem State.emit_short (x : Out) : (s.emit x).short = s.short := Eq.trans rfl rfl
@[simp] theorem State.emit_loadAt (x : Out) : (s.emit x).loadAt = s.loadAt := Eq.trans rfl rfl
@[simp] theorem State.emit_ivCut (x : Out) : (s.emit x).ivCut = s.ivCut := Eq.trans rfl rfl
@[simp] theorem State.emit_scanReg (x : Out) : (s.emit x).scanReg = s.scanReg := Eq.trans rfl rfl
@[simp] theorem State.emit_memReqs (x : Out) : (s.emit x).memReqs = s.memReqs := Eq.trans rfl rfl
@[simp] theorem State.emit_faultHeld (x : Out) : (s.emit x).faultHeld = s.faultHeld := Eq.trans rfl rfl

/-! ### The start of a command -/

/-- What a load of the Epoch that has come due leaves alone: all but the Epoch, the instants that move with it and two bits of the
registers (R85, R88). -/
theorem State.loadDue_keep {α : Type} (p : State → α) (hb : ∀ (s : State) b x, p (s.setBank b x) = p s)
    (ht : ∀ (s : State) u x, p (s.setTrig u x) = p s) (hr : ∀ (s : State) o i v, p (s.setBit o i v) = p s)
    (he : ∀ (s : State) e, p { s with epoch := e, softAt := none, ovrSeen := [], satSeen := [] } = p s)
    (hl : ∀ (s : State), p { s with loadAt := none } = p s) : p s.loadDue = p s := by
  have hf : ∀ (f : State → Nat → State), (∀ s a, p (f s a) = p s) → ∀ (l : List Nat) (s : State), p (s.forAll l f) = p s := by
    intro f h l
    induction l with
    | nil => intro s; rfl
    | cons a r ih => intro s; exact (ih (f s a)).trans (h s a)
  have hm : ∀ (s : State) t, p (s.moveEpoch t) = p s := by
    intro s t
    rw [State.moveEpoch, he, hf _ (fun s u => ht s u _), hf _ (fun s b => hb s b _)]
  rw [State.loadDue]
  split
  · rfl
  · split
    · rfl
    · dsimp only
      split
      · rw [hr, hm, hr, hl]
      · rw [hr, hl]

/-- What the start of a command leaves alone besides. -/
theorem State.start_keep {α : Type} (p : State → α) (hb : ∀ (s : State) b x, p (s.setBank b x) = p s)
    (ht : ∀ (s : State) u x, p (s.setTrig u x) = p s) (hr : ∀ (s : State) o i v, p (s.setBit o i v) = p s)
    (he : ∀ (s : State) e, p { s with epoch := e, softAt := none, ovrSeen := [], satSeen := [] } = p s)
    (hl : ∀ (s : State), p { s with loadAt := none } = p s)
    (ha : ∀ (s : State) n e, p { s with now := n, epoch := e } = p s)
    (ho : ∀ (s : State) n, p { s with out := [], idleSince := n } = p s) (dt : Nat) : p (s.start dt) = p s := by
  rw [State.start, ho, State.loadDue_keep _ p hb ht hr he hl, State.advance, ha]

@[simp] theorem State.start_pending (dt : Nat) : (s.start dt).pending = s.pending :=
  s.start_keep State.pending (fun _ _ _ => rfl) (fun _ _ _ => rfl) (fun _ _ _ _ => rfl) (fun _ _ => rfl) (fun _ => rfl) (fun _ _ _ => rfl) (fun _ _ => rfl) dt
@[simp] theorem State.start_freeCtr (dt : Nat) : (s.start dt).freeCtr = s.freeCtr :=
  s.start_keep State.freeCtr (fun _ _ _ => rfl) (fun _ _ _ => rfl) (fun _ _ _ _ => rfl) (fun _ _ => rfl) (fun _ => rfl) (fun _ _ _ => rfl) (fun _ _ => rfl) dt
@[simp] theorem State.start_latches (dt : Nat) : (s.start dt).latches = s.latches :=
  s.start_keep State.latches (fun _ _ _ => rfl) (fun _ _ _ => rfl) (fun _ _ _ _ => rfl) (fun _ _ => rfl) (fun _ => rfl) (fun _ _ _ => rfl) (fun _ _ => rfl) dt
@[simp] theorem State.start_heldWords (dt : Nat) : (s.start dt).heldWords = s.heldWords :=
  s.start_keep State.heldWords (fun _ _ _ => rfl) (fun _ _ _ => rfl) (fun _ _ _ _ => rfl) (fun _ _ => rfl) (fun _ => rfl) (fun _ _ _ => rfl) (fun _ _ => rfl) dt
@[simp] theorem State.start_counting (dt : Nat) : (s.start dt).counting = s.counting :=
  s.start_keep State.counting (fun _ _ _ => rfl) (fun _ _ _ => rfl) (fun _ _ _ _ => rfl) (fun _ _ => rfl) (fun _ => rfl) (fun _ _ _ => rfl) (fun _ _ => rfl) dt
@[simp] theorem State.start_coreLocked (dt : Nat) : (s.start dt).coreLocked = s.coreLocked :=
  s.start_keep State.coreLocked (fun _ _ _ => rfl) (fun _ _ _ => rfl) (fun _ _ _ _ => rfl) (fun _ _ => rfl) (fun _ => rfl) (fun _ _ _ => rfl) (fun _ _ => rfl) dt
@[simp] theorem State.start_sampleLocked (dt : Nat) : (s.start dt).sampleLocked = s.sampleLocked :=
  s.start_keep State.sampleLocked (fun _ _ _ => rfl) (fun _ _ _ => rfl) (fun _ _ _ _ => rfl) (fun _ _ => rfl) (fun _ => rfl) (fun _ _ _ => rfl) (fun _ _ => rfl) dt
@[simp] theorem State.start_aonEpoch (dt : Nat) : (s.start dt).aonEpoch = s.aonEpoch :=
  s.start_keep State.aonEpoch (fun _ _ _ => rfl) (fun _ _ _ => rfl) (fun _ _ _ _ => rfl) (fun _ _ => rfl) (fun _ => rfl) (fun _ _ _ => rfl) (fun _ _ => rfl) dt
@[simp] theorem State.start_aonAt (dt : Nat) : (s.start dt).aonAt = s.aonAt :=
  s.start_keep State.aonAt (fun _ _ _ => rfl) (fun _ _ _ => rfl) (fun _ _ _ _ => rfl) (fun _ _ => rfl) (fun _ => rfl) (fun _ _ _ => rfl) (fun _ _ => rfl) dt
@[simp] theorem State.start_aonRc (dt : Nat) : (s.start dt).aonRc = s.aonRc :=
  s.start_keep State.aonRc (fun _ _ _ => rfl) (fun _ _ _ => rfl) (fun _ _ _ _ => rfl) (fun _ _ => rfl) (fun _ => rfl) (fun _ _ _ => rfl) (fun _ _ => rfl) dt
@[simp] theorem State.start_relockAt (dt : Nat) : (s.start dt).relockAt = s.relockAt :=
  s.start_keep State.relockAt (fun _ _ _ => rfl) (fun _ _ _ => rfl) (fun _ _ _ _ => rfl) (fun _ _ => rfl) (fun _ => rfl) (fun _ _ _ => rfl) (fun _ _ => rfl) dt
@[simp] theorem State.start_ppsPrev (dt : Nat) : (s.start dt).ppsPrev = s.ppsPrev :=
  s.start_keep State.ppsPrev (fun _ _ _ => rfl) (fun _ _ _ => rfl) (fun _ _ _ _ => rfl) (fun _ _ => rfl) (fun _ => rfl) (fun _ _ _ => rfl) (fun _ _ => rfl) dt
@[simp] theorem State.start_ppsLast (dt : Nat) : (s.start dt).ppsLast = s.ppsLast :=
  s.start_keep State.ppsLast (fun _ _ _ => rfl) (fun _ _ _ => rfl) (fun _ _ _ _ => rfl) (fun _ _ => rfl) (fun _ => rfl) (fun _ _ _ => rfl) (fun _ _ => rfl) dt
@[simp] theorem State.start_ppsGood (dt : Nat) : (s.start dt).ppsGood = s.ppsGood :=
  s.start_keep State.ppsGood (fun _ _ _ => rfl) (fun _ _ _ => rfl) (fun _ _ _ _ => rfl) (fun _ _ => rfl) (fun _ => rfl) (fun _ _ _ => rfl) (fun _ _ => rfl) dt
@[simp] theorem State.start_iv (dt : Nat) : (s.start dt).iv = s.iv :=
  s.start_keep State.iv (fun _ _ _ => rfl) (fun _ _ _ => rfl) (fun _ _ _ _ => rfl) (fun _ _ => rfl) (fun _ => rfl) (fun _ _ _ => rfl) (fun _ _ => rfl) dt
@[simp] theorem State.start_ivCut (dt : Nat) : (s.start dt).ivCut = s.ivCut :=
  s.start_keep State.ivCut (fun _ _ _ => rfl) (fun _ _ _ => rfl) (fun _ _ _ _ => rfl) (fun _ _ => rfl) (fun _ => rfl) (fun _ _ _ => rfl) (fun _ _ => rfl) dt
@[simp] theorem State.start_conj (dt : Nat) : (s.start dt).conj = s.conj :=
  s.start_keep State.conj (fun _ _ _ => rfl) (fun _ _ _ => rfl) (fun _ _ _ _ => rfl) (fun _ _ => rfl) (fun _ => rfl) (fun _ _ _ => rfl) (fun _ _ => rfl) dt
@[simp] theorem State.start_pins (dt : Nat) : (s.start dt).pins = s.pins :=
  s.start_keep State.pins (fun _ _ _ => rfl) (fun _ _ _ => rfl) (fun _ _ _ _ => rfl) (fun _ _ => rfl) (fun _ => rfl) (fun _ _ _ => rfl) (fun _ _ => rfl) dt
@[simp] theorem State.start_touts (dt : Nat) : (s.start dt).touts = s.touts :=
  s.start_keep State.touts (fun _ _ _ => rfl) (fun _ _ _ => rfl) (fun _ _ _ _ => rfl) (fun _ _ => rfl) (fun _ => rfl) (fun _ _ _ => rfl) (fun _ _ => rfl) dt
@[simp] theorem State.start_fabric (dt : Nat) : (s.start dt).fabric = s.fabric :=
  s.start_keep State.fabric (fun _ _ _ => rfl) (fun _ _ _ => rfl) (fun _ _ _ _ => rfl) (fun _ _ => rfl) (fun _ => rfl) (fun _ _ _ => rfl) (fun _ _ => rfl) dt
@[simp] theorem State.start_rlineAt (dt : Nat) : (s.start dt).rlineAt = s.rlineAt :=
  s.start_keep State.rlineAt (fun _ _ _ => rfl) (fun _ _ _ => rfl) (fun _ _ _ _ => rfl) (fun _ _ => rfl) (fun _ => rfl) (fun _ _ _ => rfl) (fun _ _ => rfl) dt
@[simp] theorem State.start_alm (dt : Nat) : (s.start dt).alm = s.alm :=
  s.start_keep State.alm (fun _ _ _ => rfl) (fun _ _ _ => rfl) (fun _ _ _ _ => rfl) (fun _ _ => rfl) (fun _ => rfl) (fun _ _ _ => rfl) (fun _ _ => rfl) dt
@[simp] theorem State.start_check (dt : Nat) : (s.start dt).check = s.check :=
  s.start_keep State.check (fun _ _ _ => rfl) (fun _ _ _ => rfl) (fun _ _ _ _ => rfl) (fun _ _ => rfl) (fun _ => rfl) (fun _ _ _ => rfl) (fun _ _ => rfl) dt
@[simp] theorem State.start_nextAlm (dt : Nat) : (s.start dt).nextAlm = s.nextAlm :=
  s.start_keep State.nextAlm (fun _ _ _ => rfl) (fun _ _ _ => rfl) (fun _ _ _ _ => rfl) (fun _ _ => rfl) (fun _ => rfl) (fun _ _ _ => rfl) (fun _ _ => rfl) dt
@[simp] theorem State.start_reloadWait (dt : Nat) : (s.start dt).reloadWait = s.reloadWait :=
  s.start_keep State.reloadWait (fun _ _ _ => rfl) (fun _ _ _ => rfl) (fun _ _ _ _ => rfl) (fun _ _ => rfl) (fun _ => rfl) (fun _ _ _ => rfl) (fun _ _ => rfl) dt
@[simp] theorem State.start_reloadAt (dt : Nat) : (s.start dt).reloadAt = s.reloadAt :=
  s.start_keep State.reloadAt (fun _ _ _ => rfl) (fun _ _ _ => rfl) (fun _ _ _ _ => rfl) (fun _ _ => rfl) (fun _ => rfl) (fun _ _ _ => rfl) (fun _ _ => rfl) dt
@[simp] theorem State.start_reloadGaps (dt : Nat) : (s.start dt).reloadGaps = s.reloadGaps :=
  s.start_keep State.reloadGaps (fun _ _ _ => rfl) (fun _ _ _ => rfl) (fun _ _ _ _ => rfl) (fun _ _ => rfl) (fun _ => rfl) (fun _ _ _ => rfl) (fun _ _ => rfl) dt
@[simp] theorem State.start_reloadRearm (dt : Nat) : (s.start dt).reloadRearm = s.reloadRearm :=
  s.start_keep State.reloadRearm (fun _ _ _ => rfl) (fun _ _ _ => rfl) (fun _ _ _ _ => rfl) (fun _ _ => rfl) (fun _ => rfl) (fun _ _ _ => rfl) (fun _ _ => rfl) dt
@[simp] theorem State.start_lateGaps (dt : Nat) : (s.start dt).lateGaps = s.lateGaps :=
  s.start_keep State.lateGaps (fun _ _ _ => rfl) (fun _ _ _ => rfl) (fun _ _ _ _ => rfl) (fun _ _ => rfl) (fun _ => rfl) (fun _ _ _ => rfl) (fun _ _ => rfl) dt
@[simp] theorem State.start_groups (dt : Nat) : (s.start dt).groups = s.groups :=
  s.start_keep State.groups (fun _ _ _ => rfl) (fun _ _ _ => rfl) (fun _ _ _ _ => rfl) (fun _ _ => rfl) (fun _ => rfl) (fun _ _ _ => rfl) (fun _ _ => rfl) dt
@[simp] theorem State.start_parts (dt : Nat) : (s.start dt).parts = s.parts :=
  s.start_keep State.parts (fun _ _ _ => rfl) (fun _ _ _ => rfl) (fun _ _ _ _ => rfl) (fun _ _ => rfl) (fun _ => rfl) (fun _ _ _ => rfl) (fun _ _ => rfl) dt
@[simp] theorem State.start_tokens (dt : Nat) : (s.start dt).tokens = s.tokens :=
  s.start_keep State.tokens (fun _ _ _ => rfl) (fun _ _ _ => rfl) (fun _ _ _ _ => rfl) (fun _ _ => rfl) (fun _ => rfl) (fun _ _ _ => rfl) (fun _ _ => rfl) dt
@[simp] theorem State.start_short (dt : Nat) : (s.start dt).short = s.short :=
  s.start_keep State.short (fun _ _ _ => rfl) (fun _ _ _ => rfl) (fun _ _ _ _ => rfl) (fun _ _ => rfl) (fun _ => rfl) (fun _ _ _ => rfl) (fun _ _ => rfl) dt
@[simp] theorem State.start_lost (dt : Nat) : (s.start dt).lost = s.lost :=
  s.start_keep State.lost (fun _ _ _ => rfl) (fun _ _ _ => rfl) (fun _ _ _ _ => rfl) (fun _ _ => rfl) (fun _ => rfl) (fun _ _ _ => rfl) (fun _ _ => rfl) dt
@[simp] theorem State.start_foldQueue (dt : Nat) : (s.start dt).foldQueue = s.foldQueue :=
  s.start_keep State.foldQueue (fun _ _ _ => rfl) (fun _ _ _ => rfl) (fun _ _ _ _ => rfl) (fun _ _ => rfl) (fun _ => rfl) (fun _ _ _ => rfl) (fun _ _ => rfl) dt
@[simp] theorem State.start_foldAt (dt : Nat) : (s.start dt).foldAt = s.foldAt :=
  s.start_keep State.foldAt (fun _ _ _ => rfl) (fun _ _ _ => rfl) (fun _ _ _ _ => rfl) (fun _ _ => rfl) (fun _ => rfl) (fun _ _ _ => rfl) (fun _ _ => rfl) dt
@[simp] theorem State.start_heldSteward (dt : Nat) : (s.start dt).heldSteward = s.heldSteward :=
  s.start_keep State.heldSteward (fun _ _ _ => rfl) (fun _ _ _ => rfl) (fun _ _ _ _ => rfl) (fun _ _ => rfl) (fun _ => rfl) (fun _ _ _ => rfl) (fun _ _ => rfl) dt
@[simp] theorem State.start_stackTbl (dt : Nat) : (s.start dt).stackTbl = s.stackTbl :=
  s.start_keep State.stackTbl (fun _ _ _ => rfl) (fun _ _ _ => rfl) (fun _ _ _ _ => rfl) (fun _ _ => rfl) (fun _ => rfl) (fun _ _ _ => rfl) (fun _ _ => rfl) dt
@[simp] theorem State.start_tileRaw (dt : Nat) : (s.start dt).tileRaw = s.tileRaw :=
  s.start_keep State.tileRaw (fun _ _ _ => rfl) (fun _ _ _ => rfl) (fun _ _ _ _ => rfl) (fun _ _ => rfl) (fun _ => rfl) (fun _ _ _ => rfl) (fun _ _ => rfl) dt
@[simp] theorem State.start_calRun (dt : Nat) : (s.start dt).calRun = s.calRun :=
  s.start_keep State.calRun (fun _ _ _ => rfl) (fun _ _ _ => rfl) (fun _ _ _ _ => rfl) (fun _ _ => rfl) (fun _ => rfl) (fun _ _ _ => rfl) (fun _ _ => rfl) dt
@[simp] theorem State.start_calLast (dt : Nat) : (s.start dt).calLast = s.calLast :=
  s.start_keep State.calLast (fun _ _ _ => rfl) (fun _ _ _ => rfl) (fun _ _ _ _ => rfl) (fun _ _ => rfl) (fun _ => rfl) (fun _ _ _ => rfl) (fun _ _ => rfl) dt
@[simp] theorem State.start_calModeBanks (dt : Nat) : (s.start dt).calModeBanks = s.calModeBanks :=
  s.start_keep State.calModeBanks (fun _ _ _ => rfl) (fun _ _ _ => rfl) (fun _ _ _ _ => rfl) (fun _ _ => rfl) (fun _ => rfl) (fun _ _ _ => rfl) (fun _ _ => rfl) dt
@[simp] theorem State.start_seasons (dt : Nat) : (s.start dt).seasons = s.seasons :=
  s.start_keep State.seasons (fun _ _ _ => rfl) (fun _ _ _ => rfl) (fun _ _ _ _ => rfl) (fun _ _ => rfl) (fun _ => rfl) (fun _ _ _ => rfl) (fun _ _ => rfl) dt
@[simp] theorem State.start_calAsked (dt : Nat) : (s.start dt).calAsked = s.calAsked :=
  s.start_keep State.calAsked (fun _ _ _ => rfl) (fun _ _ _ => rfl) (fun _ _ _ _ => rfl) (fun _ _ => rfl) (fun _ => rfl) (fun _ _ _ => rfl) (fun _ _ => rfl) dt
@[simp] theorem State.start_feCorr (dt : Nat) : (s.start dt).feCorr = s.feCorr :=
  s.start_keep State.feCorr (fun _ _ _ => rfl) (fun _ _ _ => rfl) (fun _ _ _ _ => rfl) (fun _ _ => rfl) (fun _ => rfl) (fun _ _ _ => rfl) (fun _ _ => rfl) dt
@[simp] theorem State.start_seasonJob (dt : Nat) : (s.start dt).seasonJob = s.seasonJob :=
  s.start_keep State.seasonJob (fun _ _ _ => rfl) (fun _ _ _ => rfl) (fun _ _ _ _ => rfl) (fun _ _ => rfl) (fun _ => rfl) (fun _ _ _ => rfl) (fun _ _ => rfl) dt
@[simp] theorem State.start_scrubbed (dt : Nat) : (s.start dt).scrubbed = s.scrubbed :=
  s.start_keep State.scrubbed (fun _ _ _ => rfl) (fun _ _ _ => rfl) (fun _ _ _ _ => rfl) (fun _ _ => rfl) (fun _ => rfl) (fun _ _ _ => rfl) (fun _ _ => rfl) dt
@[simp] theorem State.start_scrubAt (dt : Nat) : (s.start dt).scrubAt = s.scrubAt :=
  s.start_keep State.scrubAt (fun _ _ _ => rfl) (fun _ _ _ => rfl) (fun _ _ _ _ => rfl) (fun _ _ => rfl) (fun _ => rfl) (fun _ _ _ => rfl) (fun _ _ => rfl) dt
@[simp] theorem State.start_memReqs (dt : Nat) : (s.start dt).memReqs = s.memReqs :=
  s.start_keep State.memReqs (fun _ _ _ => rfl) (fun _ _ _ => rfl) (fun _ _ _ _ => rfl) (fun _ _ => rfl) (fun _ => rfl) (fun _ _ _ => rfl) (fun _ _ => rfl) dt
@[simp] theorem State.start_fltWin (dt : Nat) : (s.start dt).fltWin = s.fltWin :=
  s.start_keep State.fltWin (fun _ _ _ => rfl) (fun _ _ _ => rfl) (fun _ _ _ _ => rfl) (fun _ _ => rfl) (fun _ => rfl) (fun _ _ _ => rfl) (fun _ _ => rfl) dt
@[simp] theorem State.start_fltGrace (dt : Nat) : (s.start dt).fltGrace = s.fltGrace :=
  s.start_keep State.fltGrace (fun _ _ _ => rfl) (fun _ _ _ => rfl) (fun _ _ _ _ => rfl) (fun _ _ => rfl) (fun _ => rfl) (fun _ _ _ => rfl) (fun _ _ => rfl) dt
@[simp] theorem State.start_fltBanks (dt : Nat) : (s.start dt).fltBanks = s.fltBanks :=
  s.start_keep State.fltBanks (fun _ _ _ => rfl) (fun _ _ _ => rfl) (fun _ _ _ _ => rfl) (fun _ _ => rfl) (fun _ => rfl) (fun _ _ _ => rfl) (fun _ _ => rfl) dt
@[simp] theorem State.start_safeHoldAt (dt : Nat) : (s.start dt).safeHoldAt = s.safeHoldAt :=
  s.start_keep State.safeHoldAt (fun _ _ _ => rfl) (fun _ _ _ => rfl) (fun _ _ _ _ => rfl) (fun _ _ => rfl) (fun _ => rfl) (fun _ _ _ => rfl) (fun _ _ => rfl) dt
@[simp] theorem State.start_holdDue (dt : Nat) : (s.start dt).holdDue = s.holdDue :=
  s.start_keep State.holdDue (fun _ _ _ => rfl) (fun _ _ _ => rfl) (fun _ _ _ _ => rfl) (fun _ _ => rfl) (fun _ => rfl) (fun _ _ _ => rfl) (fun _ _ => rfl) dt
@[simp] theorem State.start_move (dt : Nat) : (s.start dt).move = s.move :=
  s.start_keep State.move (fun _ _ _ => rfl) (fun _ _ _ => rfl) (fun _ _ _ _ => rfl) (fun _ _ => rfl) (fun _ => rfl) (fun _ _ _ => rfl) (fun _ _ => rfl) dt
@[simp] theorem State.start_resetStep (dt : Nat) : (s.start dt).resetStep = s.resetStep :=
  s.start_keep State.resetStep (fun _ _ _ => rfl) (fun _ _ _ => rfl) (fun _ _ _ _ => rfl) (fun _ _ => rfl) (fun _ => rfl) (fun _ _ _ => rfl) (fun _ _ => rfl) dt
@[simp] theorem State.start_resetAt (dt : Nat) : (s.start dt).resetAt = s.resetAt :=
  s.start_keep State.resetAt (fun _ _ _ => rfl) (fun _ _ _ => rfl) (fun _ _ _ _ => rfl) (fun _ _ => rfl) (fun _ => rfl) (fun _ _ _ => rfl) (fun _ _ => rfl) dt
@[simp] theorem State.start_gaps (dt : Nat) : (s.start dt).gaps = s.gaps :=
  s.start_keep State.gaps (fun _ _ _ => rfl) (fun _ _ _ => rfl) (fun _ _ _ _ => rfl) (fun _ _ => rfl) (fun _ => rfl) (fun _ _ _ => rfl) (fun _ _ => rfl) dt
@[simp] theorem State.start_restartDue (dt : Nat) : (s.start dt).restartDue = s.restartDue :=
  s.start_keep State.restartDue (fun _ _ _ => rfl) (fun _ _ _ => rfl) (fun _ _ _ _ => rfl) (fun _ _ => rfl) (fun _ => rfl) (fun _ _ _ => rfl) (fun _ _ => rfl) dt
@[simp] theorem State.start_lostDue (dt : Nat) : (s.start dt).lostDue = s.lostDue :=
  s.start_keep State.lostDue (fun _ _ _ => rfl) (fun _ _ _ => rfl) (fun _ _ _ _ => rfl) (fun _ _ => rfl) (fun _ => rfl) (fun _ _ _ => rfl) (fun _ _ => rfl) dt
@[simp] theorem State.start_ledgerMem (dt : Nat) : (s.start dt).ledgerMem = s.ledgerMem :=
  s.start_keep State.ledgerMem (fun _ _ _ => rfl) (fun _ _ _ => rfl) (fun _ _ _ _ => rfl) (fun _ _ => rfl) (fun _ => rfl) (fun _ _ _ => rfl) (fun _ _ => rfl) dt
@[simp] theorem State.start_journal (dt : Nat) : (s.start dt).journal = s.journal :=
  s.start_keep State.journal (fun _ _ _ => rfl) (fun _ _ _ => rfl) (fun _ _ _ _ => rfl) (fun _ _ => rfl) (fun _ => rfl) (fun _ _ _ => rfl) (fun _ _ => rfl) dt
@[simp] theorem State.start_tripped (dt : Nat) : (s.start dt).tripped = s.tripped :=
  s.start_keep State.tripped (fun _ _ _ => rfl) (fun _ _ _ => rfl) (fun _ _ _ _ => rfl) (fun _ _ => rfl) (fun _ => rfl) (fun _ _ _ => rfl) (fun _ _ => rfl) dt
@[simp] theorem State.start_throttleOk (dt : Nat) : (s.start dt).throttleOk = s.throttleOk :=
  s.start_keep State.throttleOk (fun _ _ _ => rfl) (fun _ _ _ => rfl) (fun _ _ _ _ => rfl) (fun _ _ => rfl) (fun _ => rfl) (fun _ _ _ => rfl) (fun _ _ => rfl) dt
@[simp] theorem State.start_pfAt (dt : Nat) : (s.start dt).pfAt = s.pfAt :=
  s.start_keep State.pfAt (fun _ _ _ => rfl) (fun _ _ _ => rfl) (fun _ _ _ _ => rfl) (fun _ _ => rfl) (fun _ => rfl) (fun _ _ _ => rfl) (fun _ _ => rfl) dt
@[simp] theorem State.start_progressAt (dt : Nat) : (s.start dt).progressAt = s.progressAt :=
  s.start_keep State.progressAt (fun _ _ _ => rfl) (fun _ _ _ => rfl) (fun _ _ _ _ => rfl) (fun _ _ => rfl) (fun _ => rfl) (fun _ _ _ => rfl) (fun _ _ => rfl) dt
@[simp] theorem State.start_faultHeld (dt : Nat) : (s.start dt).faultHeld = s.faultHeld :=
  s.start_keep State.faultHeld (fun _ _ _ => rfl) (fun _ _ _ => rfl) (fun _ _ _ _ => rfl) (fun _ _ => rfl) (fun _ => rfl) (fun _ _ _ => rfl) (fun _ _ => rfl) dt
@[simp] theorem State.start_marks (dt : Nat) : (s.start dt).marks = s.marks :=
  s.start_keep State.marks (fun _ _ _ => rfl) (fun _ _ _ => rfl) (fun _ _ _ _ => rfl) (fun _ _ => rfl) (fun _ => rfl) (fun _ _ _ => rfl) (fun _ _ => rfl) dt
@[simp] theorem State.start_aonHas (dt : Nat) : (s.start dt).aonHas = s.aonHas :=
  s.start_keep State.aonHas (fun _ _ _ => rfl) (fun _ _ _ => rfl) (fun _ _ _ _ => rfl) (fun _ _ => rfl) (fun _ => rfl) (fun _ _ _ => rfl) (fun _ _ => rfl) dt
@[simp] theorem State.start_msixOn (dt : Nat) : (s.start dt).msixOn = s.msixOn :=
  s.start_keep State.msixOn (fun _ _ _ => rfl) (fun _ _ _ => rfl) (fun _ _ _ _ => rfl) (fun _ _ => rfl) (fun _ => rfl) (fun _ _ _ => rfl) (fun _ _ => rfl) dt
@[simp] theorem State.start_pcieReady (dt : Nat) : (s.start dt).pcieReady = s.pcieReady :=
  s.start_keep State.pcieReady (fun _ _ _ => rfl) (fun _ _ _ => rfl) (fun _ _ _ _ => rfl) (fun _ _ => rfl) (fun _ => rfl) (fun _ _ _ => rfl) (fun _ _ => rfl) dt
@[simp] theorem State.start_perst (dt : Nat) : (s.start dt).perst = s.perst :=
  s.start_keep State.perst (fun _ _ _ => rfl) (fun _ _ _ => rfl) (fun _ _ _ _ => rfl) (fun _ _ => rfl) (fun _ => rfl) (fun _ _ _ => rfl) (fun _ _ => rfl) dt
@[simp] theorem State.start_perstAt (dt : Nat) : (s.start dt).perstAt = s.perstAt :=
  s.start_keep State.perstAt (fun _ _ _ => rfl) (fun _ _ _ => rfl) (fun _ _ _ _ => rfl) (fun _ _ => rfl) (fun _ => rfl) (fun _ _ _ => rfl) (fun _ _ => rfl) dt
@[simp] theorem State.start_recovery (dt : Nat) : (s.start dt).recovery = s.recovery :=
  s.start_keep State.recovery (fun _ _ _ => rfl) (fun _ _ _ => rfl) (fun _ _ _ _ => rfl) (fun _ _ => rfl) (fun _ => rfl) (fun _ _ _ => rfl) (fun _ _ => rfl) dt
@[simp] theorem State.start_hrv (dt : Nat) : (s.start dt).hrv = s.hrv :=
  s.start_keep State.hrv (fun _ _ _ => rfl) (fun _ _ _ => rfl) (fun _ _ _ _ => rfl) (fun _ _ => rfl) (fun _ => rfl) (fun _ _ _ => rfl) (fun _ _ => rfl) dt
@[simp] theorem State.start_eng (dt : Nat) : (s.start dt).eng = s.eng :=
  s.start_keep State.eng (fun _ _ _ => rfl) (fun _ _ _ => rfl) (fun _ _ _ _ => rfl) (fun _ _ => rfl) (fun _ => rfl) (fun _ _ _ => rfl) (fun _ _ => rfl) dt
@[simp] theorem State.start_streams (dt : Nat) : (s.start dt).streams = s.streams :=
  s.start_keep State.streams (fun _ _ _ => rfl) (fun _ _ _ => rfl) (fun _ _ _ _ => rfl) (fun _ _ => rfl) (fun _ => rfl) (fun _ _ _ => rfl) (fun _ _ => rfl) dt
@[simp] theorem State.start_heldRel (dt : Nat) : (s.start dt).heldRel = s.heldRel :=
  s.start_keep State.heldRel (fun _ _ _ => rfl) (fun _ _ _ => rfl) (fun _ _ _ _ => rfl) (fun _ _ => rfl) (fun _ => rfl) (fun _ _ _ => rfl) (fun _ _ => rfl) dt
@[simp] theorem State.start_telem (dt : Nat) : (s.start dt).telem = s.telem :=
  s.start_keep State.telem (fun _ _ _ => rfl) (fun _ _ _ => rfl) (fun _ _ _ _ => rfl) (fun _ _ => rfl) (fun _ => rfl) (fun _ _ _ => rfl) (fun _ _ => rfl) dt
@[simp] theorem State.start_telemSeq (dt : Nat) : (s.start dt).telemSeq = s.telemSeq :=
  s.start_keep State.telemSeq (fun _ _ _ => rfl) (fun _ _ _ => rfl) (fun _ _ _ _ => rfl) (fun _ _ => rfl) (fun _ => rfl) (fun _ _ _ => rfl) (fun _ _ => rfl) dt
@[simp] theorem State.start_mgmtWin (dt : Nat) : (s.start dt).mgmtWin = s.mgmtWin :=
  s.start_keep State.mgmtWin (fun _ _ _ => rfl) (fun _ _ _ => rfl) (fun _ _ _ _ => rfl) (fun _ _ => rfl) (fun _ => rfl) (fun _ _ _ => rfl) (fun _ _ => rfl) dt
@[simp] theorem State.start_margins (dt : Nat) : (s.start dt).margins = s.margins :=
  s.start_keep State.margins (fun _ _ _ => rfl) (fun _ _ _ => rfl) (fun _ _ _ _ => rfl) (fun _ _ => rfl) (fun _ => rfl) (fun _ _ _ => rfl) (fun _ _ => rfl) dt
@[simp] theorem State.start_rports (dt : Nat) : (s.start dt).rports = s.rports :=
  s.start_keep State.rports (fun _ _ _ => rfl) (fun _ _ _ => rfl) (fun _ _ _ _ => rfl) (fun _ _ => rfl) (fun _ => rfl) (fun _ _ _ => rfl) (fun _ _ => rfl) dt
@[simp] theorem State.start_ringReady (dt : Nat) : (s.start dt).ringReady = s.ringReady :=
  s.start_keep State.ringReady (fun _ _ _ => rfl) (fun _ _ _ => rfl) (fun _ _ _ _ => rfl) (fun _ _ => rfl) (fun _ => rfl) (fun _ _ _ => rfl) (fun _ _ => rfl) dt
@[simp] theorem State.start_bypassOpen (dt : Nat) : (s.start dt).bypassOpen = s.bypassOpen :=
  s.start_keep State.bypassOpen (fun _ _ _ => rfl) (fun _ _ _ => rfl) (fun _ _ _ _ => rfl) (fun _ _ => rfl) (fun _ => rfl) (fun _ _ _ => rfl) (fun _ _ => rfl) dt
@[simp] theorem State.start_alignGood (dt : Nat) : (s.start dt).alignGood = s.alignGood :=
  s.start_keep State.alignGood (fun _ _ _ => rfl) (fun _ _ _ => rfl) (fun _ _ _ _ => rfl) (fun _ _ => rfl) (fun _ => rfl) (fun _ _ _ => rfl) (fun _ _ => rfl) dt
@[simp] theorem State.start_seen (dt : Nat) : (s.start dt).seen = s.seen :=
  s.start_keep State.seen (fun _ _ _ => rfl) (fun _ _ _ => rfl) (fun _ _ _ _ => rfl) (fun _ _ => rfl) (fun _ => rfl) (fun _ _ _ => rfl) (fun _ _ => rfl) dt
@[simp] theorem State.start_ctlTag (dt : Nat) : (s.start dt).ctlTag = s.ctlTag :=
  s.start_keep State.ctlTag (fun _ _ _ => rfl) (fun _ _ _ => rfl) (fun _ _ _ _ => rfl) (fun _ _ => rfl) (fun _ => rfl) (fun _ _ _ => rfl) (fun _ _ => rfl) dt
@[simp] theorem State.start_ctlReqs (dt : Nat) : (s.start dt).ctlReqs = s.ctlReqs :=
  s.start_keep State.ctlReqs (fun _ _ _ => rfl) (fun _ _ _ => rfl) (fun _ _ _ _ => rfl) (fun _ _ => rfl) (fun _ => rfl) (fun _ _ _ => rfl) (fun _ _ => rfl) dt
@[simp] theorem State.start_ctlSeen (dt : Nat) : (s.start dt).ctlSeen = s.ctlSeen :=
  s.start_keep State.ctlSeen (fun _ _ _ => rfl) (fun _ _ _ => rfl) (fun _ _ _ _ => rfl) (fun _ _ => rfl) (fun _ => rfl) (fun _ _ _ => rfl) (fun _ _ => rfl) dt
@[simp] theorem State.start_fwd (dt : Nat) : (s.start dt).fwd = s.fwd :=
  s.start_keep State.fwd (fun _ _ _ => rfl) (fun _ _ _ => rfl) (fun _ _ _ _ => rfl) (fun _ _ => rfl) (fun _ => rfl) (fun _ _ _ => rfl) (fun _ _ => rfl) dt
@[simp] theorem State.start_posWrite (dt : Nat) : (s.start dt).posWrite = s.posWrite :=
  s.start_keep State.posWrite (fun _ _ _ => rfl) (fun _ _ _ => rfl) (fun _ _ _ _ => rfl) (fun _ _ => rfl) (fun _ => rfl) (fun _ _ _ => rfl) (fun _ _ => rfl) dt
@[simp] theorem State.start_posNext (dt : Nat) : (s.start dt).posNext = s.posNext :=
  s.start_keep State.posNext (fun _ _ _ => rfl) (fun _ _ _ => rfl) (fun _ _ _ _ => rfl) (fun _ _ => rfl) (fun _ => rfl) (fun _ _ _ => rfl) (fun _ _ => rfl) dt
@[simp] theorem State.start_calNext (dt : Nat) : (s.start dt).calNext = s.calNext :=
  s.start_keep State.calNext (fun _ _ _ => rfl) (fun _ _ _ => rfl) (fun _ _ _ _ => rfl) (fun _ _ => rfl) (fun _ => rfl) (fun _ _ _ => rfl) (fun _ _ => rfl) dt
@[simp] theorem State.start_snapSeq (dt : Nat) : (s.start dt).snapSeq = s.snapSeq :=
  s.start_keep State.snapSeq (fun _ _ _ => rfl) (fun _ _ _ => rfl) (fun _ _ _ _ => rfl) (fun _ _ => rfl) (fun _ => rfl) (fun _ _ _ => rfl) (fun _ _ => rfl) dt
@[simp] theorem State.start_snap (dt : Nat) : (s.start dt).snap = s.snap :=
  s.start_keep State.snap (fun _ _ _ => rfl) (fun _ _ _ => rfl) (fun _ _ _ _ => rfl) (fun _ _ => rfl) (fun _ => rfl) (fun _ _ _ => rfl) (fun _ _ => rfl) dt
@[simp] theorem State.start_digest (dt : Nat) : (s.start dt).digest = s.digest :=
  s.start_keep State.digest (fun _ _ _ => rfl) (fun _ _ _ => rfl) (fun _ _ _ _ => rfl) (fun _ _ => rfl) (fun _ => rfl) (fun _ _ _ => rfl) (fun _ _ => rfl) dt
@[simp] theorem State.start_digests (dt : Nat) : (s.start dt).digests = s.digests :=
  s.start_keep State.digests (fun _ _ _ => rfl) (fun _ _ _ => rfl) (fun _ _ _ _ => rfl) (fun _ _ => rfl) (fun _ => rfl) (fun _ _ _ => rfl) (fun _ _ => rfl) dt
@[simp] theorem State.start_diverge (dt : Nat) : (s.start dt).diverge = s.diverge :=
  s.start_keep State.diverge (fun _ _ _ => rfl) (fun _ _ _ => rfl) (fun _ _ _ _ => rfl) (fun _ _ => rfl) (fun _ => rfl) (fun _ _ _ => rfl) (fun _ _ => rfl) dt
@[simp] theorem State.start_digestOn (dt : Nat) : (s.start dt).digestOn = s.digestOn :=
  s.start_keep State.digestOn (fun _ _ _ => rfl) (fun _ _ _ => rfl) (fun _ _ _ _ => rfl) (fun _ _ => rfl) (fun _ => rfl) (fun _ _ _ => rfl) (fun _ _ => rfl) dt
@[simp] theorem State.start_imgs (dt : Nat) : (s.start dt).imgs = s.imgs :=
  s.start_keep State.imgs (fun _ _ _ => rfl) (fun _ _ _ => rfl) (fun _ _ _ _ => rfl) (fun _ _ => rfl) (fun _ => rfl) (fun _ _ _ => rfl) (fun _ _ => rfl) dt
@[simp] theorem State.start_pkgLen (dt : Nat) : (s.start dt).pkgLen = s.pkgLen :=
  s.start_keep State.pkgLen (fun _ _ _ => rfl) (fun _ _ _ => rfl) (fun _ _ _ _ => rfl) (fun _ _ => rfl) (fun _ => rfl) (fun _ _ _ => rfl) (fun _ _ => rfl) dt
@[simp] theorem State.start_stageBank (dt : Nat) : (s.start dt).stageBank = s.stageBank :=
  s.start_keep State.stageBank (fun _ _ _ => rfl) (fun _ _ _ => rfl) (fun _ _ _ _ => rfl) (fun _ _ => rfl) (fun _ => rfl) (fun _ _ _ => rfl) (fun _ _ => rfl) dt
@[simp] theorem State.start_keys (dt : Nat) : (s.start dt).keys = s.keys :=
  s.start_keep State.keys (fun _ _ _ => rfl) (fun _ _ _ => rfl) (fun _ _ _ _ => rfl) (fun _ _ => rfl) (fun _ => rfl) (fun _ _ _ => rfl) (fun _ _ => rfl) dt
@[simp] theorem State.start_blkJob (dt : Nat) : (s.start dt).blkJob = s.blkJob :=
  s.start_keep State.blkJob (fun _ _ _ => rfl) (fun _ _ _ => rfl) (fun _ _ _ _ => rfl) (fun _ _ => rfl) (fun _ => rfl) (fun _ _ _ => rfl) (fun _ _ => rfl) dt
@[simp] theorem State.start_eraseAt (dt : Nat) : (s.start dt).eraseAt = s.eraseAt :=
  s.start_keep State.eraseAt (fun _ _ _ => rfl) (fun _ _ _ => rfl) (fun _ _ _ _ => rfl) (fun _ _ => rfl) (fun _ => rfl) (fun _ _ _ => rfl) (fun _ _ => rfl) dt
@[simp] theorem State.start_verifyFor (dt : Nat) : (s.start dt).verifyFor = s.verifyFor :=
  s.start_keep State.verifyFor (fun _ _ _ => rfl) (fun _ _ _ => rfl) (fun _ _ _ _ => rfl) (fun _ _ => rfl) (fun _ => rfl) (fun _ _ _ => rfl) (fun _ _ => rfl) dt
@[simp] theorem State.start_dist (dt : Nat) : (s.start dt).dist = s.dist :=
  s.start_keep State.dist (fun _ _ _ => rfl) (fun _ _ _ => rfl) (fun _ _ _ _ => rfl) (fun _ _ => rfl) (fun _ => rfl) (fun _ _ _ => rfl) (fun _ _ => rfl) dt
@[simp] theorem State.start_vote (dt : Nat) : (s.start dt).vote = s.vote :=
  s.start_keep State.vote (fun _ _ _ => rfl) (fun _ _ _ => rfl) (fun _ _ _ _ => rfl) (fun _ _ => rfl) (fun _ => rfl) (fun _ _ _ => rfl) (fun _ _ => rfl) dt
@[simp] theorem State.start_voteAll (dt : Nat) : (s.start dt).voteAll = s.voteAll :=
  s.start_keep State.voteAll (fun _ _ _ => rfl) (fun _ _ _ => rfl) (fun _ _ _ _ => rfl) (fun _ _ => rfl) (fun _ => rfl) (fun _ _ _ => rfl) (fun _ _ => rfl) dt
@[simp] theorem State.start_actReq (dt : Nat) : (s.start dt).actReq = s.actReq :=
  s.start_keep State.actReq (fun _ _ _ => rfl) (fun _ _ _ => rfl) (fun _ _ _ _ => rfl) (fun _ _ => rfl) (fun _ => rfl) (fun _ _ _ => rfl) (fun _ _ => rfl) dt
@[simp] theorem State.start_actWait (dt : Nat) : (s.start dt).actWait = s.actWait :=
  s.start_keep State.actWait (fun _ _ _ => rfl) (fun _ _ _ => rfl) (fun _ _ _ _ => rfl) (fun _ _ => rfl) (fun _ => rfl) (fun _ _ _ => rfl) (fun _ _ => rfl) dt
@[simp] theorem State.start_confirmFrom (dt : Nat) : (s.start dt).confirmFrom = s.confirmFrom :=
  s.start_keep State.confirmFrom (fun _ _ _ => rfl) (fun _ _ _ => rfl) (fun _ _ _ _ => rfl) (fun _ _ => rfl) (fun _ => rfl) (fun _ _ _ => rfl) (fun _ _ => rfl) dt
@[simp] theorem State.start_lnt (dt : Nat) : (s.start dt).lnt = s.lnt :=
  s.start_keep State.lnt (fun _ _ _ => rfl) (fun _ _ _ => rfl) (fun _ _ _ _ => rfl) (fun _ _ => rfl) (fun _ => rfl) (fun _ _ _ => rfl) (fun _ _ => rfl) dt
@[simp] theorem State.start_tap (dt : Nat) : (s.start dt).tap = s.tap :=
  s.start_keep State.tap (fun _ _ _ => rfl) (fun _ _ _ => rfl) (fun _ _ _ _ => rfl) (fun _ _ => rfl) (fun _ => rfl) (fun _ _ _ => rfl) (fun _ _ => rfl) dt
@[simp] theorem State.start_scanReg (dt : Nat) : (s.start dt).scanReg = s.scanReg :=
  s.start_keep State.scanReg (fun _ _ _ => rfl) (fun _ _ _ => rfl) (fun _ _ _ _ => rfl) (fun _ _ => rfl) (fun _ => rfl) (fun _ _ _ => rfl) (fun _ _ => rfl) dt
@[simp] theorem State.start_powerRaw (dt : Nat) : (s.start dt).powerRaw = s.powerRaw :=
  s.start_keep State.powerRaw (fun _ _ _ => rfl) (fun _ _ _ => rfl) (fun _ _ _ _ => rfl) (fun _ _ => rfl) (fun _ => rfl) (fun _ _ _ => rfl) (fun _ _ => rfl) dt
@[simp] theorem State.start_holdDone (dt : Nat) : (s.start dt).holdDone = s.holdDone :=
  s.start_keep State.holdDone (fun _ _ _ => rfl) (fun _ _ _ => rfl) (fun _ _ _ _ => rfl) (fun _ _ => rfl) (fun _ => rfl) (fun _ _ _ => rfl) (fun _ _ => rfl) dt
@[simp] theorem State.start_coldStart (dt : Nat) : (s.start dt).coldStart = s.coldStart :=
  s.start_keep State.coldStart (fun _ _ _ => rfl) (fun _ _ _ => rfl) (fun _ _ _ _ => rfl) (fun _ _ => rfl) (fun _ => rfl) (fun _ _ _ => rfl) (fun _ _ => rfl) dt
@[simp] theorem State.start_booted (dt : Nat) : (s.start dt).booted = s.booted :=
  s.start_keep State.booted (fun _ _ _ => rfl) (fun _ _ _ => rfl) (fun _ _ _ _ => rfl) (fun _ _ => rfl) (fun _ => rfl) (fun _ _ _ => rfl) (fun _ _ => rfl) dt
@[simp] theorem State.start_eventLog (dt : Nat) : (s.start dt).eventLog = s.eventLog :=
  s.start_keep State.eventLog (fun _ _ _ => rfl) (fun _ _ _ => rfl) (fun _ _ _ _ => rfl) (fun _ _ => rfl) (fun _ => rfl) (fun _ _ _ => rfl) (fun _ _ => rfl) dt
@[simp] theorem State.start_stepDue (dt : Nat) : (s.start dt).stepDue = s.stepDue :=
  s.start_keep State.stepDue (fun _ _ _ => rfl) (fun _ _ _ => rfl) (fun _ _ _ _ => rfl) (fun _ _ => rfl) (fun _ => rfl) (fun _ _ _ => rfl) (fun _ _ => rfl) dt
@[simp] theorem State.start_winWait (dt : Nat) : (s.start dt).winWait = s.winWait :=
  s.start_keep State.winWait (fun _ _ _ => rfl) (fun _ _ _ => rfl) (fun _ _ _ _ => rfl) (fun _ _ => rfl) (fun _ => rfl) (fun _ _ _ => rfl) (fun _ _ => rfl) dt
@[simp] theorem State.start_markId (dt : Nat) : (s.start dt).markId = s.markId :=
  s.start_keep State.markId (fun _ _ _ => rfl) (fun _ _ _ => rfl) (fun _ _ _ _ => rfl) (fun _ _ => rfl) (fun _ => rfl) (fun _ _ _ => rfl) (fun _ _ => rfl) dt
@[simp] theorem State.start_out (dt : Nat) : (s.start dt).out = [] := Eq.trans rfl rfl

/-- Where no load of the Epoch waits, a command starts with the passing of time alone. -/
theorem State.start_of_none (h : s.loadAt = none) (dt : Nat) :
    s.start dt = { s.advance dt with out := [], idleSince := if s.busy then s.now + dt else s.idleSince } := by
  rw [State.start]
  have hl : (s.advance dt).loadAt = none := h
  rw [State.loadDue, hl]
  rfl

theorem State.start_mem (h : s.loadAt = none) (dt : Nat) : (s.start dt).mem = s.mem := by rw [s.start_of_none h]; rfl
theorem State.start_banks (h : s.loadAt = none) (dt : Nat) : (s.start dt).banks = s.banks := by rw [s.start_of_none h]; rfl
theorem State.start_trig (h : s.loadAt = none) (dt : Nat) : (s.start dt).trig = s.trig := by rw [s.start_of_none h]; rfl

/-- Time passes by what the command gives. -/
@[simp] theorem State.start_now (dt : Nat) : (s.start dt).now = s.now + dt := by
  rw [State.start]
  exact (s.advance dt).loadDue_keep State.now (fun _ _ _ => rfl) (fun _ _ _ => rfl) (fun _ _ _ _ => rfl) (fun _ _ => rfl) (fun _ => rfl)

end Sys2Proof.Machine
end

