-- ==== Sys2Proof/Laws/Ops.lean ====
section
/-! SUPPORT. What the named operations over registers do: a field reads as it was written, and every other field, word and
part of the state is as it was. -/

namespace Sys2Proof.Machine

/-! ### Fields of a number -/

theorem bitsOf_lt (x hi lo : Nat) : bitsOf x hi lo < 2 ^ (hi + 1 - lo) := Nat.mod_lt _ (Nat.two_pow_pos _)

/-- One bit of a number with a field replaced. -/
theorem testBit_withBits (x hi lo v i : Nat) (h : lo ≤ hi) :
    (withBits x hi lo v).testBit i = if lo ≤ i ∧ i ≤ hi then v.testBit (i - lo) else x.testBit i := by
  have hlow : x % 2 ^ lo < 2 ^ lo := Nat.mod_lt _ (Nat.two_pow_pos _)
  have hmid : (v % 2 ^ (hi + 1 - lo)) * 2 ^ lo + x % 2 ^ lo < 2 ^ (hi + 1) := by
    have h1 : v % 2 ^ (hi + 1 - lo) + 1 ≤ 2 ^ (hi + 1 - lo) := Nat.mod_lt _ (Nat.two_pow_pos _)
    have h2 : 2 ^ (hi + 1) = 2 ^ (hi + 1 - lo) * 2 ^ lo := by rw [← Nat.pow_add]; congr 1; omega
    have h3 := Nat.mul_le_mul_right (2 ^ lo) h1
    rw [Nat.add_mul] at h3
    omega
  have e : withBits x hi lo v = 2 ^ (hi + 1) * (x >>> (hi + 1)) + (2 ^ lo * (v % 2 ^ (hi + 1 - lo)) + x % 2 ^ lo) := by
    unfold withBits
    simp only [Nat.mul_comm, Nat.add_assoc]
  have hmid' : 2 ^ lo * (v % 2 ^ (hi + 1 - lo)) + x % 2 ^ lo < 2 ^ (hi + 1) := by rwa [Nat.mul_comm]
  rw [e, Nat.testBit_two_pow_mul_add _ hmid']
  split
  · next h1 =>
    rw [Nat.testBit_two_pow_mul_add _ hlow]
    split
    · next h2 =>
      have : ¬(lo ≤ i ∧ i ≤ hi) := by omega
      rw [if_neg this, Nat.testBit_mod_two_pow]
      simp [h2]
    · next h2 =>
      have : lo ≤ i ∧ i ≤ hi := by omega
      rw [if_pos this, Nat.testBit_mod_two_pow]
      simp only [Bool.and_eq_right_iff_imp, decide_eq_true_eq]
      omega
  · next h1 =>
    have : ¬(lo ≤ i ∧ i ≤ hi) := by omega
    rw [if_neg this, Nat.testBit_shiftRight]
    congr 1
    omega

theorem testBit_bitsOf (x hi lo i : Nat) : (bitsOf x hi lo).testBit i = (decide (i < hi + 1 - lo) && x.testBit (lo + i)) := by
  unfold bitsOf
  rw [Nat.testBit_mod_two_pow, Nat.testBit_shiftRight]

theorem withBits_lt (x hi lo v : Nat) (h : lo ≤ hi) (hh : hi < 32) (hx : x < 2 ^ 32) : withBits x hi lo v < 2 ^ 32 := by
  apply Nat.lt_pow_two_of_testBit
  intro i hi2
  rw [testBit_withBits _ _ _ _ _ h, if_neg (by omega)]
  exact Nat.testBit_lt_two_pow (Nat.lt_of_lt_of_le hx (Nat.pow_le_pow_right (by decide) hi2))

/-- The bits of a word with a field replaced. -/
theorem testBit_setFld (w : Word) (hi lo v i : Nat) (h : lo ≤ hi) (hh : hi < 32) :
    (setFld w hi lo v).toNat.testBit i = if lo ≤ i ∧ i ≤ hi then v.testBit (i - lo) else w.toNat.testBit i := by
  unfold setFld
  rw [BitVec.toNat_ofNat, Nat.mod_eq_of_lt (withBits_lt _ _ _ _ h hh w.isLt), testBit_withBits _ _ _ _ _ h]

/-- The field written reads as the value's low bits. -/
theorem fld_setFld_self (w : Word) (hi lo v : Nat) (h : lo ≤ hi) (hh : hi < 32) :
    fld (setFld w hi lo v) hi lo = v % 2 ^ (hi + 1 - lo) := by
  apply Nat.eq_of_testBit_eq
  intro i
  unfold fld
  rw [testBit_bitsOf, testBit_setFld _ _ _ _ _ h hh, Nat.testBit_mod_two_pow]
  by_cases hi2 : i < hi + 1 - lo
  · rw [if_pos (by omega)]; simp [hi2]
  · simp [hi2]

/-- A field apart from the one written is as it was. -/
theorem fld_setFld_ne (w : Word) (hi lo v a b : Nat) (h : lo ≤ hi) (hh : hi < 32) (hd : a < lo ∨ hi < b) :
    fld (setFld w hi lo v) a b = fld w a b := by
  apply Nat.eq_of_testBit_eq
  intro i
  unfold fld
  rw [testBit_bitsOf, testBit_bitsOf, testBit_setFld _ _ _ _ _ h hh]
  by_cases hi2 : i < a + 1 - b
  · rw [if_neg (by omega)]
  · simp [hi2]

/-! ### Words -/

variable (s : State)

@[simp] theorem State.get_put_self (o : Nat) (w : Word) : (s.put o w).get o = w := tget_tset_self _ _ _ _

theorem State.get_put_ne {o p : Nat} (w : Word) (h : p ≠ o) : (s.put o w).get p = s.get p := tget_tset_ne _ _ _ _ h

/-- Two states with the same register words read alike. -/
theorem State.get_congr {s t : State} (h : s.mem.regs = t.mem.regs) (o : Nat) : s.get o = t.get o := by
  unfold State.get; rw [h]

theorem State.rd_put_ne {o p : Nat} (w : Word) (hi lo : Nat) (h : p ≠ o) : (s.put o w).rd p hi lo = s.rd p hi lo := by
  unfold State.rd; rw [State.get_put_ne _ _ h]

theorem State.bit_put_ne {o p : Nat} (w : Word) (i : Nat) (h : p ≠ o) : (s.put o w).bit p i = s.bit p i := by
  unfold State.bit; rw [State.get_put_ne _ _ h]

/-! ### Fields -/

theorem State.get_wr_ne {o p : Nat} (hi lo v : Nat) (h : p ≠ o) : (s.wr o hi lo v).get p = s.get p :=
  State.get_put_ne _ _ h

theorem State.rd_wr_self {o hi lo v : Nat} (h : lo ≤ hi) (hh : hi < 32) :
    (s.wr o hi lo v).rd o hi lo = v % 2 ^ (hi + 1 - lo) := by
  unfold State.rd State.wr; rw [State.get_put_self, fld_setFld_self _ _ _ _ h hh]

theorem State.rd_wr_ne {o p : Nat} (hi lo v a b : Nat) (h : p ≠ o) : (s.wr o hi lo v).rd p a b = s.rd p a b :=
  State.rd_put_ne _ _ _ _ h

theorem State.rd_wr_apart {o hi lo v a b : Nat} (h : lo ≤ hi) (hh : hi < 32) (hd : a < lo ∨ hi < b) :
    (s.wr o hi lo v).rd o a b = s.rd o a b := by
  unfold State.rd State.wr; rw [State.get_put_self, fld_setFld_ne _ _ _ _ _ _ h hh hd]

theorem State.bit_wr_ne {o p : Nat} (hi lo v i : Nat) (h : p ≠ o) : (s.wr o hi lo v).bit p i = s.bit p i :=
  State.bit_put_ne _ _ _ h

theorem State.bit_wr_apart {o hi lo v i : Nat} (h : lo ≤ hi) (hh : hi < 32) (hd : i < lo ∨ hi < i) :
    (s.wr o hi lo v).bit o i = s.bit o i := by
  unfold State.bit State.wr
  rw [State.get_put_self, testBit_setFld _ _ _ _ _ h hh, if_neg (by omega)]

theorem State.bit_setBit_self {o i : Nat} (b : Bool) (h : i < 32) : (s.setBit o i b).bit o i = b := by
  unfold State.bit State.setBit State.wr
  rw [State.get_put_self, testBit_setFld _ _ _ _ _ (Nat.le_refl i) h, if_pos ⟨Nat.le_refl i, Nat.le_refl i⟩, Nat.sub_self]
  cases b <;> rfl

theorem State.bit_setBit_apart {o i j : Nat} (b : Bool) (h : i < 32) (hd : j ≠ i) : (s.setBit o i b).bit o j = s.bit o j :=
  State.bit_wr_apart s (Nat.le_refl i) h (by omega)

theorem State.bit_setBit_ne {o p : Nat} (i j : Nat) (b : Bool) (h : p ≠ o) : (s.setBit o i b).bit p j = s.bit p j :=
  State.bit_wr_ne s _ _ _ _ h

theorem State.get_setBit_ne {o p : Nat} (i : Nat) (b : Bool) (h : p ≠ o) : (s.setBit o i b).get p = s.get p :=
  State.get_wr_ne s _ _ _ h

theorem State.rd_setBit_ne {o p : Nat} (i a c : Nat) (b : Bool) (h : p ≠ o) : (s.setBit o i b).rd p a c = s.rd p a c :=
  State.rd_wr_ne s _ _ _ _ _ h

theorem State.rd_setBit_apart {o i a c : Nat} (b : Bool) (h : i < 32) (hd : a < i ∨ i < c) :
    (s.setBit o i b).rd o a c = s.rd o a c := State.rd_wr_apart s (Nat.le_refl i) h hd

/-! ### Quantities of several registers -/

theorem State.get_wrq_ne {p : Nat} : ∀ (n o v : Nat) (s : State), (p < o ∨ o + 4 * n ≤ p) → (s.wrq o n v).get p = s.get p
  | 0, _, _, _, _ => rfl
  | n + 1, o, v, s, h => by
    rw [State.wrq, State.get_wrq_ne n (o + 4) _ _ (by omega), State.get_put_ne _ _ (by omega)]

/-- What a quantity of `n` registers reads as once it is written. -/
theorem State.rdq_wrq : ∀ (n o v : Nat) (s : State), (s.wrq o n v).rdq o n = v % 2 ^ (32 * n)
  | 0, _, v, _ => by simp [State.rdq, Nat.mod_one]
  | n + 1, o, v, s => by
    rw [State.rdq, State.wrq, State.get_wrq_ne n (o + 4) _ _ (by omega), State.get_put_self, State.rdq_wrq n, BitVec.toNat_ofNat]
    have e : 2 ^ (32 * (n + 1)) = 2 ^ 32 * 2 ^ (32 * n) := by rw [← Nat.pow_add]; congr 1; omega
    rw [e, Nat.mod_mul]

theorem State.rdq_congr : ∀ (n o : Nat) {s t : State}, (∀ k < n, s.get (o + 4 * k) = t.get (o + 4 * k)) → s.rdq o n = t.rdq o n
  | 0, _, _, _, _ => rfl
  | n + 1, o, s, t, h => by
    have h0 : s.get o = t.get o := h 0 (by omega)
    have h1 : s.rdq (o + 4) n = t.rdq (o + 4) n := State.rdq_congr n (o + 4) (fun k hk => by
      have := h (k + 1) (by omega)
      rwa [show o + 4 * (k + 1) = o + 4 + 4 * k by omega] at this)
    rw [State.rdq, State.rdq, h0, h1]

/-! ### Tables of typed state -/

@[simp] theorem State.hch_setHch_self (e c : Nat) (x : HCh) : (s.setHch e c x).hch e c = x := tget_tset_self _ _ _ _
@[simp] theorem State.engine_setEngine_self (e : Nat) (x : HEng) : (s.setEngine e x).engine e = x := tget_tset_self _ _ _ _
@[simp] theorem State.stream_setStream_self (k : Nat) (x : Stream) : (s.setStream k x).stream k = x := tget_tset_self _ _ _ _
@[simp] theorem State.rport_setRport_self (d : Nat) (x : RPort) : (s.setRport d x).rport d = x := tget_tset_self _ _ _ _
@[simp] theorem State.img_setImg_self (b : Nat) (x : ImgBank) : (s.setImg b x).img b = x := tget_tset_self _ _ _ _
@[simp] theorem State.trigAt_setTrig_self (u : Nat) (x : TrigUnit) : (s.setTrig u x).trigAt u = x := tget_tset_self _ _ _ _
@[simp] theorem State.conjAt_setConj_self (j : Nat) (x : Conj) : (s.setConj j x).conjAt j = x := tget_tset_self _ _ _ _
@[simp] theorem State.pinAt_setPin_self (p : Nat) (x : Pin) : (s.setPin p x).pinAt p = x := tget_tset_self _ _ _ _
@[simp] theorem State.toutAt_setTout_self (k : Nat) (x : Tout) : (s.setTout k x).toutAt k = x := tget_tset_self _ _ _ _
@[simp] theorem State.ivAt_setIv_self (u : Nat) (x : IvUnit) : (s.setIv u x).ivAt u = x := tget_tset_self _ _ _ _
@[simp] theorem State.grp_setGrp_self (g : Nat) (x : Group) : (s.setGrp g x).grp g = x := tget_tset_self _ _ _ _
@[simp] theorem State.part_setPart_self (p : Nat) (x : Partition) : (s.setPart p x).part p = x := tget_tset_self _ _ _ _
@[simp] theorem State.bankAt_setBank_self (b : Nat) (x : BankSt) : (s.setBank b x).bankAt b = x := tget_tset_self _ _ _ _
@[simp] theorem State.stack_setStack_self (k : Nat) (x : Stack) : (s.setStack k x).stack k = x := tget_tset_self _ _ _ _

/-- A part of a table apart from the one set is as it was. -/
theorem State.grp_setGrp_ne {g j : Nat} (x : Group) (h : j ≠ g) : (s.setGrp g x).grp j = s.grp j := tget_tset_ne _ _ _ _ h
theorem State.part_setPart_ne {p j : Nat} (x : Partition) (h : j ≠ p) : (s.setPart p x).part j = s.part j := tget_tset_ne _ _ _ _ h
theorem State.stream_setStream_ne {k j : Nat} (x : Stream) (h : j ≠ k) : (s.setStream k x).stream j = s.stream j := tget_tset_ne _ _ _ _ h
theorem State.bankAt_setBank_ne {b j : Nat} (x : BankSt) (h : j ≠ b) : (s.setBank b x).bankAt j = s.bankAt j := tget_tset_ne _ _ _ _ h

end Sys2Proof.Machine
end

