-- ==== Sys2Proof/Laws/Only.lean ====
section
/-! SUPPORT. How a proof shows that a command changes no more than a list of register words: the claim holds of the state
itself and goes through each named update of a listed word. -/

namespace Sys2Proof.Machine

theorem OnlyWords.refl (s : State) : OnlyWords s s := by unfold OnlyWords; cases s; rfl

theorem OnlyWords.put {s t : State} (h : OnlyWords s t) (o : Nat) (w : Word) : OnlyWords s (t.put o w) := by
  unfold OnlyWords at h ⊢
  rw [h]
  cases s
  rfl

theorem OnlyRegs.refl (os : List Nat) (s : State) : OnlyRegs os s s := ⟨OnlyWords.refl s, fun _ _ => rfl⟩

theorem OnlyRegs.mono {os ps : List Nat} {s t : State} (h : OnlyRegs os s t) (hs : ∀ o ∈ os, o ∈ ps) : OnlyRegs ps s t :=
  ⟨h.1, fun o ho => h.2 o (fun hm => ho (hs o hm))⟩

theorem OnlyRegs.put {os : List Nat} {s t : State} (h : OnlyRegs os s t) {o : Nat} (ho : o ∈ os) (w : Word) :
    OnlyRegs os s (t.put o w) :=
  ⟨h.1.put o w, fun p hp => (State.get_put_ne t w (fun e => hp (by rw [e]; exact ho))).trans (h.2 p hp)⟩

theorem OnlyRegs.wr {os : List Nat} {s t : State} (h : OnlyRegs os s t) {o : Nat} (ho : o ∈ os) (hi lo v : Nat) :
    OnlyRegs os s (t.wr o hi lo v) := h.put ho _

theorem OnlyRegs.setBit {os : List Nat} {s t : State} (h : OnlyRegs os s t) {o : Nat} (ho : o ∈ os) (i : Nat) (b : Bool) :
    OnlyRegs os s (t.setBit o i b) := h.put ho _

theorem OnlyRegs.countFld {os : List Nat} {s t : State} (h : OnlyRegs os s t) {o : Nat} (ho : o ∈ os) (hi lo k : Nat) :
    OnlyRegs os s (t.countFld o hi lo k) := h.put ho _

theorem OnlyRegs.inc {os : List Nat} {s t : State} (h : OnlyRegs os s t) {o : Nat} (ho : o ∈ os) :
    OnlyRegs os s (t.inc o) := h.put ho _

theorem OnlyRegs.wrq {os : List Nat} {s : State} : ∀ {t : State} (n o v : Nat), OnlyRegs os s t →
    (∀ k < n, o + 4 * k ∈ os) → OnlyRegs os s (t.wrq o n v)
  | _, 0, _, _, h, _ => h
  | t, n + 1, o, v, h, ho => by
    rw [State.wrq]
    refine OnlyRegs.wrq n (o + 4) _ (h.put (ho 0 (by omega)) _) (fun k hk => ?_)
    have := ho (k + 1) (by omega)
    rwa [show o + 4 * (k + 1) = o + 4 + 4 * k by omega] at this

end Sys2Proof.Machine
end

