-- ==== Sys2Proof/Tests/Slice0.lean ====
section
/-! SUPPORT. Tests of the model on small states: the smoke test of WellFormed, single commands with results taken from the
spec, and for each statement for the provers a witness: concrete states and operands that meet the hypotheses of each of
its clauses. -/

open Sys2Proof Sys2Proof.Machine

namespace Sys2Proof.Tests

set_option Elab.async false

/-! ### Helpers -/

/-- An Almanac with one group of each mode over banks 0 to 2, a raw and a filtered trigger unit, a Conjunction of SOFT
and a ring member's role. -/
def tAlm : Almanac :=
  { banks := List.replicate 4 ⟨0, 0⟩ ++ List.replicate 12 ⟨3, 0⟩
    groups := [some ⟨0, 0, 0, 0, 0, 3, 0, false⟩, some ⟨1, 16, 16, 1, 0, 0xFF, 0, false⟩,
      some ⟨2, 32, 32, 2, 0, 3, 0, false⟩]
    units := [some ⟨0, 0⟩, some ⟨0, 1⟩]
    conjs := [some ⟨0, [(3, 0)]⟩]
    touts := List.replicate 4 (0xFF, 0)
    rlines := List.replicate 16 (0xFF, 0)
    progs := []
    firs := []
    plain := false
    parts := [(100, 0), (100, 0), (100, 0)]
    octets := [(4, 0xFF), (0, 0xFF), (1, 0xFF), (1, 0xFF)]
    privs := []
    role := 1
    genMax := 3
    units64 := 1
    decls := []
    maxW := 215
    deepest := 3
    retain := true
    sections := []
    digest := []
    signed := false
    trusted := false
    host := true }

/-- A loaded device in Feast. -/
def on : State := ({ State.reset with alm := some tAlm } : State).put Reg.almStatus 2

/-- The device `n` ticks after reset. -/
def later (n : Nat) : State := { State.reset with now := n }

/-! ### Witnesses -/

theorem witness_StepRunsTheFrontCommand :
    let s := { State.reset with pending := [Instr.softFire 0, .coldReset 0] };
    s.pending = Instr.softFire 0 :: [Instr.coldReset 0] ∧ State.reset.pending = [] := by decide

theorem witness_EveryStepTakesOneCommand :
    ∃ t, step { State.reset with pending := [Instr.testLogicReset 0, .softFire 0] } = .next t ∧ t.pending = [.softFire 0] :=
  ⟨_, rfl, rfl⟩

theorem witness_EveryStepKeepsSound :
    let s := { State.reset with pending := [Instr.testLogicReset 0] };
    s.mem.wf = true ∧ (∀ c ∈ s.pending, c.wf = true) ∧ ∃ t, step s = .next t := ⟨by decide, by decide, _, rfl⟩

theorem witness_WidthsAndAlignment :
    (¬((4 : Nat) = 4 ∧ 2 % 4 = 0) ∧ ¬((4 : Nat) = 8 ∧ 2 % 8 = 0)) ∧ (¬((8 : Nat) = 4 ∧ 4 % 4 = 0) ∧ ¬((8 : Nat) = 8 ∧ 4 % 8 = 0))
    ∧ 0x10004 % 4 = 0 ∧ 0x10008 % 8 = 0 := by decide

theorem witness_OtherWidthsComplete : ¬((2 : Nat) = 4 ∧ 0 % 4 = 0) ∧ ¬((2 : Nat) = 8 ∧ 0 % 8 = 0) := by decide

theorem witness_SplitQuantities :
    (splitAt Reg.epcSet = some (Reg.epcSet, 3, 0) ∧ splitAt 0x34 = some (0x34, 2, 0) ∧ splitAt 0x38 = some (0x34, 2, 1)
      ∧ (State.reset.read32 .pf0 0x34).2.latches = (State.reset.read32 .pf0 0x34).2.latches)
    ∧ (let v := (State.reset.start 0).readDemand .pf0;
      v.disabledFor .pf0 = false ∧ v.inReset = false ∧ v.recovery = false ∧ v.power ≠ 3 ∧ 0x34 % 4 = 0)
    ∧ (splitAt (0x34 + 4 * 1) = some (0x34, 2, 1) ∧ ∀ x ∈ State.reset.latches, x.1.1 ≠ .pf0)
    ∧ fld (0xFF : Word) 31 8 = 0
    ∧ (let h := keepWord (keepWord [] .pf0 (Reg.epcSet + 4) 7) .pf0 (Reg.epcSet + 8) 0xFF;
      kept h .pf0 (Reg.epcSet + 4) = some 7 ∧ kept h .pf0 (Reg.epcSet + 8) = some 0xFF) := by decide

theorem witness_RegisterWrites :
    let v := State.reset.start 0;
    (∀ off ∈ [0x10100, Reg.pwrCtl, Reg.pwrStatus, Reg.pwrPfCount], v.writeReach .pf0 off true true = .allowed
      ∧ (v.accessDemand .pf0).writeBuffer off 0 = none)
    ∧ regAt 0x10FFC = none ∧ ((regAt Reg.pwrPower).map (fun h => (h.part, h.row.parts,
        h.row.rw ||| h.row.w1c ||| h.row.w1s)) = some (0, 1, 0))
    ∧ ((regAt Reg.pwrCtl).map (fun h => (h.blk, h.part, h.row.parts, decide (h.row.rw ||| h.row.w1c ||| h.row.w1s ≠ 0),
        decide (0x80000000 &&& h.row.rsv ≠ 0), decide (3 &&& h.row.rsv = 0))) = some (.pwr, 0, 1, true, true, true))
    ∧ v.writeReach .pf1 0 true true = .refused 1 ∧ v.inReset = false ∧ v.isHeadOver 63 = false ∧ v.rstLow = false := by decide

theorem witness_Pack36Blocks : (List.replicate 8 (0xFFFFFFFFF : Native)).length = 8 := by decide

theorem witness_ResetsAreRequested :
    let u := (later (2 * second)).start 0;
    (u.rstLow = false ∧ u.writeReach .pf0 Reg.glbReset true true = .allowed ∧ (0 : Word) ≠ 0xA2560001
      ∧ u.progressAt + 2 * second ≤ u.now ∧ u.writeReach .pf1 Reg.glbReset true true = .refused 1)
    ∧ (let u := ({ State.reset with resetStep := .requested } : State).start 0;
      u.rstLow = true ∧ u.writeReach .pf0 Reg.glbReset true true = .allowed ∧ u.now < u.progressAt + 2 * second) := by decide

theorem witness_InternalReset :
    (let u := ({ State.reset with resetStep := .requested } : State).start 0;
      u.resetStep = .requested ∧ ∀ k < 4, u.running k = false)
    ∧ (let u := ({ later (10 * usec) with resetStep := .asserted } : State).start 0;
      u.resetStep = .asserted ∧ u.resetAt + 10 * usec ≤ u.now ∧ u.tripped = [] ∧ tapNeedsReset u.tap = false)
    ∧ (let u := ({ later (10 * usec) with resetStep := .asserted, tap := 0 } : State).start 0;
      u.resetStep = .asserted ∧ u.resetAt + 10 * usec ≤ u.now ∧ u.tripped = [] ∧ tapNeedsReset u.tap = true)
    ∧ State.reset.resetStep ≠ .requested ∧ State.reset.resetStep ≠ .asserted
    ∧ (({ later (10 * usec - 1) with resetStep := .asserted } : State).start 0).now < 10 * usec
    ∧ State.reset.journal.valid = true
    ∧ ({ State.reset with journal := ⟨false, [], [], [], []⟩ } : State).journal.valid = false := by decide

/-- The stacks of a device that has trained them. -/
def up (s : State) : State := (((s.put (Reg.memStatus 0) 2).put (Reg.memStatus 1) 2).put (Reg.memStatus 2) 2).put (Reg.memStatus 3) 2

theorem witness_AlmanacLoads :
    (let u := (up { State.reset with booted := true }).start 0;
      u.almOpen = true ∧ u.booted = true ∧ u.resetStep = .released ∧ u.almState = 0 ∧ u.bit Reg.almBoot 0 = false
        ∧ u.stacksUp = true)
    ∧ (({ State.reset with recovery := true } : State).start 0).almOpen = false ∧ (State.reset.start 0).booted = false
    ∧ (State.reset.start 0).check = none
    ∧ (State.reset.start 0).almState = 0 ∧ (on.start 0).almOpen = true ∧ (on.start 0).almState ≠ 0 ∧ (on.start 0).almState ≠ 5
    ∧ (let u := ({ on with check := some ⟨[], .startLoad true, 0⟩ } : State).start 0;
      u.check = some ⟨[], .startLoad true, 0⟩ ∧ badImage (u.checkCtx true none) [] = some (1, 0xFF, 0))
    ∧ (let u := ({ on with check := some ⟨[], .reload, 0⟩ } : State).start 0;
      u.check = some ⟨[], .reload, 0⟩ ∧ badImage (u.checkCtx true u.alm) [] = some (1, 0xFF, 0)) := by decide

theorem witness_AlmanacReloads :
    (let u := on.start 0;
      u.almOpen = true ∧ u.almState = 2 ∧ u.reloadWait = none ∧ u.reloadInstant = 0 ∧ u.power = 0 ∧ u.move = .steady
        ∧ u.almState ≠ 3)
    ∧ (({ State.reset with recovery := true } : State).start 0).almOpen = false ∧ (on.start 0).reloadWait = none
    ∧ ((State.reset.start 0).almOpen = true ∧ (State.reset.start 0).almState ≠ 2)
    ∧ (let u := (on.setPower 2).start 0; u.almOpen = true ∧ u.almState = 2 ∧ u.reloadWait = none ∧ u.reloadInstant = 0
      ∧ 2 ≤ u.power)
    ∧ (let u := ({ on with reloadWait := some 0 } : State).start 0; u.reloadWait = some 0 ∧ u.now < 0 + 20 * msec)
    ∧ (let u := (on.put Reg.almReloadAt 1).start 0;
      u.almState = 2 ∧ u.reloadWait = none ∧ u.reloadInstant ≠ 0 ∧ u.reloadInstant < u.ep + 2 * usec ∧ u.almOpen = true)
    ∧ (let u := (({ on with nextAlm := some tAlm } : State).put Reg.almStatus 3).start 0;
      u.almState = 3 ∧ u.nextAlm = some tAlm ∧ u.alm = some tAlm ∧ u.reloadAt ≤ u.ep ∧ u.power ≤ 1 ∧ u.almOpen = true)
    ∧ (on.start 0).nextAlm = none
    ∧ (let u := ({ on with reloadWait := some 0, now := 20 * msec } : State).start 0;
      u.reloadWait = some 0 ∧ 0 + 20 * msec ≤ u.now)
    ∧ (let u := (({ on with nextAlm := some tAlm } : State).put Reg.almStatus 4).start 0;
      u.nextAlm = some tAlm ∧ u.alm = some tAlm ∧ u.almState = 4) := by decide +kernel

/-- Bank `b` with some of its fields set. -/
def withBank (s : State) (b : Nat) (f : BankSt → BankSt) : State := s.setBank b (f (s.bankAt b))

theorem witness_ConvertersStart :
    (let v := (withBank { on with sampleLocked := true, now := 2 * msec } 0 (fun x => { x with startAt := some 0 })).start 0;
      (v.bankAt 0).startAt.isSome = true ∧ (v.bankAt 1).startAt = none ∧ (v.bankAt 0).retryAt = none
        ∧ (v.bankAt 0).settleEnd.getD 3 0 = 0 ∧ v.sampleLocked = true ∧ v.ready 0 = false ∧ v.bankMode 0 ≠ 3
        ∧ (v.bankAt 0).startAt = some 0 ∧ 0 + 2 * msec ≤ v.now)
    ∧ (let v := (withBank on 0 (fun x => { x with retryAt := some 0 })).start 0;
      (v.bankAt 0).retryAt = some 0 ∧ 0 ≤ v.now ∧ v.bankMode 0 ≠ 3)
    ∧ (let v := (withBank on 0 (fun x => { x with startAt := some 0 })).start 0;
      (v.bankAt 0).startAt = some 0 ∧ v.now < 0 + 2 * msec)
    ∧ (let v := (withBank { on with now := 5 } 0 (fun x => { x with settleEnd := x.settleEnd.set 0 5 })).start 0;
      (v.bankAt 0).settleEnd.getD 0 0 ≠ 0 ∧ (v.bankAt 0).settleEnd.getD 0 0 ≤ v.now ∧ v.groupOfChan (16 * 0 + 0) = some 0)
    ∧ (let v := (withBank (later 5) 0 (fun x => { x with settleEnd := x.settleEnd.set 3 5 })).start 0;
      (v.bankAt 0).settleEnd.getD 3 0 ≠ 0 ∧ (v.bankAt 0).settleEnd.getD 3 0 ≤ v.now ∧ v.groupOfChan (16 * 0 + 3) = none) := by
  decide

/-- A device whose core PLL is locked and whose Epoch counts. -/
def locked (s : State) : State := ({ s with coreLocked := true, counting := true } : State).put Reg.epcStatus 3

theorem witness_ReferenceAndPlls :
    (let v := State.reset.start 0;
      v.bit Reg.epcStatus 0 = false ∧ v.rd Reg.epcRefCtl 1 0 = 0 ∧ v.coreLocked = false)
    ∧ (let v := (State.reset.put Reg.epcStatus 1).start 0;
      v.bit Reg.epcStatus 0 = true ∧ v.coreLocked = false ∧ v.inReset = false ∧ v.bit Reg.epcStatus 1 = false ∧ v.power ≠ 3
        ∧ v.aonHas = false)
    ∧ (let v := (({ State.reset with aonHas := true } : State).put Reg.epcStatus 1).start 0;
      v.bit Reg.epcStatus 0 = true ∧ v.coreLocked = false ∧ v.aonHas = true ∧ v.aonRc = false)
    ∧ (let v := (locked State.reset).start 0;
      v.bit Reg.epcStatus 0 = true ∧ v.coreLocked = true ∧ v.bit Reg.epcStatus 6 = false ∧ v.bit Reg.epcStatus 1 = true
        ∧ v.sampleLocked = false ∧ v.clockWaits = false ∧ v.move = .steady)
    ∧ (let v := (State.reset.put Reg.epcRefCtl 3).start 0; v.bit Reg.epcStatus 0 = false ∧ v.rd Reg.epcRefCtl 1 0 = 3
      ∧ v.relockAt = none ∧ v.sampleLocked = false)
    ∧ (let v := ({ State.reset with relockAt := some 0 } : State).start 0; v.relockAt = some 0 ∧ v.now < 0 + 10 * msec)
    ∧ (let v := ({ (locked State.reset).setPower 3 with move := .exiting 0 } : State).start 0;
      v.coreLocked = true ∧ v.bit Reg.epcStatus 1 = true ∧ v.sampleLocked = false ∧ v.clockWaits = false ∧ v.move = .exiting 0
        ∧ v.power = 3)
    ∧ (let v := ((locked State.reset).put Reg.epcStatus 0x43).start 0;
      v.bit Reg.epcStatus 6 = true ∧ v.bit Reg.epcStatus 0 = true ∧ v.coreLocked = true)
    ∧ (let v := ({ later (10 * msec) with relockAt := some 0 } : State).start 0;
      v.relockAt = some 0 ∧ 0 + 10 * msec ≤ v.now)
    ∧ (({ State.reset with sampleLocked := true } : State).start 0).sampleLocked = true
    ∧ (let v := ((locked State.reset).put (Reg.bnkConvStatus 0) 16).start 0;
      v.sampleLocked = false ∧ v.coreLocked = true ∧ v.clockWaits = true) := by decide +kernel

theorem witness_EpochLoads :
    ((locked State.reset).start 0).loadRefused = false ∧ (State.reset.start 0).loadRefused = true
    ∧ (State.reset.start 0).discipline = 0
    ∧ (let v := (State.reset.put Reg.epcCtl 0x10).start 0;
      v.discipline ≠ 0 ∧ v.ppsSpaced 0 = true ∧ (v.ppsErr (v.before 0)).natAbs ≤ v.rd Reg.epcPpsGate 31 0
        ∧ v.now < v.ppsLast + second + second / 2)
    ∧ (let v := (({ State.reset with ppsPrev := some 0 } : State).put Reg.epcCtl 0x10).start 0;
      v.discipline ≠ 0 ∧ v.ppsSpaced 0 = false)
    ∧ (let v := ((later (second + second / 2)).put Reg.epcCtl 0x10).start 0;
      v.discipline ≠ 0 ∧ v.ppsLast + second + second / 2 ≤ v.now)
    ∧ (let s := ({ locked State.reset with loadAt := some 8192 } : State); s.loadAt = some 8192 ∧ s.counting = true
      ∧ 8192 ≤ s.now + 8192) := by decide

/-- An event for interval unit 15 as START, and one as STOP. -/
def ivEvents : List Delivery := [⟨.ivStart 15, (3, 0), 0, false, false, 0⟩, ⟨.ivStop 15, (3, 0), 0, false, false, 0⟩]

theorem witness_IntervalUnits :
    (let v := (locked State.reset).start 0;
      v.counting = true ∧ v.bit Reg.epcStatus 1 = true ∧ v.bit (Reg.epcIvCtl 15) 4 = false)
    ∧ (let v := ((locked State.reset).put (Reg.epcIvCtl 15) 16).start 0;
      v.counting = true ∧ v.bit Reg.epcStatus 1 = true ∧ v.bit (Reg.epcIvCtl 15) 4 = true)
    ∧ (State.reset.start 0).counting = false
    ∧ (let v := (({ State.reset with fabric := ivEvents } : State).put (Reg.epcIvStatus 15) 1).start 0;
      v.ivState 15 ≠ 0 ∧ v.ivState 15 = 1 ∧ (takeFor (.ivStart 15) v.fabric).isSome = true
        ∧ (takeFor (.ivStop 15) v.fabric).isSome = true ∧ (recentWith (v.ivAt 15).recentStart 0).length ≤ 200
        ∧ (recentWith (v.ivAt 15).recentStop 0).length ≤ 200)
    ∧ (let v := ((({ State.reset with fabric := ivEvents } : State).setIv 15 { IvUnit.idle with
        recentStart := List.replicate 200 0, recentStop := List.replicate 200 0 }).put (Reg.epcIvStatus 15) 1 |>.put
        (Reg.epcIvSrc 15) 0x3000).start 0;
      v.ivState 15 = 1 ∧ v.ivSame 15 = false ∧ 200 < (recentWith (v.ivAt 15).recentStart 0).length
        ∧ 200 < (recentWith (v.ivAt 15).recentStop 0).length)
    ∧ (let v := (({ State.reset with fabric := ivEvents } : State).setIv 15 { IvUnit.idle with regOnStart := true }).put
        (Reg.epcIvStatus 15) 2 |>.start 0;
      v.ivState 15 = 2 ∧ (v.ivAt 15).regOnStart = true ∧ (takeFor (.ivStart 15) v.fabric).isSome = true)
    ∧ (let v := ({ State.reset with fabric := ivEvents } : State).put (Reg.epcIvStatus 15) 2 |>.start 0;
      v.ivState 15 = 2 ∧ (v.ivAt 15).regOnStart = false ∧ (takeFor (.ivStop 15) v.fabric).isSome = true)
    ∧ takeFor (.ivStart 15) State.reset.fabric = none ∧ (State.reset.ivAt 15).startAt = none
    ∧ (State.reset.ivAt 15).gateFrom = none
    ∧ (let v := ((State.reset.setIv 15 { IvUnit.idle with startAt := some 0 }).put (Reg.epcIvTimeout 15) 1).start 0;
      (v.ivAt 15).startAt = some 0 ∧ after72 v.ep (v.ivEnd 15 0) = true)
    ∧ (let v := ((({ State.reset with epoch := 4096 } : State).setIv 15 { IvUnit.idle with startAt := some 0 }).put
        (Reg.epcIvTimeout 15) 1 |>.put (Reg.epcIvStatus 15) 1).start 0;
      (v.ivAt 15).startAt = some 0 ∧ v.ivState 15 = 1 ∧ after72 v.ep (v.ivEnd 15 0) = false)
    ∧ (let v := ((({ State.reset with epoch := 1250 * 4096 } : State).setIv 15
        { IvUnit.idle with gateFrom := some 0, counting := true }).put (Reg.epcIvStatus 15) 2).start 0;
      (v.ivAt 15).gateFrom = some 0 ∧ v.ivState 15 = 2 ∧ (v.ivAt 15).counting = true ∧ 1250 * cycle ≤ span72 0 v.ep)
    ∧ (let v := (((({ State.reset with epoch := 1250 * 4096 } : State).setIv 15 { IvUnit.idle with gateFrom := some 0 }).put
        (Reg.epcIvStatus 15) 2).put (Reg.epcIvGate 15) 1250).start 0;
      (v.ivAt 15).gateFrom = some 0 ∧ v.ivState 15 = 2 ∧ (v.ivAt 15).counting = false
        ∧ v.ivGate 15 * cycle ≤ span72 0 v.ep)
    ∧ (let v := ((({ State.reset with epoch := 4096 } : State).setIv 15 { IvUnit.idle with gateFrom := some 0 }).put
        (Reg.epcIvGate 15) 1250).start 0;
      (v.ivAt 15).gateFrom = some 0 ∧ (v.ivAt 15).counting = false ∧ span72 0 v.ep < v.ivGate 15 * cycle
        ∧ (v.ivAt 15).stamps.length ≠ 4096 ∧ span72 0 v.ep < 1250 * cycle) := by decide +kernel

/-- A double-buffered register word with one value, shadow and active. -/
def both (s : State) (off : Nat) (w : Word) : State := (s.put off w).handWords [off]

/-- The loaded device with the converters of bank 0 ready, at core cycle 1. -/
def ready0 : State := ({ on with epoch := 4096 } : State).put (Reg.bnkConvStatus 0) 1

theorem witness_TriggerUnits :
    (let v := ready0.start 0; v.unitSees (8 * 0 + 0) = true ∧ v.unitMasked (8 * 0 + 0) = false ∧ v.unitSees (8 * 15 + 7) = false
      ∧ (v.trigAt (8 * 0 + 0)).activeSince = none)
    ∧ (let v := (ready0.put (Reg.bnkTrgStatus 0 1) 2).start 0; v.unitSees (8 * 0 + 1) = true ∧ v.unitMasked (8 * 0 + 1) = true)
    ∧ (let v := (ready0.setTrig 0 { TrigUnit.idle with activeSince := some 4096 }).start 0;
      (v.trigAt (8 * 0 + 0)).activeSince = some 4096 ∧ v.ep ≤ 4096 + v.stuckLimit)
    ∧ (let v := ((both (({ ready0 with epoch := 10241000 } : State).put Reg.epcTrgStuckLimit 1) (Reg.bnkTrgCtl 0 0) 0x10000).setTrig 0
        { TrigUnit.idle with activeSince := some 0 }).start 0;
      (v.trigAt (8 * 0 + 0)).activeSince = some 0 ∧ v.unitWatches (8 * 0 + 0) = true
        ∧ v.actf (Reg.bnkTrgCtl 0 0) 16 16 = 1 ∧ 0 + v.stuckLimit < v.ep ∧ (v.trigAt (8 * 0 + 0)).activeSince ≠ none)
    ∧ (let v := (ready0.put (Reg.bnkTrgStatus 0 0) 2).start 0;
      v.bit (Reg.bnkTrgStatus 0 0) 1 = true ∧ (v.trigAt (8 * 0 + 0)).activeSince = none) := by decide

/-- A pin at its active level since tick 0, its stuck limit 1 µs, 2 µs after reset. -/
def pinHigh (p : Nat) : State :=
  ((((later (2 * usec)).put Reg.epcTrgStuckLimit 1).put (Reg.epcPinCtl p) 2).put (Reg.epcPinStat p) 2).setPin p
    { Pin.idle with activeSince := some 0 }

theorem witness_Pins :
    (let v := (pinHigh 0).start 0; (v.pinAt 0).activeSince = some 0 ∧ v.bit (Reg.epcPinCtl 0) 1 = true ∧ v.pinActive 0 = true
      ∧ v.bit (Reg.epcPinStat 0) 2 = false ∧ 0 + v.stuckLimit < v.now ∧ v.fabricRuns = true
      ∧ v.power ≠ 3)
    ∧ (State.reset.start 0).pinActive 11 = false ∧ ((State.reset.start 0).pinAt 11).activeSince = none
    ∧ (let v := (State.reset.setPin 0 { Pin.idle with activeSince := some 0 }).start 0; (v.pinAt 0).activeSince = some 0
      ∧ v.now ≤ 0 + v.stuckLimit)
    ∧ (let v := ((State.reset.put (Reg.epcPinCtl 8) 16).setPower 2).start 0;
      8 ≤ (8 : Fin 12).val ∧ v.bit (Reg.epcPinCtl 8) 4 = true ∧ v.power = 2)
    ∧ (let v := ((State.reset.put (Reg.epcPinCtl 8) 16).setPower 3).start 0;
      8 ≤ (8 : Fin 12).val ∧ v.bit (Reg.epcPinCtl 8) 4 = true ∧ v.power = 3 ∧ v.bit (Reg.epcPinStat 8) 2 = false
        ∧ v.move = .steady ∧ ∀ k < 4, (v.pinAt (8 + k)).wakeKept = none)
    ∧ (0 : Fin 12).val < 8 ∧ (State.reset.start 0).power ≤ 1 := by decide +kernel

theorem witness_SoftEvent :
    (let v := on.start 0; v.softAt ≠ some (v.ep / 4096) ∧ v.power ≤ 1 ∧ v.linesOf (3, 0) = [])
    ∧ (let v := ({ on with softAt := some 0 } : State).start 0; v.softAt = some (v.ep / 4096)) := by decide

theorem witness_ConjunctionsAndOutputs :
    (let v := ({ on with fabric := [⟨.conj 0, (3, 0), 0, false, false, 0⟩] } : State).start 0;
      takeFor (.conj 0) v.fabric = some (⟨.conj 0, (3, 0), 0, false, false, 0⟩, []) ∧ v.conjCfg 0 = some ⟨0, [(3, 0)]⟩
        ∧ v.fabricRuns = true)
    ∧ (let v := (({ on with fabric := [⟨.conj 0, (3, 0), 0, false, false, 0⟩] } : State).setPower 2).start 0;
      (takeFor (.conj 0) v.fabric).isSome = true ∧ (v.conjCfg 0).isSome = true ∧ v.fabricRuns = false)
    ∧ takeFor (.conj 0) on.fabric = none ∧ takeFor (.tout 3) on.fabric = none
    ∧ (let v := (({ on with fabric := [⟨.tout 3, (3, 0), 0, false, false, 0⟩] } : State).put (Reg.epcToutCtl 3) 1).start 0;
      (takeFor (.tout 3) v.fabric).isSome = true ∧ v.bit (Reg.epcToutCtl 3) 0 = true ∧ v.fabricRuns = true
        ∧ v.bit (Reg.epcToutCtl 3) 8 = false ∧ (v.toutAt 3).pulses = [])
    ∧ (let v := ({ on with fabric := [⟨.tout 3, (3, 0), 0, false, false, 0⟩] } : State).start 0;
      (takeFor (.tout 3) v.fabric).isSome = true ∧ v.bit (Reg.epcToutCtl 3) 0 = false)
    ∧ (let v := ({ on with touts := [(3, ⟨[⟨0, 0, false⟩]⟩)] } : State).start 0;
      (v.toutAt 3).pulses.find? (fun p => !p.told && decide (p.stop ≤ v.now)) = some ⟨0, 0, false⟩)
    ∧ (on.toutAt 3).pulses.find? (fun p => !p.told && decide (p.stop ≤ on.now)) = none := by decide +kernel

/-- A group with some of its fields set. -/
def withGrp (s : State) (g : Nat) (f : Group → Group) : State := s.setGrp g (f (s.grp g))

/-- A record in progress that began at instant 0 and has all its samples an Epoch tick later. -/
def cur0 : Cur := ⟨0, 0, 0, 1, 0, 0, 0, 0, [], 0, 0, 0, 0, 0⟩

/-- The loaded device, bank 0 ready and its stacks running, with group 0 as given and POST 1. -/
def post1 (f : Group → Group) : State := both (up (withGrp ready0 0 f)) (Reg.aqgPost 0) 1

theorem witness_GroupCommands :
    (let v := ((withGrp ready0 0 (fun x => { x with st := .idle })).put (Reg.aqgPost 0) 1).start 0;
      (v.gcfg 0).isSome = true ∧ v.handReady 0 false = true ∧ v.shadowOk 0 = true ∧ v.gArmed 0 = false)
    ∧ (let v := ((withGrp ready0 0 (fun x => { x with st := .idle })).put (Reg.aqgEve 0 + 4) 0xF).start 0;
      (v.gcfg 0).isSome = true ∧ v.handReady 0 false = true ∧ v.shadowOk 0 = false)
    ∧ (let v := on.start 0; (v.gcfg 0).isSome = true ∧ v.handReady 0 false = false ∧ v.armCode 0 ≠ 0)
    ∧ ((State.reset.start 0).gcfg 31).isSome = false ∧ (State.reset.start 0).gArmed 31 = false
    ∧ (let v := (post1 (fun x => { x with st := .idle })).start 0; (v.gcfg 0).isSome = true ∧ v.armCode 0 = 0)
    ∧ (let v := (withGrp ready0 0 (fun x => { x with st := .recording, cur := some cur0 })).start 0;
      v.gArmed 0 = true ∧ (v.grp 0).cur ≠ none)
    ∧ (let v := (withGrp ready0 0 (fun x => { x with st := .armed })).start 0;
      v.gArmed 0 = true ∧ v.gmode 0 ≠ 2 ∧ (v.grp 0).cur = none ∧ (v.grp 0).acc.staged = none ∧ (v.grp 0).acc.emitWait = []) := by
  decide

/-- A committed intercalary record's contents. -/
def rec0 : Rec := ⟨1, 0, 0, 0, 0, 0, 0, 0, 0, 0, 0, 0, 0, 0, 0, 0, 0, 0, 0, 0, [], [], 0, 0, 0⟩

/-- A trigger for group 0 under way. -/
def trig0 (g : Nat) : List Delivery := [⟨.group g, (3, 0), 4096, false, false, 0⟩]

/-- The delivery of `trig0`. -/
def dlv0 (g : Nat) : Delivery := ⟨.group g, (3, 0), 4096, false, false, 0⟩

theorem witness_GroupTriggers :
    (let v := ({ on with fabric := trig0 0 } : State).start 0; takeFor (.group 0) v.fabric = some (dlv0 0, [])
      ∧ v.gArmed 0 = false ∧ takeFor (.group 1) v.fabric = none)
    ∧ (let v := ({ (post1 (fun x => { x with st := .paused })) with fabric := trig0 0 } : State).start 0;
      v.gmode 0 ≠ 1 ∧ (v.grp 0).st = .paused)
    ∧ (let v := ({ (post1 (fun x => { x with st := .rearm })) with fabric := trig0 0 } : State).start 0;
      v.gmode 0 ≠ 1 ∧ ((v.grp 0).st = .recording ∨ (v.grp 0).st = .rearm))
    ∧ (let v := ({ (post1 (fun x => { x with st := .armed })) with fabric := trig0 0 } : State).start 0;
      v.gmode 0 = 0 ∧ (v.grp 0).st = .armed ∧ v.eveFor 0 (dlv0 0) = some (0, false) ∧ v.noRoom 0 = false)
    ∧ (let v := ({ (post1 (fun x => { x with st := .armed, pauses := [⟨2, 0⟩] })) with fabric := trig0 0 } : State).start 0;
      v.gmode 0 = 0 ∧ (v.grp 0).st = .armed ∧ v.eveFor 0 (dlv0 0) = some (0, false) ∧ v.noRoom 0 = true)
    ∧ (let v := ({ up (withGrp on 2 (fun x => { x with st := .armed, acc := { x.acc with emitWait := [rec0] } })) with
        fabric := trig0 2 } : State).start 0;
      v.gmode 2 = 2 ∧ (v.grp 2).st = .armed ∧ (v.grp 2).acc.emitWait ≠ [] ∧ v.emitAllFit 2 = true)
    ∧ (let v := ({ withGrp on 0 (fun x => { x with st := .filling }) with fabric := trig0 0 } : State).start 0;
      v.gmode 0 = 0 ∧ (v.grp 0).st = .filling ∧ v.eveFor 0 (dlv0 0) = none) := by decide +kernel

/-- The loaded device a long while after a record or segment of group `g` began. -/
def capturing (g : Nat) : State :=
  ({ both (withGrp on g (fun x => { x with st := .recording, cur := some cur0 })) (Reg.aqgPost g) 1 with
     epoch := 0x100000000 } : State).put (Reg.bnkConvStatus g) 1

theorem witness_GroupProgress :
    (let v := (post1 (fun x => { x with st := .filling })).start 0;
      (v.grp 0).st = .filling ∧ v.eveReq 0 ≤ v.eveV 0 ∧ v.gNotReady 0 = false)
    ∧ (let v := on.start 0; (v.grp 0).st ≠ .filling ∧ (v.grp 0).cur = none ∧ v.rearmOver 0 = false
      ∧ (v.grp 0).pauses.any (fun p => p.cause == 1 || p.cause == 23) = false ∧ (v.grp 0).st ≠ .rearm)
    ∧ (let v := (withGrp on 0 (fun x => { x with st := .recording, cur := some { cur0 with trig := 2 ^ 40 } })).start 0;
      (v.grp 0).cur = some { cur0 with trig := 2 ^ 40 } ∧ v.captured 0 { cur0 with trig := 2 ^ 40 } = false)
    ∧ (let v := (capturing 1).start 0; (v.grp 1).cur = some cur0 ∧ v.gmode 1 = 1 ∧ v.captured 1 cur0 = true
      ∧ ((v.settlePorts 1).takeSamples 1 0 0 [[7]]).1.refuser 1 (some (((v.settlePorts 1).takeSamples 1 0 0 [[7]]).1.dataRec 1
        cur0 ((v.settlePorts 1).takeSamples 1 0 0 [[7]]).2)) = none)
    ∧ (let v := ({ capturing 1 with short := [1] } : State).start 0; (v.grp 1).cur = some cur0 ∧ v.gmode 1 = 1
      ∧ v.captured 1 cur0 = true ∧ ((v.settlePorts 1).takeSamples 1 0 0 [[7]]).1.refuser 1 (some (((v.settlePorts
        1).takeSamples 1 0 0 [[7]]).1.dataRec 1 cur0 ((v.settlePorts 1).takeSamples 1 0 0 [[7]]).2)) = some 1)
    ∧ (let v := (capturing 0).start 0; (v.grp 0).cur = some cur0 ∧ v.gmode 0 = 0 ∧ v.captured 0 cur0 = true
      ∧ ((v.settlePorts 0).takeSamples 0 0 0 [[7]]).1.refuser 0 (some (((v.settlePorts 0).takeSamples 0 0 0 [[7]]).1.dataRec 0
        cur0 ((v.settlePorts 0).takeSamples 0 0 0 [[7]]).2)) = none)
    ∧ (let v := ({ capturing 0 with short := [0] } : State).start 0; (v.grp 0).cur = some cur0 ∧ v.captured 0 cur0 = true
      ∧ ((v.settlePorts 0).takeSamples 0 0 0 [[7]]).1.refuser 0 (some (((v.settlePorts 0).takeSamples 0 0 0 [[7]]).1.dataRec 0
        cur0 ((v.settlePorts 0).takeSamples 0 0 0 [[7]]).2)) = some 0)
    ∧ (let v := (capturing 2).start 0; (v.grp 2).cur = some cur0 ∧ v.gmode 2 = 2 ∧ v.captured 2 cur0 = true
      ∧ ((v.settlePorts 2).takeSamples 2 0 0 [[7]]).1.refuser 2 none = none)
    ∧ (let v := ({ withGrp on 0 (fun x => { x with st := .rearm }) with now := 40 * 4096 } : State).start 0;
      v.rearmOver 0 = true ∧ (v.grp 0).pauses = [] ∧ (v.grp 0).st = .rearm)
    ∧ (let v := ({ withGrp on 0 (fun x => { x with st := .paused, pauses := [⟨23, 0⟩] }) with now := 40 * 4096 } : State).start 0;
      v.rearmOver 0 = true ∧ (v.grp 0).pauses.any (fun p => p.cause == 1) = false
        ∧ (v.grp 0).pauses.any (fun p => p.cause == 23) = true) := by decide +kernel

theorem witness_GroupGaps :
    (let v := (up (withGrp on 0 (fun x => { x with st := .armed, pauses := [⟨2, 0⟩] }))).start 0;
      (v.grp 0).isFull = true ∧ v.gmode 0 ≠ 2 ∧ v.fits 0 = true ∧ (v.grp 1).isFull = false)
    ∧ (let v := (up (withGrp on 2 (fun x => { x with st := .armed, pauses := [⟨2, 0⟩] }))).start 0;
      (v.grp 2).isFull = true ∧ v.gmode 2 = 2 ∧ ((v.tryEmit 2 8).grp 2).acc.emitWait = []
        ∧ (((v.tryEmit 2 8).endHold 2 2).grp 2).disarming = false)
    ∧ (let v := (withGrp on 2 (fun x => { x with st := .armed, pauses := [⟨2, 0⟩], acc := { x.acc with
        emitWait := [rec0] } })).start 0;
      (v.grp 2).isFull = true ∧ v.gmode 2 = 2 ∧ ((v.tryEmit 2 8).grp 2).acc.emitWait ≠ [])
    ∧ (let v := (withGrp on 1 (fun x => { x with st := .streaming, pauses := [⟨1, 0⟩] })).start 0;
      (v.grp 1).pauses.any (fun p => p.cause == 1) = true ∧ v.gmode 1 = 1 ∧ v.segTokens 1 = true
        ∧ (v.grp 0).pauses.any (fun p => p.cause == 1) = false ∧ (v.grp 0).irqHeld = false)
    ∧ (let v := ({ withGrp on 0 (fun x => { x with st := .paused, pauses := [⟨1, 0⟩] }) with now := 40 * 4096 } : State).start 0;
      (v.grp 0).pauses.any (fun p => p.cause == 1) = true ∧ v.gmode 0 ≠ 1 ∧ v.rearmOver 0 = true)
    ∧ (let v := (({ withGrp on 0 (fun x => { x with irqHeld := true }) with msixOn := true, pcieReady := true } : State).put
        Reg.prtPcieStatus 0x43 |>.put (Reg.msixAddrDataCtl (4 * 8 + 3)) 0).start 0;
      (v.grp 0).irqHeld = true ∧ v.msixOn = true ∧ v.deliverable (8 + 0) = true ∧ v.out = [] ∧ (v.grp 0).lastMsg = none)
    ∧ (let v := (both (withGrp on 0 (fun x => { x with irqHeld := true, lastMsg := some 0 })) (Reg.aqgIrqGap 0) 9).start 0;
      (v.grp 0).irqHeld = true ∧ (v.grp 0).lastMsg = some 0 ∧ v.cyc < 0 + v.actf (Reg.aqgIrqGap 0) 15 0)
    ∧ (let v := ({ post1 (fun x => { x with st := .recording, cur := some cur0 }) with short := [0] } : State).start 0;
      v.gArmed 0 = true ∧ (v.gbanks 0).contains 0 = true ∧ (v.refusedPorts 0).contains 0 = true ∧ v.portRecord 0 = true
        ∧ (((v.beginCause 0 1).countRefusal 0 false).grp 0).st = .recording ∧ v.queueFull 0 = false)
    ∧ (let v := ({ capturing 1 with short := [1] } : State).start 0;
      v.gArmed 1 = true ∧ (v.gbanks 1).contains 1 = true ∧ (v.refusedPorts 1).contains 1 = true ∧ v.portRecord 1 = true
        ∧ (((v.beginCause 1 1).countRefusal 1 false).grp 1).st = .recording)
    ∧ (on.start 0).gArmed 0 = false := by decide +kernel

theorem witness_StewardReleases :
    (let v := ({ on with pfAt := some 0 } : State).start 0; (v.gcfg 0).isSome = true ∧ v.releasesHeld = true)
    ∧ (let v := on.start 0; (v.gcfg 0).isSome = true ∧ v.releasesHeld = false
      ∧ (v.part (v.gpart 0)).seq ≤ v.rdq (Reg.aqgRelLast 0) 3 % 2 ^ 72)
    ∧ (let v := ({ on with parts := [(0, { Partition.factory with seq := 1 })] } : State).start 0;
      v.releasesHeld = false ∧ v.rdq (Reg.aqgRelFirst 0) 3 % 2 ^ 72 ≤ v.rdq (Reg.aqgRelLast 0) 3 % 2 ^ 72
        ∧ v.rdq (Reg.aqgRelLast 0) 3 % 2 ^ 72 < (v.part (v.gpart 0)).seq ∧ (v.release 0 0 0).isSome = true) := by decide

theorem witness_RecordCommits :
    (let v := (up (withGrp on 0 (fun x => { x with queue := [rec0] }))).start 0;
      (v.grp 0).queue = [rec0] ∧ v.mayCommit 0 rec0 = true ∧ (v.grp 1).queue = [])
    ∧ (let v := (withGrp on 0 (fun x => { x with queue := [rec0] })).start 0;
      (v.grp 0).queue = [rec0] ∧ v.mayCommit 0 rec0 = false) := by decide +kernel

theorem witness_FilterCommands :
    (let v := on.start 0; v.writeReach .pf0 (Reg.bnkFlt 0 15) true true = .allowed ∧ (v.accessDemand .pf0).live (16 * 0 + 15) = true
      ∧ fld (0 : Word) 31 25 = 0 ∧ fld (0x80000000 : Word) 31 25 ≠ 0 ∧ v.writeReach .pf1 (Reg.bnkFlt 0 15) true true = .refused 1)
    ∧ (let v := on.start 0; (v.accessDemand .pf0).fltWhy 0 0 0x00FF00FF = some 0
      ∧ (v.accessDemand .pf0).groupOfChan (16 * 0 + 0) = some 0)
    ∧ (State.reset.start 0).writeReach .pf0 (Reg.bnkFlt 0 15) true true = .allowed
    ∧ ((State.reset.start 0).accessDemand .pf0).live (16 * 4 + 15) = false
    ∧ (let v := ready0.start 0; v.primed 0 0 = true ∧ v.groupOfChan (16 * 0 + 0) = some 0 ∧ v.primed 1 0 = false) := by
  decide +kernel

theorem witness_AccumulationCommands :
    (let v := ({ up on with foldQueue := [2] } : State).start 0;
      v.foldQueue = [2] ∧ v.foldAt = none ∧ 256 ≤ v.tok accPort ∧ v.writable = true)
    ∧ (on.start 0).foldQueue = [] ∧ (on.start 0).foldAt = none
    ∧ (let v := ({ on with foldQueue := [2], foldAt := some 0, now := 2 ^ 40 } : State).start 0;
      v.foldAt = some 0 ∧ v.foldQueue = [2] ∧ 0 + v.foldTicks 2 ≤ v.now ∧ 0 ≤ v.tok accPort)
    ∧ (let v := (both ({ on with foldQueue := [2], foldAt := some 0 } : State) (Reg.aqgPost 2) 1).start 0;
      v.foldAt = some 0 ∧ v.foldQueue = [2] ∧ v.now < 0 + v.foldTicks 2)
    ∧ (let v := (withGrp on 2 (fun x => { x with acc := { x.acc with emitWait := [rec0] } })).start 0;
      (v.grp 2).acc.emitWait ≠ [] ∧ ((v.tryEmit 2 8).grp 2).disarming = false ∧ (v.grp 1).acc.emitWait = [])
    ∧ (let v := (withGrp on 2 (fun x => { x with disarming := true, acc := { x.acc with emitWait := [rec0] } })).start 0;
      (v.grp 2).acc.emitWait ≠ [] ∧ ((v.tryEmit 2 8).grp 2).disarming = true)
    ∧ (let v := (withGrp on 2 (fun x => { x with st := .armed })).start 0;
      v.gmode 2 = 2 ∧ v.gArmed 2 = true ∧ (v.grp 2).cur = none ∧ (v.grp 2).acc.staged = none)
    ∧ (let v := (withGrp on 2 (fun x => { x with st := .recording, cur := some cur0 })).start 0;
      v.gmode 2 = 2 ∧ v.gArmed 2 = true ∧ (v.grp 2).cur ≠ none) ∧ (on.start 0).gArmed 2 = false := by decide +kernel

/-- A stack with some of its fields set. -/
def withStack (s : State) (k : Nat) (f : Stack → Stack) : State := s.setStack k (f (s.stack k))

theorem witness_StacksAndErrors :
    (let v := on.start 0; v.rd (Reg.memStatus 3) 2 0 ≤ 1 ∧ (v.stack 3).failed = false ∧ (v.stack 3).frozen = false
      ∧ (v.stack 3).attempts < 2 ∧ v.running 3 = false ∧ (v.stack 3).pcBusy = none ∧ v.memReqs = []
      ∧ signed 8 (v.rd (Reg.memTemp 3) 7 0) ≤ 95)
    ∧ 2 ≤ ((up on).start 0).rd (Reg.memStatus 3) 2 0
    ∧ (let v := (withStack on 3 (fun x => { x with attempts := 2 })).start 0; v.rd (Reg.memStatus 3) 2 0 ≤ 1
      ∧ (v.stack 3).failed = false ∧ (v.stack 3).frozen = false ∧ 2 ≤ (v.stack 3).attempts)
    ∧ ((-127 : Int) ≤ 96 ∧ (96 : Int) ≤ 127) ∧ ((-127 : Int) ≤ 106 ∧ (106 : Int) ≤ 127)
    ∧ (let v := (on.put (Reg.memTemp 3) 100).start 0; 95 < signed 8 (v.rd (Reg.memTemp 3) 7 0)
      ∧ signed 8 (v.rd (Reg.memTemp 3) 7 0) ≤ 105)
    ∧ (let v := (withStack ((up on).put (Reg.memTemp 3) 90) 3 (fun x => { x with trainTemp := some 25 })).start 0;
      v.running 3 = true ∧ (v.stack 3).pcBusy = none ∧ (v.stack 3).trainTemp ≠ none ∧ v.moved 3 31 = true
        ∧ (v.stack 3).lastPause = 0)
    ∧ (let v := (withStack (up on) 3 (fun x => { x with pcBusy := some 31 })).start 0; (v.stack 3).pcBusy = some 31
      ∧ (v.stack 3).pcTries < 2)
    ∧ (let v := (withStack (up on) 3 (fun x => { x with pcBusy := some 31, pcTries := 2 })).start 0; (v.stack 3).pcBusy = some 31
      ∧ 2 ≤ (v.stack 3).pcTries)
    ∧ (let v := (up on).start 0; v.power ≤ 1 ∧ v.alm.isSome = true ∧ v.anyFrozen = false ∧ v.memReqs = []
      ∧ (∀ k < 4, (v.stack k).failed = false ∧ v.takes k (v.rd Reg.memScrubPos 31 0) = true) ∧ v.scrubGranted = true
      ∧ 256 ≤ v.tok scrubPort ∧ tget v.scrubbed 0 (v.rd Reg.memScrubPos 31 0) = 0)
    ∧ (let v := ({ up on with scrubbed := [(0, 1)] } : State).start 0; tget v.scrubbed 0 (v.rd Reg.memScrubPos 31 0) ≠ 0)
    ∧ ((up on).start 0).running 3 = true ∧ (State.reset.start 0).alm = none ∧ 0 < slotCount := by decide +kernel

theorem witness_MemoryCommands :
    (let v := on.start 0; v.plain = false ∧ v.alm.isSome = true ∧ (∀ j < 4, j ≠ (0 : Fin 4).val → (v.stack j).failed = false))
    ∧ (State.reset.start 0).alm = none
    ∧ (let v := on.start 0; v.writeReach .pf0 (Reg.memRegRate 24) true true = .allowed
      ∧ v.writeReach .pf0 (Reg.memRegBurst 24) true true = .allowed ∧ fld (0xFFFF : Word) 31 16 = 0 ∧ fld (0xFFFFFF : Word) 31 24 = 0
      ∧ (v.accessDemand .pf0).memReqs = [] ∧ fld (0x1000000 : Word) 31 24 ≠ 0
      ∧ v.writeReach .pf1 (Reg.memRegBurst 24) true true = .refused 1)
    ∧ (({ on with resetStep := .requested } : State).start 0).resetStep = .requested
    ∧ (let v := on.start 0; v.resetStep ≠ .requested ∧ v.safeHoldAt = none ∧ v.move = .steady ∧ v.coreLocked = false)
    ∧ (let v := ({ on with safeHoldAt := some 0 } : State).start 0; v.resetStep ≠ .requested ∧ v.safeHoldAt ≠ none
      ∧ v.holdDone = false)
    ∧ (({ on with move := .entering 2 0 } : State).start 0).move = .entering 2 0
    ∧ (({ on with move := .entering 3 0 } : State).start 0).move = .entering 3 0
    ∧ (let v := ({ on with coreLocked := true } : State).start 0; v.resetStep = .released ∧ v.coreLocked = true
      ∧ v.recovery = false ∧ v.power = 0 ∧ v.safeHoldAt = none ∧ v.pfAt = none ∧ v.residencyOver = true)
    ∧ (let v := ({ on with move := .exiting 0 } : State).setPower 2 |>.start 0; v.move = .exiting 0 ∧ 2 ≤ v.power
      ∧ v.residencyOver = true) := by decide +kernel

theorem witness_Bar2Accesses :
    (let u := ((up on).start 0).accessDemand .pf0;
      u.inReset = false ∧ u.memReqs = [] ∧ u.safeHoldAt = none ∧ u.readHeld 0 4096 = false
        ∧ (256 : Int) * max 1 (ceilDiv (0 % 36 + 4096) 36) ≤ u.tok mgmtPort)
    ∧ (let u := ((up on).start 0).accessDemand .pf1; u.inReset = false ∧ u.priv 0 ≠ 1)
    ∧ (({ on with resetStep := .asserted } : State).start 0 |>.accessDemand .pf1).inReset = true
    ∧ (({ on with alm := some { tAlm with privs := [1] } } : State).start 0 |>.accessDemand .pf1).priv 0 = 1 := by
  decide +kernel

/-- A channel with some of its fields set. -/
def withCh (s : State) (e c : Nat) (f : HCh → HCh) : State := s.setHch e c (f (s.hch e c))

/-- An engine with a descriptor of channel 63 in hand. -/
def job (ph : HPhase) (op : Nat) : HJob := ⟨63, 0, ph, ⟨1, op, 0, 0, 0, 0, 0, 0, 0, 0, 0, 0⟩, 0, 0, 0, [], false, false⟩

theorem witness_ChannelCommands :
    (let v := on.start 0; (v.hch 4 63).st = 0 ∧ (v.hch 4 63).st ≠ 5 ∧ (v.hch 4 63).st ≠ 3 ∧ (v.engine 4).job = none)
    ∧ (let v := (withCh on 4 63 (fun x => { x with st := 1 })).start 0; (v.hch 4 63).st = 1 ∧ (v.hch 4 63).st ≠ 0)
    ∧ (let v := (withCh on 4 63 (fun x => { x with st := 4 })).start 0; (v.hch 4 63).st = 4 ∧ (v.hch 4 63).redo = false)
    ∧ (let v := (withCh (on.put Reg.prtPcieStatus 0x4D) 4 63 (fun x => { x with st := 4, redo := true })).start 0;
      (v.hch 4 63).st = 4 ∧ (v.hch 4 63).redo = true ∧ v.demandExit.pcieUp = true)
    ∧ (let v := (withCh on 4 63 (fun x => { x with st := 4, redo := true })).start 0; (v.hch 4 63).st = 4
      ∧ (v.hch 4 63).redo = true ∧ v.demandExit.pcieUp = false)
    ∧ (let v := (withCh on 4 63 (fun x => { x with st := 5 })).start 0; (v.hch 4 63).st = 5)
    ∧ (let v := (withCh on 4 63 (fun x => { x with st := 3 })).start 0; (v.hch 4 63).st = 3)
    ∧ (let v := (withCh { on with eng := [(4, ⟨63, some (job .run 0), none, false⟩)] } 4 63
        (fun x => { x with st := 3, disabling := true })).start 0;
      (v.engine 4).job = some (job .run 0) ∧ (job .run 0).ch = 63 ∧ (v.hch 4 63).disabling = true) := by decide +kernel

/-- A descriptor without operation that ends its chain: NEXT 1, and the CRC-32C of its 52 zero bytes. -/
def nopDesc : List Byte := [1] ++ List.replicate 59 0 ++ [0xCA, 0x8A, 0x66, 0x6B]

/-- What the engine of a fetched descriptor is judged in. -/
def fetched (s : State) (bytes : List Byte) : State :=
  (s.setHch 4 63 { (s.hch 4 63) with sampled := (s.hch 4 63).db, redo := false, tag := (descOf bytes).tag }).setBit
    (Reg.hrvChCtl 4 63) 8 false

theorem witness_EngineSteps :
    (let v := (withCh (on.put (Reg.hrvCtl 4) 1) 4 63 (fun x => { x with st := 2 })).start 0;
      v.bit (Reg.hrvCtl 4) 0 = true ∧ (v.engine 4).job = none ∧ v.nextChannel 4 = some 63)
    ∧ (on.start 0).bit (Reg.hrvCtl 4) 0 = false
    ∧ (let v := ({ on with eng := [(4, ⟨63, some (job .fetch 0), none, false⟩)] } : State).start 0;
      (v.engine 4).job = some (job .fetch 0) ∧ (job .fetch 0).phase = .fetch ∧ (v.hch 4 63).disabling = false
        ∧ v.harvestWaits = false ∧ isLocal (job .fetch 0).addr = false
        ∧ (fetched v nopDesc).judge 4 false nopDesc (descOf nopDesc) = 0 ∧ (fetched v []).judge 4 false [] (descOf []) ≠ 0)
    ∧ (let v := ({ on with eng := [(4, ⟨63, some (job .run 1), none, false⟩)] } : State).start 0;
      (v.engine 4).job = some (job .run 1) ∧ (job .run 1).phase = .run ∧ (v.hch 4 63).disabling = false ∧ v.harvestWaits = false
        ∧ (job .run 1).d.op ≠ 3 ∧ v.jobWaits (job .run 1) = false)
    ∧ (let v := ({ on with eng := [(4, ⟨63, some (job .run 3), none, false⟩)] } : State).start 0;
      (v.engine 4).job = some (job .run 3) ∧ (job .run 3).phase ≠ .fetch ∧ (v.hch 4 63).disabling = false
        ∧ v.harvestWaits = false ∧ (job .run 3).d.op = 3 ∧ (job .run 3).blk = false ∧ (job .run 3).d.sel ≠ 3)
    ∧ (({ on with pfAt := some 0 } : State).start 0).harvestWaits = true
    ∧ (let v := ({ on with eng := [(4, ⟨63, some (job (.ended ⟨0, 0, 0, 0, 0⟩) 0), none, false⟩)] } : State).start 0;
      (v.engine 4).job = some (job (.ended ⟨0, 0, 0, 0, 0⟩) 0))
    ∧ (let v := ({ on with eng := [(4, ⟨63, some (job .reread 0), none, false⟩)] } : State).start 0;
      (v.engine 4).job = some (job .reread 0) ∧ (v.hch 4 63).disabling = false)
    ∧ (let v := (withCh { on with eng := [(4, ⟨63, some (job .reread 0), none, false⟩)] } 4 63
        (fun x => { x with disabling := true })).start 0;
      (v.engine 4).job = some (job .reread 0) ∧ (v.hch 4 63).disabling = true)
    ∧ (let v := ({ on with eng := [(0, ⟨63, some (job .run 1), none, false⟩)] } : State).setStream 0
        { Stream.idle with job := some 0, lastFrame := some 0, acked := 1 } |>.start 0;
      (v.engine 0).job = some (job .run 1) ∧ (v.hch 0 63).disabling = false ∧ (v.streamDone 0 (job .run 1)).isSome = true)
    ∧ (let v := ({ on with eng := [(0, ⟨63, some (job .run 1), none, false⟩)] } : State).setStream 0
        { Stream.idle with job := some 0, lastFrame := some 0, next := 1 } |>.start 0;
      v.streamDone 0 (job .run 1) = none) := by
  decide +kernel

theorem witness_EngineCommands :
    (on.start 0).octetMode 0 ≠ 0 ∧ (on.start 0).octetMode 1 = 0 ∧ ((on.start 0).engine 4).job = none
    ∧ ((on.start 0).engine 4).held = false ∧ (∀ x, (job .run 0).phase ≠ .ended x)
    ∧ (let v := (({ on with eng := [(4, ⟨63, none, none, true⟩)], msixOn := true, pcieReady := true } : State).put
        Reg.prtPcieStatus 0x43 |>.put (Reg.msixAddrDataCtl (4 * 5 + 3)) 0).start 0;
      (v.engine 4).held = true ∧ v.msixOn = true ∧ v.deliverable (1 + (4 : Fin 5).val) = true ∧ v.out = []
        ∧ (v.engine 4).lastMsg = none) := by
  refine ⟨by decide, by decide, by decide, by decide, fun x => ?_, by decide⟩
  simp [job]

theorem witness_PcieAndInterrupts :
    (let v := (on.put Reg.prtPcieStatus 0x4D).start 0; v.pcieUp = true ∧ v.perst = false)
    ∧ (let v := on.start 0; v.pcieUp = false ∧ v.perst = false ∧ v.rd Reg.pwrStatus 6 4 ≠ 3 ∧ 1 ≤ 6 ∧ 6 ≤ 6
      ∧ widthCode 16 ≠ 0 ∧ v.recovery = false)
    ∧ (({ on with perst := true } : State).start 0).perst = true := by decide

/-- The loaded device with port 0 up and switched on. -/
def port0 : State := (on.put (Reg.prtEthStatus 0) 1).put (Reg.prtEthCtl 0) 1

/-- A UDP datagram without content over IPv4, from port 1 at 0.0.0.0 to port 0x4854 at 0.0.0.0, with its FCS. -/
def udpFrame : List Byte :=
  List.replicate 12 0 ++ [8, 0, 0x45, 0, 0, 28, 0, 0, 0, 0, 0, 17] ++ List.replicate 10 0
    ++ [0, 1, 0x48, 0x54, 0, 8] ++ List.replicate 20 0 ++ [0x9a, 0xa0, 0x3c, 0xeb]

/-- A stream carried on port 0 with frames 2 and 3 in flight. -/
def carried : Stream := { Stream.idle with st := 1, acked := 2, next := 4, sent := [⟨2, 0, 0, 0, 0, 0, []⟩, ⟨3, 0, 0, 0, 0, 0, []⟩] }

theorem witness_EthernetMessages :
    (port0.start 0).portOn 0 = true ∧ (port0.start 0).acceptFrame 0 [] = none ∧ (on.start 0).portOn 0 = false
    ∧ (port0.start 0).acceptFrame 0 udpFrame = some (0, 1, [])
    ∧ msgOkFor (unitId none) [] = false
    ∧ (let v := ({ port0 with streams := [(0, carried)] } : State).start 0;
      v.priv (6 + 0 / 8) ≠ 1 ∧ v.fromReceiver 0 0 0 0 = true ∧ v.carriedHere 0 0 0 = true
        ∧ carried.acked ≤ 2 ∧ 2 ≤ carried.next ∧ carried.acked ≤ 4 ∧ 4 ≤ carried.next ∧ 1 < carried.acked ∧ carried.next < 5
        ∧ (⟨2, 0, 0, 0, 0, 0, []⟩ : Frame) ∈ carried.sent ∧ v.carriedHere 0 0 1 = false ∧ carried.owner = none)
    ∧ (let v := ({ port0 with alm := some { tAlm with privs := List.replicate 6 0 ++ [1] } } : State).start 0;
      v.priv (6 + 0 / 8) = 1)
    ∧ (let v := (port0.put (Reg.prtStPartMask 0) 0x80000000).start 0; (v.get (Reg.prtStPartMask 0)).toNat.testBit 31 = true
      ∧ (v.get (Reg.prtStPartMask 0)).toNat.testBit 0 = false ∧ v.releasesHeld = false)
    ∧ (({ port0 with pfAt := some 0 } : State).start 0).releasesHeld = true := by decide +kernel

theorem witness_StreamsAndPorts :
    (let v := (on.put (Reg.prtStCtl 255) 0x3100).start 0; v.ethPorts (v.stOctet 255) ≤ v.rd (Reg.prtStCtl 255) 10 8)
    ∧ (let v := (on.put (Reg.prtStCtl 255) 0x0700).start 0; v.rd (Reg.prtStCtl 255) 10 8 < v.ethPorts (v.stOctet 255)
      ∧ (v.stream 255).job = none)
    ∧ (port0.start 0).ethExists 7 = true ∧ (port0.start 0).ethUp 0 = true ∧ (on.start 0).ethExists 0 = true
    ∧ (on.start 0).ethUp 0 = false ∧ (on.start 0).ethAllowed = true := by decide

theorem witness_StreamSending :
    (let v := ({ port0 with streams := [(255, { carried with resend := [3] })] } : State).start 0;
      (v.stream 255).st = 1 ∧ v.dataRuns = true ∧ v.portOn (v.stream 255).port = true ∧ (v.stream 255).sendAt ≤ v.now
        ∧ (v.stream 255).resend = 3 :: [] ∧ ((v.stream 255).sent.find? (fun f => f.seq == 3)).isSome = true)
    ∧ (let v := on.start 0; (v.stream 255).st ≠ 1 ∧ v.portOn (v.stream 255).port = false ∧ (v.stream 255).sent = [])
    ∧ (let v := (({ port0 with streams := [(255, carried)], now := 10 * usec } : State).put (Reg.prtStRto 255) 0x1000A).start 0;
      (v.stream 255).sent ≠ [] ∧ (v.stream 255).advAt + v.rto 255 ≤ v.now ∧ (v.stream 255).retries < v.retryMax 255)
    ∧ (let v := (({ port0 with streams := [(255, { carried with retries := 1 })], now := 10 * usec } : State).put
        (Reg.prtStRto 255) 0x1000A).start 0;
      (v.stream 255).sent ≠ [] ∧ (v.stream 255).advAt + v.rto 255 ≤ v.now ∧ v.retryMax 255 ≤ (v.stream 255).retries) := by
  decide +kernel

theorem witness_ManagementPorts :
    (let v := (port0.put Reg.prtTelemCtl 0x10000).start 0;
      ((List.range 8).map (fun k => 8 * 0 + k)).find? v.portOn = some 0 ∧ v.bit Reg.prtTelemCtl 16 = true ∧ v.power ≤ 2
        ∧ v.inReset = false)
    ∧ ((List.range 8).map (fun k => 8 * 0 + k)).find? (on.start 0).portOn = none ∧ (on.start 0).portOn 0 = false
    ∧ (({ on with recovery := true } : State).start 0).recovery = true
    ∧ (let v := ({ port0 with mgmtWin := [(0, (0, 999))] } : State).start 0; v.portOn 0 = true ∧ (v.mgmtCount 0).2 < 1000
      ∧ v.priv (2 + 0 / 8) ≠ 1)
    ∧ (let v := ({ on with telem := List.replicate 70 0 } : State).start 0; v.priv 1 ≠ 1 ∧ v.telem ≠ [] ∧ v.power ≠ 3 ∧ v.priv 12 ≠ 3
      ∧ v.recovery = false ∧ text "VERIFY" ≠ text "STATUS" ∧ 3 < 4) ∧ (on.start 0).telem = []
    ∧ (let v := ((on.setPower 3)).start 0; v.power = 3 ∧ v.priv 1 ≠ 1)
    ∧ (let v := ({ on with alm := some { tAlm with privs := [0, 1] } } : State).start 0; v.priv 1 = 1)
    ∧ (let v := ({ on with alm := some { tAlm with privs := List.replicate 12 0 ++ [3] } } : State).start 0; v.priv 12 = 3)
    ∧ (let v := (({ on with margins := [(55, (2, 0))] } : State).put Reg.prtMarginMin 20).start 0; v.rd Reg.prtMarginMin 7 0 ≤ 20
      ∧ 19 < v.rd Reg.prtMarginMin 7 0 ∧ 2 ≤ (tget v.margins (0, 0) 55).1 ∧ v.bit (Reg.prtMargin 55) 16 = false
      ∧ (tget v.margins (0, 0) 54).1 < 2 ∧ (tget v.margins (0, 0) 54).2 < 2)
    ∧ (let v := ({ on with margins := [(55, (0, 2))] } : State).start 0; 2 ≤ (tget v.margins (0, 0) 55).2) := by decide +kernel

/-! ### A message under the device's own identity, whatever its serial number is -/

theorem leNat_leBytes (n x : Nat) (h : x < 256 ^ n) : leNat (leBytes n x) = x := by
  induction n generalizing x with
  | zero => simp [leBytes, leNat] at *; omega
  | succ n ih =>
    have : x / 256 < 256 ^ n := Nat.div_lt_of_lt_mul (by rw [Nat.pow_succ] at h; omega)
    simp only [leBytes, leNat, ih _ this, BitVec.toNat_ofNat]
    omega

theorem crcBits_lt (n c : Nat) (h : c < 2 ^ 32) : crcBits n c < 2 ^ 32 := by
  induction n generalizing c with
  | zero => exact h
  | succ n ih =>
    simp only [crcBits]
    apply ih
    split
    · exact Nat.xor_lt_two_pow (by omega) (by decide)
    · omega

theorem crc32c_lt (bs : List Byte) : crc32c bs < 2 ^ 32 := by
  have : ∀ (l : List Byte) (c : Nat), c < 2 ^ 32 → l.foldl crcStep c < 2 ^ 32 := by
    intro l
    induction l with
    | nil => exact fun c h => h
    | cons b r ih => exact fun c h => ih _ (crcBits_lt 8 _ (Nat.xor_lt_two_pow h (by have := b.isLt; omega)))
  exact Nat.xor_lt_two_pow (this bs _ (by decide)) (by decide)

/-- A message of this device for stream 0 that asks for frame 2. -/
def msg (ty : Nat) (rest : List Byte) : List Byte := message ty 0 0 ([0, 0, 0, 0, 0, 0, 0, 2] ++ rest)

theorem serial_spelt : beNat (beBytes 8 Config.serial.toNat) = Config.serial.toNat := by
  rw [beNat, beBytes, List.reverse_reverse]
  exact leNat_leBytes _ _ Config.serial.isLt

theorem crc_spelt (bs : List Byte) : beNat (beBytes 4 (crc32c bs)) = crc32c bs := by
  rw [beNat, beBytes, List.reverse_reverse]
  exact leNat_leBytes _ _ (crc32c_lt bs)

theorem msgOk_of (bs m : List Byte) (n : Nat) (hn : bs.length = n + 4) (h16 : 16 ≤ n) (h0 : beAt bs 0 2 = 0x4854)
    (h2 : beAt bs 2 1 = 1) (hu : beAt bs 4 8 = Config.serial.toNat) (ht : [2, 3, 4, 7, 9].contains (beAt bs 3 1) = true)
    (hl : msgLength (beAt bs 3 1) = some (n + 4) ∨ msgLength (beAt bs 3 1) = none) (hm : bs.take n = m) (hc : beAt bs n 4 = crc32c m) : msgOk bs = true := by
  have h4 : n + 4 - 4 = n := by omega
  simp only [List.contains_cons, List.contains_nil, Bool.or_false] at ht
  rcases hl with hl | hl <;>
    simp only [msgOk, msgOkFor, hn, h0, h2, hu, hl, h4, hm, hc, beq_self_eq_true, Bool.and_true, Bool.or_assoc, ht] <;>
    exact decide_eq_true (by omega)

theorem witness_EthernetMessages_bytes :
    (∀ bs ∈ [msg 2 (List.replicate 4 0), msg 3 ([0, 0, 0, 1]), msg 4 (List.replicate 32 0)],
      msgOk bs = true ∧ beAt bs 0xC 2 = 0 ∧ beAt bs 0xE 2 = 0)
    ∧ beAt (msg 2 (List.replicate 4 0)) 3 1 = 2 ∧ beAt (msg 2 (List.replicate 4 0)) 0x10 8 = 2
    ∧ beAt (msg 3 ([0, 0, 0, 1])) 3 1 = 3 ∧ beAt (msg 3 ([0, 0, 0, 1])) 0x10 8 = 2 ∧ beAt (msg 3 ([0, 0, 0, 1])) 0x18 4 = 1
    ∧ beAt (msg 4 (List.replicate 32 0)) 3 1 = 4 ∧ beAt (msg 4 (List.replicate 32 0)) 0x14 1 = 0 := by
  refine ⟨?_, rfl, rfl, rfl, rfl, rfl, rfl, rfl⟩
  intro bs hb
  simp only [List.mem_cons, List.not_mem_nil, or_false] at hb
  rcases hb with rfl | rfl | rfl
  · exact ⟨msgOk_of _ _ 28 rfl (by decide) rfl rfl serial_spelt rfl (.inl rfl) rfl (crc_spelt _), rfl, rfl⟩
  · exact ⟨msgOk_of _ _ 28 rfl (by decide) rfl rfl serial_spelt rfl (.inl rfl) rfl (crc_spelt _), rfl, rfl⟩
  · exact ⟨msgOk_of _ _ 56 rfl (by decide) rfl rfl serial_spelt rfl (.inl rfl) rfl (crc_spelt _), rfl, rfl⟩

theorem witness_ManagementPorts_bytes :
    msgOk (msg 7 (List.replicate 4 0)) = true ∧ beAt (msg 7 (List.replicate 4 0)) 3 1 = 7
    ∧ msgOk (msg 9 []) = true ∧ beAt (msg 9 []) 3 1 = 9 :=
  ⟨msgOk_of _ _ 28 rfl (by decide) rfl rfl serial_spelt rfl (.inl rfl) rfl (crc_spelt _), rfl,
    msgOk_of _ _ 24 rfl (by decide) rfl rfl serial_spelt rfl (.inr rfl) rfl (crc_spelt _), rfl⟩

/-- A loaded ring member at position 0 of one procession 0 to 3, its role taken, both segments up and the bypass open. -/
def ringOn : State :=
  ((({ on with alm := some { tAlm with units64 := 4, decls := [(0, 3, 0xFF)] }, bypassOpen := true } : State).put
    (Reg.rngPortStatus 0) 1).put (Reg.rngPortStatus 1) 1).put Reg.rngStatus 2

theorem witness_RingSegments :
    (let v := ({ on with bypassOpen := true } : State).start 0; v.bypassOpen = true ∧ v.bit (Reg.rngPortStatus 0) 0 = false
      ∧ v.segTop 3 0 false - (v.rport 0).tries ≠ 0)
    ∧ ((on.start 0).bypassOpen = false ∧ (ringOn.start 0).bit (Reg.rngPortStatus 1) 0 = true)
    ∧ (let v := (({ on with bypassOpen := true } : State).setRport 0 { RPort.idle with tries := 3 }).start 0;
      v.segTop 3 0 false ≤ (v.rport 0).tries)
    ∧ (on.start 0).bit (Reg.rngPortStatus 1) 0 = false
    ∧ (let v := ({ later (20 * msec + 1) with rports := [(1, { RPort.idle with downAt := some 0 })] } : State).start 0;
      (v.rport 1).downAt = some 0 ∧ (v.rport 1).raised = false ∧ 0 + 20 * msec < v.now)
    ∧ (let v := ({ later (20 * msec) with rports := [(1, { RPort.idle with downAt := some 0 }), (0, { RPort.idle with raised := true })] } : State).start 0;
      ((v.rport 1).downAt = some 0 ∧ v.now ≤ 0 + 20 * msec) ∧ (v.rport 0).downAt = none ∧ (v.rport 0).raised = true)
    ∧ (let v := on.start 0; v.writeReach .pf0 Reg.rngPosSet true true = .allowed ∧ (v.accessDemand .pf0).posWrite = none
      ∧ v.writeReach .pf1 Reg.rngPosSet true true = .refused 1 ∧ v.posWrite = none)
    ∧ (let v := ({ on with posWrite := some 0xBF } : State).start 0; v.posWrite = some 0xBF ∧ (v.accessDemand .pf0).posWrite ≠ none)
    ∧ (let v := ({ on with ringReady := some 0, now := msec } : State).start 0; v.ringReady = some 0 ∧ v.bypassOpen = false
      ∧ v.ringMember = true ∧ v.inReset = false ∧ 0 + msec ≤ v.now)
    ∧ (let v := ({ on with ringReady := some 0, now := msec - 1 } : State).start 0; v.ringReady = some 0 ∧ v.now < 0 + msec)
    ∧ ((on.start 0).ringReady = none ∧ (ringOn.start 0).bypassOpen = true ∧ (State.reset.start 0).ringMember = false
      ∧ (({ on with resetStep := .asserted } : State).start 0).inReset = true) := by decide

/-- A flit of a class from position 3 to every unit, with a body. -/
def flit (cls body : Nat) : List Native :=
  (List.range 8).map (fun k => BitVec.ofNat 36 (((FlitHdr.bits ⟨0, 0, 1, 0x7F, 3, cls⟩) + 2 ^ 32 * body) / 2 ^ (36 * k)))

theorem witness_RingFlits :
    (let v := ringOn.start 0; (∀ cls < 5, v.recvFlit .east cls (flit cls 7) = some (⟨0, 0, 1, 0x7F, 3, cls⟩, 7)
        ∧ (on.start 0).recvFlit .east cls (flit cls 7) = none)
      ∧ bitsOf (2 ^ 228) 229 228 = 1 ∧ bitsOf 7 3 0 ≠ 3 ∧ bitsOf 5 3 0 = 5
      ∧ v.hasSeen 16 3 7 = false ∧ (v.repeatFlit .east ⟨0, 0, 1, 0x7F, 3, 3⟩ 7).forMe ⟨0, 0, 1, 0x7F, 3, 3⟩ = true
      ∧ v.recvFlit .east 3 (List.map (fun k => BitVec.ofNat 36 (((FlitHdr.bits ⟨0, 0, 1, 5, 3, 3⟩) + 2 ^ 32 * 7) / 2 ^ (36 * k)))
          (List.range 8)) = some (⟨0, 0, 1, 5, 3, 3⟩, 7)
      ∧ (v.repeatFlit .east ⟨0, 0, 1, 5, 3, 3⟩ 7).forMe ⟨0, 0, 1, 5, 3, 3⟩ = false)
    ∧ ((ringOn.start 0).marksFrom 3 = false ∧ (ringOn.start 0).marksFrom 0 = true)
    ∧ (let v := ({ ringOn with seen := [(16, 3, 7, 0), (0, 3, 7, 0)] } : State).start 0; v.hasSeen 16 3 7 = true
      ∧ ∀ k < bitsOf (7 + 2 ^ 228) 229 228, v.hasSeen (bitsOf (7 + 2 ^ 228) (219 + 4 * k) (216 + 4 * k)) 3
          (bitsOf (7 + 2 ^ 228) (71 + 72 * k) (72 * k)) = true) := by decide +kernel

/-- A neighbour that has taken this unit's frame and follows source 3. -/
def peer : AlignBody := ⟨some 1, false, some 3, 0, 4096, some 8192, 0⟩

theorem witness_RingAlignment :
    (let v := (({ State.reset with bypassOpen := true } : State).put (Reg.rngPortStatus 0) 1).start 0;
      v.ringUp 0 = true ∧ (v.takePeer 0 peer).follows = false)
    ∧ (let v := (({ (ringOn.put Reg.rngStatus 3) with counting := true } : State).setRport 0
        { RPort.idle with sentAt := some 0 }).start 0;
      v.ringUp 0 = true ∧ (v.takePeer 0 peer).follows = true ∧ (v.takePeer 0 peer).parent = some 0
        ∧ (v.takePeer 0 peer).counting = true ∧ peer.took = some 8192 ∧ (v.rport 0).sentAt = some 0)
    ∧ (let v := ({ (ringOn.put Reg.rngStatus 3) with counting := true } : State).start 0;
      (v.takePeer 0 peer).follows = true ∧ (v.takePeer 0 peer).parent = some 0 ∧ (v.takePeer 0 peer).counting = true
        ∧ (v.rport 0).sentAt = none)
    ∧ (on.start 0).ringUp 1 = false
    ∧ (let v := (ringOn.put Reg.rngStatus 3).start 0; v.follows = true ∧ v.bypassOpen = true ∧ v.silent 0 = true
      ∧ v.silent 1 = true ∧ v.stepDue = none)
    ∧ (on.start 0).follows = false ∧ (on.start 0).bypassOpen = false
    ∧ (let v := ((ringOn.put Reg.rngStatus 3).setRport 1 { RPort.idle with heardAt := some 0 }).start 0; v.silent 1 = false)
    ∧ (let v := ({ (ringOn.put Reg.rngStatus 3) with counting := true, stepDue := some 4096 } : State).start 0;
      v.stepDue = some 4096 ∧ v.follows = true ∧ v.counting = true ∧ v.mayStep = true) := by decide

/-- Window 63 onto a device, or onto nothing. -/
def win (ctl : Word) : State := both ringOn (Reg.rngWinCtl 63) ctl

theorem witness_RingWindows :
    (let u := ((win 1).start 0).demandExit; u.inReset = false ∧ u.recovery = false ∧ winFits 0x1FFFFF8 8 = true ∧ u.winWrites 63 = []
      ∧ u.mine 0 = true ∧ u.winTarget 63 = .at_ (.dev 0))
    ∧ (let u := ((win 0).start 0).demandExit; u.winTarget 63 = .none 0)
    ∧ (let u := ((win 0x301).start 0).demandExit; u.winTarget 63 = .at_ (.dev 3) ∧ u.mine 3 = false)
    ∧ (let u := (({ win 0x301 with ctlReqs := [⟨4095, .write, [3], 0, false, 0, 63⟩], now := 5 * msec } : State).start 0).demandExit;
      u.winWrites 63 ≠ [])
    ∧ (({ on with resetStep := .asserted } : State).start 0).demandExit.inReset = true
    ∧ (({ on with recovery := true } : State).start 0).demandExit.recovery = true ∧ winFits 0x1FFFFFC 8 = false
    ∧ (let u := ((both (ringOn.put (Reg.rngWinPath 63) 0) (Reg.rngWinCtl 63) 3).start 0).demandExit;
      u.winTarget 63 = .at_ (.proc 0) ∧ u.arcOfDecl 0 = [0, 1, 2, 3] ∧ (u.arcOfDecl 0).any u.mine = true)
    ∧ (let v := ({ win 0x301 with ctlReqs := [⟨4095, .write, [3], 0, false, 0, 63⟩], now := 5 * msec } : State).start 0;
      v.ctlReqs.find? (fun q => q.tag == 4095 && q.why != .activate && decide (q.sentAt + v.ctlTimeout ≤ v.now))
        = some ⟨4095, .write, [3], 0, false, 0, 63⟩
      ∧ v.ctlReqs.find? (fun q => q.tag == 0 && q.why != .activate && decide (q.sentAt + v.ctlTimeout ≤ v.now)) = none) := by decide

/-- A partition that is forwarded and holds one record. -/
def forwarding : State :=
  ({ up ringOn with fwd := [(0, ⟨true, 0⟩)] } : State).setPart 0
    { Partition.factory with recs := [⟨0, 0, 3, 0, 0, 0, false, 0, 0⟩], seq := 1 }

theorem witness_MarksAndForwarding :
    (let v := ringOn.start 0; v.issuer = true ∧ v.ep + v.calLead ≤ v.markInstant ∧ 2 * usec ≤ v.calLead ∧ (∀ m ∈ v.marks, m.instant ≤ v.ep)
      ∧ v.calNext = none ∧ ∀ m ∈ v.marks, v.ep < m.instant)
    ∧ (let v := (ringOn.put Reg.rngCalLead 1).start 0; v.calLead < 2 * usec)
    ∧ (let v := ({ ringOn with marks := [⟨1, 1, true, 0, true⟩] } : State).start 0; ∃ m ∈ v.marks, v.ep < m.instant)
    ∧ (let v := ({ ringOn with calNext := some 0 } : State).start 0; v.calNext = some 0 ∧ 0 ≤ v.now ∧ v.issuer = true)
    ∧ (let v := ({ ringOn with calNext := some 1 } : State).start 0; v.calNext = some 1 ∧ v.now < 1)
    ∧ (let v := ({ (ringOn.put Reg.rngPos 0x81) with calNext := some 0 } : State).start 0; v.calNext = some 0 ∧ v.issuer = false)
    ∧ (let v := ({ ringOn with marks := [⟨0, 1, true, 0, true⟩] } : State).start 0; ⟨0, 1, true, 0, true⟩ ∈ v.marks
      ∧ (⟨0, 1, true, 0, true⟩ : Mark).instant ≤ v.ep ∧ ∀ y ∈ v.marks, y = ⟨0, 1, true, 0, true⟩ ∨ 0 < y.instant)
    ∧ ((ringOn.put (Reg.rngFwd 31) 1).start 0).bit (Reg.rngFwd 31) 0 = true ∧ (ringOn.start 0).bit (Reg.rngFwd 31) 0 = false
    ∧ (tget (ringOn.start 0).fwd Fwd.idle 31).on = false
    ∧ (let v := forwarding.start 0;
      (tget v.fwd Fwd.idle 0).on = true ∧ v.bit (Reg.rngFwd 0) 1 = false ∧ v.ringUp 0 = true ∧ v.dataRuns = true ∧ v.safeHoldAt = none
        ∧ v.mayPass (hrvPort (v.rd (Reg.rngFwd 0) 5 4)) = true
        ∧ ∃ r, (v.part 0).recs.find? (fun r => r.seq == max (tget v.fwd Fwd.idle 0).next (v.part 0).released) = some r
          ∧ v.recHeld 0 r = false)
    ∧ (let v := ({ forwarding with rports := [], bypassOpen := false } : State).start 0; v.ringUp 0 = false ∧ v.ringUp 1 = false)
    ∧ (let v := (forwarding.setPower 1).start 0; v.dataRuns = false)
    ∧ (let v := (forwarding.setTok (hrvPort 0) 255).start 0;
      v.touchStacks.mayPass (hrvPort (v.touchStacks.rd (Reg.rngFwd 0) 5 4)) = false) := by
  decide +kernel

theorem witness_PowerStates :
    (let v := (({ on with now := 10 * second } : State).put Reg.pwrTolControl 2000).start 0; v.mayEnter = true ∧ v.target = 1)
    ∧ (let v := (({ on with now := 10 * second } : State).put Reg.pwrTolControl 100000000).start 0; v.mayEnter = true ∧ 2 ≤ v.target
      ∧ v.calRun = none)
    ∧ ((on.start 0).mayEnter = false ∧ (on.start 0).exitDone = false)
    ∧ (let v := ({ up (on.setPower 2) with move := .exiting 0 } : State).start 0; v.move = .exiting 0 ∧ v.exitDone = true
      ∧ v.power ≠ 1)
    ∧ (let v := (on.setPower 1).start 0; v.move = .steady ∧ v.power = 1)
    ∧ (({ on with move := .entering 1 0 } : State).start 0).move = .entering 1 0
    ∧ (let v := ({ on.setPower 1 with move := .exiting 0 } : State).start 0; v.move = .exiting 0 ∧ v.exitDone = true ∧ v.power = 1)
    ∧ (let v := on.start 0; ∀ off ∈ [Reg.pwrTolCapture, Reg.pwrTolEgress, Reg.pwrTolControl, Reg.pwrCtl],
        v.writeReach .pf0 off true true = .allowed ∧ v.writeReach .smbus off true true = .refused 6)
    ∧ fld (3 : Word) 31 2 = 0 ∧ fld (4 : Word) 31 2 ≠ 0 := by decide +kernel

theorem witness_PowerStates_measure :
    (let v := on.start 0; v.maxW * 1000 < ((v.powerRaw ++ [215001]).drop (v.powerRaw.length - 99)).sum
      ∧ v.bit Reg.pwrStatus 11 = false ∧ ((v.powerRaw ++ [215000]).drop (v.powerRaw.length - 99)).sum ≤ v.maxW * 1000)
    ∧ (let v := (on.put Reg.pwrStatus 0x800).start 0; v.bit Reg.pwrStatus 11 = true ∧ 204250 * 100 ≤ v.maxW * 1000 * 95
      ∧ v.now < v.throttleOk.getD v.now + 100 * msec ∧ v.maxW * 1000 * 95 < 204251 * 100)
    ∧ (let v := (({ on with throttleOk := some 0, now := 100 * msec } : State).put Reg.pwrStatus 0x800).start 0;
      v.bit Reg.pwrStatus 11 = true ∧ v.throttleOk.getD v.now + 100 * msec ≤ v.now) := by decide

theorem witness_RailsAndPowerFail :
    (railNominal 0 < 25 * railOff 0 937 ∧ 25 * railOff 0 936 ≤ railNominal 0 ∧ railNominal 0 < 20 * railOff 0 854
      ∧ (on.start 0).tripped.contains 0 = false ∧ 100 * railOff 8 1746 ≤ 3 * railNominal 8
      ∧ 20 * railOff 0 855 ≤ railNominal 0 ∧ 3 * railNominal 8 < 100 * railOff 8 1745)
    ∧ (∀ r : Fin 9, (({ on with tripped := [r.val] } : State).start 0).tripped.contains r.val = true
      ∧ 100 * railOff r (railNominal r) ≤ 3 * railNominal r)
    ∧ (let v := on.start 0; v.pfAt = none ∧ v.power ≤ 1) ∧ (let v := (on.setPower 2).start 0; v.pfAt = none ∧ 2 ≤ v.power)
    ∧ (let v := ({ on with pfAt := some 0, now := 1100 * usec } : State).start 0; v.pfAt = some 0 ∧ v.rd Reg.pwrStatus 6 4 ≠ 3
      ∧ 0 + 1100 * usec ≤ v.now ∧ v.holdDue = false ∧ 0 + 100 * usec ≤ v.now ∧ v.tripped = [] ∧ v.rstLow = false
      ∧ v.safeHoldAt = none ∧ v.power ≤ 1 ∧ v.residencyOver = true)
    ∧ (let v := ({ on with pfAt := some 0, now := 1100 * usec, holdDue := true } : State).start 0; v.holdDue = true
      ∧ v.rd Reg.pwrStatus 6 4 ≠ 3 ∧ 0 + 1100 * usec ≤ v.now)
    ∧ (let v := (({ on with pfAt := some 0, now := 1200 * usec } : State).put Reg.pwrStatus 0x30).start 0; v.pfAt = some 0
      ∧ v.rd Reg.pwrStatus 6 4 = 3 ∧ v.tripped = [] ∧ v.residencyOver = true ∧ v.holdDue = false ∧ v.rstLow = false ∧ v.safeHoldAt = none
      ∧ v.power ≤ 1 ∧ 0 + 100 * usec ≤ v.now)
    ∧ (let v := (({ on with pfAt := some 0, now := 1200 * usec } : State).put Reg.pwrStatus 0x32).start 0; v.power = 2
      ∧ v.rd Reg.pwrStatus 6 4 = 3 ∧ v.residencyOver = true)
    ∧ (let v := ({ on with pfAt := some 0, now := 100 * usec - 1, tripped := [0] } : State).start 0; v.now < 0 + 100 * usec ∧ v.tripped ≠ [])
    ∧ (let v := ({ on with pfAt := some 0, now := 100 * usec, safeHoldAt := some 0 } : State).start 0; v.pfAt = some 0
      ∧ 0 + 100 * usec ≤ v.now ∧ v.tripped = [] ∧ v.holdDue = false ∧ v.safeHoldAt.isSome = true) := by decide +kernel

theorem witness_Calibration :
    ((800 : Int) ≤ 800 ∧ (on.start 0).writeReach .pf0 Reg.calRun true true = .allowed
      ∧ (on.start 0).writeReach .pf0 Reg.calDefer true true = .allowed ∧ fld (0xFFFF : Word) 31 16 = 0
      ∧ fld (0x10000 : Word) 31 16 ≠ 0 ∧ (on.start 0).writeReach .pf1 Reg.calRun true true = .refused 1
      ∧ (on.start 0).writeReach .pf1 Reg.calDefer true true = .refused 1
      ∧ (0xFFFF : Word).toNat.testBit 3 = true ∧ ((on.start 0).accessDemand .pf0).bankMode 3 ≠ 3)
    ∧ (tget (on.start 0).tileRaw [] 3).getLastD 0 ≤ 800
    ∧ (let v := ({ on with tileRaw := [(3, [801])] } : State).start 0; 800 < (tget v.tileRaw [] 3).getLastD 0
      ∧ (tget v.tileRaw [] 3).getLastD 0 ≤ 840)
    ∧ (let v := ({ on with tileRaw := [(3, [841])] } : State).start 0; 840 < (tget v.tileRaw [] 3).getLastD 0)
    ∧ (let v := (withBank (on.put Reg.calDefer 8) 3 (fun x => { x with calSince := some 0, deferFrom := some 0 })).start
        (30000 * msec); (v.bankAt 3).deferFrom = some 0 ∧ v.deferred 3 = true ∧ 0 + v.deferMax ≤ v.now)
    ∧ (let v := (withBank on 3 (fun x => { x with deferFrom := some 0 })).start 0; v.now < 0 + v.deferMax ∧ v.deferred 3 = false
      ∧ (v.bankAt 2).deferFrom = none)
    ∧ (let v := (withBank (on.put (Reg.bnkConvStatus 3) 1) 3 (fun x => { x with calSince := some 0 })).start 0;
      v.calRun = none ∧ v.calLast = none ∧ v.runBarred = false ∧ v.power ≤ 1 ∧ v.move = .steady ∧ v.nextRun = some 3)
    ∧ ((on.start 0).nextRun = none ∧ (({ on with calLast := some 0 } : State).start 0).now < 0 + 100 * usec)
    ∧ (let v := ({ on with calRun := some ⟨3, 0, 0, true⟩, now := 4800 * usec } : State).start 0;
      v.calRun = some ⟨3, 0, 0, true⟩ ∧ 3 < 16 ∧ 0 + runTicks (v.bankMode 3) ≤ v.now)
    ∧ (let v := ({ on with calRun := some ⟨3, 0, 0, true⟩ } : State).start 0; v.now < 0 + runTicks (v.bankMode 3))
    ∧ (let v := on.start 0; v.seasonRefused (v.rd Reg.calCtl 6 4) true = true ∧ v.seasonRefused (v.rd Reg.calCtl 6 4) false = true
      ∧ v.calRun = none ∧ v.seasonJob = none)
    ∧ (let v := (State.reset.put Reg.calCtl 0x70).start 0; v.rd Reg.calCtl 6 4 = 7 ∧ v.seasonRefused 7 true = false)
    ∧ (({ on with seasonJob := some ⟨7, false, 0, []⟩ } : State).start 0).seasonJob = some ⟨7, false, 0, []⟩ := by decide +kernel

/-- A device without a valid Season, its banks calibrated, that saves to slot 7. -/
def seasonless : State :=
  [0, 1, 2, 3].foldl (fun s b => s.put (Reg.calBankStatus b) 0x80)
    ((List.range 8).foldl (fun s k => s.put (Reg.calSeason k) 0) ((on.put Reg.calCtl 0x70).put Reg.calStatus 0))

theorem witness_Calibration_runs :
    let v := seasonless.start 0;
    v.rejectCause 3 true true [] = 0 ∧ v.rejectCause 3 false true [] = 4 ∧ v.rd Reg.calCtl 6 4 = 7 ∧ v.seasonRefused 7 false = false := by
  decide +kernel

theorem witness_FaultCommands :
    (let v := on.start 0; v.fltSevere.testBit 20 = false ∧ v.firstLower 20 = false ∧ v.rd (Reg.fltSrcCount 20) 7 0 + 1 < v.srcN 20
      ∧ v.fltStatus = 0 ∧ v.rd (Reg.fltSrcCount 20) 7 0 = 0 ∧ v.graceRuns 20 = false
      ∧ v.writeReach .pf1 Reg.fltAdopt true true = .refused 1 ∧ v.writeReach .pf1 Reg.fltStatus true true = .refused 1)
    ∧ (let v := ((on.put Reg.fltStatus 1).put (Reg.fltSrcCount 20) 1).start 0; v.fltStatus ≠ 0 ∧ v.firstLower 20 = false
      ∧ v.rd (Reg.fltSrcCount 20) 7 0 ≠ 0 ∧ v.fltSevere.testBit 20 = false ∧ tget v.fltWin 0 20 ≤ v.now)
    ∧ (let v := ({ (on.put (Reg.fltSrcCount 20) 1) with fltWin := [(20, 1)] } : State).start 0; v.now < tget v.fltWin 0 20
      ∧ v.rd (Reg.fltSrcCount 20) 7 0 + 1 < v.srcN 20)
    ∧ (let v := (({ on with fltGrace := [(20, 8192)], now := 8192 } : State).put Reg.fltSevere 0x100000).start 0;
      v.graceRuns 20 = true ∧ v.cycOf (tget v.fltGrace 0 20) ≤ v.cyc)
    ∧ (let v := (({ on with fltGrace := [(20, 8192)] } : State).put Reg.fltSevere 0x100000).start 0;
      v.writeReach .pf0 Reg.fltAdopt true true = .allowed ∧ v.writeReach .pf0 Reg.fltStatus true true = .allowed
        ∧ (0x100000 : Nat) < 2 ^ 36 ∧ (0x100000 : Nat).testBit 20 = true ∧ (v.accessDemand .pf0).fltSevere.testBit 20 = true
        ∧ (v.accessDemand .pf0).graceRuns 20 = true
        ∧ (v.accessDemand .pf0).cyc < (v.accessDemand .pf0).cycOf (tget (v.accessDemand .pf0).fltGrace 0 20)
        ∧ (v.accessDemand .pf0).fltSevere < 2 ^ 36 ∧ v.cyc < v.cycOf (tget v.fltGrace 0 20)) := by decide +kernel

theorem witness_SafeHoldAndScrub :
    (let v := ({ up on with safeHoldAt := some 0, now := msec, holdDone := true } : State).start 0; v.safeHoldAt.isSome = true ∧ v.holdDone = true
      ∧ v.rd (Reg.memStatus 3) 2 0 = 2 ∧ (v.stack 3).lastReq + msec ≤ v.now)
    ∧ (let v := ({ up on with safeHoldAt := some 0, now := msec - 1, holdDone := true } : State).start 0; v.now < (v.stack 3).lastReq + msec)
    ∧ ((on.start 0).safeHoldAt = none ∧ (({ on with safeHoldAt := some 0, holdDone := false } : State).start 0).holdDone = false)
    ∧ ((on.start 0).fault 9 (maskBit 15)).groupOfChan (16 * 15 + 15) = none
    ∧ (let w := (on.start 0).fault 9 (maskBit 0); w.groupOfChan (16 * 0 + 0) = some 0 ∧ w.wouldHold 0 0 = false)
    ∧ (let w := ((post1 (fun x => { x with st := .recording, cur := some cur0 })).start 0).fault 9 (maskBit 0);
      w.groupOfChan (16 * 0 + 0) = some 0 ∧ w.wouldHold 0 4096 = true) := by decide +kernel

/-- UPD_STATUS.STATE at a code. -/
def upd (n : Word) : State := on.put Reg.updStatus n

theorem witness_UpdateDownload :
    (let v := (upd 0).start 0; v.actReq = none ∧ v.updState = 0 ∧ v.updState ≠ 2 ∧ v.updState ≠ 4 ∧ v.updState ≠ 5 ∧ v.updState ≠ 1
      ∧ v.blkJob = none)
    ∧ (let v := (upd 8).start 0; v.updState ≠ 0 ∧ v.updState ≠ 4 ∧ v.updState ≠ 5 ∧ v.updState = 8)
    ∧ (({ upd 8 with actReq := some ⟨0, true, false⟩ } : State).start 0).actReq ≠ none
    ∧ (let v := (upd 2).start 0; v.actReq = none ∧ v.updState = 2) ∧ ((upd 1).start 0).updState = 1
    ∧ (let v := ({ upd 2 with pkgLen := 1 } : State).start 0; v.blkJob = none ∧ v.winBlock.1 = 0
      ∧ v.blockFate v.winBlock.1 v.winBlock.2 (v.get Reg.updBlkCrc).toNat = .badCrc)
    ∧ (let v := (({ upd 2 with pkgLen := 1 } : State).put Reg.updBlkCrc 0x527D5351).start 0;
      v.blockFate v.winBlock.1 v.winBlock.2 (v.get Reg.updBlkCrc).toNat = .stage)
    ∧ (let v := (upd 1).start 0; v.blockFate v.winBlock.1 v.winBlock.2 (v.get Reg.updBlkCrc).toNat = .badState)
    ∧ (let v := ({ upd 2 with blkJob := some ⟨0, [0], .win⟩ } : State).start 0; v.blkJob = some ⟨0, [0], .win⟩ ∧ v.updState = 2)
    ∧ (let v := ({ upd 0 with blkJob := some ⟨0, [0], .uart⟩ } : State).start 0; v.blkJob = some ⟨0, [0], .uart⟩ ∧ v.updState ≠ 2)
    ∧ (({ upd 2 with blkJob := some ⟨0, [0], .h2d⟩ } : State).start 0).blkJob = some ⟨0, [0], .h2d⟩ := by
  decide +kernel

/-- A head with its own package of one block staged and verified. -/
def head : State := { (ringOn.put Reg.updStatus 4) with pkgLen := 1, imgs := [(1, { ImgBank.blank with blocks := [(0, [1])] })] }

theorem witness_UpdateProcession :
    ((upd 4).start 0).headStaged = false ∧ ((upd 4).start 0).dist = none ∧ ((upd 4).start 0).vote = none
    ∧ ((upd 4).start 0).actWait = none
    ∧ (head.start 0).headStaged = true ∧ (head.start 0).dist = none ∧ (head.start 0).others ≠ []
    ∧ (let v := ({ head with alm := some { tAlm with units64 := 1, decls := [(0, 0, 0xFF)] } } : State).start 0;
      v.headStaged = true ∧ v.others = [])
    ∧ (let v := ({ head with dist := some ⟨1, [0], true, [], 0, 0, [], [], []⟩, now := 2 * second } : State).start 0;
      v.dist = some ⟨1, [0], true, [], 0, 0, [], [], []⟩ ∧ 0 + 2 * second ≤ v.now)
    ∧ (({ head with dist := some ⟨1, [0], true, [], 0, 0, [], [], []⟩, now := 2 * second - 1 } : State).start 0).now < 0 + 2 * second
    ∧ (let v := ({ head with dist := some ⟨1, [0], false, [], 0, 0, [], [], []⟩, now := 2500 * usec } : State).start 0;
      v.dist = some ⟨1, [0], false, [], 0, 0, [], [], []⟩ ∧ 0 + 2500 * usec ≤ v.now)
    ∧ (let v := ({ head with dist := some ⟨1, [], false, [], 0, 1, [3], [], []⟩, now := 2500 * usec } : State).start 0;
      v.dist = some ⟨1, [], false, [], 0, 1, [3], [], []⟩ ∧ v.now < 1 + 2500 * usec)
    ∧ (let v := ({ head with dist := some ⟨1, [], false, [], 0, 0, [3], [], []⟩, now := 2500 * usec } : State).start 0;
      v.dist = some ⟨1, [], false, [], 0, 0, [3], [], []⟩ ∧ 0 + 2500 * usec ≤ v.now)
    ∧ (let v := ({ head with dist := some ⟨1, [], false, [], 0, 0, [], [], []⟩, now := 2500 * usec } : State).start 0;
      v.dist = some ⟨1, [], false, [], 0, 0, [], [], []⟩ ∧ 0 + 2500 * usec ≤ v.now)
    ∧ (let v := (({ head with vote := some ⟨0, [63]⟩, now := msec } : State).put Reg.updVoteTimeout 1).start 0;
      v.vote = some ⟨0, [63]⟩ ∧ (∃ p ∈ [63], p < 64) ∧ 0 + max 1 (v.rd Reg.updVoteTimeout 15 0) * msec ≤ v.now)
    ∧ (let v := (({ head with vote := some ⟨0, [63]⟩, now := msec - 1 } : State).put Reg.updVoteTimeout 0).start 0;
      v.now < 0 + max 1 (v.rd Reg.updVoteTimeout 15 0) * msec)
    ∧ (let v := ({ head with actWait := some 0, now := 20 * msec } : State).start 0; v.actWait = some 0 ∧ 0 + 20 * msec ≤ v.now)
    ∧ (({ head with actWait := some 0, now := 20 * msec - 1 } : State).start 0).now < 0 + 20 * msec := by
  decide +kernel

theorem witness_UpdateActivation :
    (((upd 5).start 0).updState = 5 ∧ ((upd 4).start 0).updState ≠ 2 ∧ ((upd 4).start 0).updState ≠ 5)
    ∧ (let v := ({ upd 3 with verifyFor := some 0 } : State).start 0; v.verifyFor.isSome = true ∧ v.vote = none
      ∧ ({ v with verifyFor := none } : State).badPackage = some (1, 0))
    ∧ (let v := ({ upd 9 with verifyFor := some 0, vote := some ⟨0, [0]⟩ } : State).start 0; v.verifyFor.isSome = true ∧ v.vote.isSome = true)
    ∧ ((upd 0).start 0).activateCode ≠ 0 ∧ ((upd 0).start 0).verifyFor = none ∧ ((upd 0).start 0).actReq = none
    ∧ ((upd 0).start 0).confirmFrom = none
    ∧ (let v := (upd 4).start 0; v.activateCode = 0 ∧ v.recovery = false ∧ v.procession = false ∧ v.actInstant = 0)
    ∧ (let v := ({ upd 4 with recovery := true } : State).start 0; v.activateCode = 0 ∧ v.recovery = true)
    ∧ (let v := ({ head.put (Reg.updActAt + 4) 0x80 with voteAll := true } : State).start 0; v.activateCode = 0 ∧ v.recovery = false
      ∧ v.procession = true)
    ∧ (let v := ((upd 4).put Reg.updActAt 0x40000000).start 0; v.activateCode = 0 ∧ v.actInstant ≠ 0 ∧ v.power ≤ 1 ∧ v.move = .steady)
    ∧ (((upd 6).start 0).updState = 6 ∧ ((upd 4).start 0).updState ≠ 6)
    ∧ (let v := ({ upd 6 with actReq := some ⟨0, false, false⟩ } : State).start 0; v.actReq = some ⟨0, false, false⟩
      ∧ v.activationClear = true ∧ 0 ≤ v.ep ∧ v.inReset = false ∧ v.updState ≠ 7)
    ∧ (let v := ({ upd 6 with actReq := some ⟨1, false, false⟩ } : State).start 0; v.actReq = some ⟨1, false, false⟩ ∧ v.ep < 1)
    ∧ (let v := ({ upd 6 with actReq := some ⟨0, false, false⟩, pfAt := some 0 } : State).start 0; v.activationClear = false)
    ∧ (let v := ({ upd 7 with actReq := some ⟨0, false, true⟩ } : State).start 0; v.actReq = some ⟨0, false, true⟩ ∧ v.updState = 7
      ∧ v.pfAt = none)
    ∧ (let v := ({ upd 7 with actReq := some ⟨0, false, true⟩, pfAt := some 0 } : State).start 0; v.pfAt.isSome = true)
    ∧ (let v := ({ (upd 8).put Reg.updConfirmWindow 10 with confirmFrom := some 0, now := 10 * second } : State).start 0;
      v.confirmFrom = some 0 ∧ v.updState = 8 ∧ v.actReq = none ∧ 0 + v.confirmWindow ≤ v.now)
    ∧ (let v := ({ (upd 8).put Reg.updConfirmWindow 10 with confirmFrom := some 0, now := 10 * second - 1 } : State).start 0;
      v.now < 0 + v.confirmWindow) := by decide +kernel

theorem witness_ConfirmEndsTheUpdate :
    (let v := (upd 8).start 0; v.updState = 8 ∧ v.actReq = none ∧ (v.img v.activeBank).floor < 2 ^ 32)
    ∧ ((upd 4).start 0).updState ≠ 8 ∧ (({ upd 8 with actReq := some ⟨0, true, false⟩ } : State).start 0).actReq ≠ none := by decide

theorem witness_BootAndRecovery :
    (let v := State.reset.start 0; v.resetStep = .released ∧ v.booted = false ∧ v.updState ≠ 3 ∧ v.actReq = none ∧ v.updState ≠ 8
      ∧ (({ v with booted := true, verifyFor := none } : State).bankBoots v.activeBank = false)
      ∧ (v.img (1 - v.activeBank)).valid = false)
    ∧ (let v := ({ State.reset with imgs := [(1, { ImgBank.blank with valid := true, confirmed := true })] } : State).start 0;
      v.activeBank = 0 ∧ (v.img (1 - v.activeBank)).valid = true ∧ (v.img (1 - v.activeBank)).confirmed = true)
    ∧ (let v := ((State.reset.put Reg.updStatus 8)).start 0; v.updState = 8 ∧ v.rd Reg.updStatus 11 10 < 3 ∧ v.actReq = none)
    ∧ (let v := ({ State.reset.put Reg.updStatus 6 with actReq := some ⟨0, false, false⟩ } : State).start 0;
      v.resetStep = .released ∧ v.booted = false ∧ v.actReq = some ⟨0, false, false⟩ ∧ v.updState = 6 ∧ 0 ≤ v.startEpoch)
    ∧ ((({ State.reset with booted := true } : State).start 0).booted = true
      ∧ (({ State.reset with resetStep := .asserted } : State).start 0).resetStep ≠ .released)
    ∧ (let v := ({ upd 2 with recovery := true } : State).start 0; v.recovery = true ∧ v.inReset = false ∧ v.updState = 2
      ∧ v.activateCode ≠ 0)
    ∧ (let v := ({ upd 4 with recovery := true } : State).start 0; v.recovery = true ∧ v.updState ≠ 2 ∧ v.updState ≠ 5
      ∧ v.activateCode = 0)
    ∧ ((on.start 0).recovery = false ∧ (({ on with resetStep := .asserted } : State).start 0).inReset = true)
    ∧ (wordsOf (unended (text "STATUS" ++ [13])) = [text "STATUS"] ∧ wordsOf (unended (text "X")) = [text "X"])
    ∧ (wordsOf (unended (text "BEGIN 1F" ++ [13])) = [text "BEGIN", text "1F"] ∧ parseHex (text "1F") = some 31
      ∧ parseHex (text "1G") = none)
    ∧ (wordsOf (unended (text "B 0 1 AA==")) = [text "B", text "0", text "1", text "AA=="] ∧ parseB64 (text "AA==") = some [0]
      ∧ parseB64 (text "A") = none ∧ (wordsOf (unended (text "B 0 1"))).length = 3
      ∧ 4 < (wordsOf (unended (text "A B C D E"))).length) := by decide +kernel

theorem witness_KeysAndFlash :
    (let v := ({ on with recovery := true } : State).put Reg.updKeyCtl 0xA2560003 |>.start 0;
      v.rd Reg.updKeyCtl 31 16 = 0xA256 ∧ v.rd Reg.updKeyCtl 1 0 = 3 ∧ v.recovery = true ∧ v.keyEmpty 3 = true)
    ∧ (let v := ((on.put Reg.updKeyCtl 0xA2560003).put Reg.almKeys 12).start 0; v.recovery = false ∧ v.keyEmpty 3 = false
      ∧ v.keyValid 3 = true ∧ v.keyValid 2 = true)
    ∧ (let v := ((on.put Reg.updKeyCtl 0xA2560003).put Reg.almKeys 8).start 0; v.keyValid 3 = true ∧ ∀ j < 4, j ≠ 3 → v.keyValid j = false)
    ∧ (on.start 0).rd Reg.updKeyCtl 31 16 ≠ 0xA256
    ∧ ((on.put Reg.updFlash 27).start 0).rd Reg.updFlash 9 0 ≠ 26 ∧ ((on.put Reg.updFlash 26).start 0).rd Reg.updFlash 9 0 = 26 := by
  decide

/-- A device with its Lantern on. -/
def lit : State := on.put Reg.lntCtl 1

/-- The Lantern with some of its fields set. -/
def withLnt (s : State) (f : Lantern → Lantern) : State := { s with lnt := f s.lnt }

theorem witness_LanternFrames :
    (let v := lit.start 0; v.lntOn = true ∧ v.lntChanged = false ∧ v.lnt.winOpen = false ∧ v.lntRuns = true ∧ v.lntVideo = false
      ∧ v.actf Reg.lntCfg 3 3 = 0 ∧ v.lnt.pushing = false ∧ v.lnt.holdEnd = none
      ∧ v.now < v.lnt.frameAt.getD v.lnt.gapFrom + 2 * v.framePeriod)
    ∧ ((on.start 0).lntOn = false ∧ (on.start 0).lntRuns = false)
    ∧ ((lit.put Reg.lntMode 1).start 0).lntChanged = true
    ∧ (let v := (withLnt lit (fun l => { l with pend := some ⟨1, 0, false, (0, 0, 0, 0)⟩ })).start 0; v.lntOn = true
      ∧ v.lnt.pend.isSome = true)
    ∧ (let v := (withLnt lit (fun l => { l with pushing := true })).start 0; v.lntRuns = true ∧ v.lnt.pushing = true ∧ v.lnt.restart = false)
    ∧ (let v := (both lit Reg.lntMode 1).start 0; v.lntRuns = true ∧ v.lntVideo = true)
    ∧ (let v := ({ lit with now := 10 * second } : State).start 0; v.lntRuns = true ∧ v.lntVideo = false
      ∧ v.lnt.frameAt.getD v.lnt.gapFrom + 2 * v.framePeriod ≤ v.now ∧ v.lnt.pushing = false)
    ∧ (let v := (withLnt ({ lit with now := second } : State) (fun l => { l with winOpen := true, frameAt := some 0 })).start 0;
      v.lntRuns = true ∧ v.lnt.winOpen = true ∧ v.lnt.pushing = false ∧ v.pushAt ≤ v.now ∧ v.lnt.pend = none
        ∧ v.bit Reg.lntTrace 31 = false ∧ v.lntVideo = false ∧ v.lnt.holdEnd = none)
    ∧ (let v := (withLnt ({ lit with now := second } : State) (fun l =>
        { l with winOpen := true, frameAt := some 0, pend := some ⟨1, 0, false, (0, 0, 0, 0)⟩ })).start 0; v.lntRuns = true ∧ v.lnt.winOpen = true ∧ v.pushAt ≤ v.now
        ∧ v.lnt.pend = some ⟨1, 0, false, (0, 0, 0, 0)⟩ ∧ v.lnt.restart = false)
    ∧ (let v := (withLnt lit (fun l => { l with pushing := true, restart := true })).start 0; v.lnt.pushing = true
      ∧ v.lnt.restart = true ∧ v.lnt.holdEnd = none)
    ∧ (let v := (withLnt lit (fun l => { l with holdEnd := some 1 })).start 0; v.lnt.holdEnd = some 1 ∧ v.now < 1 ∧ v.lnt.holdEnd.isSome = true)
    ∧ (let v := (withLnt lit (fun l => { l with holdEnd := some 0, restart := true })).start 0; v.lnt.holdEnd = some 0 ∧ 0 ≤ v.now) := by
  decide +kernel

theorem witness_DcsPackets :
    (let v := (lit.put Reg.lntDcsSend 0x3940).start 0; v.lnt.dcs = none ∧ 1 ≤ v.rd Reg.lntDcsSend 6 0 ∧ v.rd Reg.lntDcsSend 6 0 ≤ 64)
    ∧ (let v := (lit.put Reg.lntDcsSend 0x3941).start 0; v.lnt.dcs = none ∧ 64 < v.rd Reg.lntDcsSend 6 0)
    ∧ (lit.start 0).rd Reg.lntDcsSend 6 0 = 0
    ∧ (let v := (withLnt lit (fun l => { l with dcs := some (0x39, 64) })).start 0; v.lnt.dcs = some (0x39, 64) ∧ v.lntOn = true
      ∧ v.power = 0 ∧ v.bit Reg.fltAction 17 = false ∧ v.lnt.pushing = false ∧ v.lnt.dcs.isSome = true)
    ∧ ((on.start 0).lntOn = false ∧ (on.start 0).lnt.dcs = none) := by decide

theorem witness_TapInstructions :
    (({ State.reset with resetStep := .requested } : State).start 0).rstLow = true := by decide

/-! ### A small Almanac image -/

/-- The header (R35) of an unsigned image of 1240 bytes with three sections, for any unit. -/
def imgHeader : List Byte := [65, 76, 77, 49, 1, 0, 3, 0, 216, 4, 0, 0, 0, 0, 0, 0] ++ List.replicate 48 0

/-- Its section table (R36): BANK, GROUP and MEMORY. -/
def imgTable : List Byte :=
  [1, 0, 0, 1, 112, 0, 0, 0, 64, 0, 0, 0, 170, 244, 15, 73, 2, 0, 0, 1, 176, 0, 0, 0, 0, 2, 0, 0, 192, 237, 252, 48, 6,
   0, 0, 1, 176, 2, 0, 0, 8, 2, 0, 0, 199, 64, 232, 130]

/-- The image: every bank disabled, no group, no partition, and the SHA-256 digest of the bytes before it (R38). -/
def image : List Byte :=
  imgHeader ++ imgTable ++ (List.replicate 16 [3, 0xFF, 0, 0]).flatten ++ List.replicate 1032 0
    ++ [201, 117, 21, 44, 4, 21, 191, 46, 165, 102, 25, 100, 102, 10, 81, 79, 52, 75, 106, 209, 228, 36, 169, 231, 114, 232,
      131, 8, 139, 125, 17, 193]

/-- The state that checks it, for a start load or a reload. -/
def staged (p : CheckFor) : State := (({ up on with check := some ⟨image, p, 0⟩ } : State).put Reg.almStageLen 1240).start 0

/-- What it is checked against, with an Almanac in force or none. -/
def ctx (old : Option Almanac) : CheckCtx :=
  ⟨hwType, Config.serial.toNat, false, [], some 1240, old, [], false, false, true⟩

/-- An image for any HW_TYPE and any serial number is bound to no unit. -/
theorem bound_to_none (c : CheckCtx) (bs : List Byte) (hm : leAt bs 0x18 8 = 0) (hs : leAt bs 0x20 8 = 0) : badBind c bs = none := by
  simp [badBind, hm, hs, need, failsAt, firstBad]

set_option maxRecDepth 100000 in
theorem image_table : badMagic image = none ∧ badLength (ctx none) image = none ∧ badTable image = none := by decide +kernel

set_option maxRecDepth 100000 in
theorem image_sums : badCrc image = none ∧ badDigest image = none := by decide +kernel

set_option maxRecDepth 100000 in
theorem image_fields : badSignature (ctx none) image = none ∧ badTrust (ctx none) image = none ∧ badMissing image = none
    ∧ badUnknown image = none ∧ badField image = none ∧ leAt image 0x18 8 = 0 ∧ leAt image 0x20 8 = 0 := by decide +kernel

set_option maxRecDepth 100000 in
theorem image_sense :
    let a := almanacOf (ctx none) image; badChannel image a = none ∧ badPartition image a = none ∧ badRoute image a = none
      ∧ badPrivilege image a = none ∧ badRing image a = none ∧ badNetwork image a = none ∧ badLocked (ctx none) image a = none
      ∧ badLocked (ctx (some a)) image a = none := by decide +kernel

/-- An image that passes every check but LOCKED with no Almanac in force passes with one in force when LOCKED passes. -/
theorem passes (img : List Byte) (old : Option Almanac)
    (h1 : badMagic img = none ∧ badLength (ctx none) img = none ∧ badTable img = none)
    (h2 : badCrc img = none ∧ badDigest img = none)
    (h3 : badSignature (ctx none) img = none ∧ badTrust (ctx none) img = none ∧ badMissing img = none
      ∧ badUnknown img = none ∧ badField img = none ∧ leAt img 0x18 8 = 0 ∧ leAt img 0x20 8 = 0)
    (h4 : let a := almanacOf (ctx none) img; badChannel img a = none ∧ badPartition img a = none ∧ badRoute img a = none
      ∧ badPrivilege img a = none ∧ badRing img a = none ∧ badNetwork img a = none)
    (h : badLocked (ctx old) img (almanacOf (ctx none) img) = none) : badImage (ctx old) img = none := by
  have ha : almanacOf (ctx old) img = almanacOf (ctx none) img := by simp only [almanacOf, keyTrusted, ctx]
  have hl : badLength (ctx old) img = badLength (ctx none) img := by simp only [badLength, ctx]
  have hs : badSignature (ctx old) img = badSignature (ctx none) img := by simp only [badSignature, ctx]
  have ht : badTrust (ctx old) img = badTrust (ctx none) img := by simp only [badTrust, keyTrusted, ctx]
  have hb : badBind (ctx old) img = none := bound_to_none _ _ h3.2.2.2.2.2.1 h3.2.2.2.2.2.2
  simp only [badImage, ha, hl, hs, ht, h1, h2, h3, h4, hb, h, firstBad]

theorem witness_AlmanacLoads_pass :
    (let v := staged (.startLoad true); badImage (v.checkCtx true none) image = none ∧ v.stacksUp = true)
    ∧ (let v := staged .reload; v.check = some ⟨image, .reload, 0⟩
      ∧ ∀ a, a = almanacOf (ctx none) image → badImage (({ v with alm := some a } : State).checkCtx true (some a)) image = none) := by
  obtain ⟨g1, g2, g3, g4, g5, g6, g7, g8⟩ := image_sense
  exact ⟨⟨passes _ none image_table image_sums image_fields ⟨g1, g2, g3, g4, g5, g6⟩ g7, by decide⟩, rfl,
    fun a ha => ha ▸ passes _ (some _) image_table image_sums image_fields ⟨g1, g2, g3, g4, g5, g6⟩ g8⟩

theorem witness_RecordSize : rec0.kind = 1 ∧ rec0.annex = [] ∧ rec0.payload = [] := by decide

/-! ### The smoke test of WellFormed: an ill-formed term for each check -/

theorem test_ill_formed :
    [Instr.registerWrite 0 .pf0 0x1FFFFFE 4 0, .registerWrite 0 .pf0 0 4 (2 ^ 32), .splitLowRead 0 .pf0 0x2000000 4,
      .uncorrectableRead 0 1 ⟨0, 0⟩ [1], .uncorrectableRead 0 1 ⟨0, 0⟩ [2, 2], .uncorrectableRead 0 1 ⟨805306368, 0⟩ [2],
      .readParityError 0 1 ⟨805306368, 0⟩ 4, .bar2Read 0 .smbus ⟨0, 4⟩ [], .bar2Read 0 .pf0 ⟨2 ^ 37, 4⟩ [],
      .bar2Write 0 (.eth 0) 0 4, .bar2Write 0 .pf1 (2 ^ 37 - 3) 4, .descriptorFetch 0 0 [], .pcieLinkUp 0 7 16,
      .pcieLinkUp 0 0 16, .pcieLinkUp 0 6 3, .ackMessage 0 0 0 (2 ^ 16) [], .resendMessage 0 0 0 (2 ^ 16) [],
      .releaseMessage 0 0 0 (2 ^ 16) [], .smbusRegisterRead 0 0x1FFFFFD, .smbusOtherCommand 0 256 false,
      .segmentTrainEnd 0 .east .pass ⟨0, false⟩ 0, .segmentTrainEnd 0 .east .pass ⟨4, false⟩ 0, .trigFlit 0 .east [], .calFlit 0 .east [],
      .digFlit 0 .east [], .ctlFlit 0 .east [], .recFlit 0 .east [], .windowRead 0 0 0x1FFFFFD 4,
      .windowWrite 0 0 0x1FFFFFD 4 0, .windowWrite 0 0 0 4 (2 ^ 32), .ctlTimeout 0 4096, .faultEvent 0 0 (2 ^ 16),
      .faultAdopt 0 .pf0 (2 ^ 64), .faultStatusClear 0 .pf0 (2 ^ 64)].all (fun c => !c.wf) = true := by decide

theorem test_well_formed :
    [Instr.registerWrite 0 .pf0 0x1FFFFFC 4 (2 ^ 32 - 1), .uncorrectableRead 0 1 ⟨805306367, 24⟩ [2, 3], .bar2Read 0 .pf1 ⟨2 ^ 37 - 4, 4⟩ [],
      .descriptorFetch 0 0 (List.replicate 64 0), .pcieLinkUp 0 6 16, .segmentTrainEnd 0 .west .fail ⟨3, true⟩ 0,
      .recFlit 0 .east (List.replicate 8 0), .ctlTimeout 0 4095, .softFire 0].all (fun c => c.wf) = true := by decide

/-! ### Worked examples of the spec -/

/-- R6, the example of 00_scope: word 1 of a granule is 0x7_FF00_0801. -/
theorem test_pack36_example :
    ((pack36Bytes [0, 0x7FF000801, 0, 0, 0, 0, 0, 0]).drop 4).take 5 = [0x10, 0x80, 0x00, 0xF0, 0x7F] := by decide

/-- R39, its example: W14 for tag 0x3C91, SHADOW_GEN 5 and Season 2. -/
theorem test_w14_example : (({ rec0 with tag := 0x3C91, gen := 5, season := 2 } : Rec).header 0 0).getD 14 0 = 0x3C9100052 := by
  decide

/-- The example after R162: W0 and W8 of a ring-triggered record of 16 channels, and its 66,671 granules. -/
theorem test_record_example :
    let r : Rec := { rec0 with kind := 0, flags := 64, nch := 16 };
    (r.header 0 0).getD 0 0 = 0x010100040 ∧ granulesOf 0 (payloadWords 0 16 100000 (perWord 0)) = 66671 := by decide

/-- The example after R214: granule 1,000,000,000 of Guarded space lies in stripe row 333,333,333 on stack 2. -/
theorem test_stripe_example : unitOf false 1000000000 = (2, 333333333) := by decide

/-- R88, its example: the nearest multiple of 8192 leaves a residual of 3192 below EPC_SET. -/
theorem test_pps_load_example :
    nearestMul 8192 ((512000000000000 : Int) - 5000) = 512000000000000 - 5000 - 3192 := by decide

/-- R35: HW_MASK 0 and SERIAL 0 bind an image to no unit, whatever the device. -/
theorem test_bound_to_none (c : CheckCtx) : badBind c (List.replicate 0x40 0) = none :=
  bound_to_none c _ (by decide) (by decide)

/-! ### Single commands -/

/-- R115: the event of a SOFT write bears the Epoch at the start of its core cycle. -/
theorem test_soft_fire :
    (match exec (.softFire 0) { on with epoch := 4097, alm := some { tAlm with conjs := [some ⟨0, [(3, 0)]⟩] } } with
      | .next t => t.fabric.map (fun d => d.instant)
      | _ => []) = [4096, 4096, 4096] := by decide

/-- R113: PIN_CLR clears the counters of its pin and keeps the pin's level. -/
theorem test_pin_clr :
    (match exec (.pinClr 0 0) ((State.reset.put (Reg.epcPinEvents 0) 7).put (Reg.epcPinStat 0) 0x50002) with
      | .next t => ((t.get (Reg.epcPinEvents 0)).toNat, (t.get (Reg.epcPinStat 0)).toNat)
      | _ => (1, 1)) = (0, 2) := by decide

/-- R8: a read of no allowed width returns all ones. -/
theorem test_split_low_read_width :
    (match exec (.splitLowRead 0 .pf0 0 2) State.reset with | .next t => t.out | _ => []) = [.read 0xFFFF] := by decide

/-- R423: an unlisted code acts as BYPASS. -/
theorem test_tap_unlisted :
    (match exec (.tapInstruction 0 9) State.reset with | .next t => t.tap | _ => 0) = 0xFF := by decide

/-- R422: EXTEST with RST_N high is undefined, and stops. -/
theorem test_tap_extest : exec (.tapInstruction 0 0) State.reset = .fault .testMode := by rfl

/-- R372: without the key, KEY_PROG does nothing. -/
theorem test_key_prog_without_key :
    (match exec (.keyProg 0) { State.reset with recovery := true } with | .next t => t.keys | _ => [(0, [])]) = [] := by decide

/-- R254: a message whose vector is masked waits in the pending bits. -/
theorem test_msix_held :
    (match exec (.msixUnmask 0 63 false) State.reset with | .next t => (t.msixOn, t.out) | _ => (true, [])) = (false, []) := by
  decide

/-- R10: the lower half of a split pair takes the held upper half with it. -/
theorem test_split_write :
    (match State.reset.write32 .pf0 (Reg.epcSet + 4) 7 with
      | .next t => (match t.write32 .pf0 Reg.epcSet 8192 with | .next w => w.rdq Reg.epcSet 3 | _ => 0)
      | _ => 0) = 7 * 2 ^ 32 + 8192 := by decide

end Sys2Proof.Tests
end

/-! Proofs of the statements of chapter 00: the PACK36 block (R6) and the widths of register accesses (R8). -/

namespace Sys2Proof.Proofs.Scope

open Sys2Proof Sys2Proof.Machine

/-! ### The PACK36 block (R6) -/

@[simp] theorem length_leBytes (n x : Nat) : (leBytes n x).length = n := by
  induction n generalizing x with
  | zero => rfl
  | succ n ih => simp [leBytes, ih]

/-- Byte `j` of a little-endian number holds its bits from `8 * j` on. -/
theorem testBit_getD_leBytes (n x j b : Nat) (hj : j < n) (hb : b < 8) :
    ((leBytes n x).getD j 0).toNat.testBit b = x.testBit (8 * j + b) := by
  induction n generalizing x j with
  | zero => omega
  | succ n ih =>
    cases j with
    | zero => simp [leBytes, BitVec.toNat_ofNat, Nat.testBit_mod_two_pow _ 8, hb]
    | succ j =>
      have hshift : (x / 2 ^ 8).testBit (8 * j + b) = x.testBit (8 * (j + 1) + b) := by
        rw [Nat.testBit_div_two_pow]; congr 1; omega
      simpa [leBytes, ← hshift] using ih (x / 256) j (by omega)

/-- Word `i` of a PACK36 number occupies its 36 bits from `36 * i` on. -/
theorem testBit_pack36 (ws : List Native) (i k : Nat) (hk : k < 36) :
    (pack36 ws).testBit (36 * i + k) = (ws.getD i 0).toNat.testBit k := by
  induction ws generalizing i with
  | nil => simp [pack36]
  | cons w ws ih =>
    rw [pack36, Nat.add_comm w.toNat, Nat.testBit_two_pow_mul_add _ w.isLt]
    cases i with
    | zero => simp [hk]
    | succ i =>
      have hpos : 36 * (i + 1) + k - 36 = 36 * i + k := by omega
      rw [if_neg (by omega), hpos, ih]
      rfl

theorem length_pack36Bytes (ws : List Native) : (pack36Bytes ws).length = ceilDiv (36 * ws.length) 8 :=
  length_leBytes _ _

/-- R6 for a run of words of any length, not a granule's eight alone. -/
theorem testBit_pack36Bytes (ws : List Native) (i k : Nat) (hi : i < ws.length) (hk : k < 36) :
    ((pack36Bytes ws).getD ((36 * i + k) / 8) 0).toNat.testBit ((36 * i + k) % 8) = (ws.getD i 0).toNat.testBit k := by
  have hbyte : (36 * i + k) / 8 < ceilDiv (36 * ws.length) 8 := by unfold ceilDiv; omega
  rw [pack36Bytes, testBit_getD_leBytes _ _ _ _ hbyte (Nat.mod_lt _ (by decide)), Nat.div_add_mod, testBit_pack36 _ _ _ hk]

/-- Settles O9: byte `j` of the block holds the bits from `8 * j` of the number whose 36-bit digits are the words. -/
theorem pack36Blocks : Obligations.Pack36Blocks := by
  intro ws hlen
  refine ⟨by rw [length_pack36Bytes, hlen]; rfl, fun i hi k hk => ?_⟩
  exact testBit_pack36Bytes ws i k (by omega) hk

/-! ### Widths and alignment of register accesses (R8) -/

theorem readAccess_otherWidth (s : State) (rq : Requester) (off width : Nat) (h4 : ¬(width = 4 ∧ off % 4 = 0))
    (h8 : ¬(width = 8 ∧ off % 8 = 0)) : s.readAccess rq off width = (256 ^ width - 1, s) := by
  rw [State.readAccess, if_neg h4, if_neg h8]

theorem writeBy_otherWidth (s : State) (rq : Requester) (off width v port : Nat) (judge : State → Nat → Reach)
    (h4 : ¬(width = 4 ∧ off % 4 = 0)) (h8 : ¬(width = 8 ∧ off % 8 = 0)) :
    s.writeBy rq off width v port judge = .next s := by
  rw [State.writeBy, if_neg h4, if_neg h8]

theorem readAccess_word (s : State) (rq : Requester) (off : Nat) (h : off % 4 = 0) :
    s.readAccess rq off 4 = ((s.reachWord rq off).1.toNat, (s.reachWord rq off).2) := by
  rw [State.readAccess, if_pos ⟨rfl, h⟩]

/-- The second register of a pair is read in the state that the read of the first leaves, with its latches (R9). -/
theorem readAccess_pair (s : State) (rq : Requester) (off : Nat) (h : off % 8 = 0) :
    s.readAccess rq off 8
      = ((s.readAccess rq off 4).1 + 2 ^ 32 * ((s.readAccess rq off 4).2.readAccess rq (off + 4) 4).1,
        ((s.readAccess rq off 4).2.readAccess rq (off + 4) 4).2) := by
  rw [readAccess_word s rq off (by omega), readAccess_word _ rq (off + 4) (by omega), State.readAccess,
    if_neg (by omega), if_pos ⟨rfl, h⟩]

/-- Settles O5: another width or alignment falls through both branches of an access; a pair is two reads of a word. -/
theorem widthsAndAlignment : Obligations.WidthsAndAlignment := by
  refine ⟨fun s rq off width h4 h8 => ⟨readAccess_otherWidth s rq off width h4 h8, fun v port judge => ?_⟩,
    fun s rq off h => ?_, fun s rq off h => ?_⟩
  · exact writeBy_otherWidth s rq off width v port judge h4 h8
  · rw [readAccess_word s rq off h]
    exact (s.reachWord rq off).1.isLt
  · rw [readAccess_pair s rq off h]

end Sys2Proof.Proofs.Scope

/-! Proofs of the statements of chapter 05: the deliveries of the trigger fabric (R112) and the SOFT event (R115). -/

namespace Sys2Proof.Proofs.Trigger

open Sys2Proof Sys2Proof.Machine

/-! ### Deliveries of the trigger fabric (R112, R117, R129) -/

theorem fabricRuns_eq_true_iff (s : State) : s.fabricRuns = true ↔ s.power ≤ 1 := by
  simp [State.fabricRuns]

/-- An event of a source that drives no ring line only joins the deliveries under way. -/
theorem deliver_of_linesOf_nil (s : State) (src : Nat × Nat) (t : Nat) (ring wake : Bool) (hp : s.power ≤ 1)
    (hl : s.linesOf src = []) :
    s.deliver src t ring wake = s.enqueue (s.fabricConsumers src) src t ring wake := by
  rw [State.deliver, (fabricRuns_eq_true_iff s).mpr hp, Bool.true_or, if_pos rfl, hl, List.foldl_nil]

/-! ### The SOFT event (R115) -/

theorem doSoftFire_same_cycle (v : State) (h : v.softAt = some (v.ep / cycle)) : v.doSoftFire = v := by
  rw [State.doSoftFire, if_pos h]

theorem doSoftFire_new_cycle (v : State) (h : v.softAt ≠ some (v.ep / cycle)) :
    v.doSoftFire = ({ v with softAt := some (v.ep / cycle) } : State).deliver (3, 0) (v.ep - v.ep % cycle) false false := by
  rw [State.doSoftFire, if_neg h]

/-- The state that a FIRE puts the event under way in differs only in the cycle noted, on which neither the power
state nor the routes of the source depend. -/
theorem doSoftFire_of_linesOf_nil (v : State) (h : v.softAt ≠ some (v.ep / cycle)) (hp : v.power ≤ 1)
    (hl : v.linesOf (3, 0) = []) :
    v.doSoftFire = ({ v with softAt := some (v.ep / cycle) } : State).enqueue (v.fabricConsumers (3, 0)) (3, 0)
      (v.ep - v.ep % cycle) false false := by
  rw [doSoftFire_new_cycle v h]
  exact deliver_of_linesOf_nil { v with softAt := some (v.ep / cycle) } _ _ _ _ hp hl

theorem exec_softFire (dt : Nat) (s : State) : exec (.softFire dt) s = .next (s.start dt).doSoftFire := by
  rfl

/-- Settles O21, by whether the core cycle has had its SOFT event. -/
theorem softEvent : Obligations.SoftEvent := by
  rintro dt s v rfl
  rw [exec_softFire]
  refine ⟨fun hnew hp hl => ⟨_, rfl, ?_⟩, fun hnew => ?_, fun hsame => ?_⟩
  · rw [doSoftFire_of_linesOf_nil _ hnew hp hl]
    exact ⟨rfl, rfl, rfl⟩
  · rw [doSoftFire_new_cycle _ hnew]
    rfl
  · rw [doSoftFire_same_cycle _ hsame]

end Sys2Proof.Proofs.Trigger

/-! Proofs of the statements of chapter 16: the confirmation of a new image (R364). -/

namespace Sys2Proof.Proofs.Update

open Sys2Proof Sys2Proof.Machine

/-! ### UPD_STATUS.ERROR and UPD_STATUS.STATE (R361) -/

@[simp] theorem rd_updError_error (s : State) (code : Nat) : (s.updError code).rd Reg.updStatus 23 16 = code % 2 ^ 8 :=
  State.rd_wr_self s (by decide) (by decide)

theorem rd_updError_apart (s : State) (code : Nat) {hi lo : Nat} (h : hi < 16 ∨ 23 < lo) :
    (s.updError code).rd Reg.updStatus hi lo = s.rd Reg.updStatus hi lo :=
  State.rd_wr_apart s (by decide) (by decide) h

@[simp] theorem updState_updError (s : State) (code : Nat) : (s.updError code).updState = s.updState :=
  rd_updError_apart s code (by decide)

@[simp] theorem activeBank_updError (s : State) (code : Nat) : (s.updError code).activeBank = s.activeBank :=
  rd_updError_apart s code (by decide)

@[simp] theorem updState_setUpd (s : State) (st : Nat) : (s.setUpd st).updState = st % 2 ^ 4 :=
  State.rd_wr_self s (by decide) (by decide)

theorem rd_setUpd_apart (s : State) (st : Nat) {hi lo : Nat} (h : 3 < lo) :
    (s.setUpd st).rd Reg.updStatus hi lo = s.rd Reg.updStatus hi lo :=
  State.rd_wr_apart s (by decide) (by decide) (.inr h)

/-! ### The bank's image and its confirm word (R364) -/

theorem img_put (s : State) (o : Nat) (w : Word) (b : Nat) : (s.put o w).img b = s.img b := by
  rw [State.img, State.put_imgs, State.img]

theorem img_setImg_ne (s : State) {b j : Nat} (x : ImgBank) (h : j ≠ b) : (s.setImg b x).img j = s.img j :=
  tget_tset_ne _ _ _ _ h

/-- The state in which the active bank is confirmed and its window no longer runs; no register word differs yet. -/
def withConfirmed (s : State) : State :=
  { s.setImg s.activeBank { (s.img s.activeBank) with confirmed := true } with confirmFrom := none }

theorem img_withConfirmed_active (s : State) :
    (withConfirmed s).img s.activeBank = { (s.img s.activeBank) with confirmed := true } :=
  State.img_setImg_self s _ _

theorem img_withConfirmed_other (s : State) {b : Nat} (h : b ≠ s.activeBank) : (withConfirmed s).img b = s.img b :=
  img_setImg_ne s _ h

theorem activeBank_withConfirmed (s : State) : (withConfirmed s).activeBank = s.activeBank := by
  rfl

theorem activeBank_put_updFloor (s : State) (w : Word) : (s.put Reg.updFloor w).activeBank = s.activeBank :=
  State.rd_put_ne s w 9 9 (by decide)

/-- UPD_FLOOR raised to the active bank's floor. -/
def floorRaised (s : State) : Word := BitVec.ofNat 32 (max (s.get Reg.updFloor).toNat (s.img s.activeBank).floor)

/-- A bank's floor is a word of its manifest; the greater of it and UPD_FLOOR fits the register. -/
theorem toNat_floorRaised (s : State) (h : (s.img s.activeBank).floor < 2 ^ 32) :
    (floorRaised s).toNat = max (s.get Reg.updFloor).toNat (s.img s.activeBank).floor := by
  have hmax : max (s.get Reg.updFloor).toNat (s.img s.activeBank).floor < 2 ^ 32 := max_lt (s.get Reg.updFloor).isLt h
  rw [floorRaised, BitVec.toNat_ofNat, Nat.mod_eq_of_lt hmax]

/-! ### UPD_STATUS as a confirmed update leaves it (R364) -/

/-- TRIES cleared, STATE back at IDLE and ERROR cleared. -/
def statusIdle (s : State) : State := ((s.wr Reg.updStatus 11 10 0).setUpd 0).updError 0

theorem rd_statusIdle_tries (s : State) : (statusIdle s).rd Reg.updStatus 11 10 = 0 := by
  rw [statusIdle, rd_updError_apart _ _ (by decide), rd_setUpd_apart _ _ (by decide),
    State.rd_wr_self s (by decide) (by decide), Nat.zero_mod]

theorem updState_statusIdle (s : State) : (statusIdle s).updState = 0 := by
  simp [statusIdle]

theorem rd_statusIdle_error (s : State) : (statusIdle s).rd Reg.updStatus 23 16 = 0 := by
  simp [statusIdle]

theorem activeBank_statusIdle (s : State) : (statusIdle s).activeBank = s.activeBank := by
  rw [statusIdle, activeBank_updError, State.activeBank, rd_setUpd_apart _ _ (by decide),
    State.rd_wr_apart s (by decide) (by decide) (by decide), State.activeBank]

theorem onlyRegs_statusIdle {os : List Nat} {s t : State} (h : OnlyRegs os s t) (ho : Reg.updStatus ∈ os) :
    OnlyRegs os s (statusIdle t) :=
  ((h.wr ho 11 10 0).wr ho 3 0 0).wr ho 23 16 0

theorem get_statusIdle_ne (s : State) {o : Nat} (h : o ≠ Reg.updStatus) : (statusIdle s).get o = s.get o :=
  (onlyRegs_statusIdle (OnlyRegs.refl [Reg.updStatus] s) (by simp)).2 o (by simpa using h)

@[simp] theorem img_statusIdle (s : State) (b : Nat) : (statusIdle s).img b = s.img b := by
  simp only [State.img, statusIdle, State.updError, State.setUpd, State.wr, State.put_imgs]

/-! ### CONFIRM (R364) -/

theorem doConfirm_unconfirmed (v : State) (h : v.updState = 8) (hreq : v.actReq = none) :
    v.doConfirm = statusIdle ((withConfirmed v).put Reg.updFloor (floorRaised v)) := by
  have hcond : v.updState = 8 ∧ v.actReq.isNone := ⟨h, by rw [hreq]; rfl⟩
  rw [State.doConfirm, if_pos hcond]
  rfl

theorem doConfirm_refused (v : State) (h : v.updState ≠ 8 ∨ v.actReq ≠ none) : v.doConfirm = v.updError 0x10 := by
  have hcond : ¬ (v.updState = 8 ∧ v.actReq.isNone) := by
    rintro ⟨hst, hreq⟩
    exact h.elim (· hst) (· (Option.isNone_iff_eq_none.mp hreq))
  rw [State.doConfirm, if_neg hcond]

theorem exec_updConfirm (dt : Nat) (s : State) : exec (.updConfirm dt) s = .next (s.start dt).doConfirm := by
  rfl

/-- Settles O54, by whether the unit is in UNCONFIRMED with no activation requested. -/
theorem confirmEndsTheUpdate : Obligations.ConfirmEndsTheUpdate := by
  rintro dt s v rfl
  rw [exec_updConfirm]
  refine ⟨fun hst hreq hfloor => ⟨_, rfl, ?_⟩, fun hno => ⟨_, rfl, ?_⟩⟩
  · rw [doConfirm_unconfirmed _ hst hreq]
    refine ⟨?_, ?_, rd_statusIdle_tries _, updState_statusIdle _, rd_statusIdle_error _, fun b hb => ?_, ?_, ?_⟩
    · rw [img_statusIdle, img_put, img_withConfirmed_active]
    · rw [get_statusIdle_ne _ (by decide), State.get_put_self, toNat_floorRaised _ hfloor]
    · rw [img_statusIdle, img_put, img_withConfirmed_other _ hb]
    · rw [activeBank_statusIdle, activeBank_put_updFloor, activeBank_withConfirmed]
    · exact onlyRegs_statusIdle ((OnlyRegs.refl _ (withConfirmed _)).put (by simp) _) (by simp)
  · rw [doConfirm_refused _ hno]
    exact ⟨(OnlyRegs.refl _ _).wr (by simp) 23 16 0x10, rd_updError_error _ _, updState_updError _ _⟩

end Sys2Proof.Proofs.Update

/-! Proofs of the statements of chapter 19: the instructions of the test access port (R423). -/

namespace Sys2Proof.Proofs.TestPort

open Sys2Proof Sys2Proof.Machine

theorem tapCode_listed {c : Nat} (h : c ≤ 2 ∨ (4 ≤ c ∧ c ≤ 7) ∨ c = 0xFF) : tapCode c = c := by
  rw [tapCode]
  split
  · rfl
  · omega

/-- No hypothesis excludes `0xFF`: its own instruction is BYPASS. -/
theorem tapCode_bypass {c : Nat} (h : c = 3 ∨ 7 < c) : tapCode c = 0xFF :=
  if_neg (by omega)

theorem tapNeedsReset_eq_false_iff (c : Nat) : tapNeedsReset c = false ↔ c = 1 ∨ c = 0xFF := by
  simp only [tapNeedsReset, Bool.and_eq_false_iff, bne_eq_false_iff_eq]

/-- An instruction that R422 allows, with RST_N as it stands when the command begins, is loaded; nothing else changes. -/
theorem exec_tapInstruction_of_allowed (dt : Nat) (s : State) (code : Fin 256)
    (h : (tapCode code = 1 ∨ tapCode code = 0xFF) ∨ (s.start dt).rstLow = true) :
    exec (.tapInstruction dt code) s = .next { (s.start dt) with tap := tapCode code } := by
  have hallowed : ¬ (tapNeedsReset (tapCode code) && !(s.start dt).rstLow) = true := by
    rcases h with hcode | hlow
    · simp [(tapNeedsReset_eq_false_iff _).mpr hcode]
    · simp [hlow]
  exact if_neg hallowed

theorem exec_testLogicReset (dt : Nat) (s : State) : exec (.testLogicReset dt) s = .next { (s.start dt) with tap := 1 } := by
  rfl

/-- Settles O59, by whether the code is a listed one or stands for BYPASS. -/
theorem tapInstructions : Obligations.TapInstructions := by
  rintro dt s v rfl
  refine ⟨fun code hallowed hlisted => ?_, fun code hother => ?_, exec_testLogicReset dt s⟩
  · have hcode : tapCode code = code := tapCode_listed (by omega)
    rw [exec_tapInstruction_of_allowed dt s code (by rwa [hcode, or_assoc]), hcode]
  · have hcode : tapCode code = 0xFF := tapCode_bypass (by omega)
    rw [exec_tapInstruction_of_allowed dt s code (.inl (.inr hcode)), hcode]

end Sys2Proof.Proofs.TestPort

/-! Proofs of the statements about every step: the queue (log entry 3) and the canonical form of the stores. -/

namespace Sys2Proof.Proofs.EveryStep

open Sys2Proof Sys2Proof.Machine

/-- No command touches the queue, and each keeps every store in canonical form: the dispatch, with what is known of each
command's meaning. -/
theorem exec_keeps (i : Instr) (s : State) :
    Res.all (fun t => t.queue = s.queue) (exec i s)
      ∧ (s.memWf = true → Res.all (fun t => t.memWf = true) (exec i s)) := by
  cases i with
  | registerWrite => exact ⟨execRegisterWrite_queue .., fun hw => execRegisterWrite_wf (hw := hw) ..⟩
  | splitLowRead => exact ⟨execSplitLowRead_queue .., fun hw => execSplitLowRead_wf (hw := hw) ..⟩
  | coldReset => exact ⟨execColdReset_queue .., fun hw => execColdReset_wf (hw := hw) ..⟩
  | rstNAssert => exact ⟨execRstNAssert_queue .., fun hw => execRstNAssert_wf (hw := hw) ..⟩
  | glbResetWrite => exact ⟨execGlbResetWrite_queue .., fun hw => execGlbResetWrite_wf (hw := hw) ..⟩
  | watchdogExpiry => exact ⟨execWatchdogExpiry_queue .., fun hw => execWatchdogExpiry_wf (hw := hw) ..⟩
  | fundamentalReset => exact ⟨execFundamentalReset_queue .., fun hw => execFundamentalReset_wf (hw := hw) ..⟩
  | warmResetAssert => exact ⟨execWarmResetAssert_queue .., fun hw => execWarmResetAssert_wf (hw := hw) ..⟩
  | resetRelease => exact ⟨execResetRelease_queue .., fun hw => execResetRelease_wf (hw := hw) ..⟩
  | defaultAlmanacLoad => exact ⟨execDefaultAlmanacLoad_queue .., fun hw => execDefaultAlmanacLoad_wf (hw := hw) ..⟩
  | almanacLoad => exact ⟨execAlmanacLoad_queue .., fun hw => execAlmanacLoad_wf (hw := hw) ..⟩
  | almanacCheckEnd => exact ⟨execAlmanacCheckEnd_queue .., fun hw => execAlmanacCheckEnd_wf (hw := hw) ..⟩
  | almanacReload => exact ⟨execAlmanacReload_queue .., fun hw => execAlmanacReload_wf (hw := hw) ..⟩
  | reloadAsleepTimeout => exact ⟨execReloadAsleepTimeout_queue .., fun hw => execReloadAsleepTimeout_wf (hw := hw) ..⟩
  | reloadCancel => exact ⟨execReloadCancel_queue .., fun hw => execReloadCancel_wf (hw := hw) ..⟩
  | reloadCommit => exact ⟨execReloadCommit_queue .., fun hw => execReloadCommit_wf (hw := hw) ..⟩
  | reloadBankResetEnd => exact ⟨execReloadBankResetEnd_queue .., fun hw => execReloadBankResetEnd_wf (hw := hw) ..⟩
  | ovrClear => exact ⟨execOvrClear_queue .., fun hw => execOvrClear_wf (hw := hw) ..⟩
  | converterReady => exact ⟨execConverterReady_queue .., fun hw => execConverterReady_wf (hw := hw) ..⟩
  | converterStartTimeout => exact ⟨execConverterStartTimeout_queue .., fun hw => execConverterStartTimeout_wf (hw := hw) ..⟩
  | converterStartRetry => exact ⟨execConverterStartRetry_queue .., fun hw => execConverterStartRetry_wf (hw := hw) ..⟩
  | settlingEnd => exact ⟨execSettlingEnd_queue .., fun hw => execSettlingEnd_wf (hw := hw) ..⟩
  | samplePllLoss => exact ⟨execSamplePllLoss_queue .., fun hw => execSamplePllLoss_wf (hw := hw) ..⟩
  | samplePllRelock => exact ⟨execSamplePllRelock_queue .., fun hw => execSamplePllRelock_wf (hw := hw) ..⟩
  | refQualified => exact ⟨execRefQualified_queue .., fun hw => execRefQualified_wf (hw := hw) ..⟩
  | corePllLock => exact ⟨execCorePllLock_queue .., fun hw => execCorePllLock_wf (hw := hw) ..⟩
  | samplePllLock => exact ⟨execSamplePllLock_queue .., fun hw => execSamplePllLock_wf (hw := hw) ..⟩
  | refLostBeforeLock => exact ⟨execRefLostBeforeLock_queue .., fun hw => execRefLostBeforeLock_wf (hw := hw) ..⟩
  | refLoss => exact ⟨execRefLoss_queue .., fun hw => execRefLoss_wf (hw := hw) ..⟩
  | refRelock => exact ⟨execRefRelock_queue .., fun hw => execRefRelock_wf (hw := hw) ..⟩
  | unsettledClear => exact ⟨execUnsettledClear_queue .., fun hw => execUnsettledClear_wf (hw := hw) ..⟩
  | ovenReadyChange => exact ⟨execOvenReadyChange_queue .., fun hw => execOvenReadyChange_wf (hw := hw) ..⟩
  | corePllLoss => exact ⟨execCorePllLoss_queue .., fun hw => execCorePllLoss_wf (hw := hw) ..⟩
  | loadNow => exact ⟨execLoadNow_queue .., fun hw => execLoadNow_wf (hw := hw) ..⟩
  | loadPps => exact ⟨execLoadPps_queue .., fun hw => execLoadPps_wf (hw := hw) ..⟩
  | ppsLoadCancel => exact ⟨execPpsLoadCancel_queue .., fun hw => execPpsLoadCancel_wf (hw := hw) ..⟩
  | ppsEdge => exact ⟨execPpsEdge_queue .., fun hw => execPpsEdge_wf (hw := hw) ..⟩
  | ppsMissing => exact ⟨execPpsMissing_queue .., fun hw => execPpsMissing_wf (hw := hw) ..⟩
  | ivRun => exact ⟨execIvRun_queue .., fun hw => execIvRun_wf (hw := hw) ..⟩
  | ivStop => exact ⟨execIvStop_queue .., fun hw => execIvStop_wf (hw := hw) ..⟩
  | ivStartEvent => exact ⟨execIvStartEvent_queue .., fun hw => execIvStartEvent_wf (hw := hw) ..⟩
  | ivStopEvent => exact ⟨execIvStopEvent_queue .., fun hw => execIvStopEvent_wf (hw := hw) ..⟩
  | ivTimeout => exact ⟨execIvTimeout_queue .., fun hw => execIvTimeout_wf (hw := hw) ..⟩
  | ivPrescaleCountEnd => exact ⟨execIvPrescaleCountEnd_queue .., fun hw => execIvPrescaleCountEnd_wf (hw := hw) ..⟩
  | ivGateClose => exact ⟨execIvGateClose_queue .., fun hw => execIvGateClose_wf (hw := hw) ..⟩
  | triggerUnitFire => exact ⟨execTriggerUnitFire_queue .., fun hw => execTriggerUnitFire_wf (hw := hw) ..⟩
  | triggerUnitStuck => exact ⟨execTriggerUnitStuck_queue .., fun hw => execTriggerUnitStuck_wf (hw := hw) ..⟩
  | trgUnmask => exact ⟨execTrgUnmask_queue .., fun hw => execTrgUnmask_wf (hw := hw) ..⟩
  | trgClr => exact ⟨execTrgClr_queue .., fun hw => execTrgClr_wf (hw := hw) ..⟩
  | extPinEdge => exact ⟨execExtPinEdge_queue .., fun hw => execExtPinEdge_wf (hw := hw) ..⟩
  | pinStuck => exact ⟨execPinStuck_queue .., fun hw => execPinStuck_wf (hw := hw) ..⟩
  | pinUnmask => exact ⟨execPinUnmask_queue .., fun hw => execPinUnmask_wf (hw := hw) ..⟩
  | pinClr => exact ⟨execPinClr_queue .., fun hw => execPinClr_wf (hw := hw) ..⟩
  | softFire => exact ⟨execSoftFire_queue .., fun hw => execSoftFire_wf (hw := hw) ..⟩
  | wakePinEdge => exact ⟨execWakePinEdge_queue .., fun hw => execWakePinEdge_wf (hw := hw) ..⟩
  | conjunctionEvent => exact ⟨execConjunctionEvent_queue .., fun hw => execConjunctionEvent_wf (hw := hw) ..⟩
  | conjunctionExpiry => exact ⟨execConjunctionExpiry_queue .., fun hw => execConjunctionExpiry_wf (hw := hw) ..⟩
  | cjClr => exact ⟨execCjClr_queue .., fun hw => execCjClr_wf (hw := hw) ..⟩
  | trigOutPulseStart => exact ⟨execTrigOutPulseStart_queue .., fun hw => execTrigOutPulseStart_wf (hw := hw) ..⟩
  | trigOutPulseEnd => exact ⟨execTrigOutPulseEnd_queue .., fun hw => execTrigOutPulseEnd_wf (hw := hw) ..⟩
  | handover => exact ⟨execHandover_queue .., fun hw => execHandover_wf (hw := hw) ..⟩
  | arm => exact ⟨execArm_queue .., fun hw => execArm_wf (hw := hw) ..⟩
  | disarm => exact ⟨execDisarm_queue .., fun hw => execDisarm_wf (hw := hw) ..⟩
  | abort => exact ⟨execAbort_queue .., fun hw => execAbort_wf (hw := hw) ..⟩
  | eveFilled => exact ⟨execEveFilled_queue .., fun hw => execEveFilled_wf (hw := hw) ..⟩
  | groupTrigger => exact ⟨execGroupTrigger_queue .., fun hw => execGroupTrigger_wf (hw := hw) ..⟩
  | partitionFullEnd => exact ⟨execPartitionFullEnd_queue .., fun hw => execPartitionFullEnd_wf (hw := hw) ..⟩
  | segmentBoundary => exact ⟨execSegmentBoundary_queue .., fun hw => execSegmentBoundary_wf (hw := hw) ..⟩
  | recordCaptureEnd => exact ⟨execRecordCaptureEnd_queue .., fun hw => execRecordCaptureEnd_wf (hw := hw) ..⟩
  | rearmEnd => exact ⟨execRearmEnd_queue .., fun hw => execRearmEnd_wf (hw := hw) ..⟩
  | recordCommit => exact ⟨execRecordCommit_queue .., fun hw => execRecordCommit_wf (hw := hw) ..⟩
  | aqgIrqGapExpiry => exact ⟨execAqgIrqGapExpiry_queue .., fun hw => execAqgIrqGapExpiry_wf (hw := hw) ..⟩
  | stewardRelease => exact ⟨execStewardRelease_queue .., fun hw => execStewardRelease_wf (hw := hw) ..⟩
  | captureGranuleRefused => exact ⟨execCaptureGranuleRefused_queue .., fun hw => execCaptureGranuleRefused_wf (hw := hw) ..⟩
  | bandwidthGapEnd => exact ⟨execBandwidthGapEnd_queue .., fun hw => execBandwidthGapEnd_wf (hw := hw) ..⟩
  | pauseEnd => exact ⟨execPauseEnd_queue .., fun hw => execPauseEnd_wf (hw := hw) ..⟩
  | bnkFltWrite => exact ⟨execBnkFltWrite_queue .., fun hw => execBnkFltWrite_wf (hw := hw) ..⟩
  | filterPrimed => exact ⟨execFilterPrimed_queue .., fun hw => execFilterPrimed_wf (hw := hw) ..⟩
  | clrSat => exact ⟨execClrSat_queue .., fun hw => execClrSat_wf (hw := hw) ..⟩
  | foldStart => exact ⟨execFoldStart_queue .., fun hw => execFoldStart_wf (hw := hw) ..⟩
  | foldEnd => exact ⟨execFoldEnd_queue .., fun hw => execFoldEnd_wf (hw := hw) ..⟩
  | emissionTokensReady => exact ⟨execEmissionTokensReady_queue .., fun hw => execEmissionTokensReady_wf (hw := hw) ..⟩
  | accFlush => exact ⟨execAccFlush_queue .., fun hw => execAccFlush_wf (hw := hw) ..⟩
  | histEmit => exact ⟨execHistEmit_queue .., fun hw => execHistEmit_wf (hw := hw) ..⟩
  | stackTrained => exact ⟨execStackTrained_queue .., fun hw => execStackTrained_wf (hw := hw) ..⟩
  | stackTempRead => exact ⟨execStackTempRead_queue .., fun hw => execStackTempRead_wf (hw := hw) ..⟩
  | retrainStart => exact ⟨execRetrainStart_queue .., fun hw => execRetrainStart_wf (hw := hw) ..⟩
  | retrainEnd => exact ⟨execRetrainEnd_queue .., fun hw => execRetrainEnd_wf (hw := hw) ..⟩
  | scrubRow => exact ⟨execScrubRow_queue .., fun hw => execScrubRow_wf (hw := hw) ..⟩
  | selfRefreshEntry => exact ⟨execSelfRefreshEntry_queue .., fun hw => execSelfRefreshEntry_wf (hw := hw) ..⟩
  | selfRefreshExit => exact ⟨execSelfRefreshExit_queue .., fun hw => execSelfRefreshExit_wf (hw := hw) ..⟩
  | caParityAlert => exact ⟨execCaParityAlert_queue .., fun hw => execCaParityAlert_wf (hw := hw) ..⟩
  | readParityError => exact ⟨execReadParityError_queue .., fun hw => execReadParityError_wf (hw := hw) ..⟩
  | uncorrectableRead => exact ⟨execUncorrectableRead_queue .., fun hw => execUncorrectableRead_wf (hw := hw) ..⟩
  | memFail => exact ⟨execMemFail_queue .., fun hw => execMemFail_wf (hw := hw) ..⟩
  | memClr => exact ⟨execMemClr_queue .., fun hw => execMemClr_wf (hw := hw) ..⟩
  | regulatorWrite => exact ⟨execRegulatorWrite_queue .., fun hw => execRegulatorWrite_wf (hw := hw) ..⟩
  | bar2Read => exact ⟨execBar2Read_queue .., fun hw => execBar2Read_wf (hw := hw) ..⟩
  | bar2Write dt rq addr len => exact ⟨execBar2Write_queue dt rq addr len s, execBar2Write_wf dt rq addr len s⟩
  | harvestDoorbell => exact ⟨execHarvestDoorbell_queue .., fun hw => execHarvestDoorbell_wf (hw := hw) ..⟩
  | engineTakeChannel => exact ⟨execEngineTakeChannel_queue .., fun hw => execEngineTakeChannel_wf (hw := hw) ..⟩
  | descriptorFetch => exact ⟨execDescriptorFetch_queue .., fun hw => execDescriptorFetch_wf (hw := hw) ..⟩
  | descriptorComplete => exact ⟨execDescriptorComplete_queue .., fun hw => execDescriptorComplete_wf (hw := hw) ..⟩
  | cqHeadWrite => exact ⟨execCqHeadWrite_queue .., fun hw => execCqHeadWrite_wf (hw := hw) ..⟩
  | hrvIrqGapExpiry => exact ⟨execHrvIrqGapExpiry_queue .., fun hw => execHrvIrqGapExpiry_wf (hw := hw) ..⟩
  | harvestBusError => exact ⟨execHarvestBusError_queue .., fun hw => execHarvestBusError_wf (hw := hw) ..⟩
  | channelResume => exact ⟨execChannelResume_queue .., fun hw => execChannelResume_wf (hw := hw) ..⟩
  | channelEnable => exact ⟨execChannelEnable_queue .., fun hw => execChannelEnable_wf (hw := hw) ..⟩
  | channelDisable => exact ⟨execChannelDisable_queue .., fun hw => execChannelDisable_wf (hw := hw) ..⟩
  | channelDisableDone => exact ⟨execChannelDisableDone_queue .., fun hw => execChannelDisableDone_wf (hw := hw) ..⟩
  | harvestRun => exact ⟨execHarvestRun_queue .., fun hw => execHarvestRun_wf (hw := hw) ..⟩
  | harvestStop => exact ⟨execHarvestStop_queue .., fun hw => execHarvestStop_wf (hw := hw) ..⟩
  | hrvClr => exact ⟨execHrvClr_queue .., fun hw => execHrvClr_wf (hw := hw) ..⟩
  | pcieLinkDown => exact ⟨execPcieLinkDown_queue .., fun hw => execPcieLinkDown_wf (hw := hw) ..⟩
  | pcieLinkUp => exact ⟨execPcieLinkUp_queue .., fun hw => execPcieLinkUp_wf (hw := hw) ..⟩
  | perstDeassert => exact ⟨execPerstDeassert_queue .., fun hw => execPerstDeassert_wf (hw := hw) ..⟩
  | pcieReady => exact ⟨execPcieReady_queue .., fun hw => execPcieReady_wf (hw := hw) ..⟩
  | msixUnmask => exact ⟨execMsixUnmask_queue .., fun hw => execMsixUnmask_wf (hw := hw) ..⟩
  | ethFrameReceive => exact ⟨execEthFrameReceive_queue .., fun hw => execEthFrameReceive_wf (hw := hw) ..⟩
  | streamOpen => exact ⟨execStreamOpen_queue .., fun hw => execStreamOpen_wf (hw := hw) ..⟩
  | streamClose => exact ⟨execStreamClose_queue .., fun hw => execStreamClose_wf (hw := hw) ..⟩
  | ethPortDown => exact ⟨execEthPortDown_queue .., fun hw => execEthPortDown_wf (hw := hw) ..⟩
  | ethPortUp => exact ⟨execEthPortUp_queue .., fun hw => execEthPortUp_wf (hw := hw) ..⟩
  | dataSend => exact ⟨execDataSend_queue .., fun hw => execDataSend_wf (hw := hw) ..⟩
  | ackMessage => exact ⟨execAckMessage_queue .., fun hw => execAckMessage_wf (hw := hw) ..⟩
  | resendMessage => exact ⟨execResendMessage_queue .., fun hw => execResendMessage_wf (hw := hw) ..⟩
  | releaseMessage => exact ⟨execReleaseMessage_queue .., fun hw => execReleaseMessage_wf (hw := hw) ..⟩
  | retransmitTimeout => exact ⟨execRetransmitTimeout_queue .., fun hw => execRetransmitTimeout_wf (hw := hw) ..⟩
  | telemetrySend => exact ⟨execTelemetrySend_queue .., fun hw => execTelemetrySend_wf (hw := hw) ..⟩
  | mgmtRead => exact ⟨execMgmtRead_queue .., fun hw => execMgmtRead_wf (hw := hw) ..⟩
  | mgmtWrite => exact ⟨execMgmtWrite_queue .., fun hw => execMgmtWrite_wf (hw := hw) ..⟩
  | smbusRegisterRead => exact ⟨execSmbusRegisterRead_queue .., fun hw => execSmbusRegisterRead_wf (hw := hw) ..⟩
  | smbusTelemetryRead => exact ⟨execSmbusTelemetryRead_queue .., fun hw => execSmbusTelemetryRead_wf (hw := hw) ..⟩
  | smbusSensorRead => exact ⟨execSmbusSensorRead_queue .., fun hw => execSmbusSensorRead_wf (hw := hw) ..⟩
  | smbusOtherCommand => exact ⟨execSmbusOtherCommand_queue .., fun hw => execSmbusOtherCommand_wf (hw := hw) ..⟩
  | uartStatus => exact ⟨execUartStatus_queue .., fun hw => execUartStatus_wf (hw := hw) ..⟩
  | uartOtherLine => exact ⟨execUartOtherLine_queue .., fun hw => execUartOtherLine_wf (hw := hw) ..⟩
  | marginMeasure => exact ⟨execMarginMeasure_queue .., fun hw => execMarginMeasure_wf (hw := hw) ..⟩
  | segmentTrainEnd => exact ⟨execSegmentTrainEnd_queue .., fun hw => execSegmentTrainEnd_wf (hw := hw) ..⟩
  | segmentDown => exact ⟨execSegmentDown_queue .., fun hw => execSegmentDown_wf (hw := hw) ..⟩
  | segmentDownTimeout => exact ⟨execSegmentDownTimeout_queue .., fun hw => execSegmentDownTimeout_wf (hw := hw) ..⟩
  | linkFrameCrcFail => exact ⟨execLinkFrameCrcFail_queue .., fun hw => execLinkFrameCrcFail_wf (hw := hw) ..⟩
  | positionCommit => exact ⟨execPositionCommit_queue .., fun hw => execPositionCommit_wf (hw := hw) ..⟩
  | bypassOpen => exact ⟨execBypassOpen_queue .., fun hw => execBypassOpen_wf (hw := hw) ..⟩
  | trigFlit => exact ⟨execTrigFlit_queue .., fun hw => execTrigFlit_wf (hw := hw) ..⟩
  | calFlit => exact ⟨execCalFlit_queue .., fun hw => execCalFlit_wf (hw := hw) ..⟩
  | digFlit => exact ⟨execDigFlit_queue .., fun hw => execDigFlit_wf (hw := hw) ..⟩
  | ctlFlit => exact ⟨execCtlFlit_queue .., fun hw => execCtlFlit_wf (hw := hw) ..⟩
  | recFlit => exact ⟨execRecFlit_queue .., fun hw => execRecFlit_wf (hw := hw) ..⟩
  | alignFlit => exact ⟨execAlignFlit_queue .., fun hw => execAlignFlit_wf (hw := hw) ..⟩
  | alignSend => exact ⟨execAlignSend_queue .., fun hw => execAlignSend_wf (hw := hw) ..⟩
  | alignLoss => exact ⟨execAlignLoss_queue .., fun hw => execAlignLoss_wf (hw := hw) ..⟩
  | epochStep => exact ⟨execEpochStep_queue .., fun hw => execEpochStep_wf (hw := hw) ..⟩
  | windowResolve => exact ⟨execWindowResolve_queue .., fun hw => execWindowResolve_wf (hw := hw) ..⟩
  | windowRead => exact ⟨execWindowRead_queue .., fun hw => execWindowRead_wf (hw := hw) ..⟩
  | windowWrite => exact ⟨execWindowWrite_queue .., fun hw => execWindowWrite_wf (hw := hw) ..⟩
  | ctlTimeout => exact ⟨execCtlTimeout_queue .., fun hw => execCtlTimeout_wf (hw := hw) ..⟩
  | calendsMark => exact ⟨execCalendsMark_queue .., fun hw => execCalendsMark_wf (hw := hw) ..⟩
  | calendsPeriodic => exact ⟨execCalendsPeriodic_queue .., fun hw => execCalendsPeriodic_wf (hw := hw) ..⟩
  | snapshotInstant => exact ⟨execSnapshotInstant_queue .., fun hw => execSnapshotInstant_wf (hw := hw) ..⟩
  | forwardEnable => exact ⟨execForwardEnable_queue .., fun hw => execForwardEnable_wf (hw := hw) ..⟩
  | forwardRecord => exact ⟨execForwardRecord_queue .., fun hw => execForwardRecord_wf (hw := hw) ..⟩
  | powerStateEntry => exact ⟨execPowerStateEntry_queue .., fun hw => execPowerStateEntry_wf (hw := hw) ..⟩
  | powerStateExit => exact ⟨execPowerStateExit_queue .., fun hw => execPowerStateExit_wf (hw := hw) ..⟩
  | powerExitComplete => exact ⟨execPowerExitComplete_queue .., fun hw => execPowerExitComplete_wf (hw := hw) ..⟩
  | wakeNEdge => exact ⟨execWakeNEdge_queue .., fun hw => execWakeNEdge_wf (hw := hw) ..⟩
  | powerPolicyWrite => exact ⟨execPowerPolicyWrite_queue .., fun hw => execPowerPolicyWrite_wf (hw := hw) ..⟩
  | powerMeasure => exact ⟨execPowerMeasure_queue .., fun hw => execPowerMeasure_wf (hw := hw) ..⟩
  | railWarn => exact ⟨execRailWarn_queue .., fun hw => execRailWarn_wf (hw := hw) ..⟩
  | railTrip => exact ⟨execRailTrip_queue .., fun hw => execRailTrip_wf (hw := hw) ..⟩
  | railReturn => exact ⟨execRailReturn_queue .., fun hw => execRailReturn_wf (hw := hw) ..⟩
  | pwrFailAssert => exact ⟨execPwrFailAssert_queue .., fun hw => execPwrFailAssert_wf (hw := hw) ..⟩
  | journalWritten => exact ⟨execJournalWritten_queue .., fun hw => execJournalWritten_wf (hw := hw) ..⟩
  | pwrFailRideThrough => exact ⟨execPwrFailRideThrough_queue .., fun hw => execPwrFailRideThrough_wf (hw := hw) ..⟩
  | tileTempSample => exact ⟨execTileTempSample_queue .., fun hw => execTileTempSample_wf (hw := hw) ..⟩
  | calRunRequest => exact ⟨execCalRunRequest_queue .., fun hw => execCalRunRequest_wf (hw := hw) ..⟩
  | calDeferWrite => exact ⟨execCalDeferWrite_queue .., fun hw => execCalDeferWrite_wf (hw := hw) ..⟩
  | calDeferExpiry => exact ⟨execCalDeferExpiry_queue .., fun hw => execCalDeferExpiry_wf (hw := hw) ..⟩
  | calRunStart => exact ⟨execCalRunStart_queue .., fun hw => execCalRunStart_wf (hw := hw) ..⟩
  | calRunEnd => exact ⟨execCalRunEnd_queue .., fun hw => execCalRunEnd_wf (hw := hw) ..⟩
  | seasonSave => exact ⟨execSeasonSave_queue .., fun hw => execSeasonSave_wf (hw := hw) ..⟩
  | seasonErase => exact ⟨execSeasonErase_queue .., fun hw => execSeasonErase_wf (hw := hw) ..⟩
  | seasonWriteComplete => exact ⟨execSeasonWriteComplete_queue .., fun hw => execSeasonWriteComplete_wf (hw := hw) ..⟩
  | faultEvent => exact ⟨execFaultEvent_queue .., fun hw => execFaultEvent_wf (hw := hw) ..⟩
  | faultWindowExpiry => exact ⟨execFaultWindowExpiry_queue .., fun hw => execFaultWindowExpiry_wf (hw := hw) ..⟩
  | graceExpiry => exact ⟨execGraceExpiry_queue .., fun hw => execGraceExpiry_wf (hw := hw) ..⟩
  | safeHoldStackIdle => exact ⟨execSafeHoldStackIdle_queue .., fun hw => execSafeHoldStackIdle_wf (hw := hw) ..⟩
  | faultAdopt => exact ⟨execFaultAdopt_queue .., fun hw => execFaultAdopt_wf (hw := hw) ..⟩
  | faultStatusClear => exact ⟨execFaultStatusClear_queue .., fun hw => execFaultStatusClear_wf (hw := hw) ..⟩
  | sramScrub => exact ⟨execSramScrub_queue .., fun hw => execSramScrub_wf (hw := hw) ..⟩
  | updBegin => exact ⟨execUpdBegin_queue .., fun hw => execUpdBegin_wf (hw := hw) ..⟩
  | updEraseComplete => exact ⟨execUpdEraseComplete_queue .., fun hw => execUpdEraseComplete_wf (hw := hw) ..⟩
  | updAbandon => exact ⟨execUpdAbandon_queue .., fun hw => execUpdAbandon_wf (hw := hw) ..⟩
  | updBlkGo => exact ⟨execUpdBlkGo_queue .., fun hw => execUpdBlkGo_wf (hw := hw) ..⟩
  | blockStaged => exact ⟨execBlockStaged_queue .., fun hw => execBlockStaged_wf (hw := hw) ..⟩
  | updDistribute => exact ⟨execUpdDistribute_queue .., fun hw => execUpdDistribute_wf (hw := hw) ..⟩
  | updVerify => exact ⟨execUpdVerify_queue .., fun hw => execUpdVerify_wf (hw := hw) ..⟩
  | updVerifyComplete => exact ⟨execUpdVerifyComplete_queue .., fun hw => execUpdVerifyComplete_wf (hw := hw) ..⟩
  | updVote => exact ⟨execUpdVote_queue .., fun hw => execUpdVote_wf (hw := hw) ..⟩
  | updVoteTimeout => exact ⟨execUpdVoteTimeout_queue .., fun hw => execUpdVoteTimeout_wf (hw := hw) ..⟩
  | updActivate => exact ⟨execUpdActivate_queue .., fun hw => execUpdActivate_wf (hw := hw) ..⟩
  | activateAnswerTimeout => exact ⟨execActivateAnswerTimeout_queue .., fun hw => execActivateAnswerTimeout_wf (hw := hw) ..⟩
  | updCancel => exact ⟨execUpdCancel_queue .., fun hw => execUpdCancel_wf (hw := hw) ..⟩
  | activationStart => exact ⟨execActivationStart_queue .., fun hw => execActivationStart_wf (hw := hw) ..⟩
  | activationResume => exact ⟨execActivationResume_queue .., fun hw => execActivationResume_wf (hw := hw) ..⟩
  | updConfirm => exact ⟨execUpdConfirm_queue .., fun hw => execUpdConfirm_wf (hw := hw) ..⟩
  | confirmWindowExpiry => exact ⟨execConfirmWindowExpiry_queue .., fun hw => execConfirmWindowExpiry_wf (hw := hw) ..⟩
  | bootImageCheck => exact ⟨execBootImageCheck_queue .., fun hw => execBootImageCheck_wf (hw := hw) ..⟩
  | recoveryUartBegin => exact ⟨execRecoveryUartBegin_queue .., fun hw => execRecoveryUartBegin_wf (hw := hw) ..⟩
  | recoveryUartBlock => exact ⟨execRecoveryUartBlock_queue .., fun hw => execRecoveryUartBlock_wf (hw := hw) ..⟩
  | recoveryUartVerify => exact ⟨execRecoveryUartVerify_queue .., fun hw => execRecoveryUartVerify_wf (hw := hw) ..⟩
  | recoveryUartActivate => exact ⟨execRecoveryUartActivate_queue .., fun hw => execRecoveryUartActivate_wf (hw := hw) ..⟩
  | recoveryUartStatus => exact ⟨execRecoveryUartStatus_queue .., fun hw => execRecoveryUartStatus_wf (hw := hw) ..⟩
  | recoveryUartOther => exact ⟨execRecoveryUartOther_queue .., fun hw => execRecoveryUartOther_wf (hw := hw) ..⟩
  | keyProg => exact ⟨execKeyProg_queue .., fun hw => execKeyProg_wf (hw := hw) ..⟩
  | keyRevoke => exact ⟨execKeyRevoke_queue .., fun hw => execKeyRevoke_wf (hw := hw) ..⟩
  | keySetRequire => exact ⟨execKeySetRequire_queue .., fun hw => execKeySetRequire_wf (hw := hw) ..⟩
  | flashBlockRetire => exact ⟨execFlashBlockRetire_queue .., fun hw => execFlashBlockRetire_wf (hw := hw) ..⟩
  | lntCommit => exact ⟨execLntCommit_queue .., fun hw => execLntCommit_wf (hw := hw) ..⟩
  | lntTeEdge => exact ⟨execLntTeEdge_queue .., fun hw => execLntTeEdge_wf (hw := hw) ..⟩
  | teMissTimeout => exact ⟨execTeMissTimeout_queue .., fun hw => execTeMissTimeout_wf (hw := hw) ..⟩
  | videoFrameStart => exact ⟨execVideoFrameStart_queue .., fun hw => execVideoFrameStart_wf (hw := hw) ..⟩
  | pushStart => exact ⟨execPushStart_queue .., fun hw => execPushStart_wf (hw := hw) ..⟩
  | restartHoldEnd => exact ⟨execRestartHoldEnd_queue .., fun hw => execRestartHoldEnd_wf (hw := hw) ..⟩
  | dcsSend => exact ⟨execDcsSend_queue .., fun hw => execDcsSend_wf (hw := hw) ..⟩
  | dcsSent => exact ⟨execDcsSent_queue .., fun hw => execDcsSent_wf (hw := hw) ..⟩
  | tapInstruction => exact ⟨execTapInstruction_queue .., fun hw => execTapInstruction_wf (hw := hw) ..⟩
  | pushEnd => exact ⟨execPushEnd_queue .., fun hw => execPushEnd_wf (hw := hw) ..⟩
  | testLogicReset => exact ⟨execTestLogicReset_queue .., fun hw => execTestLogicReset_wf (hw := hw) ..⟩
  | positionFlashWriteDone => exact ⟨execPositionFlashWriteDone_queue .., fun hw => execPositionFlashWriteDone_wf (hw := hw) ..⟩
  | distributeEraseWaitExpiry => exact ⟨execDistributeEraseWaitExpiry_queue .., fun hw => execDistributeEraseWaitExpiry_wf (hw := hw) ..⟩
  | distributeBlockInterval => exact ⟨execDistributeBlockInterval_queue .., fun hw => execDistributeBlockInterval_wf (hw := hw) ..⟩

theorem pending_of_exec {c : Instr} {s t : State} (h : exec c s = .next t) : t.pending = s.pending :=
  Res.all_of_eq (exec_keeps c s).1 h

theorem wf_of_exec {c : Instr} {s t : State} (hw : s.mem.wf = true) (h : exec c s = .next t) : t.mem.wf = true :=
  Res.all_of_eq ((exec_keeps c s).2 hw) h

theorem step_of_nil {s : State} (h : s.pending = []) : step s = .next s := by
  unfold step
  rw [h]

theorem step_of_cons {s : State} {c : Instr} {r : List Instr} (h : s.pending = c :: r) :
    step s = exec c (s.withPending r) := by
  unfold step
  rw [h]

/-- Settles O1, by whether the queue is empty. -/
theorem stepRunsTheFrontCommand : Obligations.StepRunsTheFrontCommand :=
  ⟨fun _ _ _ h => step_of_cons h, fun _ h => step_of_nil h⟩

/-- Settles O2: an idle step has no command to take, and the command that a step runs leaves the rest of the queue. -/
theorem everyStepTakesOneCommand : Obligations.EveryStepTakesOneCommand := by
  intro s t h
  cases hq : s.pending with
  | nil =>
    rw [step_of_nil hq] at h
    cases h
    rw [hq, List.tail_nil]
  | cons c r =>
    rw [step_of_cons hq] at h
    exact pending_of_exec h

theorem wf_step {s t : State} (hw : s.mem.wf = true) (h : step s = .next t) : t.mem.wf = true := by
  cases hq : s.pending with
  | nil =>
    rw [step_of_nil hq] at h
    cases h
    exact hw
  | cons c r =>
    rw [step_of_cons hq] at h
    exact wf_of_exec (s := s.withPending r) hw h

theorem queueWf_step {s t : State} (hq : QueueWf s) (h : step s = .next t) : QueueWf t := by
  intro c hc
  rw [everyStepTakesOneCommand s t h] at hc
  exact hq c (List.mem_of_mem_tail hc)

/-- Settles O3: what each command keeps of the stores, and the tail of a queue of well-formed commands. -/
theorem everyStepKeepsSound : Obligations.EveryStepKeepsSound :=
  fun _ _ ⟨hw, hq⟩ h => ⟨wf_step hw h, queueWf_step hq h⟩

end Sys2Proof.Proofs.EveryStep

/-! Proofs of the statements of chapters 00, 11, 18 and 19 about register accesses: reset values, widths, split
quantities (R9, R10) and what a write stores (R11, R12). -/

namespace Sys2Proof.Proofs.Access

open Sys2Proof Sys2Proof.Machine

/-! ### Reset (R321) -/

theorem get_reset (o : Nat) : State.reset.get o = regDefault o := by
  rfl

/-- Settles O4: every store is empty at reset, and three words of the ring block show it in their readings. -/
theorem resetIsSound : Obligations.ResetIsSound := by
  refine ⟨⟨by decide, fun c hc => ?_⟩, rfl, rfl, get_reset, by decide, by decide, by decide⟩
  cases hc

/-! ### REGISTER_WRITE and SPLIT_LOW_READ as accesses (R8, R9) -/

theorem exec_registerWrite (dt : Nat) (rq : Requester) (off width value : Nat) (s : State) :
    exec (.registerWrite dt rq off width value) s = (s.start dt).writeAccess rq off width value true true := by
  rfl

theorem exec_splitLowRead_of_enabled (dt : Nat) (rq : Requester) (off width : Nat) (s : State)
    (h : ((s.start dt).readDemand rq).disabledFor rq = false) :
    exec (.splitLowRead dt rq off width) s
      = .next ((((s.start dt).readDemand rq).readAccess rq off width).2.emit
          (.read (((s.start dt).readDemand rq).readAccess rq off width).1)) := by
  change execSplitLowRead dt rq off width s = _
  rw [execSplitLowRead, h]
  rfl

/-- Settles O6, from what an access of another width is to the read and to the write (R8). -/
theorem otherWidthsComplete : Obligations.OtherWidthsComplete := by
  intro dt off width v s h4 h8
  refine ⟨fun rq => ?_, ?_⟩
  · rw [exec_registerWrite]
    exact Scope.writeBy_otherWidth _ rq off width v _ _ h4 h8
  · rw [exec_splitLowRead_of_enabled _ _ _ _ _ rfl, Scope.readAccess_otherWidth _ _ _ _ h4 h8]

/-! ### Split quantities (R9, R10) -/

/-- A state whose EPC_SET holds a bit above bit 71. -/
def epcSetReservedBit : State :=
  ({ State.reset with heldWords := [((.pf0, Reg.epcSet + 4), 0), ((.pf0, Reg.epcSet + 8), 0)] } : State).put
    (Reg.epcSet + 8) 0x100

/-- The write stores bits 71 to 0 alone: the bit above them stays. -/
theorem write32_epcSetReservedBit : ∃ t, epcSetReservedBit.write32 .pf0 Reg.epcSet 0 = .next t
    ∧ t.get (Reg.epcSet + 8) = 0x100 := by
  refine ⟨_, rfl, ?_⟩
  decide

/-- Refutes O7: in a state whose EPC_SET has bit 72 set, a write of 0 with both upper parts held as 0 leaves that
reserved bit, so that the upper word is not the part held. -/
theorem not_splitQuantities : ¬ Obligations.SplitQuantities := by
  rintro ⟨-, -, -, hwrite⟩
  obtain ⟨t, ht, -, -, -, hupper⟩ := hwrite epcSetReservedBit 0 0 0 (by decide) (by decide) (by decide)
  obtain ⟨t', ht', hkept⟩ := write32_epcSetReservedBit
  rw [ht'] at ht
  cases ht
  rw [hkept] at hupper
  exact absurd hupper (by decide)

/-! ### Bits of differences and sums of numbers -/

theorem add_eq_or_of_and_eq_zero {a b : Nat} (h : a &&& b = 0) : a + b = a ||| b := by
  have hw : a + b < 2 ^ (a + b) := Nat.lt_two_pow_self
  have hand : BitVec.ofNat (a + b) a &&& BitVec.ofNat (a + b) b = 0#(a + b) := by
    rw [← BitVec.ofNat_and, h]
  have hadd := congrArg BitVec.toNat (BitVec.add_eq_or_of_and_eq_zero _ _ hand)
  rw [BitVec.toNat_add_of_and_eq_zero hand, BitVec.toNat_or, BitVec.toNat_ofNat, BitVec.toNat_ofNat,
    Nat.mod_eq_of_lt (by omega), Nat.mod_eq_of_lt (by omega)] at hadd
  exact hadd

theorem testBit_add_of_and_eq_zero {a b : Nat} (h : a &&& b = 0) (i : Nat) :
    (a + b).testBit i = (a.testBit i || b.testBit i) := by
  rw [add_eq_or_of_and_eq_zero h, Nat.testBit_or]

/-- Taking away bits that stand clears them. -/
theorem sub_and_eq_ldiff (a b : Nat) : a - (a &&& b) = a.ldiff b := by
  have hdisj : (a &&& b) &&& a.ldiff b = 0 := by
    apply Nat.eq_of_testBit_eq
    intro i
    simp only [Nat.testBit_and, Nat.testBit_ldiff, Nat.zero_testBit]
    cases a.testBit i <;> cases b.testBit i <;> rfl
  have hsum : (a &&& b) + a.ldiff b = a := by
    rw [add_eq_or_of_and_eq_zero hdisj]
    apply Nat.eq_of_testBit_eq
    intro i
    simp only [Nat.testBit_or, Nat.testBit_and, Nat.testBit_ldiff]
    cases a.testBit i <;> cases b.testBit i <;> rfl
  omega

theorem testBit_sub_and (a b i : Nat) : (a - (a &&& b)).testBit i = (a.testBit i && !b.testBit i) := by
  rw [sub_and_eq_ldiff, Nat.testBit_ldiff]

/-! ### What a write stores (R11, R12) -/

/-- The word that a write of `v` leaves of `old`: the RW bits from `v`, the W1C bits written 1 cleared. -/
def storedWord (rw w1c old v : Nat) : Nat :=
  let new := old - (old &&& rw) + (v &&& rw)
  new - (new &&& (v &&& w1c))

theorem testBit_storedWord (rw w1c old v i : Nat) :
    (storedWord rw w1c old v).testBit i
      = ((if rw.testBit i then v.testBit i else old.testBit i) && !(w1c.testBit i && v.testBit i)) := by
  have hdisj : (old - (old &&& rw)) &&& (v &&& rw) = 0 := by
    apply Nat.eq_of_testBit_eq
    intro j
    rw [Nat.testBit_and, testBit_sub_and, Nat.testBit_and, Nat.zero_testBit]
    cases rw.testBit j <;> simp
  rw [storedWord, testBit_sub_and, testBit_add_of_and_eq_zero hdisj, testBit_sub_and, Nat.testBit_and, Nat.testBit_and]
  cases rw.testBit i <;> simp [Bool.and_comm]

/-- A write of one register word, as it reaches the quantity. -/
def wordWrite (h : Hit) (off v : Nat) : QWrite := ⟨off, h.blk, h.bi, h.inst, h.row, v, 2 ^ 32 - 1⟩

theorem ones_wordWrite {h : Hit} {off v : Nat} (hv : v < 2 ^ 32) : (wordWrite h off v).ones = v := by
  rw [QWrite.ones, wordWrite, Nat.and_two_pow_sub_one_eq_mod, Nat.mod_eq_of_lt hv]

theorem bitwise_and_word {v w : Nat} (hv : v < 2 ^ 32) : v &&& (w &&& (2 ^ 32 - 1)) = v &&& w := by
  rw [Nat.and_comm w, ← Nat.and_assoc, Nat.and_two_pow_sub_one_eq_mod, Nat.mod_eq_of_lt hv]

theorem store_wordWrite (s : State) {h : Hit} {off v : Nat} (hparts : h.row.parts = 1) (hv : v < 2 ^ 32) :
    s.store (wordWrite h off v)
      = s.put off (BitVec.ofNat 32 (storedWord h.row.rw h.row.w1c (s.get off).toNat v)) := by
  have hrdq : s.rdq off 1 = (s.get off).toNat := by simp [State.rdq]
  rw [State.store, State.storeAs, ones_wordWrite hv]
  simp only [wordWrite, hparts, hrdq, bitwise_and_word hv, bitwise_and_word (s.get off).isLt]
  rfl

theorem write32_of_hole (s : State) (rq : Requester) {off : Nat} (w : Word) (hbuf : s.writeBuffer off w = none)
    (hreg : regAt off = none) : s.write32 rq off w = .next s := by
  rw [State.write32, hbuf, hreg]

theorem write32_of_oneWord (s : State) (rq : Requester) {off : Nat} {w : Word} {h : Hit}
    (hbuf : s.writeBuffer off w = none) (hreg : regAt off = some h) (hpart : h.part = 0) (hparts : h.row.parts = 1) :
    s.write32 rq off w = if !s.takesWrites (wordWrite h off w.toNat) then .next s
      else if ((wordWrite h off w.toNat).ones &&& h.row.rsv) != 0 || badCode (wordWrite h off w.toNat) then
        .fault .reservedValue
      else .next ((s.spendHeld rq off 1).applyWrite (wordWrite h off w.toNat)) := by
  rw [State.write32, hbuf, hreg]
  dsimp only
  rw [if_pos hpart, State.writeQuantity, hparts]
  rfl

theorem takesWrites_of_no_bits (s : State) {h : Hit} (off v : Nat) (hbits : h.row.rw ||| h.row.w1c ||| h.row.w1s = 0) :
    s.takesWrites (wordWrite h off v) = false := by
  simp only [State.takesWrites, wordWrite, hbits]
  rfl

theorem takesWrites_pwr (s : State) {h : Hit} (off v : Nat) (hblk : h.blk = .pwr)
    (hbits : h.row.rw ||| h.row.w1c ||| h.row.w1s ≠ 0) : s.takesWrites (wordWrite h off v) = true := by
  simp only [State.takesWrites, wordWrite, hblk, Bool.and_true, bne_iff_ne]
  exact hbits

theorem badCode_pwr {h : Hit} (off v : Nat) (hblk : h.blk = .pwr) : badCode (wordWrite h off v) = false := by
  simp only [badCode, wordWrite, hblk]

theorem applyWrite_pwr (s : State) {h : Hit} (off v : Nat) (hblk : h.blk = .pwr) :
    s.applyWrite (wordWrite h off v) = s.store (wordWrite h off v) := by
  simp only [State.applyWrite, wordWrite, hblk]

/-! ### A 32-bit access under the judgement of R296 -/

theorem registerWrite_allowed (dt : Nat) (rq : Requester) {off : Nat} (value : Nat) (s : State) (h4 : off % 4 = 0)
    (h : (s.start dt).writeReach rq off true true = .allowed) :
    exec (.registerWrite dt rq off 4 value) s = ((s.start dt).accessDemand rq).write32 rq off (BitVec.ofNat 32 value) := by
  rw [exec_registerWrite, State.writeAccess, State.writeBy, if_pos ⟨rfl, h4⟩, h]
  rfl

theorem registerWrite_refused (dt : Nat) (rq : Requester) {off what : Nat} (value : Nat) (s : State) (h4 : off % 4 = 0)
    (h : (s.start dt).writeReach rq off true true = .refused what) :
    exec (.registerWrite dt rq off 4 value) s = .next (((s.start dt).readDemand rq).refuse (portOf rq true) what) := by
  rw [exec_registerWrite, State.writeAccess, State.writeBy, if_pos ⟨rfl, h4⟩, h]
  rfl

theorem write32_pwr (s : State) (rq : Requester) {off v : Nat} {h : Hit}
    (hbuf : s.writeBuffer off (BitVec.ofNat 32 v) = none) (hreg : regAt off = some h) (hpart : h.part = 0)
    (hparts : h.row.parts = 1) (hblk : h.blk = .pwr) (hbits : h.row.rw ||| h.row.w1c ||| h.row.w1s ≠ 0) (hv : v < 2 ^ 32) :
    s.write32 rq off (BitVec.ofNat 32 v) = if v &&& h.row.rsv = 0 then
        .next ((s.spendHeld rq off 1).put off
          (BitVec.ofNat 32 (storedWord h.row.rw h.row.w1c (s.get off).toNat v)))
      else .fault .reservedValue := by
  have hnat : (BitVec.ofNat 32 v).toNat = v := by rw [BitVec.toNat_ofNat, Nat.mod_eq_of_lt hv]
  rw [write32_of_oneWord s rq hbuf hreg hpart hparts, hnat, takesWrites_pwr s off v hblk hbits, badCode_pwr off v hblk,
    ones_wordWrite hv, applyWrite_pwr _ off v hblk, store_wordWrite _ hparts hv]
  by_cases hrsv : v &&& h.row.rsv = 0
  · simp only [hrsv, bne_self_eq_false, Bool.or_false, Bool.not_true, Bool.false_eq_true, if_false, if_true]
    rfl
  · simp [hrsv]

theorem onlyRegs_spendHeld_put (s : State) (rq : Requester) (off n : Nat) (w : Word) :
    OnlyRegs [off] { s with heldWords := ((s.spendHeld rq off n).put off w).heldWords } ((s.spendHeld rq off n).put off w) :=
  (OnlyRegs.refl [off] (s.spendHeld rq off n)).put (by simp) w

/-! ### Reach by requester (R272, R273, R296) -/

theorem writeReach_pf1 (s : State) (off : Nat) (h : s.inReset = false) :
    s.writeReach .pf1 off true true = .refused (if s.priv 0 = 1 then 5 else 1) := by
  simp [State.writeReach, h]

/-- A ring position is refused that is not a head over this unit, whose port is closed, or whose register a procession
does not reach. -/
theorem writeReach_ring (s : State) (off : Nat) (p : Fin 64) (hr : s.inReset = false)
    (h : s.isHeadOver p.val = false ∨ s.priv 10 = 2 ∨ convoyReach off true = false) :
    s.writeReach (.ring p) off true true = .refused 7 := by
  have hcond : ¬ (s.isHeadOver p.val && s.priv 10 != 2 && convoyReach off true) = true := by
    rcases h with h | h | h <;> simp [h]
  have hreset : ¬ s.inReset = true := by simp [hr]
  exact (if_neg hreset).trans (if_neg hcond)

theorem exec_tapInstruction_of_rstHigh (dt : Nat) (s : State) (code : Fin 256) (hrst : (s.start dt).rstLow = false)
    (h : tapNeedsReset (tapCode code) = true) : exec (.tapInstruction dt code) s = .fault .testMode := by
  refine if_pos ?_
  rw [h, hrst]
  rfl

theorem tapNeedsReset_listed {c : Nat} (h : c = 0 ∨ c = 2 ∨ (4 ≤ c ∧ c ≤ 7)) : tapNeedsReset (tapCode c) = true := by
  rw [TestPort.tapCode_listed (by omega), tapNeedsReset]
  simp only [Bool.and_eq_true, bne_iff_ne]
  omega

/-- Settles O8, by the judgement of the access and, where it is allowed, by what stands at the offset. -/
theorem registerWrites : Obligations.RegisterWrites := by
  refine ⟨?_, fun off v hr => ⟨writeReach_pf1 v off hr, rfl, fun o => rfl, fun p hp => writeReach_ring v off p hr hp⟩,
    fun dt code s hrst hcode => exec_tapInstruction_of_rstHigh dt s code hrst (tapNeedsReset_listed hcode)⟩
  rintro dt off rq value s v u rfl h4 rfl
  refine ⟨fun hreach hbuf => ?_, fun what hreach => registerWrite_refused dt rq value s h4 hreach⟩
  rw [registerWrite_allowed dt rq value s h4 hreach]
  refine ⟨fun hreg => write32_of_hole _ rq _ hbuf hreg, fun h hreg hpart hparts => ⟨fun hbits => ?_, fun hblk hbits hv => ?_⟩⟩
  · rw [write32_of_oneWord _ rq hbuf hreg hpart hparts, takesWrites_of_no_bits _ _ _ hbits]
    rfl
  · rw [write32_pwr _ rq hbuf hreg hpart hparts hblk hbits hv]
    refine ⟨fun hrsv => if_neg hrsv, fun hrsv => ⟨_, if_pos hrsv, onlyRegs_spendHeld_put _ rq off 1 _, fun i hi => ?_⟩⟩
    rw [State.bit, State.get_put_self, BitVec.toNat_ofNat, Nat.testBit_mod_two_pow, testBit_storedWord]
    simp only [hi, decide_true, Bool.true_and]
    rfl

end Sys2Proof.Proofs.Access

/-! Proofs of the statements of chapter 06 about the format of records (R155, R160 to R162). -/

namespace Sys2Proof.Proofs.Records

open Sys2Proof Sys2Proof.Machine

/-- The words of a record before its padding. -/
def bareWords (r : Rec) (ag seq : Nat) : List Native := r.header ag seq ++ r.annexWords ++ r.payload ++ r.trailer

theorem words_eq_bareWords_append (r : Rec) (ag seq : Nat) :
    r.words ag seq = bareWords r ag seq ++ List.replicate ((8 - (bareWords r ag seq).length % 8) % 8) 0 := by
  rfl

@[simp] theorem length_header (r : Rec) (ag seq : Nat) : (r.header ag seq).length = 16 := by
  rfl

@[simp] theorem length_annexWords (r : Rec) : r.annexWords.length = 2 * r.annex.length := by
  rw [Rec.annexWords]
  induction r.annex with
  | nil => rfl
  | cons x xs ih =>
    rw [List.flatMap_cons, List.length_append, ih, List.length_cons]
    simp only [two36, List.length_cons, List.length_nil]
    omega

@[simp] theorem length_trailer (r : Rec) : r.trailer.length = 2 := by
  rw [Rec.trailer]
  split <;> rfl

theorem length_bareWords (r : Rec) (ag seq : Nat) :
    (bareWords r ag seq).length = 16 + 2 * r.annex.length + r.payload.length + 2 := by
  simp only [bareWords, List.length_append, length_header, length_annexWords, length_trailer]

theorem granules_eq (r : Rec) : r.granules = (16 + 2 * r.annex.length + r.payload.length + 2 + 7) / 8 := by
  rfl

theorem getD_words_of_bareWords_le (r : Rec) (ag seq : Nat) {k : Nat} (h : (bareWords r ag seq).length ≤ k) :
    (r.words ag seq).getD k 0 = 0 := by
  rw [words_eq_bareWords_append, List.getD_append_right _ _ _ _ h]
  by_cases hk : k - (bareWords r ag seq).length < (8 - (bareWords r ag seq).length % 8) % 8
  · rw [List.getD_replicate _ hk]
  · rw [List.getD_eq_default _ _ (by rw [List.length_replicate]; omega)]

/-- The words of an intercalary record without annex and payload are its header and two zero words (R162). -/
theorem bareWords_intercalary {r : Rec} (ag seq : Nat) (hkind : r.kind = 1) (hannex : r.annex = [])
    (hpayload : r.payload = []) : bareWords r ag seq = r.header ag seq ++ [0, 0] := by
  simp [bareWords, Rec.annexWords, hannex, hpayload, Rec.trailer, hkind]

theorem getD_words_intercalary {r : Rec} (ag seq : Nat) (hkind : r.kind = 1) (hannex : r.annex = [])
    (hpayload : r.payload = []) {k : Nat} (hk : 16 ≤ k) : (r.words ag seq).getD k 0 = 0 := by
  by_cases hlong : 18 ≤ k
  · exact getD_words_of_bareWords_le r ag seq (by rw [length_bareWords, hannex, hpayload]; simpa using hlong)
  · rw [words_eq_bareWords_append, bareWords_intercalary ag seq hkind hannex hpayload, List.append_assoc,
      List.getD_append_right _ _ _ _ (by simpa using hk), length_header]
    have hpos : k - 16 = 0 ∨ k - 16 = 1 := by omega
    rcases hpos with h | h <;> rw [h] <;> rfl

/-- Settles O10, from the length of a record's words before the padding. -/
theorem recordSize : Obligations.RecordSize := by
  rintro r ag seq n rfl
  have hlen := length_bareWords r ag seq
  refine ⟨?_, granules_eq r, ?_, fun k hk => getD_words_of_bareWords_le r ag seq (hlen ▸ hk), fun hkind hannex hpayload =>
    ⟨?_, fun k hk => getD_words_intercalary ag seq hkind hannex hpayload hk⟩⟩
  · rw [words_eq_bareWords_append, List.length_append, List.length_replicate, hlen, granules_eq]
    omega
  · rw [words_eq_bareWords_append, ← hlen, List.take_left]
    rfl
  · rw [granules_eq, hannex, hpayload]
    rfl

end Sys2Proof.Proofs.Records

/-! What shared operations leave as it was, for any part of the state that a function `p` of it reads: each lemma asks of `p`
only that it does not look at what the operation sets. -/

namespace Sys2Proof.Proofs.Frame

open Sys2Proof Sys2Proof.Machine

variable {α : Type}

/-- A part of the state that neither a register word nor an output enters. -/
structure Blind (p : State → α) : Prop where
  put : ∀ s o w, p (State.put s o w) = p s
  emit : ∀ s x, p (State.emit s x) = p s

/-! ### Repetition -/

theorem foldl_keep {β : Type} {p : State → α} {f : State → β → State} (hf : ∀ s a, p (f s a) = p s) (l : List β) (s : State) :
    p (l.foldl f s) = p s := by
  induction l generalizing s with
  | nil => rfl
  | cons a l ih => rw [List.foldl_cons, ih, hf]

theorem forAll_keep {p : State → α} {f : State → Nat → State} (hf : ∀ s a, p (f s a) = p s) (l : List Nat) (s : State) :
    p (s.forAll l f) = p s :=
  foldl_keep hf l s

/-! ### Register words -/

section
variable {p : State → α} (hp : Blind p)
include hp

theorem wr_keep (s : State) (o hi lo v : Nat) : p (s.wr o hi lo v) = p s := hp.put s o _

theorem setBit_keep (s : State) (o i : Nat) (b : Bool) : p (s.setBit o i b) = p s := hp.put s o _

theorem countFld_keep (s : State) (o hi lo k : Nat) : p (s.countFld o hi lo k) = p s := hp.put s o _

theorem inc_keep (s : State) (o : Nat) : p (s.inc o) = p s := hp.put s o _

theorem wrq_keep (n : Nat) (s : State) (o v : Nat) : p (s.wrq o n v) = p s := by
  induction n generalizing s o v with
  | zero => rfl
  | succ n ih => rw [State.wrq, ih, hp.put]

theorem wrEpoch_keep (s : State) (o v : Nat) : p (s.wrEpoch o v) = p s := wrq_keep hp _ s o _

theorem orFlt_keep (s : State) (o m : Nat) : p (s.orFlt o m) = p s := wrq_keep hp _ s o _

/-! ### Messages (R254) -/

theorem signal_keep (s : State) (v : Nat) : p (s.signal v) = p s := by
  rw [State.signal]
  split
  · rfl
  · split
    · exact setBit_keep hp s _ _ _
    · split
      · rfl
      · exact hp.emit s _

theorem pwrEvent_keep (s : State) (k : Nat) : p (s.pwrEvent k) = p s := by
  rw [State.pwrEvent]
  split
  · rw [signal_keep hp, setBit_keep hp]
  · exact setBit_keep hp s _ _ _

theorem ivEvent_keep (s : State) (u k : Nat) : p (s.ivEvent u k) = p s := by
  rw [State.ivEvent]
  split
  · rw [signal_keep hp, setBit_keep hp]
  · exact setBit_keep hp s _ _ _

end

/-- Words returned to their reset values, for a part that reads no word, active ones included. -/
theorem clearWords_keep {p : State → α} (h : ∀ (s : State) r a, p { s with mem.regs := r, mem.active := a } = p s)
    (os : List Nat) (s : State) : p (s.clearWords os) = p s := by
  induction os generalizing s with
  | nil => rfl
  | cons o os ih => rw [State.clearWords, ih, h]

/-! ### The demand for Feast (R311) -/

theorem cancelEntry_keep {p : State → α} (hp : Blind p) (s : State) : p s.cancelEntry = p s := by
  refine forAll_keep (fun s k => ?_) _ s
  split
  · rfl
  · exact countFld_keep hp s _ _ _ _

theorem startBank_keep {p : State → α} (hp : Blind p) (hb : ∀ s b x, p (State.setBank s b x) = p s) (s : State) (b : Nat)
    (full : Bool) : p (s.startBank b full) = p s := by
  rw [State.startBank]
  split
  · rfl
  · dsimp only
    rw [setBit_keep hp, hb]

theorem demandExit_keep {p : State → α} (hp : Blind p) (hb : ∀ s b x, p (State.setBank s b x) = p s)
    (hm : ∀ (s : State) m n, p { s with move := m, idleSince := n } = p s) (s : State) : p s.demandExit = p s := by
  have hidle : ∀ (s : State) n, p { s with idleSince := n } = p s := fun s n => hm s s.move n
  have hmove : ∀ (s : State) m, p { s with move := m } = p s := fun s m => hm s m s.idleSince
  rw [State.demandExit]
  dsimp only
  split
  · rw [hmove]
    split
    · rw [cancelEntry_keep hp, hidle]
    · exact hidle s _
  · exact hidle s _
  · split
    · exact hidle s _
    · split
      · rw [forAll_keep (fun s b => startBank_keep hp hb s b false)]
        exact hm s _ _
      · exact hm s _ _

theorem accessDemand_keep {p : State → α} (hd : ∀ s, p (State.demandExit s) = p s) (s : State) (rq : Requester) :
    p (s.accessDemand rq) = p s := by
  cases rq with
  | pf0 => exact hd s
  | pf1 => exact hd s
  | smbus => rfl
  | eth _ => rfl
  | ring _ => exact hd s

@[simp] theorem resetStep_demandExit (s : State) : s.demandExit.resetStep = s.resetStep :=
  demandExit_keep (p := State.resetStep) ⟨fun _ _ _ => rfl, fun _ _ => rfl⟩ (fun _ _ _ => rfl) (fun _ _ _ => rfl) s

@[simp] theorem rstLow_accessDemand (s : State) (rq : Requester) : (s.accessDemand rq).rstLow = s.rstLow := by
  rw [State.rstLow, accessDemand_keep resetStep_demandExit, State.rstLow]

/-! ### The state of the device (R311) -/

theorem setTok_keep {p : State → α} (ht : ∀ (s : State) n t, p { s with short := n, tokens := t } = p s) (s : State) (k : Nat)
    (v : Int) : p (s.setTok k v) = p s := ht s s.short _

theorem settleTok_keep {p : State → α} (ht : ∀ (s : State) n t, p { s with short := n, tokens := t } = p s) (s : State) (k : Nat) :
    p (s.settleTok k) = p s := by
  rw [State.settleTok]
  split
  · exact ht s _ _
  · exact ht s s.short _

theorem setPower_keep {p : State → α} (hp : Blind p) (ht : ∀ (s : State) n t, p { s with short := n, tokens := t } = p s)
    (s : State) (st : Nat) : p (s.setPower st) = p s := by
  rw [State.setPower]
  split
  · rfl
  · rw [pwrEvent_keep hp, wr_keep hp, forAll_keep (settleTok_keep ht)]

/-! ### Interval units and outputs -/

theorem ivCopy_keep {p : State → α} (hp : Blind p) (s : State) (u : Nat) : p (s.ivCopy u) = p s := by
  rw [State.ivCopy]
  rw [ivEvent_keep hp, setBit_keep hp, wrEpoch_keep hp, wrEpoch_keep hp, wrq_keep hp, wrEpoch_keep hp, wrEpoch_keep hp, hp.put]

theorem ivStop_keep {p : State → α} (hp : Blind p) (hi : ∀ s u x, p (State.setIv s u x) = p s) (s : State) (u : Nat) :
    p (s.ivStop u) = p s := by
  rw [State.ivStop]
  split
  · rfl
  · dsimp only
    rw [wr_keep hp, hi]
    split
    · exact ivCopy_keep hp s u
    · rfl

theorem ivAbort_keep {p : State → α} (hp : Blind p) (hi : ∀ s u x, p (State.setIv s u x) = p s) (s : State) :
    p s.ivAbort = p s :=
  forAll_keep (fun s u => by rw [setBit_keep hp, ivStop_keep hp hi]) _ s

theorem toutStop_keep {p : State → α} (hp : Blind p) (ht : ∀ s k x, p (State.setTout s k x) = p s) (s : State) (o : Nat) :
    p (s.toutStop o) = p s := by
  rw [State.toutStop]
  split
  · exact ht s _ _
  · rw [hp.emit, ht, foldl_keep (fun s q => hp.emit s _)]

theorem toutsStop_keep {p : State → α} (hp : Blind p) (ht : ∀ s k x, p (State.setTout s k x) = p s) (s : State) :
    p s.toutsStop = p s :=
  forAll_keep (toutStop_keep hp ht) _ s

/-! ### Tables -/

/-- A table of partitions written place by place: what stands at a place is what was written there. -/
theorem part_forAll_setPart (f : Nat → Partition) (l : List Nat) (s : State) (q : Nat) :
    (s.forAll l (fun t p => t.setPart p (f p))).part q = if q ∈ l then f q else s.part q := by
  induction l generalizing s with
  | nil => rfl
  | cons a l ih =>
    rw [State.forAll, List.foldl_cons, ← State.forAll, ih]
    by_cases hl : q ∈ l
    · simp [hl]
    · by_cases ha : q = a
      · subst ha
        simp [hl]
      · simp [hl, ha, State.part_setPart_ne]

end Sys2Proof.Proofs.Frame

/-! Proofs of the statements of chapter 13 about resets (R321 to R327). -/

namespace Sys2Proof.Proofs.Resets

open Sys2Proof Sys2Proof.Machine
open Sys2Proof.Proofs.Frame (Blind)

/-! ### The request of a reset (R324, R325) -/

theorem requestReset_of_rstLow {s : State} (cause : Nat) (h : s.rstLow = true) : s.requestReset cause = s := by
  rw [State.requestReset, if_pos h]

/-- What a request leaves, for every cause: the words of GLB_RESET_CAUSE are the last to be written. -/
theorem requestReset_of_rstHigh {s : State} (cause : Nat) (h : s.rstLow = false) :
    (s.requestReset cause).resetStep = .requested ∧ (s.requestReset cause).resetAt = s.now
      ∧ (s.requestReset cause).rd Reg.glbResetCause 3 0 = cause % 2 ^ 4 := by
  rw [State.requestReset, if_neg (by simp [h])]
  refine ⟨rfl, rfl, ?_⟩
  dsimp only
  rw [State.countFld, State.rd_wr_apart _ (by decide) (by decide) (by decide), State.rd_wr_self _ (by decide) (by decide)]

theorem rstLow_of_not_asserted {s : State} (h : s.rstLow = false) : s.resetStep ≠ .asserted := by
  intro hstep
  rw [State.rstLow, hstep] at h
  exact absurd h (by decide)

/-! ### Each source (R324, R327) -/

theorem exec_rstNAssert (dt : Nat) (s : State) : exec (.rstNAssert dt) s = .next ((s.start dt).requestReset 1) := by
  rfl

theorem exec_glbResetWrite (dt : Nat) (rq : Requester) (w : Word) (s : State) :
    exec (.glbResetWrite dt rq w) s = (s.start dt).hostWrite rq Reg.glbReset (fun s => .next (s.doGlbReset w)) := by
  rfl

theorem exec_glbResetWrite_allowed (dt : Nat) (rq : Requester) (w : Word) (s : State)
    (h : (s.start dt).writeReach rq Reg.glbReset true true = .allowed) :
    exec (.glbResetWrite dt rq w) s = .next (((s.start dt).accessDemand rq).doGlbReset w) := by
  rw [exec_glbResetWrite, State.hostWrite, h]

theorem exec_glbResetWrite_refused (dt : Nat) (rq : Requester) (w : Word) (what : Nat) (s : State)
    (h : (s.start dt).writeReach rq Reg.glbReset true true = .refused what) :
    exec (.glbResetWrite dt rq w) s = .next (((s.start dt).readDemand rq).refuse (portOf rq true) what) := by
  rw [exec_glbResetWrite, State.hostWrite, h]

theorem doGlbReset_magic (s : State) : s.doGlbReset 0xA2560001 = s.requestReset 2 :=
  if_pos rfl

theorem doGlbReset_other (s : State) {w : Word} (h : w ≠ 0xA2560001) : s.doGlbReset w = s :=
  if_neg h

theorem doGlbReset_of_rstLow {s : State} (w : Word) (h : s.rstLow = true) : s.doGlbReset w = s := by
  rw [State.doGlbReset, requestReset_of_rstLow 2 h, ite_self]

theorem exec_watchdogExpiry (dt : Nat) (s : State) : exec (.watchdogExpiry dt) s
    = if (s.start dt).resetStep ≠ .asserted ∧ (s.start dt).progressAt + 2 * second ≤ (s.start dt).now then
        .next ((s.start dt).requestReset 3)
      else .next (s.start dt) := by
  rfl

theorem exec_watchdogExpiry_early {dt : Nat} {s : State} (h : (s.start dt).now < (s.start dt).progressAt + 2 * second) :
    exec (.watchdogExpiry dt) s = .next (s.start dt) := by
  rw [exec_watchdogExpiry, if_neg (fun hc => absurd hc.2 (by omega))]

theorem exec_watchdogExpiry_of_rstLow {dt : Nat} {s : State} (h : (s.start dt).rstLow = true) :
    exec (.watchdogExpiry dt) s = .next (s.start dt) := by
  rw [exec_watchdogExpiry, requestReset_of_rstLow 3 h, ite_self]

theorem exec_watchdogExpiry_due {dt : Nat} {s : State} (hstep : (s.start dt).resetStep ≠ .asserted)
    (h : (s.start dt).progressAt + 2 * second ≤ (s.start dt).now) :
    exec (.watchdogExpiry dt) s = .next ((s.start dt).requestReset 3) := by
  rw [exec_watchdogExpiry, if_pos ⟨hstep, h⟩]

theorem exec_fundamentalReset (dt : Nat) (s : State) :
    exec (.fundamentalReset dt) s = .next ((s.start dt).requestReset 4).resetPcie := by
  rfl

/-! ### PERST_N (R327) -/

theorem get_clearWords_ne (os : List Nat) (s : State) {o : Nat} (h : o ∉ os) : (s.clearWords os).get o = s.get o := by
  induction os generalizing s with
  | nil => rfl
  | cons a os ih =>
    rw [List.mem_cons, not_or] at h
    rw [State.clearWords, ih _ h.2]
    exact tget_tdel_ne _ _ h.1

/-- The words of the MSI-X table and its pending bits. -/
def msixWords : List Nat := (List.range 256).map Reg.msixAddrDataCtl ++ [Reg.msixPba 0, Reg.msixPba 1]

theorem not_mem_msixWords {o : Nat} (h : o < 0x90000) : o ∉ msixWords := by
  rw [msixWords, List.mem_append, List.mem_map]
  rintro (⟨k, -, hk⟩ | hmem)
  · rw [Reg.msixAddrDataCtl] at hk
    omega
  · have hpba : Reg.msixPba 0 = 0x98000 ∧ Reg.msixPba 1 = 0x98004 := by decide
    rw [hpba.1, hpba.2] at hmem
    simp only [List.mem_cons, List.not_mem_nil, or_false] at hmem
    omega

/-- The link and the functions down, with the register words as they are. -/
def pcieDown (s : State) : State := { s with msixOn := false, pcieReady := false, perst := true }

theorem get_pcieDown (s : State) (o : Nat) : (pcieDown s).get o = s.get o := by
  rfl

theorem resetStep_pcieDown (s : State) : (pcieDown s).resetStep = s.resetStep := by
  rfl

theorem resetPcie_eq (s : State) : s.resetPcie = pcieDown ((s.wr Reg.prtPcieStatus 8 0 0).clearWords msixWords) := by
  rfl

theorem get_resetPcie (s : State) {o : Nat} (h : o < 0x90000) : s.resetPcie.get o = (s.wr Reg.prtPcieStatus 8 0 0).get o := by
  rw [resetPcie_eq, get_pcieDown, get_clearWords_ne msixWords _ (not_mem_msixWords h)]

theorem rd_resetPcie_status (s : State) : s.resetPcie.rd Reg.prtPcieStatus 8 0 = 0 := by
  rw [State.rd, get_resetPcie s (by decide), ← State.rd, State.rd_wr_self s (by decide) (by decide), Nat.zero_mod]

theorem rd_resetPcie_ne (s : State) {o : Nat} (hi lo : Nat) (h : o < 0x90000) (hne : o ≠ Reg.prtPcieStatus) :
    s.resetPcie.rd o hi lo = s.rd o hi lo := by
  rw [State.rd, get_resetPcie s h, ← State.rd, State.rd_wr_ne s _ _ _ _ _ hne]

theorem resetStep_resetPcie (s : State) : s.resetPcie.resetStep = s.resetStep := by
  rw [resetPcie_eq, resetStep_pcieDown, Frame.clearWords_keep (p := State.resetStep) (fun _ _ _ => rfl)]
  rfl

/-- Settles O11, by whether a reset is requested or asserted already. -/
theorem resetsAreRequested : Obligations.ResetsAreRequested := by
  rintro dt s u rfl
  refine ⟨fun hlow => ⟨?_, exec_watchdogExpiry_of_rstLow hlow, ?_, fun rq w hreach => ?_⟩,
    fun rq w what hreach => exec_glbResetWrite_refused dt rq w what s hreach, exec_watchdogExpiry_early, fun hhigh => ?_⟩
  · rw [exec_rstNAssert, requestReset_of_rstLow 1 hlow]
  · rw [exec_fundamentalReset, requestReset_of_rstLow 4 hlow]
  · rw [exec_glbResetWrite_allowed dt rq w s hreach, doGlbReset_of_rstLow w (by rwa [Frame.rstLow_accessDemand])]
  · refine ⟨⟨_, exec_rstNAssert dt s, requestReset_of_rstHigh 1 hhigh⟩, fun rq hreach => ⟨?_, fun w hw => ?_⟩, fun hdue => ?_, ?_⟩
    · obtain ⟨hstep, -, hcause⟩ := requestReset_of_rstHigh 2 ((Frame.rstLow_accessDemand (s.start dt) rq).trans hhigh)
      refine ⟨_, exec_glbResetWrite_allowed dt rq _ s hreach, ?_⟩
      rw [doGlbReset_magic]
      exact ⟨hstep, hcause⟩
    · rw [exec_glbResetWrite_allowed dt rq w s hreach, doGlbReset_other _ hw]
    · obtain ⟨hstep, -, hcause⟩ := requestReset_of_rstHigh 3 hhigh
      exact ⟨_, exec_watchdogExpiry_due (rstLow_of_not_asserted hhigh) hdue, hstep, hcause⟩
    · obtain ⟨hstep, -, hcause⟩ := requestReset_of_rstHigh 4 hhigh
      refine ⟨_, exec_fundamentalReset dt s, (resetStep_resetPcie _).trans hstep, ?_, rfl, rfl, rfl, rd_resetPcie_status _⟩
      exact (rd_resetPcie_ne _ 3 0 (by decide) (by decide)).trans hcause

/-! ### The internal reset asserted (R325) -/

/-- What flash, the stacks and the ledger hold. -/
def lasting (s : State) : Tbl Native × Tbl ImgBank × Tbl (List Byte) × Tbl (Tbl Int) × Tbl Partition :=
  (s.mem.space, s.imgs, s.keys, s.seasons, s.parts)

theorem blind_lasting : Blind lasting := ⟨fun _ _ _ => rfl, fun _ _ => rfl⟩

theorem lasting_copyEpoch (s : State) : lasting s.copyEpoch = lasting s := by
  rw [State.copyEpoch]
  split <;> rfl

theorem lasting_keepFaults (s : State) : lasting s.keepFaults = lasting s := by
  rw [State.keepFaults, Frame.wrq_keep blind_lasting, Frame.wrq_keep blind_lasting]

theorem lasting_cutRuns (s : State) : lasting s.cutRuns = lasting s := by
  rw [State.cutRuns, Frame.ivAbort_keep blind_lasting (fun _ _ _ => rfl)]
  rfl

theorem lasting_beforeReset (s : State) : lasting s.copyEpoch.keepFaults.toutsStop.cutRuns = lasting s := by
  rw [lasting_cutRuns, Frame.toutsStop_keep blind_lasting (fun _ _ _ => rfl), lasting_keepFaults, lasting_copyEpoch]

/-- What the internal reset clears, and what lasts through it. -/
structure Cleared (s t : State) : Prop where
  alm : t.alm = none
  groups : t.groups = []
  latches : t.latches = []
  heldWords : t.heldWords = []
  staging : t.mem.staging = []
  lmem : t.mem.lmem = []
  coreLocked : t.coreLocked = false
  sampleLocked : t.sampleLocked = false
  lasting : lasting t = lasting s

/-- What the claim reads of a state, to be carried through the operations that end the reset. -/
def clearedView (s : State) : Option Almanac × Tbl Group × List ((Requester × Nat) × Word) × List ((Requester × Nat) × Word)
    × Tbl Byte × Tbl Byte × Bool × Bool × (Tbl Native × Tbl ImgBank × Tbl (List Byte) × Tbl (Tbl Int) × Tbl Partition) :=
  (s.alm, s.groups, s.latches, s.heldWords, s.mem.staging, s.mem.lmem, s.coreLocked, s.sampleLocked, Resets.lasting s)

theorem blind_clearedView : Blind clearedView := ⟨fun _ _ _ => rfl, fun _ _ => rfl⟩

theorem cleared_clearCore (s : State) (f : Nat → Word → Word) : Cleared s (s.resetRegs f).clearCore :=
  ⟨rfl, rfl, rfl, rfl, rfl, rfl, rfl, rfl, rfl⟩

theorem Cleared.of_lasting {s r t : State} (h : Cleared r t) (hl : Resets.lasting r = Resets.lasting s) : Cleared s t :=
  ⟨h.alm, h.groups, h.latches, h.heldWords, h.staging, h.lmem, h.coreLocked, h.sampleLocked, h.lasting.trans hl⟩

theorem Cleared.of_view {s t u : State} (h : Cleared s t) (hv : clearedView u = clearedView t) : Cleared s u := by
  simp only [clearedView, Prod.mk.injEq] at hv
  obtain ⟨halm, hgroups, hlatches, hheld, hstaging, hlmem, hcore, hsample, hlast⟩ := hv
  exact ⟨halm.trans h.alm, hgroups.trans h.groups, hlatches.trans h.latches, hheld.trans h.heldWords,
    hstaging.trans h.staging, hlmem.trans h.lmem, hcore.trans h.coreLocked, hsample.trans h.sampleLocked,
    hlast.trans h.lasting⟩

theorem view_stacksAfter (s : State) (l : List Nat) : clearedView (s.stacksAfter l) = clearedView s := by
  rw [State.stacksAfter]
  refine Frame.forAll_keep ?_ _ s
  intro s k
  rfl

theorem view_updReset (s : State) (st : Nat) : clearedView (s.updReset st) = clearedView s :=
  Frame.wr_keep blind_clearedView s _ _ _ _

theorem view_takePosition (s : State) : clearedView s.takePosition = clearedView s := by
  rw [State.takePosition]
  split <;> rfl

theorem view_pinSense (s : State) (p : Nat) : clearedView (s.pinSense p) = clearedView s := by
  rfl

theorem view_endRunByReset (s : State) (run : Option CalRun) (asked : List Nat) (aborted : Bool) :
    clearedView (s.endRunByReset run asked aborted) = clearedView s := by
  cases run <;> rfl

theorem view_showCut (s : State) (l : List Nat) : clearedView (s.showCut l) = clearedView s :=
  Frame.forAll_keep (fun s _ => Frame.setBit_keep blind_clearedView s _ _ _) l s

/-- The state with the internal reset asserted. -/
def assertedNow (s : State) : State := { s with resetStep := .asserted }

theorem view_assertedNow (s : State) : clearedView (assertedNow s) = clearedView s := by
  rfl

theorem assertReset_eq (s : State) : s.assertReset
    = assertedNow ((((((((s.copyEpoch.keepFaults.toutsStop.cutRuns).resetRegs warmWord).clearCore).stacksAfter
        ((List.range 4).map s.copyEpoch.keepFaults.toutsStop.cutRuns.stackStart)).updReset (s.updStart false)).takePosition.setPower
        0).forAll (List.range 12) State.pinSense).endRunByReset s.calRun s.calAsked (s.calRun.isSome || s.seasonJob.isSome)
        |>.showCut s.copyEpoch.keepFaults.toutsStop.cutRuns.ivCut) := by
  rfl

theorem cleared_assertReset (s : State) : Cleared s s.assertReset := by
  have hcore := cleared_clearCore s.copyEpoch.keepFaults.toutsStop.cutRuns warmWord
  refine (hcore.of_lasting (lasting_beforeReset s)).of_view ?_
  rw [assertReset_eq, view_assertedNow, view_showCut, view_endRunByReset, Frame.forAll_keep view_pinSense,
    Frame.setPower_keep blind_clearedView (fun _ _ _ => rfl), view_takePosition, view_updReset, view_stacksAfter]

theorem exec_warmResetAssert (dt : Nat) (s : State) : exec (.warmResetAssert dt) s
    = if (s.start dt).resetStep = .requested ∧ (List.range 4).all (fun k => !(s.start dt).running k) then
        .next (s.start dt).assertReset
      else .next (s.start dt) := by
  rfl

theorem all_range_four_not {f : Nat → Bool} : (List.range 4).all (fun k => !f k) = true ↔ ∀ k < 4, f k = false := by
  simp

theorem exec_warmResetAssert_stopped {dt : Nat} {s : State} (hreq : (s.start dt).resetStep = .requested)
    (hstop : ∀ k < 4, (s.start dt).running k = false) :
    exec (.warmResetAssert dt) s = .next (s.start dt).assertReset := by
  rw [exec_warmResetAssert, if_pos ⟨hreq, all_range_four_not.mpr hstop⟩]

theorem exec_warmResetAssert_waits {dt : Nat} {s : State}
    (h : (s.start dt).resetStep ≠ .requested ∨ ∃ k < 4, (s.start dt).running k = true) :
    exec (.warmResetAssert dt) s = .next (s.start dt) := by
  rw [exec_warmResetAssert, if_neg]
  rintro ⟨hreq, hall⟩
  rcases h with h | ⟨k, hk, hrun⟩
  · exact h hreq
  · rw [all_range_four_not.mp hall k hk] at hrun
    cases hrun

/-! ### Release (R325) -/

theorem exec_resetRelease (dt : Nat) (s : State) : exec (.resetRelease dt) s
    = if (s.start dt).resetStep = .asserted ∧ (s.start dt).resetAt + 10 * usec ≤ (s.start dt).now
        ∧ (s.start dt).tripped.isEmpty then
        if tapNeedsReset (s.start dt).tap then .fault .testMode
        else .next ({ s.start dt with resetStep := .released, progressAt := (s.start dt).now } : State).raiseAgain
      else .next (s.start dt) := by
  rfl

theorem exec_resetRelease_waits {dt : Nat} {s : State}
    (h : (s.start dt).resetStep ≠ .asserted ∨ (s.start dt).now < (s.start dt).resetAt + 10 * usec ∨ (s.start dt).tripped ≠ []) :
    exec (.resetRelease dt) s = .next (s.start dt) := by
  rw [exec_resetRelease, if_neg]
  rintro ⟨hstep, hage, hrails⟩
  rcases h with h | h | h
  · exact h hstep
  · omega
  · exact h (List.isEmpty_iff.mp hrails)

/-! ### The cold reset (R321 to R324) -/

theorem exec_coldReset (dt : Nat) (s : State) : exec (.coldReset dt) s = .next (s.start dt).coldReset := by
  rfl

/-- What a cold reset takes from the state before it. -/
def coldKept (s : State) : List Instr × Tbl ImgBank × Tbl (List Byte) × Tbl (Tbl Int) × Tbl Partition × Journal :=
  (s.pending, s.imgs, s.keys, s.seasons, s.parts, s.journal)

theorem coldKept_toutsStop (s : State) : coldKept s.toutsStop = coldKept s :=
  Frame.toutsStop_keep ⟨fun _ _ _ => rfl, fun _ _ => rfl⟩ (fun _ _ _ => rfl) s

/-- What the claim reads of the state that the cold reset leaves, but for the ledger, a word and the position's write. -/
def coldView (s : State) : ResetStep × Bool × Option Almanac × Tbl Group × List ((Requester × Nat) × Word)
    × List ((Requester × Nat) × Word) × Tbl Native × List Instr × Tbl ImgBank × Tbl (List Byte) × Tbl (Tbl Int) :=
  (s.resetStep, s.coldStart, s.alm, s.groups, s.latches, s.heldWords, s.mem.space, s.pending, s.imgs, s.keys, s.seasons)

/-- The state with the ledger of a cold reset, before the update state, the position and the pins. -/
def coldLedger (s : State) : State := s.coldBase.forAll (List.range 32) (fun t p => t.setPart p (s.coldPart p))

/-- The journal that was not valid is shown in PWR_STATUS. -/
def showJournal (valid : Bool) (s : State) : State := if valid then s else s.setBit Reg.pwrStatus 10 true

theorem coldReset_eq (s : State) : s.coldReset
    = (((showJournal s.toutsStop.journal.valid (coldLedger s.toutsStop)).updReset
        (s.toutsStop.updStart true)).takePosition).forAll (List.range 12) State.pinSense := by
  rfl

theorem takePosition_keep {α : Type} {p : State → α} (hput : ∀ s o w, p (State.put s o w) = p s)
    (hpos : ∀ s : State, p { s with posNext := none } = p s) (s : State) : p s.takePosition = p s := by
  rw [State.takePosition]
  split
  · rw [hput, hpos]
  · rfl

/-- What the last operations of a cold reset leave: they set words, the request of an activation, the position's write and
the pins. -/
theorem coldReset_keep {α : Type} {p : State → α} (hput : ∀ s o w, p (State.put s o w) = p s)
    (hact : ∀ (s : State) a, p { s with actReq := a } = p s) (hpos : ∀ s : State, p { s with posNext := none } = p s)
    (hpin : ∀ s k x, p (State.setPin s k x) = p s) (s : State) : p s.coldReset = p (coldLedger s.toutsStop) := by
  have hshow : ∀ (b : Bool) (x : State), p (showJournal b x) = p x := by
    intro b x
    cases b
    · exact hput x _ _
    · rfl
  rw [coldReset_eq, Frame.forAll_keep (f := State.pinSense) (fun s k => hpin s k _), takePosition_keep hput hpos]
  exact (hact _ _).trans ((hput _ _ _).trans (hshow _ _))

theorem coldView_coldLedger (s : State) : coldView (coldLedger s) = coldView s.coldBase :=
  Frame.forAll_keep (p := coldView) (f := fun t p => t.setPart p (s.coldPart p)) (fun _ _ => rfl) (List.range 32) s.coldBase

theorem coldView_coldBase (s : State) : coldView s.coldBase
    = (.asserted, true, none, [], [], [], [], s.pending, s.imgs, s.keys, s.seasons) := by
  rfl

theorem lost_coldBase (s : State) : s.coldBase.lost = if s.journal.valid then s.journal.lost else [] := by
  rfl

/-- Flash and the queue are as they were, and everything else that the view holds is as at reset. -/
theorem coldView_coldReset (s : State) : coldView s.coldReset
    = (.asserted, true, none, [], [], [], [], s.pending, s.imgs, s.keys, s.seasons) := by
  have hkept := coldKept_toutsStop s
  simp only [coldKept, Prod.mk.injEq] at hkept
  obtain ⟨hpending, himgs, hkeys, hseasons, -, -⟩ := hkept
  rw [coldReset_keep (p := coldView) (fun _ _ _ => rfl) (fun _ _ => rfl) (fun _ => rfl) (fun _ _ _ => rfl), coldView_coldLedger,
    coldView_coldBase, hpending, himgs, hkeys, hseasons]

theorem part_coldLedger (s : State) (p : Fin 32) : (coldLedger s).part p = s.coldPart p := by
  rw [coldLedger, Frame.part_forAll_setPart, if_pos (List.mem_range.mpr p.isLt)]

theorem part_coldReset (s : State) (p : Fin 32) : s.coldReset.part p = s.toutsStop.coldPart p :=
  (coldReset_keep (p := fun s => s.part p) (fun _ _ _ => rfl) (fun _ _ => rfl) (fun _ => rfl) (fun _ _ _ => rfl) s).trans
    (part_coldLedger s.toutsStop p)

theorem lost_setPart (s : State) (p : Nat) (x : Partition) : (s.setPart p x).lost = s.lost := rfl

theorem lost_coldReset {s : State} (h : s.toutsStop.journal.valid = true) : s.coldReset.lost = s.toutsStop.journal.lost := by
  rw [coldReset_keep (p := State.lost) (fun _ _ _ => rfl) (fun _ _ => rfl) (fun _ => rfl) (fun _ _ _ => rfl), coldLedger,
    Frame.forAll_keep (p := State.lost) (fun t p => lost_setPart t p _), lost_coldBase, if_pos h]

theorem coldPart_of_valid {s : State} (h : s.journal.valid = true) (p : Nat) :
    (s.coldPart p).recs = [] ∧ (s.coldPart p).seq = (tget s.journal.parts Partition.factory p).seq := by
  rw [State.coldPart, if_pos h]
  exact ⟨rfl, rfl⟩

theorem coldPart_of_invalid {s : State} (h : s.journal.valid = false) (p : Nat) :
    (s.coldPart p).seq = (s.part p).floor ∧ (s.coldPart p).released = (s.part p).floor ∧ (s.coldPart p).recs = [] := by
  rw [State.coldPart, if_neg (by simp [h])]
  exact ⟨rfl, rfl, rfl⟩

theorem posNext_takePosition (s : State) : s.takePosition.posNext = none := by
  rw [State.takePosition]
  split
  · rfl
  · assumption

theorem posNext_coldReset (s : State) : s.coldReset.posNext = none := by
  rw [coldReset_eq, Frame.forAll_keep (p := State.posNext) (f := State.pinSense) (fun _ _ => rfl), posNext_takePosition]

theorem bit_of_regs {s t : State} (h : s.mem.regs = t.mem.regs) (o i : Nat) : s.bit o i = t.bit o i := by
  rw [State.bit, State.get_congr h, ← State.bit]

theorem regs_pinSense_all (s : State) : (s.forAll (List.range 12) State.pinSense).mem.regs = s.mem.regs :=
  Frame.forAll_keep (p := fun s => s.mem.regs) (f := State.pinSense) (fun _ _ => rfl) _ s

theorem bit_takePosition_ne (s : State) {o : Nat} (i : Nat) (h : o ≠ Reg.rngPos) : s.takePosition.bit o i = s.bit o i := by
  rw [State.takePosition]
  split
  · exact State.bit_put_ne _ _ _ h
  · rfl

theorem bit_updReset_ne (s : State) (st : Nat) {o : Nat} (i : Nat) (h : o ≠ Reg.updStatus) :
    (s.updReset st).bit o i = s.bit o i :=
  State.bit_wr_ne s 3 0 st i h

theorem bit_pwrStatus_coldReset {s : State} (h : s.toutsStop.journal.valid = false) :
    s.coldReset.bit Reg.pwrStatus 10 = true := by
  rw [coldReset_eq, bit_of_regs (regs_pinSense_all _), bit_takePosition_ne _ _ (by decide), h]
  exact (bit_updReset_ne _ _ _ (by decide)).trans (State.bit_setBit_self _ true (by decide))

/-- Settles O12: the view of what the internal reset clears, the release by its conditions, and the cold reset from what
its ledger takes from the journal. -/
theorem internalReset : Obligations.InternalReset := by
  rintro dt s u rfl
  refine ⟨fun hreq hstop => ?_, exec_warmResetAssert_waits, fun hstep hage hrails => ?_, exec_resetRelease_waits,
    ⟨_, exec_coldReset dt s, ?_⟩⟩
  · obtain ⟨halm, hgroups, hlatches, hheld, hstaging, hlmem, hcore, hsample, hlast⟩ := cleared_assertReset (s.start dt)
    simp only [lasting, Prod.mk.injEq] at hlast
    obtain ⟨hspace, himgs, hkeys, hseasons, hparts⟩ := hlast
    exact ⟨_, exec_warmResetAssert_stopped hreq hstop, rfl, halm, hgroups, hlatches, hheld, hstaging, hlmem, hspace, himgs,
      hkeys, hseasons, hparts, hcore, hsample⟩
  · rw [exec_resetRelease, if_pos ⟨hstep, hage, List.isEmpty_iff.mpr hrails⟩]
    exact ⟨fun htap => if_neg (by rw [htap]; exact Bool.false_ne_true), fun htap => if_pos htap⟩
  · have hview := coldView_coldReset (s.start dt)
    simp only [coldView, Prod.mk.injEq] at hview
    obtain ⟨hstep, hcold, halm, hgroups, hlatches, hheld, hspace, hpending, himgs, hkeys, hseasons⟩ := hview
    have hkept := coldKept_toutsStop (s.start dt)
    simp only [coldKept, Prod.mk.injEq] at hkept
    obtain ⟨-, -, -, -, hparts, hjournal⟩ := hkept
    have hpart : ∀ p, (s.start dt).toutsStop.part p = (s.start dt).part p := by
      intro p
      rw [State.part, hparts, State.part]
    refine ⟨hstep, hcold, halm, hgroups, hlatches, hheld, hspace, himgs, hkeys, hseasons, hpending, posNext_coldReset _,
      fun hvalid => ?_, fun hvalid => ?_⟩
    · rw [← hjournal] at hvalid
      refine ⟨bit_pwrStatus_coldReset hvalid, fun p => ?_⟩
      rw [part_coldReset, ← hpart]
      exact coldPart_of_invalid hvalid p
    · rw [← hjournal] at hvalid ⊢
      refine ⟨lost_coldReset hvalid, fun p => ?_⟩
      rw [part_coldReset]
      exact coldPart_of_valid hvalid p

end Sys2Proof.Proofs.Resets

/-! Proofs of the statements of chapter 02: loads, checks and reloads of the Almanac (R47, R49, R54, R55). -/

namespace Sys2Proof.Proofs.Almanac

open Sys2Proof Sys2Proof.Machine

/-! ### ALM_STATUS -/

@[simp] theorem almState_wr_status (s : State) (st : Nat) : (s.wr Reg.almStatus 3 0 st).almState = st % 2 ^ 4 :=
  State.rd_wr_self s (by decide) (by decide)

theorem rd_almRefuse_code (s : State) (code : Nat) : (s.almRefuse code).rd Reg.almStatus 23 16 = code % 2 ^ 8 := by
  rw [State.almRefuse, State.almError, State.rd_put_ne _ _ _ _ (by decide), State.rd_wr_apart _ (by decide) (by decide) (by decide),
    State.rd_wr_self _ (by decide) (by decide)]

theorem rd_almRefuse_section (s : State) (code : Nat) : (s.almRefuse code).rd Reg.almStatus 15 8 = 0xFF := by
  rw [State.almRefuse, State.almError, State.rd_put_ne _ _ _ _ (by decide)]
  exact State.rd_wr_self _ (by decide) (by decide)

@[simp] theorem almState_almRefuse (s : State) (code : Nat) : (s.almRefuse code).almState = s.almState := by
  rw [State.almState, State.almRefuse, State.almError, State.rd_put_ne _ _ _ _ (by decide),
    State.rd_wr_apart _ (by decide) (by decide) (by decide), State.rd_wr_apart _ (by decide) (by decide) (by decide), State.almState]

theorem onlyRegs_almRefuse (s : State) (code : Nat) : OnlyRegs [Reg.almStatus, Reg.almErrOffset] s (s.almRefuse code) :=
  (((OnlyRegs.refl _ s).wr (by simp) 23 16 code).wr (by simp) 15 8 0xFF).put (by simp) _

theorem almState_beginCheck (s : State) (image : List Byte) (why : CheckFor) : (s.beginCheck image why).almState = 1 :=
  almState_wr_status _ 1

/-! ### Loads (R49) -/

theorem exec_defaultAlmanacLoad (dt : Nat) (s : State) : exec (.defaultAlmanacLoad dt) s
    = if (s.start dt).booted && (s.start dt).almOpen && (s.start dt).resetStep == .released && (s.start dt).almState == 0
        && !(s.start dt).bit Reg.almBoot 0 && (s.start dt).stacksUp then
        .next ((s.start dt).beginCheck (s.start dt).defaultImage (.startLoad false))
      else .next (s.start dt) := by
  rfl

theorem exec_almanacLoad_of_open {dt : Nat} {s : State} (h : (s.start dt).almOpen = true) :
    exec (.almanacLoad dt) s = .next (s.start dt).doLoad :=
  congrArg Host.Outcome.next (if_pos h)

theorem exec_almanacLoad_of_closed {dt : Nat} {s : State} (h : (s.start dt).almOpen = false) :
    exec (.almanacLoad dt) s = .next (s.start dt) :=
  congrArg Host.Outcome.next (if_neg (by rw [h]; exact Bool.false_ne_true))

theorem doLoad_taken {s : State} (h : s.almState = 0 ∨ s.almState = 5) :
    s.doLoad = s.beginCheck s.stagedImage (.startLoad true) :=
  if_pos h

theorem doLoad_refused {s : State} (h0 : s.almState ≠ 0) (h5 : s.almState ≠ 5) : s.doLoad = s.almRefuse 0x15 :=
  if_neg (by rintro (h | h) <;> contradiction)

/-! ### The end of a check (R47) -/

theorem exec_almanacCheckEnd_none {dt : Nat} {s : State} (h : (s.start dt).check = none) :
    exec (.almanacCheckEnd dt) s = .next (s.start dt) := by
  change execAlmanacCheckEnd dt s = _
  rw [execAlmanacCheckEnd]
  dsimp only
  rw [h]

/-- What a check compares an image with: a reload with the Almanac in force, a start load with none. -/
def checkBase (s : State) : CheckFor → CheckCtx
  | .startLoad h => s.checkCtx h none
  | .reload => s.checkCtx true s.alm

theorem exec_almanacCheckEnd_bad {dt : Nat} {s : State} {j : CheckJob} {code sect off : Nat} (h : (s.start dt).check = some j)
    (hbad : badImage (checkBase (s.start dt) j.purpose) j.image = some (code, sect, off)) :
    exec (.almanacCheckEnd dt) s = .next ((((({ s.start dt with check := none } : State).almError code sect off).inc
      Reg.almCheckCount).wr Reg.almStatus 3 0 (if j.purpose = .reload then 2 else 5)).fault 30 allBanks) := by
  obtain ⟨image, purpose, since⟩ := j
  change execAlmanacCheckEnd dt s = _
  rw [execAlmanacCheckEnd]
  cases purpose with
  | startLoad host =>
    rw [checkBase] at hbad
    simp only [h, hbad]
  | reload =>
    rw [checkBase] at hbad
    simp only [h, hbad]

theorem exec_almanacCheckEnd_good {dt : Nat} {s : State} {j : CheckJob} (h : (s.start dt).check = some j)
    (hgood : badImage (checkBase (s.start dt) j.purpose) j.image = none) :
    exec (.almanacCheckEnd dt) s = if j.purpose = .reload then
        .next ((s.start dt).schedule (almanacOf (checkBase (s.start dt) j.purpose) j.image))
      else if (s.start dt).stacksUp then
        .next ((s.start dt).startLoaded (almanacOf (checkBase (s.start dt) j.purpose) j.image))
      else .next (s.start dt) := by
  obtain ⟨image, purpose, since⟩ := j
  change execAlmanacCheckEnd dt s = _
  rw [execAlmanacCheckEnd]
  cases purpose with
  | startLoad host =>
    rw [checkBase] at hgood ⊢
    simp only [h, hgood]
  | reload =>
    rw [checkBase] at hgood ⊢
    simp only [h, hgood]

theorem startLoad_ne_reload {j : CheckJob} {h : Bool} (hj : j.purpose = .startLoad h) : j.purpose ≠ .reload := by
  rw [hj]
  exact CheckFor.noConfusion

/-- Settles O13, by the conditions of each load and by the image's judgement at the end of a check. -/
theorem almanacLoads : Obligations.AlmanacLoads := by
  constructor
  · rintro dt s u rfl
    refine ⟨fun h => ?_, exec_almanacLoad_of_closed, fun hopen => ⟨fun hboot hrel hst hnot hup => ?_, fun hst => ?_, fun h0 h5 => ?_⟩⟩
    · rw [exec_defaultAlmanacLoad, if_neg]
      generalize s.start dt = u at h ⊢
      rcases h with h | h | h | h | h | h <;> simp [h]
    · refine ⟨_, (exec_defaultAlmanacLoad dt s).trans (if_pos ?_), rfl, almState_beginCheck _ _ _⟩
      rw [hboot, hopen, hrel, hst, hnot, hup]
      rfl
    · rw [exec_almanacLoad_of_open hopen, doLoad_taken hst]
      exact ⟨_, rfl, rfl, almState_beginCheck _ _ _⟩
    · rw [exec_almanacLoad_of_open hopen, doLoad_refused h0 h5]
      exact ⟨_, rfl, onlyRegs_almRefuse _ _, rd_almRefuse_code _ _, rd_almRefuse_section _ _, almState_almRefuse _ _⟩
  · rintro dt s u rfl
    refine ⟨exec_almanacCheckEnd_none, fun j hcheck => ⟨fun h code sect off hj hbad => ?_, fun code sect off hj hbad => ?_,
      fun h hj hgood hup => ?_, fun h hj hgood hup => ?_, fun hj hgood => ?_⟩⟩
    · rw [exec_almanacCheckEnd_bad hcheck (by rwa [hj]), if_neg (startLoad_ne_reload hj)]
    · rw [exec_almanacCheckEnd_bad hcheck (by rwa [hj]), if_pos hj]
    · rw [exec_almanacCheckEnd_good hcheck (by rwa [hj]), if_neg (startLoad_ne_reload hj), if_pos hup, hj]
      rfl
    · rw [exec_almanacCheckEnd_good hcheck (by rwa [hj]), if_neg (startLoad_ne_reload hj),
        if_neg (by rw [hup]; exact Bool.false_ne_true)]
    · rw [exec_almanacCheckEnd_good hcheck (by rwa [hj]), if_pos hj, hj]
      rfl

/-! ### Reloads (R54) -/

theorem exec_almanacReload_of_open {dt : Nat} {s : State} (h : (s.start dt).almOpen = true) :
    exec (.almanacReload dt) s = .next (s.start dt).doReload :=
  congrArg Host.Outcome.next (if_pos h)

theorem exec_almanacReload_of_closed {dt : Nat} {s : State} (h : (s.start dt).almOpen = false) :
    exec (.almanacReload dt) s = .next (s.start dt) :=
  congrArg Host.Outcome.next (if_neg (by rw [h]; exact Bool.false_ne_true))

theorem exec_reloadCancel_of_open {dt : Nat} {s : State} (h : (s.start dt).almOpen = true) :
    exec (.reloadCancel dt) s = .next (s.start dt).doCancelReload :=
  congrArg Host.Outcome.next (if_pos h)

theorem exec_reloadCancel_of_closed {dt : Nat} {s : State} (h : (s.start dt).almOpen = false) :
    exec (.reloadCancel dt) s = .next (s.start dt) :=
  congrArg Host.Outcome.next (if_neg (by rw [h]; exact Bool.false_ne_true))

theorem exec_reloadAsleepTimeout (dt : Nat) (s : State) : exec (.reloadAsleepTimeout dt) s
    = match (s.start dt).reloadWait with
      | some t => if t + 20 * msec ≤ (s.start dt).now then
          .next (({ s.start dt with reloadWait := none } : State).almRefuse 0x16) else .next (s.start dt)
      | none => .next (s.start dt) := by
  rfl

/-- A device in a state deeper than Ordinary, or entering one. -/
def deep (s : State) : Bool :=
  decide (2 ≤ s.power) || (match s.move with | .entering t _ => decide (2 ≤ t) | _ => false)

theorem deep_eq_true_iff (s : State) : deep s = true ↔ 2 ≤ s.power ∨ ∃ t x, s.move = .entering t x ∧ 2 ≤ t := by
  rw [deep, Bool.or_eq_true, decide_eq_true_iff]
  cases s.move <;> simp

theorem deep_eq_false_iff (s : State) : deep s = false ↔ s.power ≤ 1 ∧ ∀ t x, s.move = .entering t x → t < 2 := by
  rw [← Bool.not_eq_true, deep_eq_true_iff, not_or, not_exists]
  constructor
  · rintro ⟨hp, hm⟩
    refine ⟨by omega, fun t x ht => ?_⟩
    have hnot := hm t
    simp only [not_exists, not_and, Nat.not_le] at hnot
    exact hnot x ht
  · rintro ⟨hp, hm⟩
    refine ⟨by omega, fun t => ?_⟩
    rintro ⟨x, ht, h2⟩
    have := hm t x ht
    omega

/-- The state that a RELOAD goes on in: the exit demanded where the device is asleep, the instant taken. -/
def reloadDemanded (s : State) : State :=
  { (if deep s then s.demandExit else s) with reloadAt := s.reloadInstant }

theorem doReload_eq (s : State) : s.doReload
    = if s.almState ≠ 2 ∨ s.reloadWait.isSome then s.almRefuse 0x15
      else if s.reloadInstant ≠ 0 ∧ s.reloadInstant < s.ep + 2 * usec then s.almRefuse 0x17
      else if 2 ≤ (reloadDemanded s).power then { reloadDemanded s with reloadWait := some (reloadDemanded s).now }
      else (reloadDemanded s).checkReload := by
  rfl

theorem doReload_taken {s : State} (hst : s.almState = 2) (hwait : s.reloadWait = none)
    (hat : s.reloadInstant = 0 ∨ s.ep + 2 * usec ≤ s.reloadInstant) :
    s.doReload = if 2 ≤ (reloadDemanded s).power then { reloadDemanded s with reloadWait := some (reloadDemanded s).now }
      else (reloadDemanded s).checkReload := by
  have hfree : ¬ (s.almState ≠ 2 ∨ s.reloadWait.isSome = true) := by simp [hst, hwait]
  rw [doReload_eq, if_neg hfree, if_neg (by omega)]

theorem doReload_late {s : State} (hst : s.almState = 2) (hwait : s.reloadWait = none) (h0 : s.reloadInstant ≠ 0)
    (hlate : s.reloadInstant < s.ep + 2 * usec) : s.doReload = s.almRefuse 0x17 := by
  have hfree : ¬ (s.almState ≠ 2 ∨ s.reloadWait.isSome = true) := by simp [hst, hwait]
  rw [doReload_eq, if_neg hfree, if_pos ⟨h0, hlate⟩]

theorem reloadDemanded_of_deep {s : State} (h : deep s = true) :
    reloadDemanded s = { s.demandExit with reloadAt := s.reloadInstant } := by
  rw [reloadDemanded, if_pos h]

theorem reloadDemanded_of_awake {s : State} (h : deep s = false) : reloadDemanded s = { s with reloadAt := s.reloadInstant } := by
  rw [reloadDemanded, if_neg (by rw [h]; exact Bool.false_ne_true)]

theorem almState_checkReload (s : State) : s.checkReload.almState = 1 :=
  almState_beginCheck _ _ _

/-- A reload in Feast with no change of state under way begins its check at once. -/
theorem doReload_awake {s : State} (hst : s.almState = 2) (hwait : s.reloadWait = none)
    (hat : s.reloadInstant = 0 ∨ s.ep + 2 * usec ≤ s.reloadInstant) (hp : s.power = 0) (hm : s.move = .steady) :
    s.doReload = ({ s with reloadAt := s.reloadInstant } : State).checkReload := by
  have hawake : deep s = false := by
    rw [deep_eq_false_iff, hm]
    exact ⟨by omega, fun t x ht => PowerMove.noConfusion ht⟩
  have hpower : ({ s with reloadAt := s.reloadInstant } : State).power = 0 := hp
  rw [doReload_taken hst hwait hat, reloadDemanded_of_awake hawake, if_neg (by omega)]

theorem doCancelReload_scheduled {s : State} (h : s.almState = 3) :
    s.doCancelReload = ({ s with nextAlm := none } : State).wr Reg.almStatus 3 0 2 :=
  if_pos h

theorem doCancelReload_refused {s : State} (h : s.almState ≠ 3) : s.doCancelReload = s.almRefuse 0x15 :=
  if_neg h

/-! ### The commit of a reload (R54, R55) -/

theorem exec_reloadCommit_early {dt : Nat} {s : State} (h : (s.start dt).nextAlm = none ∨ (s.start dt).alm = none
    ∨ (s.start dt).almState ≠ 3 ∨ (s.start dt).ep < (s.start dt).reloadAt ∨ 2 ≤ (s.start dt).power) :
    exec (.reloadCommit dt) s = .next (s.start dt) := by
  change execReloadCommit dt s = _
  rw [execReloadCommit]
  dsimp only
  generalize s.start dt = u at h ⊢
  split
  · next new old hnew hold =>
    rw [if_neg]
    rintro ⟨hst, hat, hp⟩
    rw [hnew, hold] at h
    simp only [reduceCtorEq, false_or] at h
    omega
  · rfl

/-- The state in which the groups stop: a run on an affected bank is aborted first. -/
def runAborted (s : State) : State :=
  if s.calRun.any (fun r => s.affected.contains r.bank) then s.abortRun false else s

theorem exec_reloadCommit_due {dt : Nat} {s : State} {new old : Almanac} (hnew : (s.start dt).nextAlm = some new)
    (hold : (s.start dt).alm = some old) (hst : (s.start dt).almState = 3) (hat : (s.start dt).reloadAt ≤ (s.start dt).ep)
    (hp : (s.start dt).power ≤ 1) : exec (.reloadCommit dt) s
      = .next ((((({ (({ runAborted (s.start dt) with reloadGaps := [], reloadRearm := false } : State).forAll
          ((runAborted (s.start dt)).groupsOver (s.start dt).affected) State.stopAtReload) with
            alm := some { old with touts := new.touts, digest := new.digest } } : State).putDigest new).wr Reg.almStatus 3 0
          4).stopBanks (s.start dt).affected true).forAll
          ((List.range 4).filter (fun o => new.touts.getD o (0xFF, 0) == (0xFF, 0))) State.toutStop) := by
  change execReloadCommit dt s = _
  rw [execReloadCommit]
  dsimp only
  generalize s.start dt = u at hnew hold hst hat hp ⊢
  rw [runAborted]
  cases hrun : u.calRun with
  | none => simp only [hnew, hold, if_pos (And.intro hst (And.intro hat hp)), Option.any_none]
  | some r => simp only [hnew, hold, if_pos (And.intro hst (And.intro hat hp)), Option.any_some]

theorem exec_reloadBankResetEnd_early {dt : Nat} {s : State}
    (h : (s.start dt).nextAlm = none ∨ (s.start dt).alm = none ∨ (s.start dt).almState ≠ 4) :
    exec (.reloadBankResetEnd dt) s = .next (s.start dt) := by
  change execReloadBankResetEnd dt s = _
  rw [execReloadBankResetEnd]
  dsimp only
  generalize s.start dt = u at h ⊢
  split
  · next new old hnew hold =>
    rw [hnew, hold] at h
    simp only [reduceCtorEq, false_or] at h
    rw [if_neg h]
  · rfl

theorem exec_reloadBankResetEnd_due {dt : Nat} {s : State} {new old : Almanac} (hnew : (s.start dt).nextAlm = some new)
    (hold : (s.start dt).alm = some old) (hst : (s.start dt).almState = 4) : exec (.reloadBankResetEnd dt) s
      = .next ((((s.start dt).applyNew old new (s.start dt).affected).almSuccess new).inc Reg.almReloadCount).reloadDone := by
  change execReloadBankResetEnd dt s = _
  rw [execReloadBankResetEnd]
  simp only [hnew, hold, if_pos hst]

/-- Settles O14, by the conditions of RELOAD and CANCEL, and by the two steps of a scheduled reload. -/
theorem almanacReloads : Obligations.AlmanacReloads := by
  constructor
  · rintro dt s u rfl
    refine ⟨fun hclosed => ⟨exec_almanacReload_of_closed hclosed, exec_reloadCancel_of_closed hclosed⟩, fun hw => ?_,
      fun w hw hearly => ?_, fun w hw hdue => ?_, fun hopen => ?_⟩
    · rw [exec_reloadAsleepTimeout, hw]
    · rw [exec_reloadAsleepTimeout, hw]
      exact if_neg (by omega)
    · rw [exec_reloadAsleepTimeout, hw]
      exact if_pos hdue
    · rw [exec_almanacReload_of_open hopen, exec_reloadCancel_of_open hopen]
      generalize s.start dt = u
      refine ⟨fun w hst hwait hat hdeep hawake => ?_, fun hst hwait hat hp hm => ?_, fun h => ?_, fun hst hwait h0 hlate => ?_,
        fun hst => ?_, fun hst => ?_⟩
      · have hw : reloadDemanded u = w := by
          cases hd : deep u with
          | true => exact (reloadDemanded_of_deep hd).trans (hdeep ((deep_eq_true_iff u).mp hd)).symm
          | false =>
            obtain ⟨hp, hm⟩ := (deep_eq_false_iff u).mp hd
            exact (reloadDemanded_of_awake hd).trans (hawake hp hm).symm
        rw [doReload_taken hst hwait hat, hw]
        exact ⟨fun hp => by rw [if_pos hp], fun hp => by rw [if_neg (by omega)]⟩
      · rw [doReload_awake hst hwait hat hp hm]
        exact ⟨_, rfl, rfl, almState_checkReload _, rfl⟩
      · rw [doReload_eq, if_pos h]
      · rw [doReload_late hst hwait h0 hlate]
      · rw [doCancelReload_scheduled hst]
        exact ⟨_, rfl, rfl, almState_wr_status _ 2, rfl⟩
      · rw [doCancelReload_refused hst]
  · rintro dt s u rfl
    refine ⟨exec_reloadCommit_early, exec_reloadBankResetEnd_early, fun new old hnew hold => ⟨?_,
      fun hst => exec_reloadBankResetEnd_due hnew hold hst⟩⟩
    rintro w rfl hst hat hp
    exact exec_reloadCommit_due hnew hold hst hat hp

end Sys2Proof.Proofs.Almanac

/-! Rules about counters, quantities and cleared words that the proofs of several chapters use. -/

namespace Sys2Proof.Proofs.Words

open Sys2Proof Sys2Proof.Machine

/-! ### Counters -/

/-- A counter goes on by what is counted and stops at its greatest value. -/
theorem rd_countFld_self (s : State) {o hi lo : Nat} (k : Nat) (h : lo ≤ hi) (hh : hi < 32) :
    (s.countFld o hi lo k).rd o hi lo = min (2 ^ (hi + 1 - lo) - 1) (s.rd o hi lo + k) := by
  have hpos := Nat.two_pow_pos (hi + 1 - lo)
  rw [State.countFld, State.rd_wr_self s h hh, satAdd, Nat.mod_eq_of_lt (by omega)]

theorem rd_countFld_apart (s : State) {o hi lo a b : Nat} (k : Nat) (h : lo ≤ hi) (hh : hi < 32) (hd : a < lo ∨ hi < b) :
    (s.countFld o hi lo k).rd o a b = s.rd o a b :=
  State.rd_wr_apart s h hh hd

/-! ### Words returned to their reset values -/

/-- A clear takes the active words of its registers with it. -/
theorem not_mem_active_clearWords {os : List Nat} {o : Nat} (w : Word) (ho : o ∈ os) (s : State) :
    (o, w) ∉ (s.clearWords os).mem.active := by
  have hkeep : ∀ (ps : List Nat) (x : State), (o, w) ∉ x.mem.active → (o, w) ∉ (x.clearWords ps).mem.active := by
    intro ps
    induction ps with
    | nil => exact fun x hx => hx
    | cons a ps ih => exact fun x hx => ih _ (fun hmem => hx (mem_tdel hmem))
  induction os generalizing s with
  | nil => cases ho
  | cons a os ih =>
    rcases List.mem_cons.mp ho with h | h
    · subst h
      exact hkeep os _ (not_mem_tdel _ _ _)
    · exact ih h _

theorem active_of_onlyRegs {os : List Nat} {s t : State} (h : OnlyRegs os s t) : t.mem.active = s.mem.active := by
  obtain ⟨hwords, -⟩ := h
  rw [OnlyWords] at hwords
  rw [hwords]

/-- A clear of a register that has an active word changes more than register words. -/
theorem not_onlyRegs_clearWords {s : State} {os ps : List Nat} {o : Nat} {w : Word} (ho : o ∈ os)
    (hw : (o, w) ∈ s.mem.active) : ¬ OnlyRegs ps s (s.clearWords os) := by
  intro h
  rw [← active_of_onlyRegs h] at hw
  exact not_mem_active_clearWords w ho s hw

/-- The state at reset with an active word at an offset: no write makes one there, and the statements name any state. -/
def withActiveWord (o : Nat) : State := { State.reset with mem := { Memory.empty with active := [(o, 1)] } }

theorem mem_active_withActiveWord (o : Nat) : (o, 1) ∈ ((withActiveWord o).start 0).mem.active := by
  rw [State.start_mem _ rfl]
  exact List.mem_cons_self

/-- Refutes O15: OVR_CLEAR also takes the active word of an overrange count, so that in a state that lists one it changes
more than register words. -/
theorem not_convertersStart : ¬ Obligations.ConvertersStart := by
  intro h
  obtain ⟨⟨t, ht, honly, -⟩, -⟩ := h 0 0 (withActiveWord (Reg.bnkOvr 0 0)) _ rfl
  cases ht
  exact not_onlyRegs_clearWords (by decide) (mem_active_withActiveWord _) honly

/-- Refutes O31: CLR of a stack also takes the active word of a counter, so that in a state that lists one it changes more
than register words. -/
theorem not_memoryCommands : ¬ Obligations.MemoryCommands := by
  intro h
  obtain ⟨-, -, hclr, -⟩ := h 0 (withActiveWord (Reg.memCaReplays 0)) _ rfl
  obtain ⟨t, ht, honly, -⟩ := hclr 0
  cases ht
  exact not_onlyRegs_clearWords (by decide) (mem_active_withActiveWord _) honly

theorem exec_hrvClr (dt : Nat) (e : Fin 5) (s : State) :
    exec (.hrvClr dt e) s = .next ((s.start dt).clearWords (hrvCounters e)) := by
  rfl

/-- Refutes O35: CLR of an engine also takes the active word of a counter, so that in a state that lists one it changes more
than register words. -/
theorem not_engineCommands : ¬ Obligations.EngineCommands := by
  intro h
  obtain ⟨-, -, -, -, -, ⟨t, ht, honly, -⟩, -⟩ := h 0 0 (withActiveWord (Reg.hrvDescs 0)) _ rfl
  obtain rfl := Host.Outcome.next.inj ((exec_hrvClr _ _ _).symm.trans ht)
  exact not_onlyRegs_clearWords (List.mem_append_left _ List.mem_cons_self) (mem_active_withActiveWord _) honly

end Sys2Proof.Proofs.Words

/-! Proofs of the statements of chapter 04: loads of the Epoch and the PPS input (R87 to R89). -/

namespace Sys2Proof.Proofs.Epoch

open Sys2Proof Sys2Proof.Machine

/-! ### LOAD_NOW, LOAD_PPS and CANCEL (R87, R88) -/

theorem exec_loadNow (dt : Nat) (s : State) : exec (.loadNow dt) s = .next (s.start dt).doLoadNow := by
  rfl

theorem exec_loadPps (dt : Nat) (s : State) : exec (.loadPps dt) s = .next (s.start dt).doLoadPps := by
  rfl

theorem exec_ppsLoadCancel (dt : Nat) (s : State) : exec (.ppsLoadCancel dt) s = .next (s.start dt).doPpsCancel := by
  rfl

theorem doLoadNow_taken {s : State} (h : s.loadRefused = false) :
    s.doLoadNow = ({ s with loadAt := some (s.now + (8192 - s.ep % 8192)) } : State).setBit Reg.epcCtl 0 true :=
  if_neg (by rw [h]; exact Bool.false_ne_true)

theorem doLoadNow_refused {s : State} (h : s.loadRefused = true) : s.doLoadNow = s.setBit Reg.epcStatus 11 true :=
  if_pos h

theorem doLoadPps_taken {s : State} (h : s.loadRefused = false) : s.doLoadPps = s.setBit Reg.epcCtl 1 true :=
  if_neg (by rw [h]; exact Bool.false_ne_true)

theorem doLoadPps_refused {s : State} (h : s.loadRefused = true) : s.doLoadPps = s.setBit Reg.epcStatus 11 true :=
  if_pos h

theorem onlyRegs_setBit (s : State) (o i : Nat) (b : Bool) : OnlyRegs [o] s (s.setBit o i b) :=
  (OnlyRegs.refl [o] s).setBit (by simp) i b

/-! ### The load at the frame boundary (R87) -/

theorem moveEpoch_keep {α : Type} {p : State → α} (hb : ∀ s b x, p (State.setBank s b x) = p s)
    (ht : ∀ s u x, p (State.setTrig s u x) = p s)
    (he : ∀ (s : State) e, p { s with epoch := e, softAt := none, ovrSeen := [], satSeen := [] } = p s) (s : State) (t : Nat) :
    p (s.moveEpoch t) = p s := by
  rw [State.moveEpoch, he, Frame.forAll_keep (fun s u => ht s u _), Frame.forAll_keep (fun s b => hb s b _)]

theorem epoch_moveEpoch (s : State) (t : Nat) : (s.moveEpoch t).epoch = BitVec.ofNat 72 t := by
  rfl

theorem get_moveEpoch (s : State) (t o : Nat) : (s.moveEpoch t).get o = s.get o :=
  State.get_congr (moveEpoch_keep (p := fun s => s.mem.regs) (fun _ _ _ => rfl) (fun _ _ _ => rfl) (fun _ _ => rfl) s t) o

theorem bit_moveEpoch (s : State) (t o i : Nat) : (s.moveEpoch t).bit o i = s.bit o i := by
  rw [State.bit, get_moveEpoch, ← State.bit]

/-- The state that a due load moves the Epoch of: LOAD_NOW reads 0. -/
def loadTaken (s : State) : State := ({ s with loadAt := none } : State).setBit Reg.epcCtl 0 false

theorem loadDue_due {s : State} {b : Nat} (hload : s.loadAt = some b) (hcount : s.counting = true) (hb : b ≤ s.now) :
    s.loadDue = ((loadTaken s).moveEpoch
      ((s.rdq Reg.epcSet 3 % 2 ^ 72 / 8192 * 8192 + (s.now - b)) % 2 ^ 72)).setBit Reg.epcStatus 8 false := by
  rw [State.loadDue, hload]
  dsimp only
  rw [if_neg (by omega), if_pos hcount]
  rfl

/-- What a command finds that begins at or after the boundary of a pending load. -/
theorem start_loadDue {s : State} {dt b : Nat} (hload : s.loadAt = some b) (hcount : s.counting = true) (hb : b ≤ s.now + dt) :
    (s.start dt).epoch = BitVec.ofNat 72 (s.rdq Reg.epcSet 3 % 2 ^ 72 / 8192 * 8192 + (s.now + dt - b))
      ∧ (s.start dt).loadAt = none ∧ (s.start dt).bit Reg.epcCtl 0 = false ∧ (s.start dt).bit Reg.epcStatus 8 = false := by
  have hdue := loadDue_due (s := s.advance dt) hload hcount hb
  have hstart : ∀ o i, (s.start dt).bit o i = (s.advance dt).loadDue.bit o i := fun _ _ => rfl
  refine ⟨?_, ?_, ?_, ?_⟩
  · change (s.advance dt).loadDue.epoch = _
    rw [hdue, State.setBit, State.wr, State.put_epoch, epoch_moveEpoch]
    apply BitVec.eq_of_toNat_eq
    rw [BitVec.toNat_ofNat, BitVec.toNat_ofNat, Nat.mod_mod]
    rfl
  · change (s.advance dt).loadDue.loadAt = _
    rw [hdue, State.setBit, State.wr, State.put_loadAt,
      moveEpoch_keep (p := State.loadAt) (fun _ _ _ => rfl) (fun _ _ _ => rfl) (fun _ _ => rfl)]
    rfl
  · rw [hstart, hdue, State.bit_setBit_ne _ _ _ _ (by decide), bit_moveEpoch, loadTaken, State.bit_setBit_self _ _ (by decide)]
  · rw [hstart, hdue, State.bit_setBit_self _ _ (by decide)]

/-! ### PPS edges (R89) -/

theorem exec_ppsEdge_off {dt ago : Nat} {s : State} (h : (s.start dt).discipline = 0) :
    exec (.ppsEdge dt ago) s = .next (s.start dt) :=
  if_pos h

theorem exec_ppsEdge_on {dt ago : Nat} {s : State} (h : (s.start dt).discipline ≠ 0) : exec (.ppsEdge dt ago) s
    = if (s.start dt).ppsSpaced ago ∧ ((s.start dt).ppsErr ((s.start dt).before ago)).natAbs
        ≤ (s.start dt).rd Reg.epcPpsGate 31 0 then
        .next (((s.start dt).ppsAccept ((s.start dt).before ago) ago).ppsLoad ((s.start dt).before ago))
      else .next ((s.start dt).countFld Reg.epcPpsCount 31 16 1) :=
  if_neg h

theorem exec_ppsMissing (dt : Nat) (s : State) : exec (.ppsMissing dt) s
    = if (s.start dt).discipline ≠ 0 ∧ (s.start dt).ppsLast + second + second / 2 ≤ (s.start dt).now then
        .next (({ ((s.start dt).setBit Reg.epcStatus 10 true) with ppsGood := 0 } : State).setBit Reg.epcStatus 9 false)
      else .next (s.start dt) := by
  rfl

/-- The input shown as missing and not locked. -/
def ppsLost (s : State) : State :=
  ({ (s.setBit Reg.epcStatus 10 true) with ppsGood := 0 } : State).setBit Reg.epcStatus 9 false

theorem bit_ppsLost_missing (s : State) : (ppsLost s).bit Reg.epcStatus 10 = true :=
  (State.bit_setBit_apart _ false (by decide) (by decide)).trans (State.bit_setBit_self s true (by decide))

theorem bit_ppsLost_locked (s : State) : (ppsLost s).bit Reg.epcStatus 9 = false :=
  State.bit_setBit_self _ false (by decide)

theorem get_ppsLost_ne (s : State) {o : Nat} (h : o ≠ Reg.epcStatus) : (ppsLost s).get o = s.get o :=
  (State.get_setBit_ne _ 9 false h).trans (State.get_setBit_ne s 10 true h)

/-- Settles O17, by whether the load is refused, by the boundary, and by the judgement of a PPS edge. -/
theorem epochLoads : Obligations.EpochLoads := by
  constructor
  · rintro dt s v rfl
    refine ⟨fun hok => ?_, fun hno => ?_, ?_, fun b hload hcount hb => start_loadDue hload hcount hb⟩
    · rw [exec_loadNow, exec_loadPps, doLoadNow_taken hok, doLoadPps_taken hok]
      exact ⟨⟨_, rfl, State.bit_setBit_self _ true (by decide), rfl, onlyRegs_setBit _ _ _ _⟩,
        ⟨_, rfl, onlyRegs_setBit _ _ _ _, State.bit_setBit_self _ true (by decide)⟩⟩
    · rw [exec_loadNow, exec_loadPps, doLoadNow_refused hno, doLoadPps_refused hno]
      exact ⟨⟨_, rfl, onlyRegs_setBit _ _ _ _, State.bit_setBit_self _ true (by decide)⟩,
        ⟨_, rfl, onlyRegs_setBit _ _ _ _, State.bit_setBit_self _ true (by decide)⟩⟩
    · exact ⟨_, exec_ppsLoadCancel dt s, onlyRegs_setBit _ _ _ _, State.bit_setBit_self _ false (by decide)⟩
  · rintro dt ago s v rfl
    refine ⟨exec_ppsEdge_off, fun hon hspaced hgate => ?_, fun hon hno => ?_, fun h => ?_, fun hon hlate => ?_⟩
    · rw [exec_ppsEdge_on hon, if_pos ⟨hspaced, hgate⟩]
    · have hcond : ¬ ((s.start dt).ppsSpaced ago = true ∧ ((s.start dt).ppsErr ((s.start dt).before ago)).natAbs
          ≤ (s.start dt).rd Reg.epcPpsGate 31 0) := by
        rintro ⟨hspaced, hgate⟩
        rcases hno with h | h
        · rw [h] at hspaced
          cases hspaced
        · omega
      rw [exec_ppsEdge_on hon, if_neg hcond]
      exact ⟨_, rfl, (OnlyRegs.refl _ _).countFld (by simp) 31 16 1, Words.rd_countFld_self _ 1 (by decide) (by decide),
        Words.rd_countFld_apart _ 1 (by decide) (by decide) (by decide)⟩
    · rw [exec_ppsMissing, if_neg]
      rintro ⟨hon, hlate⟩
      rcases h with h | h
      · exact hon h
      · omega
    · rw [exec_ppsMissing, if_pos ⟨hon, hlate⟩]
      exact ⟨_, rfl, bit_ppsLost_missing _, bit_ppsLost_locked _, get_ppsLost_ne _ (by decide), rfl⟩

end Sys2Proof.Proofs.Epoch

/-! Proofs of the statements of chapter 04: the interval units (R91 to R97). -/

namespace Sys2Proof.Proofs.Intervals

open Sys2Proof Sys2Proof.Machine

/-! ### IV_STATUS.STATE and the unit's typed state -/

theorem ivState_wr_status (s : State) (u v : Nat) : (s.wr (Reg.epcIvStatus u) 1 0 v).ivState u = v % 2 ^ 2 :=
  State.rd_wr_self s (by decide) (by decide)

theorem ivState_wr_cause (s : State) (u v : Nat) : (s.wr (Reg.epcIvStatus u) 6 4 v).ivState u = s.ivState u :=
  State.rd_wr_apart s (by decide) (by decide) (by decide)

theorem ivAt_wr (s : State) (o hi lo v u : Nat) : (s.wr o hi lo v).ivAt u = s.ivAt u := by
  rfl

/-! ### RUN (R94) -/

theorem exec_ivRun (dt : Nat) (i : Fin 16) (s : State) : exec (.ivRun dt i) s = .next ((s.start dt).doIvRun i) := by
  rfl

theorem exec_ivStop (dt : Nat) (i : Fin 16) (s : State) : exec (.ivStop dt i) s = .next ((s.start dt).ivStop i) := by
  rfl

/-- The unit's counters and its typed state as RUN leaves them. -/
def ivCleared (s : State) (u : Nat) : State :=
  (((s.put (Reg.epcIvCount u) 0).put (Reg.epcIvDiscard u) 0).put (Reg.epcIvIgnored u) 0).setIv u
    { (IvUnit.idle) with recentStart := [], recentStop := [] }

theorem doIvRun_refused {s : State} {u : Nat} (h : s.counting = false ∨ s.bit Reg.epcStatus 1 = false) :
    s.doIvRun u = s.setBit (Reg.epcIvStatus u) 13 true := by
  refine if_pos ?_
  rcases h with h | h <;> simp [h]

theorem doIvRun_intervals {s : State} {u : Nat} (hc : s.counting = true) (hl : s.bit Reg.epcStatus 1 = true)
    (hm : s.bit (Reg.epcIvCtl u) 4 = false) :
    s.doIvRun u = ((ivCleared s u).wr (Reg.epcIvStatus u) 1 0 1).wr (Reg.epcIvStatus u) 6 4 0 := by
  rw [State.doIvRun, hc, hl, hm]
  rfl

theorem doIvRun_regression {s : State} {u : Nat} (hc : s.counting = true) (hl : s.bit Reg.epcStatus 1 = true)
    (hm : s.bit (Reg.epcIvCtl u) 4 = true) :
    s.doIvRun u = (((ivCleared s u).wr (Reg.epcIvStatus u) 1 0 2).wr (Reg.epcIvStatus u) 6 4 7).ivOpenGate u s.ep
      (s.bit (Reg.epcIvPrescale u) 31) := by
  rw [State.doIvRun, hc, hl, hm]
  rfl

theorem get_ivCleared (s : State) (u : Nat) : (ivCleared s u).get (Reg.epcIvCount u) = 0
    ∧ (ivCleared s u).get (Reg.epcIvDiscard u) = 0 ∧ (ivCleared s u).get (Reg.epcIvIgnored u) = 0 := by
  have hcd : Reg.epcIvCount u ≠ Reg.epcIvDiscard u := by rw [Reg.epcIvCount, Reg.epcIvDiscard]; omega
  have hci : Reg.epcIvCount u ≠ Reg.epcIvIgnored u := by rw [Reg.epcIvCount, Reg.epcIvIgnored]; omega
  have hdi : Reg.epcIvDiscard u ≠ Reg.epcIvIgnored u := by rw [Reg.epcIvDiscard, Reg.epcIvIgnored]; omega
  have hset : ∀ o, (ivCleared s u).get o
      = (((s.put (Reg.epcIvCount u) 0).put (Reg.epcIvDiscard u) 0).put (Reg.epcIvIgnored u) 0).get o := fun _ => rfl
  refine ⟨?_, ?_, ?_⟩
  · rw [hset, State.get_put_ne _ _ hci, State.get_put_ne _ _ hcd, State.get_put_self]
  · rw [hset, State.get_put_ne _ _ hdi, State.get_put_self]
  · rw [hset, State.get_put_self]

theorem get_wr_ivStatus_counter (s : State) {u o : Nat} (hi lo v : Nat)
    (h : o = Reg.epcIvCount u ∨ o = Reg.epcIvDiscard u ∨ o = Reg.epcIvIgnored u) :
    (s.wr (Reg.epcIvStatus u) hi lo v).get o = s.get o := by
  refine State.get_wr_ne s hi lo v ?_
  rcases h with h | h | h <;> rw [h]
  · rw [Reg.epcIvCount, Reg.epcIvStatus]; omega
  · rw [Reg.epcIvDiscard, Reg.epcIvStatus]; omega
  · rw [Reg.epcIvIgnored, Reg.epcIvStatus]; omega

theorem ivAt_ivOpenGate (s : State) (u from_ : Nat) (count : Bool) : ((s.ivOpenGate u from_ count).ivAt u)
    = { (s.ivAt u) with startAt := none, stops := [], gateFrom := some from_, counting := count, evCount := 0, stamps := [],
                        merged := false } :=
  State.ivAt_setIv_self s u _

theorem ivState_ivOpenGate (s : State) (u from_ : Nat) (count : Bool) : (s.ivOpenGate u from_ count).ivState u = s.ivState u := by
  rfl

/-! ### STOP (R94) -/

theorem ivStop_stopped {s : State} {u : Nat} (h : s.ivState u = 0) : s.ivStop u = s :=
  if_pos h

/-- The unit with no measurement open. -/
def ivClosed (s : State) (u : Nat) : State :=
  (s.setIv u { (s.ivAt u) with startAt := none, stops := [], gateFrom := none, counting := false, stamps := [] }).wr
    (Reg.epcIvStatus u) 1 0 0

theorem ivStop_running {s : State} {u : Nat} (h : s.ivState u ≠ 0) : ∃ s1 : State, s.ivStop u = ivClosed s1 u :=
  ⟨_, if_neg h⟩

theorem ivState_ivClosed (s : State) (u : Nat) : (ivClosed s u).ivState u = 0 :=
  ivState_wr_status _ u 0

theorem ivAt_ivClosed (s : State) (u : Nat) : (ivClosed s u).ivAt u
    = { (s.ivAt u) with startAt := none, stops := [], gateFrom := none, counting := false, stamps := [] } :=
  (ivAt_wr _ _ _ _ _ u).trans (State.ivAt_setIv_self s u _)

/-! ### Events (R91, R92, R96) -/

/-- The state in which an event of the start source is taken, and so with the stop source. -/
def startTaken (s : State) (u : Nat) (d : Delivery) (rest : List Delivery) : State :=
  ({ s with fabric := rest } : State).setIv u { (s.ivAt u) with recentStart := recentWith (s.ivAt u).recentStart d.instant }

def stopTaken (s : State) (u : Nat) (d : Delivery) (rest : List Delivery) : State :=
  ({ s with fabric := rest } : State).setIv u { (s.ivAt u) with recentStop := recentWith (s.ivAt u).recentStop d.instant }

theorem ivAt_startTaken (s : State) (u : Nat) (d : Delivery) (rest : List Delivery) : (startTaken s u d rest).ivAt u
    = { (s.ivAt u) with recentStart := recentWith (s.ivAt u).recentStart d.instant } :=
  State.ivAt_setIv_self _ u _

theorem ivAt_stopTaken (s : State) (u : Nat) (d : Delivery) (rest : List Delivery) : (stopTaken s u d rest).ivAt u
    = { (s.ivAt u) with recentStop := recentWith (s.ivAt u).recentStop d.instant } :=
  State.ivAt_setIv_self _ u _

theorem exec_ivStartEvent_none {dt : Nat} {i : Fin 16} {s : State} (h : takeFor (.ivStart i) (s.start dt).fabric = none) :
    exec (.ivStartEvent dt i) s = .next (s.start dt) := by
  change execIvStartEvent dt i s = _
  rw [execIvStartEvent]
  simp only [h]

theorem exec_ivStopEvent_none {dt : Nat} {i : Fin 16} {s : State} (h : takeFor (.ivStop i) (s.start dt).fabric = none) :
    exec (.ivStopEvent dt i) s = .next (s.start dt) := by
  change execIvStopEvent dt i s = _
  rw [execIvStopEvent]
  simp only [h]

theorem exec_ivStartEvent_some {dt : Nat} {i : Fin 16} {s : State} {d : Delivery} {rest : List Delivery}
    (h : takeFor (.ivStart i) (s.start dt).fabric = some (d, rest)) : exec (.ivStartEvent dt i) s
      = if (s.start dt).ivState i = 1 then
          (if 200 < (recentWith ((s.start dt).ivAt i).recentStart d.instant).length ∧ (!(s.start dt).ivSame i) = true then
            .next ((startTaken (s.start dt) i d rest).ivFallRate i (recentWith ((s.start dt).ivAt i).recentStart d.instant) true)
          else .next ((startTaken (s.start dt) i d rest).ivStart i d.instant))
        else if (s.start dt).ivState i = 2 ∧ ((s.start dt).ivAt i).regOnStart = true then
          .next ((startTaken (s.start dt) i d rest).ivStamp i d.instant)
        else .next (startTaken (s.start dt) i d rest) := by
  have hreg : ((startTaken (s.start dt) i d rest).ivAt i).regOnStart = ((s.start dt).ivAt i).regOnStart := by
    rw [ivAt_startTaken]
  rw [← hreg]
  change execIvStartEvent dt i s = _
  rw [execIvStartEvent]
  simp only [h]
  rfl

theorem exec_ivStopEvent_some {dt : Nat} {i : Fin 16} {s : State} {d : Delivery} {rest : List Delivery}
    (h : takeFor (.ivStop i) (s.start dt).fabric = some (d, rest)) : exec (.ivStopEvent dt i) s
      = if (s.start dt).ivState i = 1 then
          (if 200 < (recentWith ((s.start dt).ivAt i).recentStop d.instant).length then
            .next ((stopTaken (s.start dt) i d rest).ivFallRate i (recentWith ((s.start dt).ivAt i).recentStop d.instant) false)
          else .next ((stopTaken (s.start dt) i d rest).ivStopAt i d.instant))
        else if (s.start dt).ivState i = 2 ∧ (!((s.start dt).ivAt i).regOnStart) = true then
          .next ((stopTaken (s.start dt) i d rest).ivStamp i d.instant)
        else .next (stopTaken (s.start dt) i d rest) := by
  have hreg : ((stopTaken (s.start dt) i d rest).ivAt i).regOnStart = ((s.start dt).ivAt i).regOnStart := by
    rw [ivAt_stopTaken]
  rw [← hreg]
  change execIvStopEvent dt i s = _
  rw [execIvStopEvent]
  simp only [h]
  rfl

/-! ### Time-outs and gates (R96, R97) -/

theorem exec_ivTimeout (dt : Nat) (i : Fin 16) (s : State) : exec (.ivTimeout dt i) s
    = match ((s.start dt).ivAt i).startAt with
      | some t => if (s.start dt).ivState i = 1 ∧ !after72 (s.start dt).ep ((s.start dt).ivEnd i t) then
          .next ((s.start dt).ivExpire i) else .next (s.start dt)
      | none => .next (s.start dt) := by
  rfl

theorem exec_ivPrescaleCountEnd (dt : Nat) (i : Fin 16) (s : State) : exec (.ivPrescaleCountEnd dt i) s
    = match ((s.start dt).ivAt i).gateFrom with
      | some t => if (s.start dt).ivState i = 2 ∧ ((s.start dt).ivAt i).counting ∧ 1250 * cycle ≤ span72 t (s.start dt).ep then
          .next (((s.start dt).wr (Reg.epcIvPrescale i) 4 0
            (prescaleFor ((s.start dt).ivAt i).evCount ((s.start dt).ivGate i))).ivOpenGate i ((t + 1250 * cycle) % 2 ^ 72) false)
          else .next (s.start dt)
      | none => .next (s.start dt) := by
  rfl

theorem exec_ivGateClose (dt : Nat) (i : Fin 16) (s : State) : exec (.ivGateClose dt i) s
    = match ((s.start dt).ivAt i).gateFrom with
      | some t => if (s.start dt).ivState i = 2 ∧ !((s.start dt).ivAt i).counting
            ∧ ((s.start dt).ivGate i * cycle ≤ span72 t (s.start dt).ep ∨ ((s.start dt).ivAt i).stamps.length = 4096) then
          .next ((s.start dt).ivFit i ((t + min ((s.start dt).ivGate i * cycle) (span72 t (s.start dt).ep)) % 2 ^ 72))
          else .next (s.start dt)
      | none => .next (s.start dt) := by
  rfl

/-- The counting phase of a regression over: PRESCALE as found, and the gate open from there on. -/
theorem rd_prescale_ivOpenGate (s : State) (u k from_ : Nat) (count : Bool) :
    ((s.wr (Reg.epcIvPrescale u) 4 0 k).ivOpenGate u from_ count).rd (Reg.epcIvPrescale u) 4 0 = k % 32 :=
  State.rd_wr_self s (by decide) (by decide)

theorem ivAt_ivCleared (s : State) (u : Nat) : (ivCleared s u).ivAt u = IvUnit.idle :=
  State.ivAt_setIv_self _ u _

/-- The statement's clauses about RUN and STOP. -/
theorem runAndStop (dt : Nat) (i : Fin 16) (s v : State) (hv : v = s.start dt) :
    (v.counting = true → v.bit Reg.epcStatus 1 = true → v.bit (Reg.epcIvCtl i) 4 = false →
      ∃ t, exec (.ivRun dt i) s = .next t ∧ t.ivState i = 1 ∧ t.ivAt i = IvUnit.idle ∧ t.get (Reg.epcIvCount i) = 0
        ∧ t.get (Reg.epcIvDiscard i) = 0 ∧ t.get (Reg.epcIvIgnored i) = 0)
    ∧ (v.counting = true → v.bit Reg.epcStatus 1 = true → v.bit (Reg.epcIvCtl i) 4 = true →
      ∃ t, exec (.ivRun dt i) s = .next t ∧ t.ivState i = 2 ∧ (t.ivAt i).gateFrom = some v.ep)
    ∧ (v.counting = false ∨ v.bit Reg.epcStatus 1 = false →
      ∃ t, exec (.ivRun dt i) s = .next t ∧ OnlyRegs [Reg.epcIvStatus i] v t ∧ t.bit (Reg.epcIvStatus i) 13 = true)
    ∧ (v.ivState i ≠ 0 → ∃ t, exec (.ivStop dt i) s = .next t ∧ t.ivState i = 0 ∧ (t.ivAt i).startAt = none
        ∧ (t.ivAt i).gateFrom = none)
    ∧ (v.ivState i = 0 → exec (.ivStop dt i) s = .next v) := by
  subst hv
  rw [exec_ivRun, exec_ivStop]
  generalize s.start dt = v
  obtain ⟨hcount, hdiscard, hignored⟩ := get_ivCleared v i
  refine ⟨fun hc hl hm => ?_, fun hc hl hm => ?_, fun h => ?_, fun h => ?_, fun h => ?_⟩
  · rw [doIvRun_intervals hc hl hm]
    refine ⟨_, rfl, (ivState_wr_cause _ _ _).trans (ivState_wr_status _ _ _), ?_, ?_, ?_, ?_⟩
    · rw [ivAt_wr, ivAt_wr, ivAt_ivCleared]
    · rw [get_wr_ivStatus_counter _ _ _ _ (.inl rfl), get_wr_ivStatus_counter _ _ _ _ (.inl rfl), hcount]
    · rw [get_wr_ivStatus_counter _ _ _ _ (.inr (.inl rfl)), get_wr_ivStatus_counter _ _ _ _ (.inr (.inl rfl)), hdiscard]
    · rw [get_wr_ivStatus_counter _ _ _ _ (.inr (.inr rfl)), get_wr_ivStatus_counter _ _ _ _ (.inr (.inr rfl)), hignored]
  · rw [doIvRun_regression hc hl hm]
    refine ⟨_, rfl, ?_, by rw [ivAt_ivOpenGate]⟩
    rw [ivState_ivOpenGate, ivState_wr_cause]
    exact ivState_wr_status _ _ 2
  · rw [doIvRun_refused h]
    exact ⟨_, rfl, Epoch.onlyRegs_setBit _ _ _ _, State.bit_setBit_self _ true (by decide)⟩
  · obtain ⟨w, hw⟩ := ivStop_running h
    rw [hw]
    exact ⟨_, rfl, ivState_ivClosed w i, by rw [ivAt_ivClosed], by rw [ivAt_ivClosed]⟩
  · rw [ivStop_stopped h]

/-- Settles O18, by the unit's state and, for an event, by the count of the events before it. -/
theorem intervalUnits : Obligations.IntervalUnits := by
  refine ⟨runAndStop, ?_⟩
  rintro dt i s v rfl
  refine ⟨exec_ivStartEvent_none, exec_ivStopEvent_none, ?_, ?_, fun h => ?_, fun w hw hlate => ?_, fun h => ?_, fun w hw => ?_,
    fun d rest htake hst hfew => ?_, fun d rest htake hst hsame hmany => ?_, fun d rest htake hst hfew => ?_,
    fun d rest htake hst hmany => ?_, fun w hw hst hdue => ?_, fun w hw hst hcounting hspan => ?_, fun w hw hst hcounting hspan => ?_⟩
  · rintro d rest w htake hst rfl
    rw [exec_ivStartEvent_some htake, if_neg hst]
    refine ⟨fun hreg hon => if_pos ⟨hreg, hon⟩, fun h => if_neg ?_⟩
    rintro ⟨hreg, hon⟩
    rcases h with h | h
    · exact h hreg
    · rw [h] at hon
      cases hon
  · rintro d rest w htake hst rfl
    rw [exec_ivStopEvent_some htake, if_neg hst]
    refine ⟨fun hreg hon => if_pos ⟨hreg, by rw [hon]; rfl⟩, fun h => if_neg ?_⟩
    rintro ⟨hreg, hon⟩
    rcases h with h | h
    · exact h hreg
    · rw [h] at hon
      cases hon
  · rw [exec_ivTimeout]
    split
    · next t ht =>
      rw [if_neg]
      rintro ⟨hst, -⟩
      rcases h with h | h
      · rw [h] at ht
        cases ht
      · exact h hst
    · rfl
  · rw [exec_ivTimeout, hw]
    refine if_neg ?_
    rw [hlate]
    rintro ⟨-, hfalse⟩
    cases hfalse
  · rw [exec_ivPrescaleCountEnd, exec_ivGateClose]
    rcases h with h | h
    · rw [h]
      exact ⟨rfl, rfl⟩
    · cases ((s.start dt).ivAt i).gateFrom with
      | none => exact ⟨rfl, rfl⟩
      | some t => exact ⟨if_neg (fun hc => h hc.1), if_neg (fun hc => h hc.1)⟩
  · rw [exec_ivPrescaleCountEnd, exec_ivGateClose, hw]
    refine ⟨fun h => if_neg ?_, fun h => if_neg ?_⟩
    · rintro ⟨-, hcounting, hspan⟩
      rcases h with h | h
      · rw [h] at hcounting
        cases hcounting
      · omega
    · rintro ⟨-, hcounting, hspan⟩
      rcases h with h | ⟨hearly, hfew⟩
      · rw [h] at hcounting
        cases hcounting
      · rcases hspan with hspan | hspan
        · omega
        · exact hfew hspan
  · rw [exec_ivStartEvent_some htake, if_pos hst, if_neg]
    · rfl
    · rintro ⟨hmany, hdiff⟩
      rcases hfew with hfew | hsame
      · omega
      · rw [hsame] at hdiff
        cases hdiff
  · rw [exec_ivStartEvent_some htake, if_pos hst, if_pos ⟨hmany, by rw [hsame]; rfl⟩]
    rfl
  · rw [exec_ivStopEvent_some htake, if_pos hst, if_neg (by omega)]
    rfl
  · rw [exec_ivStopEvent_some htake, if_pos hst, if_pos hmany]
    rfl
  · rw [exec_ivTimeout, hw]
    exact if_pos ⟨hst, by rw [hdue]; rfl⟩
  · rw [exec_ivPrescaleCountEnd, hw]
    refine ⟨_, if_pos ⟨hst, hcounting, hspan⟩, ?_, ?_, ?_, rd_prescale_ivOpenGate _ _ _ _ _⟩
    · rw [ivAt_ivOpenGate]
    · rw [ivAt_ivOpenGate]
    · rw [ivAt_ivOpenGate]
  · rw [exec_ivGateClose, hw]
    exact if_pos ⟨hst, by rw [hcounting]; rfl, hspan⟩

end Sys2Proof.Proofs.Intervals

/-! Proofs of the statements of chapter 05: trigger units, pins, Conjunctions and TRIG_OUT (R104 to R126, R129). -/

namespace Sys2Proof.Proofs.Trigger

open Sys2Proof Sys2Proof.Machine

/-! ### Trigger units (R104, R111, R121, R124) -/

theorem exec_triggerUnitFire (dt : Nat) (b : Fin 16) (k : Fin 8) (first : Nat) (vins : List (List Int)) (s : State) :
    exec (.triggerUnitFire dt b k first vins) s
      = if (s.start dt).unitSees (8 * b.val + k.val) then
          .next (if (s.start dt).unitMasked (8 * b.val + k.val) then (s.start dt).setTrig (8 * b.val + k.val)
            (((s.start dt).unitRun (8 * b.val + k.val) first vins).trigAt (8 * b.val + k.val))
            else (s.start dt).unitRun (8 * b.val + k.val) first vins)
        else .next ((s.start dt).resetUnit (8 * b.val + k.val)) := by
  rfl

theorem exec_triggerUnitStuck (dt : Nat) (b : Fin 16) (k : Fin 8) (s : State) : exec (.triggerUnitStuck dt b k) s
    = match ((s.start dt).trigAt (8 * b.val + k.val)).activeSince with
      | none => .next (s.start dt)
      | some t => if (s.start dt).unitWatches (8 * b.val + k.val) ∧ (s.start dt).actf (Reg.bnkTrgCtl b k) 16 16 = 1
            ∧ t + (s.start dt).stuckLimit < (s.start dt).ep then
          .next ((((s.start dt).setBit (Reg.bnkTrgStatus b k) 1 true).countFld (Reg.bnkTrgStatus b k) 31 16 1).fault 19
            (maskBit b))
          else .next (s.start dt) := by
  rfl

theorem exec_trgUnmask (dt : Nat) (b : Fin 16) (k : Fin 8) (s : State) :
    exec (.trgUnmask dt b k) s = .next ((s.start dt).doTrgUnmask b k) := by
  rfl

theorem exec_trgClr (dt : Nat) (b : Fin 16) (k : Fin 8) (s : State) :
    exec (.trgClr dt b k) s = .next ((s.start dt).doTrgClr b k) := by
  rfl

theorem doTrgUnmask_over {s : State} {b k : Nat} (hm : s.bit (Reg.bnkTrgStatus b k) 1 = true)
    (ha : (s.trigAt (8 * b + k)).activeSince = none) :
    s.doTrgUnmask b k = (s.setBit (Reg.bnkTrgStatus b k) 1 false).resetUnit (8 * b + k) :=
  if_pos ⟨hm, ha⟩

theorem bit_resetUnit_setBit (s : State) (u o : Nat) :
    ((s.setBit o 1 false).resetUnit u).bit o 1 = false :=
  State.bit_setBit_self s false (by decide)

theorem doTrgUnmask_waits {s : State} {b k : Nat}
    (h : (s.trigAt (8 * b + k)).activeSince ≠ none ∨ s.bit (Reg.bnkTrgStatus b k) 1 = false) : s.doTrgUnmask b k = s := by
  refine if_neg ?_
  rintro ⟨hm, ha⟩
  rcases h with h | h
  · exact h ha
  · rw [h] at hm
    cases hm

/-- The five words of a trigger unit's counters lie apart. -/
theorem trgCounters_apart (b k : Nat) : Reg.bnkTrgStatus b k < Reg.bnkTrgFired b k
    ∧ Reg.bnkTrgFired b k + 8 = Reg.bnkTrgHeld b k ∧ Reg.bnkTrgHeld b k + 4 = Reg.bnkTrgMerged b k := by
  rw [Reg.bnkTrgStatus, Reg.bnkTrgFired, Reg.bnkTrgHeld, Reg.bnkTrgMerged]
  omega

theorem doTrgClr_clears (s : State) (b k : Nat) :
    (s.doTrgClr b k).rdq (Reg.bnkTrgFired b k) 2 = 0 ∧ (s.doTrgClr b k).get (Reg.bnkTrgHeld b k) = 0
      ∧ (s.doTrgClr b k).get (Reg.bnkTrgMerged b k) = 0 ∧ (s.doTrgClr b k).rd (Reg.bnkTrgStatus b k) 31 16 = 0
      ∧ (s.doTrgClr b k).rd (Reg.bnkTrgStatus b k) 15 0 = s.rd (Reg.bnkTrgStatus b k) 15 0 := by
  obtain ⟨hsf, hfh, hhm⟩ := trgCounters_apart b k
  rw [State.doTrgClr]
  refine ⟨?_, ?_, ?_, ?_, ?_⟩
  · refine (State.rdq_congr 2 _ (t := s.wrq (Reg.bnkTrgFired b k) 2 0) fun j hj => ?_).trans (State.rdq_wrq 2 _ 0 s)
    rw [State.get_wr_ne _ _ _ _ (by omega), State.get_put_ne _ _ (by omega), State.get_put_ne _ _ (by omega)]
  · rw [State.get_wr_ne _ _ _ _ (by omega), State.get_put_ne _ _ (by omega), State.get_put_self]
  · rw [State.get_wr_ne _ _ _ _ (by omega), State.get_put_self]
  · exact State.rd_wr_self _ (by decide) (by decide)
  · rw [State.rd_wr_apart _ (by decide) (by decide) (by decide), State.rd_put_ne _ _ _ _ (by omega),
      State.rd_put_ne _ _ _ _ (by omega), State.rd, State.get_wrq_ne _ _ _ _ (.inl (by omega)), ← State.rd]

theorem onlyRegs_doTrgClr (s : State) (b k : Nat) : OnlyRegs [Reg.bnkTrgFired b k, Reg.bnkTrgFired b k + 4,
    Reg.bnkTrgHeld b k, Reg.bnkTrgMerged b k, Reg.bnkTrgStatus b k] s (s.doTrgClr b k) := by
  refine (((OnlyRegs.wrq 2 _ 0 (OnlyRegs.refl _ s) fun j hj => ?_).put (by simp) 0).put (by simp) 0).wr (by simp) 31 16 0
  have hj2 : j = 0 ∨ j = 1 := by omega
  rcases hj2 with h | h <;> simp [h]

/-- Settles O19, by what the unit sees and by its masking. -/
theorem triggerUnits : Obligations.TriggerUnits := by
  rintro dt b k s v rfl
  refine ⟨fun first vins hsees hmask => ?_, fun first vins hsees hmask => ?_, fun first vins hsees => ?_,
    fun w hw hwatch hlimit hage => ?_, fun h => ?_, fun w hw hage => ?_, fun hm ha => ?_, fun h => ?_,
    ⟨_, exec_trgClr dt b k s, onlyRegs_doTrgClr _ b k, doTrgClr_clears _ b k⟩⟩
  · rw [exec_triggerUnitFire, if_pos hsees, if_neg (by rw [hmask]; exact Bool.false_ne_true)]
  · rw [exec_triggerUnitFire, if_pos hsees, if_pos hmask]
  · rw [exec_triggerUnitFire, if_neg (by rw [hsees]; exact Bool.false_ne_true)]
    exact ⟨_, rfl, State.trigAt_setTrig_self _ _ _, rfl, rfl⟩
  · rw [exec_triggerUnitStuck, hw]
    exact if_pos ⟨hwatch, hlimit, hage⟩
  · rw [exec_triggerUnitStuck]
    split
    · rfl
    · next t ht =>
      refine if_neg ?_
      rintro ⟨hwatch, hlimit, -⟩
      rcases h with h | h | h
      · rw [h] at ht
        cases ht
      · rw [h] at hwatch
        cases hwatch
      · omega
  · rw [exec_triggerUnitStuck, hw]
    exact if_neg (fun hc => absurd hc.2.2 (by omega))
  · rw [exec_trgUnmask, doTrgUnmask_over hm ha]
    refine ⟨_, rfl, ?_, State.trigAt_setTrig_self _ _ _⟩
    exact bit_resetUnit_setBit _ _ _
  · rw [exec_trgUnmask, doTrgUnmask_waits h]

/-! ### Edges of the external pins (R112) -/

theorem exec_extPinEdge (dt : Nat) (p : Fin 12) (level : Bool) (ago : Nat) (s : State) :
    exec (.extPinEdge dt p level ago false) s
      = if (s.start dt).power = 3 then .next ((s.start dt).aonStamp.2.pinEdge p level (s.start dt).aonStamp.1)
        else .next ((s.start dt).pinEdge p level ((s.start dt).before ago)) := by
  rfl

/-- A short pulse is taken, at an instant of its own, or not taken (log entry 21). -/
theorem exec_extPinEdge_short (dt : Nat) (p : Fin 12) (level : Bool) (ago : Nat) (s : State) :
    exec (.extPinEdge dt p level ago true) s = .next (s.start dt).fresh.2
      ∨ ∃ i, exec (.extPinEdge dt p level ago true) s = .next ((s.start dt).fresh.2.pinEdge p level i) := by
  by_cases hfree : Config.freeBit (s.start dt).fresh.1 = true
  · exact .inr ⟨_, if_pos hfree⟩
  · exact .inl (if_neg hfree)

/-! ### The stuck limit and the commands of a pin (R113, R114) -/

theorem exec_pinStuck (dt : Nat) (p : Fin 12) (s : State) : exec (.pinStuck dt p) s
    = match ((s.start dt).pinAt p).activeSince with
      | none => .next (s.start dt)
      | some t => if (s.start dt).bit (Reg.epcPinCtl p) 1 ∧ (s.start dt).pinActive p ∧ !(s.start dt).bit (Reg.epcPinStat p) 2
            ∧ t + (s.start dt).stuckLimit < (s.start dt).now ∧ (s.start dt).fabricRuns then
          .next ((((s.start dt).setBit (Reg.epcPinStat p) 2 true).countFld (Reg.epcPinStat p) 31 16 1).fault 19 allBanks)
          else .next (s.start dt) := by
  rfl

theorem exec_pinUnmask (dt : Nat) (p : Fin 12) (s : State) : exec (.pinUnmask dt p) s = .next ((s.start dt).doPinUnmask p) := by
  rfl

theorem exec_pinClr (dt : Nat) (p : Fin 12) (s : State) : exec (.pinClr dt p) s = .next ((s.start dt).doPinClr p) := by
  rfl

theorem doPinUnmask_active {s : State} {p : Nat} (h : s.pinActive p = true) : s.doPinUnmask p = s :=
  if_pos h

theorem doPinUnmask_inactive {s : State} {p : Nat} (h : s.pinActive p = false) :
    s.doPinUnmask p = s.setBit (Reg.epcPinStat p) 2 false :=
  if_neg (by rw [h]; exact Bool.false_ne_true)

theorem pinWords_apart (p : Nat) :
    Reg.epcPinStat p + 4 = Reg.epcPinEvents p ∧ Reg.epcPinEvents p + 4 = Reg.epcPinMerged p := by
  rw [Reg.epcPinStat, Reg.epcPinEvents, Reg.epcPinMerged]
  omega

theorem doPinClr_clears (s : State) (p : Nat) :
    (s.doPinClr p).get (Reg.epcPinEvents p) = 0 ∧ (s.doPinClr p).get (Reg.epcPinMerged p) = 0
      ∧ (s.doPinClr p).rd (Reg.epcPinStat p) 31 16 = 0
      ∧ (s.doPinClr p).rd (Reg.epcPinStat p) 15 0 = s.rd (Reg.epcPinStat p) 15 0 := by
  obtain ⟨hse, hem⟩ := pinWords_apart p
  rw [State.doPinClr]
  refine ⟨?_, ?_, ?_, ?_⟩
  · rw [State.get_wr_ne _ _ _ _ (by omega), State.get_put_ne _ _ (by omega), State.get_put_self]
  · rw [State.get_wr_ne _ _ _ _ (by omega), State.get_put_self]
  · exact State.rd_wr_self _ (by decide) (by decide)
  · rw [State.rd_wr_apart _ (by decide) (by decide) (by decide), State.rd_put_ne _ _ _ _ (by omega),
      State.rd_put_ne _ _ _ _ (by omega)]

theorem onlyRegs_doPinClr (s : State) (p : Nat) :
    OnlyRegs [Reg.epcPinEvents p, Reg.epcPinMerged p, Reg.epcPinStat p] s (s.doPinClr p) :=
  (((OnlyRegs.refl _ s).put (by simp) 0).put (by simp) 0).wr (by simp) 31 16 0

/-! ### Wake pins (R129) -/

theorem exec_wakePinEdge (dt : Nat) (p : Fin 12) (ago : Nat) (s : State) : exec (.wakePinEdge dt p ago) s
    = if 8 ≤ p.val ∧ (s.start dt).bit (Reg.epcPinCtl p) 4 ∧ 2 ≤ (s.start dt).power then
        (if (s.start dt).power = 2 then
          .next ((s.start dt).pinEdge p ((s.start dt).activeLevel p) ((s.start dt).before ago))
        else .next ((s.start dt).aonStamp.2.pinEdge p ((s.start dt).activeLevel p) (s.start dt).aonStamp.1))
      else .next (s.start dt) := by
  rfl

/-- The pin as an edge into its active level leaves it. -/
def pinRaised (s : State) (p : Nat) (level : Bool) (t : Nat) : Pin :=
  { s.pinAt p with
    activeSince := some s.now
    lastRise := if level then some (t / cycle) else (s.pinAt p).lastRise
    lastFall := if level then (s.pinAt p).lastFall else some (t / cycle) }

/-- The state that the edge is judged in: the pin's level shown and its instants taken. -/
def edgeShown (s : State) (p t : Nat) : State :=
  (s.setBit (Reg.epcPinStat p) 1 (s.activeLevel p)).setPin p (pinRaised s p (s.activeLevel p) t)

/-- In Fallow an edge into the active level of a wake pin that is not masked is an event to wake for. -/
theorem pinEdge_wakes {s : State} {p : Nat} (t : Nat) (hpin : 8 ≤ p) (hwake : s.bit (Reg.epcPinCtl p) 4 = true)
    (hmask : s.bit (Reg.epcPinStat p) 2 = false) (hpower : s.power = 3) :
    s.pinEdge p (s.activeLevel p) t = (edgeShown s p t).wakeEvent p t := by
  have hdeep : ¬ s.power ≤ 1 := by omega
  have hfallow : s.power ≠ 2 := by omega
  rw [State.pinEdge]
  simp only [beq_self_eq_true, if_true, hmask, Bool.false_eq_true, if_false, hdeep, hfallow, ne_eq, not_false_eq_true, hwake,
    decide_eq_true hpin, Bool.and_self]
  rfl

theorem pwrStatus_lt_pinStat (p : Nat) : Reg.pwrStatus < Reg.epcPinStat p ∧ Reg.pwrStatus < Reg.epcPinEvents p := by
  rw [Reg.pwrStatus, Reg.epcPinStat, Reg.epcPinEvents]
  omega

theorem power_setBit_pinStat (s : State) (p i : Nat) (b : Bool) : (s.setBit (Reg.epcPinStat p) i b).power = s.power :=
  State.rd_setBit_ne s i _ _ b (Nat.ne_of_lt (pwrStatus_lt_pinStat p).1)

theorem power_inc_pinEvents (s : State) (p : Nat) : (s.inc (Reg.epcPinEvents p)).power = s.power :=
  State.rd_put_ne s _ _ _ (Nat.ne_of_lt (pwrStatus_lt_pinStat p).2)

/-- The first wake event is kept, and demands an exit. -/
theorem wakeEvent_first {s : State} {p : Nat} (t : Nat) (hfree : ∀ k < 4, (s.pinAt (8 + k)).wakeKept = none) :
    s.wakeEvent p t = ((s.setPin p { (s.pinAt p) with wakeKept := some t }).inc (Reg.epcPinEvents p)).demandExit := by
  have hnone : ¬ (List.range 4).any (fun k => (s.pinAt (8 + k)).wakeKept.isSome) = true := by
    rw [List.any_eq_true]
    rintro ⟨k, hk, hkept⟩
    rw [hfree k (List.mem_range.mp hk)] at hkept
    cases hkept
  rw [State.wakeEvent, if_neg hnone]

theorem pinAt_setPin_ne (s : State) {p q : Nat} (x : Pin) (h : q ≠ p) : (s.setPin p x).pinAt q = s.pinAt q :=
  tget_tset_ne _ _ _ _ h

theorem wakeKept_edgeShown (s : State) (p t q : Nat) : ((edgeShown s p t).pinAt q).wakeKept = (s.pinAt q).wakeKept := by
  rw [edgeShown]
  by_cases h : q = p
  · subst h
    rw [State.pinAt_setPin_self]
    rfl
  · rw [pinAt_setPin_ne _ _ h]
    rfl

/-- A demand in a state other than Feast that nothing moves yet. -/
theorem move_demandExit_steady {s : State} (hm : s.move = .steady) (hp : s.power ≠ 0) : s.demandExit.move = .exiting s.now := by
  rw [State.demandExit, hm]
  dsimp only
  split_ifs with hfeast hfallow
  · exact absurd hfeast hp
  · exact Frame.forAll_keep (p := State.move) (f := fun s b => s.startBank b false)
      (fun s b => Frame.startBank_keep ⟨fun _ _ _ => rfl, fun _ _ => rfl⟩ (fun _ _ _ => rfl) s b false) _ _
  · rfl

theorem pins_demandExit (s : State) : s.demandExit.pins = s.pins :=
  Frame.demandExit_keep (p := State.pins) ⟨fun _ _ _ => rfl, fun _ _ => rfl⟩ (fun _ _ _ => rfl) (fun _ _ _ => rfl) s

theorem pinAt_demandExit (s : State) (q : Nat) : s.demandExit.pinAt q = s.pinAt q := by
  rw [State.pinAt, pins_demandExit, State.pinAt]


theorem power_edgeShown (s : State) (p t : Nat) : (edgeShown s p t).power = s.power :=
  power_setBit_pinStat s p 1 _

theorem pinAt_inc (s : State) (o q : Nat) : (s.inc o).pinAt q = s.pinAt q :=
  Frame.inc_keep (p := fun s => s.pinAt q) ⟨fun _ _ _ => rfl, fun _ _ => rfl⟩ s o

theorem move_inc (s : State) (o : Nat) : (s.inc o).move = s.move :=
  Frame.inc_keep (p := State.move) ⟨fun _ _ _ => rfl, fun _ _ => rfl⟩ s o

theorem now_inc (s : State) (o : Nat) : (s.inc o).now = s.now :=
  Frame.inc_keep (p := State.now) ⟨fun _ _ _ => rfl, fun _ _ => rfl⟩ s o

theorem move_inc_demandExit {s : State} {p : Nat} (hm : s.move = .steady) (hp : s.power ≠ 0) :
    (s.inc (Reg.epcPinEvents p)).demandExit.move = .exiting s.now := by
  rw [move_demandExit_steady ((move_inc s _).trans hm) (by rwa [power_inc_pinEvents]), now_inc]

/-- What the first wake event leaves: its instant kept, and the exit begun. -/
theorem wakeEvent_exits {s : State} {p : Nat} (t : Nat) (hfree : ∀ k < 4, (s.pinAt (8 + k)).wakeKept = none)
    (hm : s.move = .steady) (hp : s.power ≠ 0) :
    ((s.wakeEvent p t).pinAt p).wakeKept = some t ∧ (s.wakeEvent p t).move = .exiting s.now := by
  have hpow : (s.setPin p { (s.pinAt p) with wakeKept := some t }).power ≠ 0 := hp
  have hmove : (s.setPin p { (s.pinAt p) with wakeKept := some t }).move = .steady := hm
  rw [wakeEvent_first t hfree]
  refine ⟨?_, ?_⟩
  · rw [pinAt_demandExit, pinAt_inc, State.pinAt_setPin_self]
  · exact move_inc_demandExit hmove hpow

/-- In Fallow the first edge into the active level of a wake pin that is not masked is kept, and demands an exit. -/
theorem pinEdge_exits {s : State} {p : Nat} (t : Nat) (hpin : 8 ≤ p) (hwake : s.bit (Reg.epcPinCtl p) 4 = true)
    (hmask : s.bit (Reg.epcPinStat p) 2 = false) (hpower : s.power = 3) (hm : s.move = .steady)
    (hfree : ∀ k < 4, (s.pinAt (8 + k)).wakeKept = none) :
    ((s.pinEdge p (s.activeLevel p) t).pinAt p).wakeKept = some t
      ∧ (s.pinEdge p (s.activeLevel p) t).move = .exiting s.now := by
  rw [pinEdge_wakes t hpin hwake hmask hpower]
  refine wakeEvent_exits (s := edgeShown s p t) t (fun k hk => ?_) hm ?_
  · rw [wakeKept_edgeShown]
    exact hfree k hk
  · rw [power_edgeShown, hpower]
    decide

/-- Settles O20, by the branches of each command of the pin. -/
theorem pins : Obligations.Pins := by
  rintro dt p s v rfl
  refine ⟨fun level ago hpow => ?_, fun level ago hpow => ?_, fun level ago => exec_extPinEdge_short dt p level ago s,
    fun w hw hctl hact hmask hage hrun => ?_, fun h => ?_, fun w hw hage => ?_, fun h => ?_, fun h => ?_,
    ⟨_, exec_pinClr dt p s, onlyRegs_doPinClr _ p, doPinClr_clears _ p⟩, fun ago hpin hwake hpow => ?_,
    fun ago hpin hwake hpow => ?_, fun ago hpin hwake hpow hmask hm hfree => ?_, fun ago h => ?_⟩
  · rw [exec_extPinEdge, if_neg hpow]
  · rw [exec_extPinEdge, if_pos hpow]
  · rw [exec_pinStuck, hw]
    exact if_pos ⟨hctl, hact, by rw [hmask]; rfl, hage, hrun⟩
  · rw [exec_pinStuck]
    split
    · rfl
    · next t ht =>
      refine if_neg ?_
      rintro ⟨hctl, hact, hmask, -, hrun⟩
      simp_all
  · rw [exec_pinStuck, hw]
    exact if_neg (fun hc => absurd hc.2.2.2.1 (by omega))
  · rw [exec_pinUnmask, doPinUnmask_active h]
  · rw [exec_pinUnmask, doPinUnmask_inactive h]
    exact ⟨_, rfl, (OnlyRegs.refl _ _).setBit (by simp) 2 false, State.bit_setBit_self _ false (by decide)⟩
  · rw [exec_wakePinEdge, if_pos ⟨hpin, hwake, by omega⟩, if_pos hpow]
  · rw [exec_wakePinEdge, if_pos ⟨hpin, hwake, by omega⟩, if_neg (by omega)]
  · rw [exec_wakePinEdge, if_pos ⟨hpin, hwake, by omega⟩, if_neg (by omega)]
    generalize s.start dt = v at *
    exact ⟨_, rfl, pinEdge_exits (s := v.fresh.2) v.aonStamp.1 hpin hwake hmask hpow hm hfree⟩
  · rw [exec_wakePinEdge, if_neg]
    rintro ⟨hpin, hwake, hpow⟩
    rcases h with h | h | h
    · omega
    · rw [h] at hwake
      cases hwake
    · omega

/-! ### Conjunctions (R118, R119) -/

theorem exec_conjunctionExpiry (dt : Nat) (j : Fin 16) (s : State) :
    exec (.conjunctionExpiry dt j) s = .next ((s.start dt).conjExpire j) := by
  rfl

theorem exec_cjClr (dt : Nat) (j : Fin 16) (s : State) : exec (.cjClr dt j) s = .next ((s.start dt).doCjClr j) := by
  rfl

theorem eq_nil_of_eraseDups_length {l : List (Nat × Nat)} (h : l.eraseDups.length = 0) : l = [] := by
  cases l with
  | nil => rfl
  | cons a as =>
    rw [List.eraseDups_cons] at h
    cases h

/-- The kept events are those that pass, whether or not a source loses one. -/
theorem conjKeep_keeps (s : State) (j : Nat) (keep : Held → Bool) :
    ((s.conjKeep j keep).conjAt j).held = (s.conjAt j).held.filter keep
      ∧ OnlyRegs [Reg.epcCjExpired j] { s with conj := (s.conjKeep j keep).conj } (s.conjKeep j keep) := by
  rw [State.conjKeep]
  split_ifs with hgone
  · have hnone := List.map_eq_nil_iff.mp (eq_nil_of_eraseDups_length hgone)
    refine ⟨(List.filter_eq_self.mpr fun h hmem => ?_).symm, OnlyRegs.refl _ s⟩
    have hkeep := List.filter_eq_nil_iff.mp hnone h hmem
    rwa [Bool.not_eq_true', Bool.not_eq_false] at hkeep
  · exact ⟨congrArg Conj.held (tget_tset_self _ _ _ _), (OnlyRegs.refl _ _).countFld (by simp) 31 0 _⟩

theorem cjCounters_apart (j : Nat) : Reg.epcCjFired j + 8 = Reg.epcCjHeld j ∧ Reg.epcCjHeld j + 4 = Reg.epcCjMerged j
    ∧ Reg.epcCjMerged j + 4 = Reg.epcCjExpired j := by
  rw [Reg.epcCjFired, Reg.epcCjHeld, Reg.epcCjMerged, Reg.epcCjExpired]
  omega

theorem doCjClr_clears (s : State) (j : Nat) :
    (s.doCjClr j).rdq (Reg.epcCjFired j) 2 = 0 ∧ (s.doCjClr j).get (Reg.epcCjHeld j) = 0
      ∧ (s.doCjClr j).get (Reg.epcCjMerged j) = 0 ∧ (s.doCjClr j).get (Reg.epcCjExpired j) = 0 := by
  obtain ⟨hfh, hhm, hme⟩ := cjCounters_apart j
  rw [State.doCjClr]
  refine ⟨?_, ?_, ?_, State.get_put_self _ _ _⟩
  · refine (State.rdq_congr 2 _ (t := s.wrq (Reg.epcCjFired j) 2 0) fun i hi => ?_).trans (State.rdq_wrq 2 _ 0 s)
    rw [State.get_put_ne _ _ (by omega), State.get_put_ne _ _ (by omega), State.get_put_ne _ _ (by omega)]
  · rw [State.get_put_ne _ _ (by omega), State.get_put_ne _ _ (by omega), State.get_put_self]
  · rw [State.get_put_ne _ _ (by omega), State.get_put_self]

theorem onlyRegs_doCjClr (s : State) (j : Nat) : OnlyRegs [Reg.epcCjFired j, Reg.epcCjFired j + 4, Reg.epcCjHeld j,
    Reg.epcCjMerged j, Reg.epcCjExpired j] s (s.doCjClr j) := by
  refine (((OnlyRegs.wrq 2 _ 0 (OnlyRegs.refl _ s) fun i hi => ?_).put (by simp) 0).put (by simp) 0).put (by simp) 0
  have hi2 : i = 0 ∨ i = 1 := by omega
  rcases hi2 with h | h <;> simp [h]

/-! ### Pulses of TRIG_OUT (R125, R126) -/

theorem exec_trigOutPulseStart (dt : Nat) (o : Fin 4) (s : State) : exec (.trigOutPulseStart dt o) s
    = match takeFor (.tout o) (s.start dt).fabric with
      | none => .next (s.start dt)
      | some (d, rest) =>
        if ({ s.start dt with fabric := rest } : State).bit (Reg.epcToutCtl o) 0
            ∧ ({ s.start dt with fabric := rest } : State).fabricRuns then
          .next (if ({ s.start dt with fabric := rest } : State).bit (Reg.epcToutCtl o) 8 then
            ({ s.start dt with fabric := rest } : State).toutAligned o d.instant
            else ({ s.start dt with fabric := rest } : State).toutAsap o)
        else .next { s.start dt with fabric := rest } := by
  rfl

theorem toutAsap_free {s : State} {o : Nat} (h : (s.toutAt o).pulses = []) : s.toutAsap o = s.toutPulse o s.now := by
  rw [State.toutAsap, h]
  rfl

/-- With no pulse to lose, only the list is stored and the count rewritten. -/
theorem toutDrop_free {s : State} {o : Nat} (a e : Nat) (h : (s.toutAt o).pulses = []) :
    ∃ w, s.toutDrop o a e = (s.setTout o ⟨[]⟩).put (Reg.epcToutPulses o) w := by
  rw [State.toutDrop, h]
  exact ⟨_, if_pos rfl⟩

theorem toutAt_put (s : State) (o k : Nat) (w : Word) : (s.put o w).toutAt k = s.toutAt k := rfl

theorem toutAt_emit (s : State) (x : Out) (k : Nat) : (s.emit x).toutAt k = s.toutAt k := rfl

theorem out_emit (s : State) (x : Out) : (s.emit x).out = s.out ++ [x] := rfl

theorem toutAt_setTout_self (s : State) (o : Nat) (x : Tout) : (s.setTout o x).toutAt o = x :=
  tget_tset_self _ _ _ _

/-- A pulse that meets no other. -/
theorem toutPulse_free {s : State} {o : Nat} (a : Nat) (h : (s.toutAt o).pulses = []) :
    ((s.toutPulse o a).toutAt o).pulses = [⟨a, a + s.toutWidth o, false⟩]
      ∧ (s.toutPulse o a).out = s.out ++ [.pulse o a (a + s.toutWidth o) (s.toutLevel o)] := by
  obtain ⟨w, hdrop⟩ := toutDrop_free a (a + s.toutWidth o) h
  rw [State.toutPulse]
  rw [hdrop, toutAt_put, toutAt_setTout_self]
  constructor
  · rw [toutAt_emit, State.inc, State.countFld, State.wr, toutAt_put, toutAt_setTout_self]
    rfl
  · rw [out_emit, State.inc, State.countFld, State.wr, State.put_out, State.setTout_out, State.put_out, State.setTout_out]

/-- The end of the first pulse that has run out. -/
theorem exec_trigOutPulseEnd (dt : Nat) (o : Fin 4) (s : State) : exec (.trigOutPulseEnd dt o) s
    = match ((s.start dt).toutAt o).pulses.find? (fun p => !p.told && decide (p.stop ≤ (s.start dt).now)) with
      | some p => .next (((s.start dt).setTout o ⟨((s.start dt).toutAt o).pulses.map
          (fun q => if q = p then { q with told := true } else q)⟩).emit (.pin "TRIG_OUT" !((s.start dt).toutLevel o)))
      | none => .next (s.start dt) := by
  rfl

/-- The statement's clauses about a Conjunction. -/
theorem conjunctionClauses (dt : Nat) (j : Fin 16) (s v : State) (hv : v = s.start dt) :
    (takeFor (.conj j) v.fabric = none ∨ v.conjCfg j = none → exec (.conjunctionEvent dt j) s = .next v)
    ∧ (∀ d rest, takeFor (.conj j) v.fabric = some (d, rest) → (v.conjCfg j).isSome = true → v.fabricRuns = false →
      exec (.conjunctionEvent dt j) s = .next { v with fabric := rest })
    ∧ (∀ d rest c, takeFor (.conj j) v.fabric = some (d, rest) → v.conjCfg j = some c → v.fabricRuns = true →
      exec (.conjunctionEvent dt j) s = .next (({ v with fabric := rest } : State).conjTake j c d)) := by
  subst hv
  refine ⟨fun h => ?_, fun d rest htake hcfg hrun => ?_, fun d rest c htake hcfg hrun => ?_⟩
  · change execConjunctionEvent dt j s = _
    rw [execConjunctionEvent]
    dsimp only
    split
    · next d rest c htake hcfg =>
      rcases h with h | h
      · rw [h] at htake
        cases htake
      · rw [h] at hcfg
        cases hcfg
    · rfl
  · obtain ⟨c, hc⟩ := Option.isSome_iff_exists.mp hcfg
    change execConjunctionEvent dt j s = _
    rw [execConjunctionEvent]
    simp only [htake, hc]
    exact congrArg Host.Outcome.next (if_neg (ne_true_of_eq_false hrun))
  · change execConjunctionEvent dt j s = _
    rw [execConjunctionEvent]
    simp only [htake, hcfg]
    exact congrArg Host.Outcome.next (if_pos hrun)

/-- Settles O22, by the branches of each command: what is waiting, the configuration, and the pulses of the output. -/
theorem conjunctionsAndOutputs : Obligations.ConjunctionsAndOutputs := by
  refine ⟨fun dt j s v hv => ?_, fun dt o s v hv => ?_⟩
  · obtain ⟨hnone, hidle, htaken⟩ := conjunctionClauses dt j s v hv
    subst hv
    obtain ⟨hheld, honly⟩ := conjKeep_keeps (s.start dt) j fun h =>
      decide ((s.start dt).ep ≤ h.instant + (s.start dt).conjWindow j + (s.start dt).conjSlack j)
    exact ⟨hnone, hidle, htaken, ⟨_, exec_conjunctionExpiry dt j s, hheld, honly⟩,
      ⟨_, exec_cjClr dt j s, onlyRegs_doCjClr _ j, doCjClr_clears _ j⟩⟩
  · subst hv
    rw [exec_trigOutPulseStart, exec_trigOutPulseEnd]
    generalize s.start dt = v
    refine ⟨fun h => ?_, fun d rest htake h => ?_, fun d rest htake hon hrun => ?_, fun d rest htake hon hrun hmode hp => ?_,
      fun p hp => ?_, fun hp => ?_⟩
    · rw [h]
    · rw [htake]
      refine if_neg ?_
      rintro ⟨hon, hrun⟩
      rcases h with h | h
      · exact absurd (h.symm.trans hon) Bool.false_ne_true
      · exact absurd (h.symm.trans hrun) Bool.false_ne_true
    · rw [htake]
      exact if_pos ⟨hon, hrun⟩
    · rw [htake]
      refine ⟨({ v with fabric := rest } : State).toutAsap o, ?_, ?_⟩
      · refine (if_pos ⟨hon, hrun⟩).trans (congrArg Host.Outcome.next (if_neg ?_))
        exact ne_true_of_eq_false hmode
      · rw [toutAsap_free (s := { v with fabric := rest }) hp]
        exact toutPulse_free (s := { v with fabric := rest }) v.now hp
    · rw [hp]
      refine ⟨_, rfl, rfl, congrArg Tout.pulses (toutAt_setTout_self _ _ _), ?_⟩
      rw [State.emit, State.toutLevel, Bool.not_not]
      rfl
    · rw [hp]

end Sys2Proof.Proofs.Trigger

/-! What a fault and a demand for Feast leave unchanged (R311, R341 to R343), and the writes of registers with commands of
their own (R394). -/

namespace Sys2Proof.Proofs.Frame

open Sys2Proof Sys2Proof.Machine

variable {α : Type}

theorem ite_keep {p : State → α} {c : Prop} [Decidable c] {s t : State} {x : α} (hs : p s = x) (ht : p t = x) :
    p (if c then s else t) = x := by
  split
  · exact hs
  · exact ht

/-- A part of the state that no event of a fault reaches, as long as the event does not escalate at once. -/
structure FaultBlind (p : State → α) : Prop where
  blind : Blind p
  bank : ∀ s b x, p (State.setBank s b x) = p s
  demand : ∀ (s : State) m n, p { s with move := m, idleSince := n } = p s
  tables : ∀ (s : State) w b g, p { s with fltWin := w, fltBanks := b, fltGrace := g } = p s

section

variable {p : State → α} (hp : FaultBlind p)

include hp

theorem FaultBlind.demandExit_keep (s : State) : p s.demandExit = p s :=
  Frame.demandExit_keep hp.blind hp.bank hp.demand s

theorem severe_keep (s : State) {n : Nat} (hn : ¬ (n = 11 ∨ n = 14)) : p (s.severe n) = p s := by
  rw [State.severe]
  rw [if_neg hn]
  refine (hp.tables _ _ _ _).trans ?_
  rw [hp.demandExit_keep, signal_keep hp.blind, orFlt_keep hp.blind]

theorem countEvent_keep (s : State) {n : Nat} (banks : Nat) (hn : ¬ (n = 11 ∨ n = 14)) : p (s.countEvent n banks) = p s := by
  have hwin : ∀ (s : State) w b, p { s with fltWin := w, fltBanks := b } = p s := fun s w b => hp.tables s w b s.fltGrace
  have hcount := countFld_keep hp.blind s (Reg.fltSrcCount n) 31 8 1
  rw [State.countEvent]
  refine ite_keep hcount (ite_keep ((severe_keep hp _ hn).trans ?_) ?_)
  · rw [wr_keep hp.blind]
    exact ite_keep ((hwin _ _ _).trans hcount) ((hwin _ _ _).trans hcount)
  · rw [wr_keep hp.blind]
    exact ite_keep ((hwin _ _ _).trans hcount) ((hwin _ _ _).trans hcount)

theorem fault_keep (s : State) {n : Nat} (banks : Nat) (hn : ¬ (n = 11 ∨ n = 14)) : p (s.fault n banks) = p s := by
  have hfirst : p (s.nameFirst n) = p s := by
    rw [State.nameFirst, wrEpoch_keep hp.blind, hp.blind.put]
  rw [State.fault]
  refine (countEvent_keep hp _ _ hn).trans (ite_keep ((signal_keep hp.blind _ _).trans ?_) ?_)
  · exact (orFlt_keep hp.blind _ _ _).trans (ite_keep hfirst rfl)
  · exact (orFlt_keep hp.blind _ _ _).trans (ite_keep hfirst rfl)

end

/-- What the groups are and what the Epoch reads. -/
def groupsAndEpoch (s : State) : Tbl Group × Nat := (s.groups, s.ep)

theorem faultBlind_groupsAndEpoch : FaultBlind groupsAndEpoch :=
  ⟨⟨fun _ _ _ => rfl, fun _ _ => rfl⟩, fun _ _ _ => rfl, fun _ _ _ => rfl, fun _ _ _ _ => rfl⟩

/-! ### Words that a demand for Feast leaves unchanged (R311) -/

theorem forAll_keep_mem {α : Type} {p : State → α} {f : State → Nat → State} (l : List Nat)
    (hf : ∀ a ∈ l, ∀ s, p (f s a) = p s) (s : State) : p (s.forAll l f) = p s := by
  rw [State.forAll]
  induction l generalizing s with
  | nil => rfl
  | cons a l ih =>
    rw [List.foldl_cons, ih (fun b hb => hf b (List.mem_cons_of_mem a hb)), hf a List.mem_cons_self]

theorem get_startBank {o b : Nat} (h : o ≠ Reg.bnkConvStatus b) (s : State) (full : Bool) :
    (s.startBank b full).get o = s.get o := by
  rw [State.startBank]
  split
  · rfl
  · exact State.get_setBit_ne _ _ _ h

theorem get_cancelEntry {o : Nat} (h : ∀ k < 4, o ≠ Reg.memSr k) (s : State) : s.cancelEntry.get o = s.get o := by
  refine forAll_keep_mem (p := fun s => s.get o) _ (fun k hk s => ?_) s
  split
  · rfl
  · exact State.get_wr_ne _ _ _ _ (h k (List.mem_range.mp hk))

theorem get_forAll_startBank {o : Nat} (h : ∀ b < 16, o ≠ Reg.bnkConvStatus b) (s : State) (full : Bool) :
    (s.forAll (List.range 16) (fun s b => s.startBank b full)).get o = s.get o :=
  forAll_keep_mem (p := fun s => s.get o) _ (fun b hb s => get_startBank (h b (List.mem_range.mp hb)) s full) s

/-- A demand counts self-refresh entries and shows banks as starting. -/
theorem get_demandExit {o : Nat} (hsr : ∀ k < 4, o ≠ Reg.memSr k) (hconv : ∀ b < 16, o ≠ Reg.bnkConvStatus b) (s : State) :
    s.demandExit.get o = s.get o := by
  rw [State.demandExit]
  split
  · split
    · exact get_cancelEntry hsr { s with idleSince := s.now }
    · rfl
  · rfl
  · split
    · rfl
    · split
      · exact get_forAll_startBank hconv { s with idleSince := s.now, move := .exiting s.now } false
      · rfl

/-! ### What a change of words alone leaves unchanged -/

theorem onlyRegs_keep {p : State → α} (hp : ∀ (s : State) r, p { s with mem.regs := r } = p s) {os : List Nat} {s t : State}
    (h : OnlyRegs os s t) : p t = p s := by
  obtain ⟨hwords, -⟩ := h
  rw [OnlyWords] at hwords
  rw [hwords]
  exact hp s t.mem.regs

/-- The same words change while another part is replaced in both states. -/
theorem onlyRegs_map {f : State → State} (hf : ∀ (s : State) r, f { s with mem.regs := r } = { f s with mem.regs := r })
    (hm : ∀ s : State, (f s).mem = s.mem) {os : List Nat} {s t : State} (h : OnlyRegs os s t) : OnlyRegs os (f s) (f t) := by
  obtain ⟨hwords, hget⟩ := h
  refine ⟨?_, fun o ho => ?_⟩
  · rw [OnlyWords] at hwords ⊢
    rw [hm t]
    exact (congrArg f hwords).trans (hf s t.mem.regs)
  · rw [State.get, hm, State.get, hm]
    exact hget o ho

/-! ### Host writes of a register with its own command (R394) -/

theorem hostWrite_allowed {s : State} {rq : Requester} {off : Nat} (f : State → Res)
    (h : s.writeReach rq off true true = .allowed) : s.hostWrite rq off f = f (s.accessDemand rq) := by
  rw [State.hostWrite, h]

theorem hostWrite_refused {s : State} {rq : Requester} {off what : Nat} (f : State → Res)
    (h : s.writeReach rq off true true = .refused what) :
    s.hostWrite rq off f = .next ((s.readDemand rq).refuse (portOf rq true) what) := by
  rw [State.hostWrite, h]

end Sys2Proof.Proofs.Frame

/-! Proofs of the statements of chapter 06: acquisition groups (R131 to R154, R163, R203). -/

namespace Sys2Proof.Proofs.Groups

open Sys2Proof Sys2Proof.Machine

/-! ### The table of groups -/

theorem grp_setGrp_self (s : State) (g : Nat) (x : Group) : (s.setGrp g x).grp g = x :=
  tget_tset_self _ _ _ _

theorem grp_setGrp_ne (s : State) {g j : Nat} (x : Group) (h : j ≠ g) : (s.setGrp g x).grp j = s.grp j :=
  tget_tset_ne _ _ _ _ h

/-! ### Hand-over, ARM, DISARM and ABORT (R133, R134, R153) -/

theorem exec_handover (dt : Nat) (g : Fin 32) (s : State) : exec (.handover dt g) s
    = if ((s.start dt).gcfg g).isSome then .next ((s.start dt).tryHand g false) else .next (s.start dt) := by
  rfl

theorem exec_arm (dt : Nat) (g : Fin 32) (s : State) : exec (.arm dt g) s = .next ((s.start dt).doArm g) := by
  rfl

theorem exec_disarm (dt : Nat) (g : Fin 32) (s : State) : exec (.disarm dt g) s = .next ((s.start dt).doDisarm g) := by
  rfl

theorem exec_abort (dt : Nat) (g : Fin 32) (s : State) : exec (.abort dt g) s = .next ((s.start dt).doAbort g) := by
  rfl

theorem tryHand_done {s : State} {g : Nat} {edge : Bool} (hr : s.handReady g edge = true) (ho : s.shadowOk g = true) :
    s.tryHand g edge = s.handGroup g := by
  rw [State.tryHand, if_pos hr, if_pos ho]

theorem tryHand_withheld {s : State} {g : Nat} {edge : Bool} (hr : s.handReady g edge = true) (ho : s.shadowOk g = false) :
    s.tryHand g edge = s.setGrp g { (s.grp g) with handErr := true } := by
  rw [State.tryHand, if_pos hr, if_neg (ne_true_of_eq_false ho)]

theorem tryHand_waits {s : State} {g : Nat} {edge : Bool} (hr : s.handReady g edge = false) : s.tryHand g edge = s :=
  if_neg (ne_true_of_eq_false hr)

theorem doArm_undefined {s : State} {g : Nat} (h : (s.gcfg g).isSome = false) : s.doArm g = s := by
  refine if_pos ?_
  rw [Option.isNone_iff_eq_none, ← Option.not_isSome_iff_eq_none, h]
  exact Bool.false_ne_true

theorem doArm_defined {s : State} {g : Nat} (h : (s.gcfg g).isSome = true) :
    s.doArm g = if s.armCode g = 0 then s.armNow g else s.setGrp g { (s.grp g) with armErr := s.armCode g } := by
  refine if_neg ?_
  rw [Option.isNone_iff_eq_none]
  exact Option.isSome_iff_ne_none.mp h

theorem doDisarm_armed {s : State} {g : Nat} (h : s.gArmed g = true) :
    s.doDisarm g = (s.setGrp g { (s.grp g) with disarming := true }).finishDisarm g :=
  if_pos h

theorem finishDisarm_waits {s : State} {g : Nat} (h : (s.grp g).cur ≠ none) : s.finishDisarm g = s := by
  rw [State.finishDisarm, if_pos]
  rw [Option.isSome_iff_ne_none.mpr h, Bool.true_or]

theorem finishDisarm_free {s : State} {g : Nat} (hm : s.gmode g ≠ 2) (hc : (s.grp g).cur = none)
    (ha : (s.grp g).acc.staged = none) (he : (s.grp g).acc.emitWait = []) : s.finishDisarm g = s.toIdle g := by
  rw [State.finishDisarm, hc, ha, if_neg hm]
  simp only [he, Option.isSome_none, Bool.or_self, Bool.false_eq_true, if_false, List.isEmpty_nil, if_true]

/-- Settles O23, by the conditions of the four commands. -/
theorem groupCommands : Obligations.GroupCommands := by
  rintro dt g s v rfl
  rw [exec_handover, exec_arm, exec_disarm, exec_abort]
  generalize s.start dt = v
  refine ⟨fun hc hr ho => ?_, fun hc hr ho => ?_, fun h => ?_, fun hc ha => ?_, fun hc ha => ?_, fun hc => ?_,
    fun hg hcur => ?_, fun hg => ?_, fun hg hm hc ha he => ?_, fun hg => rfl, fun hg => ⟨?_, ?_⟩⟩
  · rw [if_pos hc, tryHand_done hr ho]
  · rw [if_pos hc, tryHand_withheld hr ho]
    exact ⟨_, rfl, by rw [grp_setGrp_self], rfl, by rw [grp_setGrp_self], fun j hj => grp_setGrp_ne v _ hj⟩
  · rcases h with h | h
    · rw [if_neg (ne_true_of_eq_false h)]
    · rw [tryHand_waits h, ite_self]
  · rw [doArm_defined hc, if_pos ha]
  · rw [doArm_defined hc, if_neg ha]
    exact ⟨_, rfl, by rw [grp_setGrp_self], by rw [grp_setGrp_self], rfl, fun j hj => grp_setGrp_ne v _ hj⟩
  · rw [doArm_undefined hc]
  · rw [doDisarm_armed hg, finishDisarm_waits (by rw [grp_setGrp_self]; exact hcur)]
    exact ⟨_, rfl, by rw [grp_setGrp_self], by rw [grp_setGrp_self], rfl, fun j hj => grp_setGrp_ne v _ hj⟩
  · rw [doDisarm_armed hg]
  · rw [doDisarm_armed hg, finishDisarm_free]
    · exact hm
    · rw [grp_setGrp_self]
      exact hc
    · rw [grp_setGrp_self]
      exact ha
    · rw [grp_setGrp_self]
      exact he
  · rw [State.doDisarm, if_neg (ne_true_of_eq_false hg)]
  · rw [State.doAbort, hg]
    rfl

/-! ### Triggers (R143, R150) -/

theorem gArmed_of_st {s : State} {g : Nat} {st : GState} (h : (s.grp g).st = st) (hi : st ≠ .idle) (hd : st ≠ .disabled) :
    s.gArmed g = true := by
  rw [State.gArmed, h]
  simp [hi, hd]

/-- The trigger of a group that the Almanac has not as a Stream group and that is armed. -/
theorem groupTrigger_armed {s : State} {g : Nat} (d : Delivery) (ha : s.gArmed g = true) (hm : s.gmode g ≠ 1) :
    s.groupTrigger g d
      = if (s.grp g).st = .paused then s.refusePaused g
        else if (s.grp g).st = .recording || (s.grp g).st = .rearm then s.deadTrigger g d.instant
        else if s.gmode g == 2 && !(s.grp g).acc.emitWait.isEmpty && s.emitAllFit g then s.deadTrigger g d.instant
        else match s.eveFor g d with
          | none => s.earlyTrigger g
          | some e => if s.noRoom g then s.fullTrigger g else s.acceptTrigger g d e.1 e.2 := by
  refine if_neg ?_
  simp [ha, hm]

theorem groupTrigger_ignored {s : State} {g : Nat} (d : Delivery) (h : s.gArmed g = false ∨ s.gmode g = 1) :
    s.groupTrigger g d = s := by
  refine if_pos ?_
  rcases h with h | h <;> simp [h]

theorem groups_count (s : State) (o n w k : Nat) : (s.count o n w k).groups = s.groups :=
  Frame.wrq_keep (p := State.groups) ⟨fun _ _ _ => rfl, fun _ _ => rfl⟩ n s o _

theorem grp_count (s : State) (o n w k g : Nat) : (s.count o n w k).grp g = s.grp g := by
  rw [State.grp, groups_count, State.grp]

/-- A group and one of its two-word counters change together. -/
theorem onlyRegs_setGrp_count (s : State) (g : Nat) (x : Group) (o w k : Nat) :
    OnlyRegs [o, o + 4] { s with groups := ((s.setGrp g x).count o 2 w k).groups } ((s.setGrp g x).count o 2 w k) := by
  rw [groups_count]
  refine OnlyRegs.wrq 2 _ _ (OnlyRegs.refl _ (s.setGrp g x)) fun j hj => ?_
  have hj2 : j = 0 ∨ j = 1 := by omega
  rcases hj2 with h | h <;> simp [h]

theorem deadTrigger_counts (s : State) (g t : Nat) :
    ((s.deadTrigger g t).grp g).dead = min (2 ^ 18 - 1) ((s.grp g).dead + 1) ∧ ((s.deadTrigger g t).grp g).st = (s.grp g).st
      ∧ OnlyRegs [Reg.aqgDead g, Reg.aqgDead g + 4] { s with groups := (s.deadTrigger g t).groups } (s.deadTrigger g t) := by
  refine ⟨?_, ?_, onlyRegs_setGrp_count s g _ _ _ _⟩
  · rw [State.deadTrigger, grp_count, grp_setGrp_self, satAdd]
  · rw [State.deadTrigger, grp_count, grp_setGrp_self]

theorem earlyTrigger_counts (s : State) (g : Nat) :
    ((s.earlyTrigger g).grp g).early = min (2 ^ 18 - 1) ((s.grp g).early + 1) ∧ ((s.earlyTrigger g).grp g).st = (s.grp g).st
      ∧ OnlyRegs [Reg.aqgEarly g, Reg.aqgEarly g + 4] { s with groups := (s.earlyTrigger g).groups } (s.earlyTrigger g) := by
  refine ⟨?_, ?_, onlyRegs_setGrp_count s g _ _ _ _⟩
  · rw [State.earlyTrigger, grp_count, grp_setGrp_self, satAdd]
  · rw [State.earlyTrigger, grp_count, grp_setGrp_self]

/-- The trigger of a group that waits for one. -/
theorem groupTrigger_waiting {s : State} {g : Nat} (d : Delivery) (hm : s.gmode g ≠ 1)
    (hst : (s.grp g).st = .filling ∨ (s.grp g).st = .armed) :
    s.groupTrigger g d
      = if s.gmode g == 2 && !(s.grp g).acc.emitWait.isEmpty && s.emitAllFit g then s.deadTrigger g d.instant
        else match s.eveFor g d with
          | none => s.earlyTrigger g
          | some e => if s.noRoom g then s.fullTrigger g else s.acceptTrigger g d e.1 e.2 := by
  rcases hst with h | h
  · rw [groupTrigger_armed d (gArmed_of_st h (by decide) (by decide)) hm, h]
    rfl
  · rw [groupTrigger_armed d (gArmed_of_st h (by decide) (by decide)) hm, h]
    rfl

/-- The statement's clauses about a trigger that reaches its group, of the state in which it is taken. -/
theorem triggerClauses (g : Nat) (u : State) (d : Delivery) :
    (u.gArmed g = false ∨ u.gmode g = 1 → u.groupTrigger g d = u)
    ∧ (u.gmode g ≠ 1 → (u.grp g).st = .paused → u.groupTrigger g d = u.refusePaused g)
    ∧ (u.gmode g ≠ 1 → (u.grp g).st = .recording ∨ (u.grp g).st = .rearm → u.groupTrigger g d = u.deadTrigger g d.instant)
    ∧ (u.gmode g = 2 → (u.grp g).st = .filling ∨ (u.grp g).st = .armed → (u.grp g).acc.emitWait ≠ [] → u.emitAllFit g = true →
      u.groupTrigger g d = u.deadTrigger g d.instant)
    ∧ ((u.gmode g = 0 ∨ (u.gmode g = 2 ∧ ((u.grp g).acc.emitWait = [] ∨ u.emitAllFit g = false))) →
      (u.grp g).st = .filling ∨ (u.grp g).st = .armed →
      (u.eveFor g d = none → u.groupTrigger g d = u.earlyTrigger g)
      ∧ ∀ n short, u.eveFor g d = some (n, short) →
        (u.noRoom g = true → u.groupTrigger g d = u.fullTrigger g)
        ∧ (u.noRoom g = false → u.groupTrigger g d = u.acceptTrigger g d n short)) := by
  refine ⟨groupTrigger_ignored d, fun hm hst => ?_, fun hm hst => ?_, fun hm hst he hfit => ?_, fun hm hst => ?_⟩
  · rw [groupTrigger_armed d (gArmed_of_st hst (by decide) (by decide)) hm, if_pos hst]
  · have hbusy : ((u.grp g).st = .recording || (u.grp g).st = .rearm) = true := by
      rcases hst with h | h <;> simp [h]
    have harmed : u.gArmed g = true := by
      rcases hst with h | h
      · exact gArmed_of_st h (by decide) (by decide)
      · exact gArmed_of_st h (by decide) (by decide)
    have hpaused : (u.grp g).st ≠ .paused := by
      rcases hst with h | h <;> simp [h]
    rw [groupTrigger_armed d harmed hm, if_neg hpaused, if_pos hbusy]
  · rw [groupTrigger_waiting d (by omega) hst]
    refine if_pos ?_
    simp [hm, he, hfit]
  · have hnext : ¬ (u.gmode g == 2 && !(u.grp g).acc.emitWait.isEmpty && u.emitAllFit g) = true := by
      rcases hm with h | ⟨h, h' | h'⟩
      · simp [h]
      · simp [h']
      · simp [h']
    have hmode : u.gmode g ≠ 1 := by omega
    rw [groupTrigger_waiting d hmode hst, if_neg hnext]
    refine ⟨fun h => ?_, fun n short h => ⟨fun hr => ?_, fun hr => ?_⟩⟩
    · rw [h]
    · rw [h]
      exact if_pos hr
    · rw [h]
      exact if_neg (ne_true_of_eq_false hr)

theorem exec_groupTrigger_none {dt : Nat} {g : Fin 32} {s : State} (h : takeFor (.group g) (s.start dt).fabric = none) :
    exec (.groupTrigger dt g) s = .next (s.start dt) := by
  change execGroupTrigger dt g s = _
  rw [execGroupTrigger]
  simp only [h]

theorem exec_groupTrigger_some {dt : Nat} {g : Fin 32} {s : State} {d : Delivery} {rest : List Delivery}
    (h : takeFor (.group g) (s.start dt).fabric = some (d, rest)) :
    exec (.groupTrigger dt g) s = .next (({ s.start dt with fabric := rest } : State).groupTrigger g d) := by
  change execGroupTrigger dt g s = _
  rw [execGroupTrigger]
  simp only [h]

/-! ### Progress of a group (R131, R142, R145) -/

theorem exec_eveFilled (dt : Nat) (g : Fin 32) (s : State) : exec (.eveFilled dt g) s = .next ((s.start dt).fillCheck g) := by
  rfl

theorem exec_segmentBoundary_idle {dt : Nat} {g : Fin 32} {s : State} (samples : List (List Int))
    (h : ((s.start dt).grp g).cur = none) :
    exec (.segmentBoundary dt g samples) s = .next ((s.start dt).countRefused g ((s.start dt).ep + 1)) := by
  change execSegmentBoundary dt g samples s = _
  rw [execSegmentBoundary]
  simp only [h]

theorem exec_recordCaptureEnd_idle {dt : Nat} {g : Fin 32} {s : State} (samples : List (List Int))
    (h : ((s.start dt).grp g).cur = none) : exec (.recordCaptureEnd dt g samples) s = .next (s.start dt) := by
  change execRecordCaptureEnd dt g samples s = _
  rw [execRecordCaptureEnd]
  simp only [h]

theorem exec_segmentBoundary_early {dt : Nat} {g : Fin 32} {s : State} {c : Cur} (samples : List (List Int))
    (h : ((s.start dt).grp g).cur = some c) (hc : (s.start dt).captured g c = false) :
    exec (.segmentBoundary dt g samples) s = .next (s.start dt) := by
  change execSegmentBoundary dt g samples s = _
  rw [execSegmentBoundary]
  simp only [h, hc, Bool.false_eq_true, and_false, if_false]

theorem exec_recordCaptureEnd_early {dt : Nat} {g : Fin 32} {s : State} {c : Cur} (samples : List (List Int))
    (h : ((s.start dt).grp g).cur = some c) (hc : (s.start dt).captured g c = false) :
    exec (.recordCaptureEnd dt g samples) s = .next (s.start dt) := by
  change execRecordCaptureEnd dt g samples s = _
  rw [execRecordCaptureEnd]
  simp only [h, hc, Bool.not_false, or_true, if_true]

/-- The state in which the samples of a segment or record are taken, and what was taken. -/
def samplesTaken (v : State) (g t eve : Nat) (samples : List (List Int)) : State × Captured :=
  (v.settlePorts g).takeSamples g t eve samples

theorem exec_segmentBoundary_due {dt : Nat} {g : Fin 32} {s w : State} {c : Cur} {d : Captured} {samples : List (List Int)}
    (h : ((s.start dt).grp g).cur = some c) (hm : (s.start dt).gmode g = 1) (hc : (s.start dt).captured g c = true)
    (hw : samplesTaken (s.start dt) g c.trig 0 samples = (w, d)) :
    (∀ p, w.refuser g (some (w.dataRec g c d)) = some p →
      exec (.segmentBoundary dt g samples) s = .next (w.granuleRefused g p false))
    ∧ (w.refuser g (some (w.dataRec g c d)) = none → exec (.segmentBoundary dt g samples) s
      = .next ((w.segmentCaptured g (w.dataRec g c d) ((s.start dt).curEnd g c)).nextSegment g ((s.start dt).curEnd g c))) := by
  rw [samplesTaken] at hw
  change (∀ p, _ → execSegmentBoundary dt g samples s = _) ∧ (_ → execSegmentBoundary dt g samples s = _)
  rw [execSegmentBoundary]
  simp only [h, hm, hc, hw, and_self, if_true]
  refine ⟨fun p hp => ?_, fun hp => ?_⟩
  · rw [hp]
  · rw [hp]

theorem exec_recordCaptureEnd_due {dt : Nat} {g : Fin 32} {s w : State} {c : Cur} {d : Captured} {samples : List (List Int)}
    (h : ((s.start dt).grp g).cur = some c) (hm : (s.start dt).gmode g ≠ 1) (hc : (s.start dt).captured g c = true)
    (hw : samplesTaken (s.start dt) g c.trig c.eveAct samples = (w, d)) :
    (∀ p, w.refuser g (if (s.start dt).gmode g = 2 then none else some (w.dataRec g c d)) = some p →
      exec (.recordCaptureEnd dt g samples) s = .next (w.granuleRefused g p false))
    ∧ ∀ x, x = (if (s.start dt).gmode g = 2 then w.sumCaptured g c d ((s.start dt).curEnd g c)
          else w.dataCaptured g c d (w.dataRec g c d) ((s.start dt).curEnd g c)) →
      w.refuser g (if (s.start dt).gmode g = 2 then none else some (w.dataRec g c d)) = none →
      ((x.grp g).disarming = false → exec (.recordCaptureEnd dt g samples) s = .next x)
      ∧ ((x.grp g).disarming = true → exec (.recordCaptureEnd dt g samples) s = .next (x.finishDisarm g)) := by
  rw [samplesTaken] at hw
  change (∀ p, _ → execRecordCaptureEnd dt g samples s = _)
    ∧ ∀ x, _ → _ → (_ → execRecordCaptureEnd dt g samples s = _) ∧ (_ → execRecordCaptureEnd dt g samples s = _)
  rw [execRecordCaptureEnd]
  simp only [h, hm, hc, hw, Bool.not_true, Bool.false_eq_true, or_self, if_false]
  refine ⟨fun p hp => ?_, ?_⟩
  · rw [hp]
  · rintro x rfl hp
    rw [hp]
    exact ⟨fun hd => congrArg Host.Outcome.next (if_neg (ne_true_of_eq_false hd)),
      fun hd => congrArg Host.Outcome.next (if_pos hd)⟩

theorem exec_rearmEnd (dt : Nat) (g : Fin 32) (s : State) : exec (.rearmEnd dt g) s
    = if (s.start dt).rearmOver g ∧ !((s.start dt).grp g).pauses.any (fun p => p.cause == 1) then
        (if ((s.start dt).grp g).pauses.any (fun p => p.cause == 23) then .next ((s.start dt).rearmGap g 23)
         else if ((s.start dt).grp g).st = .rearm then .next ((s.start dt).rearmDone g) else .next (s.start dt))
      else .next (s.start dt) := by
  rfl

theorem fillCheck_armed {s : State} {g : Nat} (hst : (s.grp g).st = .filling) (he : s.eveReq g ≤ s.eveV g)
    (hr : s.gNotReady g = false) : s.fillCheck g = s.setGrp g { (s.grp g) with st := .armed, able := s.ep } :=
  if_pos ⟨hst, he, by rw [hr]; rfl⟩

theorem fillCheck_waits {s : State} {g : Nat} (h : (s.grp g).st ≠ .filling ∨ s.eveV g < s.eveReq g ∨ s.gNotReady g = true) :
    s.fillCheck g = s := by
  refine if_neg ?_
  rintro ⟨hst, he, hr⟩
  rcases h with h | h | h
  · exact h hst
  · omega
  · rw [h] at hr
    cases hr

theorem any_cause_either (l : List Pause) (h : l.any (fun p => p.cause == 1 || p.cause == 23) = false) :
    l.any (fun p => p.cause == 1) = false ∧ l.any (fun p => p.cause == 23) = false := by
  simp only [List.any_eq_false, Bool.or_eq_true, not_or] at h
  simp only [List.any_eq_false]
  exact ⟨fun p hp => (h p hp).1, fun p hp => (h p hp).2⟩

/-- The statement's clauses about re-arm. -/
theorem rearmClauses (dt : Nat) (g : Fin 32) (s v : State) (hv : v = s.start dt) :
    (v.rearmOver g = true → (v.grp g).pauses = [] → (v.grp g).st = .rearm → exec (.rearmEnd dt g) s = .next (v.rearmDone g))
    ∧ (v.rearmOver g = true → (v.grp g).pauses.any (fun p => p.cause == 1) = false →
      (v.grp g).pauses.any (fun p => p.cause == 23) = true → exec (.rearmEnd dt g) s = .next (v.rearmGap g 23))
    ∧ (v.rearmOver g = false ∨ (v.grp g).pauses.any (fun p => p.cause == 1) = true → exec (.rearmEnd dt g) s = .next v)
    ∧ ((v.grp g).pauses.any (fun p => p.cause == 1 || p.cause == 23) = false → (v.grp g).st ≠ .rearm →
      exec (.rearmEnd dt g) s = .next v) := by
  subst hv
  rw [exec_rearmEnd]
  generalize s.start dt = v
  refine ⟨fun ho hp hst => ?_, fun ho h1 h23 => ?_, fun h => ?_, fun h hst => ?_⟩
  · rw [hp, if_pos ⟨ho, rfl⟩, if_pos hst]
    rfl
  · rw [if_pos ⟨ho, by rw [h1]; rfl⟩, if_pos h23]
  · refine if_neg ?_
    rintro ⟨ho, h1⟩
    rcases h with h | h
    · exact absurd (h.symm.trans ho) Bool.false_ne_true
    · rw [h] at h1
      cases h1
  · obtain ⟨-, h23⟩ := any_cause_either _ h
    rw [h23, if_neg Bool.false_ne_true, if_neg hst, ite_self]

/-- Settles O24, by the state of the group at the trigger and by what it has captured. -/
theorem groupTriggersAndProgress : Obligations.GroupTriggersAndProgress := by
  refine ⟨?_, ?_⟩
  · rintro dt g s v u rfl
    refine ⟨exec_groupTrigger_none, ?_⟩
    rintro d rest htake rfl
    rw [exec_groupTrigger_some htake]
    generalize s.start dt = v
    obtain ⟨hignored, hpaused, hbusy, hemit, hwaiting⟩ := triggerClauses g { v with fabric := rest } d
    refine ⟨fun h => congrArg _ (hignored h), fun hm hst => ?_, fun hm hst => ?_,
      fun hm hst he hfit => congrArg _ (hemit hm hst he hfit), fun hm hst => ⟨fun he => ?_, fun n short he => ?_⟩⟩
    · rw [hpaused hm hst, State.refusePaused]
      exact ⟨_, rfl, by rw [grp_setGrp_self]; rfl, rfl⟩
    · rw [hbusy hm hst]
      exact ⟨_, rfl, deadTrigger_counts _ _ _⟩
    · rw [(hwaiting hm hst).1 he]
      exact ⟨_, rfl, earlyTrigger_counts _ _⟩
    · obtain ⟨hfull, haccept⟩ := (hwaiting hm hst).2 n short he
      exact ⟨fun h => congrArg _ (hfull h), fun h => congrArg _ (haccept h)⟩
  · rintro dt g s v rfl
    refine ⟨fun hst he hr => ?_, fun h => ?_,
      fun h => fun samples => ⟨exec_segmentBoundary_idle samples h, exec_recordCaptureEnd_idle samples h⟩,
      fun c samples h hc => ⟨exec_segmentBoundary_early samples h hc, exec_recordCaptureEnd_early samples h hc⟩,
      fun c samples w d h hm hc hw => exec_segmentBoundary_due h hm hc hw,
      fun c samples w d h hm hc hw => exec_recordCaptureEnd_due h hm hc hw, rearmClauses dt g s _ rfl⟩
    · rw [exec_eveFilled, fillCheck_armed hst he hr]
      exact ⟨_, rfl, by rw [grp_setGrp_self], by rw [grp_setGrp_self], rfl⟩
    · rw [exec_eveFilled, fillCheck_waits h]

/-! ### The ends of holds and pauses (R139, R149, R150) -/

theorem exec_partitionFullEnd (dt : Nat) (g : Fin 32) (s : State) : exec (.partitionFullEnd dt g) s
    = if ((s.start dt).grp g).isFull then
        (if (s.start dt).gmode g = 2 then
          .next (if (((s.start dt).tryEmit g 8).grp g).acc.emitWait.isEmpty then
            (if ((((s.start dt).tryEmit g 8).endHold g 2).grp g).disarming then
              (((s.start dt).tryEmit g 8).endHold g 2).finishDisarm g else ((s.start dt).tryEmit g 8).endHold g 2)
            else (s.start dt).tryEmit g 8)
        else if (s.start dt).fits g then .next ((s.start dt).endHold g 2) else .next (s.start dt))
      else .next (s.start dt) := by
  rfl

theorem exec_bandwidthGapEnd (dt : Nat) (g : Fin 32) (s : State) : exec (.bandwidthGapEnd dt g) s
    = if ((s.start dt).grp g).pauses.any (fun p => p.cause == 1) then
        (if (s.start dt).gmode g = 1 then
          (if (s.start dt).segTokens g then .next ((s.start dt).endHold g 1) else .next (s.start dt))
        else if (s.start dt).rearmOver g then .next ((s.start dt).rearmGap g 1) else .next (s.start dt))
      else .next (s.start dt) := by
  rfl

theorem exec_pauseEnd (dt : Nat) (g : Fin 32) (s : State) : exec (.pauseEnd dt g) s = .next ((s.start dt).endPauses g) := by
  rfl

theorem exec_aqgIrqGapExpiry (dt : Nat) (g : Fin 32) (s : State) : exec (.aqgIrqGapExpiry dt g) s
    = if ((s.start dt).grp g).irqHeld then .next ((s.start dt).groupMsg g) else .next (s.start dt) := by
  rfl

/-- The statement's clauses about a group that was full. -/
theorem fullEndClauses (dt : Nat) (g : Fin 32) (s v : State) (hv : v = s.start dt) :
    ((v.grp g).isFull = true → v.gmode g ≠ 2 → v.fits g = true → exec (.partitionFullEnd dt g) s = .next (v.endHold g 2))
    ∧ ((v.grp g).isFull = true → v.gmode g = 2 → ((v.tryEmit g 8).grp g).acc.emitWait = [] →
      ∃ w, w = (v.tryEmit g 8).endHold g 2 ∧ ((w.grp g).disarming = false → exec (.partitionFullEnd dt g) s = .next w)
        ∧ ((w.grp g).disarming = true → exec (.partitionFullEnd dt g) s = .next (w.finishDisarm g)))
    ∧ ((v.grp g).isFull = true → v.gmode g = 2 → ((v.tryEmit g 8).grp g).acc.emitWait ≠ [] →
      exec (.partitionFullEnd dt g) s = .next (v.tryEmit g 8))
    ∧ ((v.grp g).isFull = false ∨ (v.gmode g ≠ 2 ∧ v.fits g = false) → exec (.partitionFullEnd dt g) s = .next v) := by
  subst hv
  rw [exec_partitionFullEnd]
  generalize s.start dt = v
  refine ⟨fun hf hm hfit => ?_, fun hf hm he => ⟨_, rfl, fun hd => ?_, fun hd => ?_⟩, fun hf hm he => ?_, fun h => ?_⟩
  · rw [if_pos hf, if_neg hm, if_pos hfit]
  · rw [if_pos hf, if_pos hm, if_pos (List.isEmpty_iff.mpr he), if_neg (ne_true_of_eq_false hd)]
  · rw [if_pos hf, if_pos hm, if_pos (List.isEmpty_iff.mpr he), if_pos hd]
  · rw [if_pos hf, if_pos hm, if_neg (fun h => he (List.isEmpty_iff.mp h))]
  · rcases h with h | ⟨hm, hfit⟩
    · rw [if_neg (ne_true_of_eq_false h)]
    · rw [if_neg hm, if_neg (ne_true_of_eq_false hfit), ite_self]

/-- The statement's clauses about a group that lost records to bandwidth. -/
theorem bandwidthEndClauses (dt : Nat) (g : Fin 32) (s v : State) (hv : v = s.start dt) :
    ((v.grp g).pauses.any (fun p => p.cause == 1) = true → v.gmode g = 1 → v.segTokens g = true →
      exec (.bandwidthGapEnd dt g) s = .next (v.endHold g 1))
    ∧ ((v.grp g).pauses.any (fun p => p.cause == 1) = true → v.gmode g ≠ 1 → v.rearmOver g = true →
      exec (.bandwidthGapEnd dt g) s = .next (v.rearmGap g 1))
    ∧ ((v.grp g).pauses.any (fun p => p.cause == 1) = false ∨ (v.gmode g = 1 ∧ v.segTokens g = false)
        ∨ (v.gmode g ≠ 1 ∧ v.rearmOver g = false) → exec (.bandwidthGapEnd dt g) s = .next v) := by
  subst hv
  rw [exec_bandwidthGapEnd]
  generalize s.start dt = v
  refine ⟨fun hp hm ht => ?_, fun hp hm ho => ?_, fun h => ?_⟩
  · rw [if_pos hp, if_pos hm, if_pos ht]
  · rw [if_pos hp, if_neg hm, if_pos ho]
  · rcases h with h | ⟨hm, ht⟩ | ⟨hm, ho⟩
    · rw [if_neg (ne_true_of_eq_false h)]
    · rw [if_pos hm, if_neg (ne_true_of_eq_false ht), ite_self]
    · rw [if_neg hm, if_neg (ne_true_of_eq_false ho), ite_self]

/-! ### The message gap (R163) -/

/-- The message of a group as it goes out. -/
def messageSent (s : State) (g : Nat) : State :=
  (s.signal (8 + g)).setGrp g { (s.grp g) with lastMsg := some s.cyc, irqHeld := false }

theorem groupMsg_sent {s : State} {g : Nat} (h : ∀ t, (s.grp g).lastMsg = some t → t + s.actf (Reg.aqgIrqGap g) 15 0 ≤ s.cyc) :
    s.groupMsg g = messageSent s g := by
  rw [State.groupMsg]
  split
  · next t ht => exact if_neg (Nat.not_lt.mpr (h t ht))
  · rfl

theorem groupMsg_held {s : State} {g : Nat}
    (h : ∃ t, (s.grp g).lastMsg = some t ∧ s.cyc < t + s.actf (Reg.aqgIrqGap g) 15 0) :
    s.groupMsg g = s.setGrp g { (s.grp g) with irqHeld := true } := by
  obtain ⟨t, ht, hlt⟩ := h
  rw [State.groupMsg]
  split
  · next t' ht' =>
    obtain rfl : t = t' := Option.some.inj (ht.symm.trans ht')
    exact if_pos hlt
  · next hnone => cases ht.symm.trans hnone

theorem signal_delivered {s : State} {n : Nat} (hm : s.msixOn = true) (hd : s.deliverable n = true) (ho : s.out = []) :
    s.signal n = s.emit (.msix n) := by
  rw [State.signal, hm, hd, ho]
  rfl

/-! ### A refused granule (R149, R203) -/

theorem exec_captureGranuleRefused (dt : Nat) (g : Fin 32) (p : Fin 16) (queueFull ring : Bool) (s : State) :
    exec (.captureGranuleRefused dt g p ⟨queueFull, ring⟩) s
    = if (s.start dt).gArmed g ∧ ((s.start dt).gbanks g).contains p.val
          ∧ (if queueFull then (s.start dt).queueFull p else ((s.start dt).refusedPorts g).contains p.val) = true then
        (if ring then (if (s.start dt).ringWrites g then .next ((s.start dt).ringRefused g p queueFull) else .next (s.start dt))
        else if (s.start dt).portRecord g then .next ((s.start dt).granuleRefused g p queueFull) else .next (s.start dt))
      else .next (s.start dt) := by
  rfl

theorem of_groupsAndEpoch {s t : State} (h : Frame.groupsAndEpoch s = Frame.groupsAndEpoch t) :
    (∀ g, s.grp g = t.grp g) ∧ s.ep = t.ep := by
  obtain ⟨hgroups, hep⟩ := Prod.mk.inj h
  exact ⟨fun g => congrArg (fun l => tget l Group.idle g) hgroups, hep⟩

theorem groupsAndEpoch_short (s : State) (l : List Nat) :
    Frame.groupsAndEpoch { s with short := l } = Frame.groupsAndEpoch s := rfl

theorem groupsAndEpoch_settleTok (s : State) (k : Nat) : Frame.groupsAndEpoch (s.settleTok k) = Frame.groupsAndEpoch s :=
  Frame.settleTok_keep (p := Frame.groupsAndEpoch) (fun _ _ _ => rfl) s k

theorem groupsAndEpoch_countFld (s : State) (o hi lo k : Nat) :
    Frame.groupsAndEpoch (s.countFld o hi lo k) = Frame.groupsAndEpoch s :=
  Frame.countFld_keep Frame.faultBlind_groupsAndEpoch.blind s o hi lo k

/-- BANDWIDTH is a source that does not escalate at once. -/
theorem groupsAndEpoch_bandwidth (s : State) (banks : Nat) : Frame.groupsAndEpoch (s.fault 21 banks) = Frame.groupsAndEpoch s :=
  Frame.fault_keep Frame.faultBlind_groupsAndEpoch s banks (by decide)

theorem groupsAndEpoch_countRefusal (s : State) (port : Nat) (queueFull : Bool) :
    Frame.groupsAndEpoch (s.countRefusal port queueFull) = Frame.groupsAndEpoch s := by
  rw [State.countRefusal, groupsAndEpoch_bandwidth, groupsAndEpoch_countFld, groupsAndEpoch_short, groupsAndEpoch_settleTok]

/-- A refused granule of the Eve ring starts the Eve history over. -/
theorem ringRefused_restarts (s : State) (g port : Nat) (queueFull : Bool) :
    ((s.ringRefused g port queueFull).grp g).fillFrom = s.ep
      ∧ ((s.grp g).st = .armed → ((s.ringRefused g port queueFull).grp g).st = .filling) := by
  obtain ⟨hgrp, hep⟩ := of_groupsAndEpoch (groupsAndEpoch_countRefusal s port queueFull)
  rw [State.ringRefused, grp_setGrp_self]
  refine ⟨hep, fun hst => if_pos ?_⟩
  rw [hgrp, hst]

/-- The statement's clause about a granule that is not refused. -/
theorem granule_passes (dt : Nat) (g : Fin 32) (s v : State) (hv : v = s.start dt) (p : Fin 16) (queueFull ring : Bool)
    (h : v.gArmed g = false ∨ (v.gbanks g).contains p.val = false
        ∨ (if queueFull then v.queueFull p else (v.refusedPorts g).contains p.val) = false
        ∨ (if ring then v.ringWrites g else v.portRecord g) = false) :
    exec (.captureGranuleRefused dt g p ⟨queueFull, ring⟩) s = .next v := by
  subst hv
  rw [exec_captureGranuleRefused]
  generalize s.start dt = v at *
  rcases h with h | h | h | h
  · exact if_neg fun ⟨harmed, _⟩ => Bool.false_ne_true (h.symm.trans harmed)
  · exact if_neg fun ⟨_, hbank, _⟩ => Bool.false_ne_true (h.symm.trans hbank)
  · exact if_neg fun ⟨_, _, hfull⟩ => Bool.false_ne_true (h.symm.trans hfull)
  · cases ring with
    | true =>
      have hring : v.ringWrites g = false := h
      rw [if_pos rfl, if_neg (ne_true_of_eq_false hring), ite_self]
    | false =>
      have hrec : v.portRecord g = false := h
      rw [if_neg Bool.false_ne_true, if_neg (ne_true_of_eq_false hrec), ite_self]

/-- Settles O25, by what each hold waits for, by the gap of the message, and by what a refused granule belongs to. -/
theorem groupGaps : Obligations.GroupGaps := by
  rintro dt g s v rfl
  obtain ⟨hfull1, hfull2, hfull3, hfull4⟩ := fullEndClauses dt g s _ rfl
  obtain ⟨hband1, hband2, hband3⟩ := bandwidthEndClauses dt g s _ rfl
  refine ⟨hfull1, hfull2, hfull3, hfull4, hband1, hband2, hband3, exec_pauseEnd dt g s, fun hi => ?_, fun hi hgap => ?_,
    fun hi hgap => ?_, fun p queueFull ring h => granule_passes dt g s _ rfl p queueFull ring h,
    fun hi hon hdel hout hgap => ?_, fun p queueFull harmed hbank href => ⟨?_, fun hring => ?_⟩⟩
  · rw [exec_aqgIrqGapExpiry, if_neg (ne_true_of_eq_false hi)]
  · rw [exec_aqgIrqGapExpiry, if_pos hi, groupMsg_sent hgap]
    rfl
  · rw [exec_aqgIrqGapExpiry, if_pos hi, groupMsg_held hgap]
    exact ⟨_, rfl, rfl, by rw [grp_setGrp_self], rfl⟩
  · rw [exec_aqgIrqGapExpiry, if_pos hi, groupMsg_sent hgap, messageSent, signal_delivered hon hdel hout]
    generalize s.start dt = v at *
    refine ⟨_, rfl, ?_, by rw [grp_setGrp_self], by rw [grp_setGrp_self], rfl⟩
    rw [State.emit, hout]
    rfl
  · rintro hrec w rfl
    rw [exec_captureGranuleRefused, if_pos ⟨harmed, hbank, href⟩, if_neg Bool.false_ne_true, if_pos hrec, State.granuleRefused]
    exact ⟨fun hst => congrArg _ (if_pos hst), fun hst => congrArg _ (if_neg hst)⟩
  · rw [exec_captureGranuleRefused, if_pos ⟨harmed, hbank, href⟩, if_pos rfl, if_pos hring]
    exact ⟨_, rfl, ringRefused_restarts _ g p queueFull⟩

/-! ### The release by STEWARD (R138) -/

theorem exec_stewardRelease (dt : Nat) (g : Fin 32) (s : State) :
    exec (.stewardRelease dt g) s = .next ((s.start dt).doRelease g) := by
  rfl

theorem doRelease_undefined {s : State} {g : Nat} (h : (s.gcfg g).isSome = false) : s.doRelease g = s := by
  refine if_pos ?_
  rw [Option.isNone_iff_eq_none, ← Option.not_isSome_iff_eq_none, h]
  exact Bool.false_ne_true

theorem doRelease_defined {s : State} {g : Nat} (h : (s.gcfg g).isSome = true) :
    s.doRelease g = if s.releasesHeld then { s with heldSteward := s.heldSteward ++ [g] } else s.serveSteward g := by
  refine if_neg ?_
  rw [Option.isNone_iff_eq_none]
  exact Option.isSome_iff_ne_none.mp h

theorem serveSteward_refused {s : State} {g : Nat}
    (h : s.rdq (Reg.aqgRelLast g) 3 % 2 ^ 72 < s.rdq (Reg.aqgRelFirst g) 3 % 2 ^ 72
      ∨ (s.part (s.gpart g)).seq ≤ s.rdq (Reg.aqgRelLast g) 3 % 2 ^ 72
      ∨ s.release (s.gpart g) (s.rdq (Reg.aqgRelFirst g) 3 % 2 ^ 72) (s.rdq (Reg.aqgRelLast g) 3 % 2 ^ 72) = none) :
    s.serveSteward g = s.setBit (Reg.aqgRelCtl g) 2 true := by
  rw [State.serveSteward]
  split
  · rfl
  · next hr =>
    rcases h with h | h | h
    · exact absurd (.inl h) hr
    · exact absurd (.inr h) hr
    · rw [h]

theorem serveSteward_taken {s w : State} {g : Nat}
    (hlo : s.rdq (Reg.aqgRelFirst g) 3 % 2 ^ 72 ≤ s.rdq (Reg.aqgRelLast g) 3 % 2 ^ 72)
    (hhi : s.rdq (Reg.aqgRelLast g) 3 % 2 ^ 72 < (s.part (s.gpart g)).seq)
    (h : s.release (s.gpart g) (s.rdq (Reg.aqgRelFirst g) 3 % 2 ^ 72) (s.rdq (Reg.aqgRelLast g) 3 % 2 ^ 72) = some w) :
    s.serveSteward g = w.setBit (Reg.aqgRelCtl g) 1 true := by
  rw [State.serveSteward]
  rw [if_neg (fun hc => by omega), h]

/-- Settles O26, by the range and by what the ledger does with it. -/
theorem stewardReleases : Obligations.StewardReleases := by
  rintro dt g s v rfl
  rw [exec_stewardRelease]
  generalize s.start dt = v
  refine ⟨fun hc => ?_, fun hc hh => ?_, fun hc hh h => ?_, fun w hc hh hlo hhi h => ?_⟩
  · rw [doRelease_undefined hc]
  · rw [doRelease_defined hc, if_pos hh]
  · rw [doRelease_defined hc, if_neg (ne_true_of_eq_false hh), serveSteward_refused h]
    exact ⟨_, rfl, (OnlyRegs.refl _ _).setBit (by simp) 2 true, State.bit_setBit_self _ true (by decide)⟩
  · rw [doRelease_defined hc, if_neg (ne_true_of_eq_false hh), serveSteward_taken hlo hhi h]

end Sys2Proof.Proofs.Groups

/-! Proofs of the statements of chapters 07 and 08: filters, accumulation and histograms (R166 to R191). -/

namespace Sys2Proof.Proofs.Filters

open Sys2Proof Sys2Proof.Machine

/-! ### BNK_FLT (R166) -/

theorem exec_bnkFltWrite (dt : Nat) (rq : Requester) (b c : Fin 16) (w : Word) (s : State) :
    exec (.bnkFltWrite dt rq b c w) s = (s.start dt).hostWrite rq (Reg.bnkFlt b c) (fun s =>
      if s.live (16 * b.val + c.val) then guardReserved (fld w 31 25 != 0) (s.doFltWrite b c w) else .next s) := by
  rfl

theorem bnkFlt_apart (b c : Fin 16) : (∀ k < 4, Reg.bnkFlt b c ≠ Reg.memSr k) ∧ (∀ j < 16, Reg.bnkFlt b c ≠ Reg.bnkConvStatus j)
    ∧ Reg.bnkFlt b c ≠ Reg.bnkFltStatus b := by
  rw [Reg.bnkFlt, Reg.bnkFltStatus]
  refine ⟨fun k hk => ?_, fun j hj => ?_, by omega⟩
  · rw [Reg.memSr]
    omega
  · rw [Reg.bnkConvStatus]
    omega

theorem get_bnkFlt_accessDemand (s : State) (rq : Requester) (b c : Fin 16) :
    (s.accessDemand rq).get (Reg.bnkFlt b c) = s.get (Reg.bnkFlt b c) := by
  obtain ⟨hsr, hconv, -⟩ := bnkFlt_apart b c
  exact Frame.accessDemand_keep (p := fun s => s.get (Reg.bnkFlt b c)) (Frame.get_demandExit hsr hconv) s rq

/-- The status of a write that is refused: the flag, the channel, and why. -/
def fltRefused (s : State) (b c y : Nat) : State :=
  ((s.setBit (Reg.bnkFltStatus b) 0 true).wr (Reg.bnkFltStatus b) 7 4 c).wr (Reg.bnkFltStatus b) 9 8 y

theorem writeFlt_refused {s : State} {b c y : Nat} {w : Word} (h : s.fltWhy b c w = some y) :
    s.writeFlt b c w = fltRefused s b c y := by
  rw [State.writeFlt, h]
  rfl

theorem handLooseChan_grouped {s : State} {c : Nat} (h : s.groupOfChan c ≠ none) : s.handLooseChan c = s := by
  refine if_neg ?_
  rw [Option.isNone_eq_false_iff.mpr (Option.isSome_iff_ne_none.mpr h), Bool.and_false]
  exact Bool.false_ne_true

theorem mem_recheckHand (s : State) (g : Nat) : (s.recheckHand g).mem = s.mem := by
  rw [State.recheckHand]
  split
  · rfl
  · rfl

theorem shown_fltRefused (s : State) (b : Nat) {c y : Nat} (hc : c < 16) (hy : y < 4) :
    (fltRefused s b c y).bit (Reg.bnkFltStatus b) 0 = true ∧ (fltRefused s b c y).rd (Reg.bnkFltStatus b) 7 4 = c
      ∧ (fltRefused s b c y).rd (Reg.bnkFltStatus b) 9 8 = y := by
  rw [fltRefused]
  refine ⟨?_, ?_, ?_⟩
  · rw [State.bit_wr_apart _ (by decide) (by decide) (by decide), State.bit_wr_apart _ (by decide) (by decide) (by decide),
      State.bit_setBit_self _ _ (by decide)]
  · rw [State.rd_wr_apart _ (by decide) (by decide) (by decide), State.rd_wr_self _ (by decide) (by decide)]
    exact Nat.mod_eq_of_lt hc
  · rw [State.rd_wr_self _ (by decide) (by decide)]
    exact Nat.mod_eq_of_lt hy

theorem gchans_put (s : State) (o : Nat) (w : Word) (g : Nat) : (s.put o w).gchans g = s.gchans g := rfl

theorem gcfg_put (s : State) (o : Nat) (w : Word) (g : Nat) : (s.put o w).gcfg g = s.gcfg g := rfl

theorem groupOfChan_put (s : State) (o : Nat) (w : Word) (c : Nat) : (s.put o w).groupOfChan c = s.groupOfChan c := by
  simp only [State.groupOfChan, State.enabledGroups, gchans_put, gcfg_put]

theorem groupOfChan_wr (s : State) (o hi lo v c : Nat) : (s.wr o hi lo v).groupOfChan c = s.groupOfChan c :=
  groupOfChan_put s o _ c

theorem groupOfChan_fltRefused (s : State) (b c y ch : Nat) : (fltRefused s b c y).groupOfChan ch = s.groupOfChan ch := by
  rw [fltRefused, groupOfChan_wr, groupOfChan_wr, State.setBit, groupOfChan_wr]

/-- A refused write of a channel of a group leaves the status and nothing else of the registers. -/
theorem doFltWrite_refused {s : State} {b c y : Nat} {w : Word} (h : s.fltWhy b c w = some y)
    (hg : s.groupOfChan (16 * b + c) ≠ none) : (s.doFltWrite b c w).mem = (fltRefused s b c y).mem := by
  have hloose : (fltRefused s b c y).handLooseChan (16 * b + c) = fltRefused s b c y :=
    handLooseChan_grouped (by rwa [groupOfChan_fltRefused])
  unfold State.doFltWrite
  simp only [writeFlt_refused h, hloose]
  generalize fltRefused s b c y = t
  split
  · exact mem_recheckHand _ _
  · rfl

theorem get_fltRefused {s : State} {b o : Nat} (c y : Nat) (h : o ≠ Reg.bnkFltStatus b) :
    (fltRefused s b c y).get o = s.get o := by
  rw [fltRefused, State.get_wr_ne _ _ _ _ h, State.get_wr_ne _ _ _ _ h, State.get_setBit_ne _ _ _ h]

/-! ### Saturation counts (R177) -/

theorem exec_filterPrimed (dt : Nat) (b c : Fin 16) (s : State) : exec (.filterPrimed dt b c) s
    = if (s.start dt).primed b c then
        match (s.start dt).groupOfChan (16 * b.val + c.val) with
        | some g => .next (((s.start dt).endPauses g).fillCheck g)
        | none => .next (s.start dt)
      else .next (s.start dt) := by
  rfl

theorem exec_clrSat (dt : Nat) (b : Fin 16) (s : State) : exec (.clrSat dt b) s = .next ((s.start dt).clearSat b) := by
  rfl

/-- Words written one after the other: those named are 0, the others as they were. -/
theorem onlyRegs_forAll_put {os : List Nat} (f : Nat → Nat) (l : List Nat) (hf : ∀ a ∈ l, f a ∈ os) {s t : State}
    (h : OnlyRegs os s t) : OnlyRegs os s (t.forAll l (fun s a => s.put (f a) 0)) := by
  rw [State.forAll]
  induction l generalizing t with
  | nil => exact h
  | cons a l ih => exact ih (fun b hb => hf b (List.mem_cons_of_mem a hb)) (h.put (hf a List.mem_cons_self) 0)

theorem get_forAll_put (f : Nat → Nat) (l : List Nat) (s : State) {a : Nat} (ha : a ∈ l) :
    (s.forAll l (fun s a => s.put (f a) 0)).get (f a) = 0 := by
  have hkeep : ∀ (m : List Nat) (t : State), t.get (f a) = 0 → (t.forAll m (fun s a => s.put (f a) 0)).get (f a) = 0 := by
    intro m
    induction m with
    | nil => exact fun t ht => ht
    | cons b m ih =>
      refine fun t ht => ih _ ?_
      by_cases hb : f a = f b
      · rw [hb, State.get_put_self]
      · rw [State.get_put_ne _ _ hb, ht]
  rw [State.forAll]
  induction l generalizing s with
  | nil => cases ha
  | cons b l ih =>
    rcases List.mem_cons.mp ha with h | h
    · subst h
      exact hkeep l _ (State.get_put_self _ _ _)
    · exact ih _ h

/-- Settles O28, by the judgement of the write. -/
theorem filterCommands : Obligations.FilterCommands := by
  rintro dt b c s v rfl
  rw [exec_filterPrimed, exec_clrSat]
  refine ⟨fun rq w hreach hlive hfld => ?_, fun rq w hreach hlive hfld => ?_, fun rq w what hreach => ?_,
    fun rq w y hreach hlive hfld hwhy hy hg => ?_, fun rq w hreach hlive => ?_, fun g hp hg => ?_, fun h => ?_, ?_⟩
  · rw [exec_bnkFltWrite, Frame.hostWrite_allowed _ hreach, if_pos hlive, guardReserved, hfld]
    rfl
  · rw [exec_bnkFltWrite, Frame.hostWrite_allowed _ hreach, if_pos hlive, guardReserved, if_pos (bne_iff_ne.mpr hfld)]
  · rw [exec_bnkFltWrite, Frame.hostWrite_refused _ hreach]
  · have hmem := doFltWrite_refused hwhy hg
    obtain ⟨hflag, hchan, hy'⟩ := shown_fltRefused ((s.start dt).accessDemand rq) b c.isLt hy
    refine ⟨((s.start dt).accessDemand rq).doFltWrite b c w, ?_, ?_, ?_, ?_, ?_⟩
    · rw [exec_bnkFltWrite, Frame.hostWrite_allowed _ hreach, if_pos hlive, guardReserved, hfld]
      rfl
    · rw [State.bit, State.get, hmem]
      exact hflag
    · rw [State.rd, State.get, hmem]
      exact hchan
    · rw [State.rd, State.get, hmem]
      exact hy'
    · obtain ⟨-, -, hne⟩ := bnkFlt_apart b c
      have hkept := get_fltRefused (s := (s.start dt).accessDemand rq) c y hne
      rw [State.get, hmem]
      exact hkept.trans (get_bnkFlt_accessDemand _ rq b c)
  · rw [exec_bnkFltWrite, Frame.hostWrite_allowed _ hreach, if_neg (ne_true_of_eq_false hlive)]
  · rw [if_pos hp, hg]
  · rcases h with h | h
    · rw [if_neg (ne_true_of_eq_false h)]
    · rw [h]
      exact ite_self _
  · refine ⟨_, rfl, onlyRegs_forAll_put _ _ (fun a ha => List.mem_map.mpr ⟨a, ha, rfl⟩) (OnlyRegs.refl _ _), fun k hk => ?_⟩
    exact get_forAll_put (fun k => Reg.bnkFltSat b k) _ _ (List.mem_range.mpr hk)

/-! ### Folds and emissions (R184 to R191) -/

theorem exec_foldStart_waiting {dt g : Nat} {rest : List Nat} {s : State} (h : (s.start dt).foldQueue = g :: rest) :
    exec (.foldStart dt) s
      = if (s.start dt).foldAt = none ∧ (s.start dt).mayPass accPort ∧ (s.start dt).writable then
          .next (({ s.start dt with foldAt := some (s.start dt).now } : State).pass accPort ((s.start dt).foldGranules g))
        else .next (s.start dt) := by
  change execFoldStart dt s = _
  rw [execFoldStart]
  simp only [h]

theorem exec_foldStart_none {dt : Nat} {s : State} (h : (s.start dt).foldQueue = []) :
    exec (.foldStart dt) s = .next (s.start dt) := by
  change execFoldStart dt s = _
  rw [execFoldStart]
  simp only [h]

theorem exec_foldEnd_running {dt w g : Nat} {rest : List Nat} {s : State} (hw : (s.start dt).foldAt = some w)
    (h : (s.start dt).foldQueue = g :: rest) : exec (.foldEnd dt) s
      = if w + (s.start dt).foldTicks g ≤ (s.start dt).now ∧ 0 ≤ (s.start dt).tok accPort then
          .next (({ s.start dt with foldAt := none, foldQueue := rest } : State).foldDone g)
        else .next (s.start dt) := by
  change execFoldEnd dt s = _
  rw [execFoldEnd]
  simp only [hw, h]

theorem exec_foldEnd_idle {dt : Nat} {s : State} (h : (s.start dt).foldAt = none ∨ (s.start dt).foldQueue = []) :
    exec (.foldEnd dt) s = .next (s.start dt) := by
  change execFoldEnd dt s = _
  rw [execFoldEnd]
  split
  · next w g rest hw hq =>
    rcases h with h | h
    · cases h.symm.trans hw
    · cases h.symm.trans hq
  · rfl

theorem exec_emissionTokensReady (dt : Nat) (g : Fin 32) (s : State) : exec (.emissionTokensReady dt g) s
    = if ((s.start dt).grp g).acc.emitWait.isEmpty then .next (s.start dt)
      else .next (if (((s.start dt).tryEmit g 8).grp g).disarming then ((s.start dt).tryEmit g 8).finishDisarm g
        else (s.start dt).tryEmit g 8) := by
  rfl

theorem exec_accFlush (dt : Nat) (g : Fin 32) (s : State) : exec (.accFlush dt g) s = .next ((s.start dt).doFlush g) := by
  rfl

theorem exec_histEmit (dt : Nat) (g : Fin 32) (s : State) : exec (.histEmit dt g) s = .next ((s.start dt).doHistEmit g) := by
  rfl

theorem doFlush_between {s : State} {g : Nat} (hm : s.gmode g = 2) (ha : s.gArmed g = true) (hc : (s.grp g).cur = none)
    (hs : (s.grp g).acc.staged = none) : s.doFlush g = s.emitSum g := by
  rw [State.doFlush, if_pos ⟨hm, ha⟩, hc, hs]
  exact if_pos ⟨rfl, rfl⟩

theorem doFlush_waits {s : State} {g : Nat} (hm : s.gmode g = 2) (ha : s.gArmed g = true)
    (h : (s.grp g).cur ≠ none ∨ (s.grp g).acc.staged ≠ none) :
    s.doFlush g = s.setGrp g { (s.grp g) with acc := { (s.grp g).acc with flush := true } } := by
  rw [State.doFlush, if_pos ⟨hm, ha⟩, if_neg]
  rintro ⟨hc, hs⟩
  rcases h with h | h
  · exact h (Option.isNone_iff_eq_none.mp hc)
  · exact h (Option.isNone_iff_eq_none.mp hs)

theorem doFlush_ignored {s : State} {g : Nat} (h : s.gmode g ≠ 2 ∨ s.gArmed g = false) : s.doFlush g = s := by
  refine if_neg ?_
  rintro ⟨hm, ha⟩
  rcases h with h | h
  · exact h hm
  · exact absurd (h.symm.trans ha) Bool.false_ne_true

/-- The statement's clauses about the commands of one group. -/
theorem accumulateClauses (dt : Nat) (g : Fin 32) (s v : State) (hv : v = s.start dt) :
    ((v.grp g).acc.emitWait ≠ [] → ((v.tryEmit g 8).grp g).disarming = false →
      exec (.emissionTokensReady dt g) s = .next (v.tryEmit g 8))
    ∧ ((v.grp g).acc.emitWait ≠ [] → ((v.tryEmit g 8).grp g).disarming = true →
      exec (.emissionTokensReady dt g) s = .next ((v.tryEmit g 8).finishDisarm g))
    ∧ ((v.grp g).acc.emitWait = [] → exec (.emissionTokensReady dt g) s = .next v)
    ∧ (v.gmode g = 2 → v.gArmed g = true → (v.grp g).cur = none → (v.grp g).acc.staged = none →
      exec (.accFlush dt g) s = .next (v.emitSum g))
    ∧ (v.gmode g = 2 → v.gArmed g = true → ((v.grp g).cur ≠ none ∨ (v.grp g).acc.staged ≠ none) →
      ∃ t, exec (.accFlush dt g) s = .next t ∧ (t.grp g).acc.flush = true ∧ (t.grp g).acc.count = (v.grp g).acc.count
        ∧ t.mem = v.mem)
    ∧ (v.gmode g ≠ 2 ∨ v.gArmed g = false → exec (.accFlush dt g) s = .next v)
    ∧ (v.gArmed g = true → exec (.histEmit dt g) s = .next (v.emitHist g))
    ∧ (v.gArmed g = false → exec (.histEmit dt g) s = .next v) := by
  subst hv
  rw [exec_emissionTokensReady, exec_accFlush, exec_histEmit]
  generalize s.start dt = v
  have hempty : (v.grp g).acc.emitWait ≠ [] → ¬ (v.grp g).acc.emitWait.isEmpty = true := fun h he => h (List.isEmpty_iff.mp he)
  refine ⟨fun he hd => ?_, fun he hd => ?_, fun he => ?_, fun hm ha hc hs => ?_, fun hm ha h => ?_, fun h => ?_, fun ha => ?_,
    fun ha => ?_⟩
  · rw [if_neg (hempty he), if_neg (ne_true_of_eq_false hd)]
  · rw [if_neg (hempty he), if_pos hd]
  · rw [if_pos (List.isEmpty_iff.mpr he)]
  · rw [doFlush_between hm ha hc hs]
  · rw [doFlush_waits hm ha h]
    exact ⟨_, rfl, by rw [Groups.grp_setGrp_self], by rw [Groups.grp_setGrp_self], rfl⟩
  · rw [doFlush_ignored h]
  · exact congrArg _ (if_pos ha)
  · exact congrArg _ (if_neg (ne_true_of_eq_false ha))

/-- Settles O29, by the queue of folds and the state of the group. -/
theorem accumulationCommands : Obligations.AccumulationCommands := by
  rintro dt s v rfl
  refine ⟨fun g rest hq ha ht hw => ?_, fun h => ?_, fun w g rest hw hq hdue ht => ?_, fun h => ?_, fun w g rest hw hq hlt => ?_,
    fun g => accumulateClauses dt g s _ rfl⟩
  · rw [exec_foldStart_waiting hq, if_pos ⟨ha, decide_eq_true ht, hw⟩]
  · cases hq : (s.start dt).foldQueue with
    | nil => exact exec_foldStart_none hq
    | cons g rest =>
      rw [exec_foldStart_waiting hq]
      refine if_neg ?_
      rintro ⟨ha, ht, hw⟩
      rcases h with h | h | h | h
      · cases h.symm.trans hq
      · exact h ha
      · exact absurd (of_decide_eq_true ht) (not_le.mpr h)
      · exact absurd (h.symm.trans hw) Bool.false_ne_true
  · rw [exec_foldEnd_running hw hq, if_pos ⟨hdue, ht⟩]
  · rcases h with h | h | h
    · exact exec_foldEnd_idle (.inl h)
    · exact exec_foldEnd_idle (.inr h)
    · cases hw : (s.start dt).foldAt with
      | none => exact exec_foldEnd_idle (.inl hw)
      | some w =>
        cases hq : (s.start dt).foldQueue with
        | nil => exact exec_foldEnd_idle (.inr hq)
        | cons g rest =>
          rw [exec_foldEnd_running hw hq]
          exact if_neg (fun ⟨_, ht⟩ => absurd ht (not_le.mpr h))
  · rw [exec_foldEnd_running hw hq]
    exact if_neg (fun ⟨hdue, _⟩ => absurd hdue (not_le.mpr hlt))

end Sys2Proof.Proofs.Filters

/-! Proofs of the statements of chapter 09: stacks and record memory (R193, R205, R208 to R215). -/

namespace Sys2Proof.Proofs.Stacks

open Sys2Proof Sys2Proof.Machine

/-! ### Training (R208, R209) -/

/-- The stack waits for its training. -/
def untrained (s : State) (k : Nat) : Bool :=
  decide (s.rd (Reg.memStatus k) 2 0 ≤ 1 ∧ !(s.stack k).failed ∧ !(s.stack k).frozen)

theorem untrained_iff (s : State) (k : Nat) : untrained s k = true
    ↔ s.rd (Reg.memStatus k) 2 0 ≤ 1 ∧ (s.stack k).failed = false ∧ (s.stack k).frozen = false := by
  simp [untrained]

/-- The stack as training that passed leaves it. -/
def trainedStack (s : State) (k : Nat) : Stack :=
  { s.stack k with
    attempts := 0
    trainTemp := if s.rd (Reg.memTemp k) 7 0 = 0x80 then none else some (signed 8 (s.rd (Reg.memTemp k) 7 0))
    pcTemp := List.replicate 32 (signed 8 (s.rd (Reg.memTemp k) 7 0)) }

/-- A training that failed, counted and raised. -/
def trainFailed (s : State) (k : Nat) : State :=
  ((s.setStack k { (s.stack k) with attempts := (s.stack k).attempts + 1 }).countFld (Reg.memTrain k) 31 16 1).fault 8 allBanks

theorem exec_stackTrained (dt : Nat) (k : Fin 4) (x : Verdict) (s : State) : exec (.stackTrained dt k x) s
    = if (s.start dt).rd (Reg.memStatus k) 2 0 ≤ 1 ∧ !((s.start dt).stack k).failed ∧ !((s.start dt).stack k).frozen then
        match x with
        | .pass => .next (((s.start dt).wr (Reg.memStatus k) 2 0 2).setStack k (trainedStack (s.start dt) k))
        | .fail => .next (if 3 ≤ ((s.start dt).stack k).attempts + 1 then (trainFailed (s.start dt) k).failStack k
            else trainFailed (s.start dt) k)
      else .next (s.start dt) := by
  rfl

theorem exec_stackTrained_trained {dt : Nat} {k : Fin 4} {s : State} (x : Verdict) (h : untrained (s.start dt) k = false) :
    exec (.stackTrained dt k x) s = .next (s.start dt) := by
  rw [exec_stackTrained]
  exact if_neg (of_decide_eq_false h)

theorem exec_stackTrained_pass {dt : Nat} {k : Fin 4} {s : State} (h : untrained (s.start dt) k = true) :
    exec (.stackTrained dt k .pass) s = .next (((s.start dt).wr (Reg.memStatus k) 2 0 2).setStack k (trainedStack (s.start dt) k)) := by
  rw [exec_stackTrained]
  exact if_pos (of_decide_eq_true h)

theorem exec_stackTrained_fail {dt : Nat} {k : Fin 4} {s : State} (h : untrained (s.start dt) k = true) :
    exec (.stackTrained dt k .fail) s = .next (if 3 ≤ ((s.start dt).stack k).attempts + 1 then
      (trainFailed (s.start dt) k).failStack k else trainFailed (s.start dt) k) := by
  rw [exec_stackTrained]
  exact if_pos (of_decide_eq_true h)

theorem stack_setStack_self (s : State) (k : Nat) (x : Stack) : (s.setStack k x).stack k = x :=
  tget_tset_self _ _ _ _

/-! ### Temperature (R193, R213) -/

/-- The registers as a reading of `c` leaves them. -/
def tempWords (s : State) (k : Nat) (c : Int) : State :=
  let s1 := s.wr (Reg.memTemp k) 7 0 (unsigned 8 c)
  let s2 := if s.rd (Reg.memTemp k) 15 8 = 0x80 ∨ signed 8 (s.rd (Reg.memTemp k) 15 8) < c then
    s1.wr (Reg.memTemp k) 15 8 (unsigned 8 c) else s1
  s2.setBit (Reg.memStatus k) 9 (85 < c)

/-- The registers and the stack as a reading of `c` leaves them. -/
def tempRead (s : State) (k : Nat) (c : Int) : State :=
  if ((tempWords s k c).stack k).trainTemp.isNone then
    (tempWords s k c).setStack k { ((tempWords s k c).stack k) with trainTemp := some c, pcTemp := List.replicate 32 c }
  else tempWords s k c

theorem exec_stackTempRead (dt : Nat) (k : Fin 4) (celsius : Int) (s : State) : exec (.stackTempRead dt k celsius) s
    = let s := s.start dt
      let c := clampI (-127) 127 celsius
      let was := signed 8 (s.rd (Reg.memTemp k) 7 0)
      let s5 := if 95 < c ∧ was ≤ 95 then (tempRead s k c).fault 13 allBanks else tempRead s k c
      .next (if 105 < c ∧ was ≤ 105 then s5.fault 14 allBanks else s5).serveReqs := by
  rfl

theorem memTemp_ne_memStatus (k : Nat) : Reg.memTemp k ≠ Reg.memStatus k := by
  rw [Reg.memTemp, Reg.memStatus]
  omega

theorem unsigned_lt (w : Nat) (c : Int) : unsigned w c < 2 ^ w := by
  have hpos : (0 : Int) < 2 ^ w := by positivity
  rw [unsigned, Int.toNat_lt (Int.emod_nonneg c hpos.ne')]
  exact_mod_cast Int.emod_lt_of_pos c hpos

theorem tempWords_shows (s : State) (k : Nat) {c : Int} :
    (tempWords s k c).rd (Reg.memTemp k) 7 0 = unsigned 8 c ∧ (tempWords s k c).bit (Reg.memStatus k) 9 = decide (85 < c) := by
  refine ⟨?_, State.bit_setBit_self _ _ (by decide)⟩
  have hlow : (s.wr (Reg.memTemp k) 7 0 (unsigned 8 c)).rd (Reg.memTemp k) 7 0 = unsigned 8 c := by
    rw [State.rd_wr_self _ (by decide) (by decide)]
    exact Nat.mod_eq_of_lt (unsigned_lt 8 c)
  rw [tempWords, State.rd_setBit_ne _ _ _ _ _ (memTemp_ne_memStatus k)]
  split
  · rw [State.rd_wr_apart _ (by decide) (by decide) (by decide), hlow]
  · exact hlow

theorem onlyRegs_tempWords (s : State) (k : Nat) (c : Int) :
    OnlyRegs [Reg.memTemp k, Reg.memStatus k] s (tempWords s k c) := by
  have h1 := (OnlyRegs.refl [Reg.memTemp k, Reg.memStatus k] s).wr (o := Reg.memTemp k) (by simp) 7 0 (unsigned 8 c)
  rw [tempWords]
  split
  · exact (h1.wr (by simp) 15 8 _).setBit (by simp) 9 _
  · exact h1.setBit (by simp) 9 _

theorem tempRead_eq (s : State) (k : Nat) (c : Int) :
    tempRead s k c = { tempWords s k c with stackTbl := (tempRead s k c).stackTbl } := by
  rw [tempRead]
  split
  · rfl
  · rfl

theorem tempRead_shows (s : State) (k : Nat) (c : Int) :
    (tempRead s k c).rd (Reg.memTemp k) 7 0 = unsigned 8 c ∧ (tempRead s k c).bit (Reg.memStatus k) 9 = decide (85 < c)
      ∧ OnlyRegs [Reg.memTemp k, Reg.memStatus k] { s with stackTbl := (tempRead s k c).stackTbl } (tempRead s k c)
      ∧ (tempRead s k c).memReqs = s.memReqs := by
  obtain ⟨htemp, hhot⟩ := tempWords_shows s k (c := c)
  have honly := onlyRegs_tempWords s k c
  have hreqs : (tempWords s k c).memReqs = s.memReqs := Frame.onlyRegs_keep (p := State.memReqs) (fun _ _ => rfl) honly
  have hmem : (tempRead s k c).mem = (tempWords s k c).mem := Frame.ite_keep rfl rfl
  refine ⟨?_, ?_, ?_, ?_⟩
  · rw [State.rd, State.get, hmem]
    exact htemp
  · rw [State.bit, State.get, hmem]
    exact hhot
  · have hboth := Frame.onlyRegs_map (f := fun t => { t with stackTbl := (tempRead s k c).stackTbl }) (fun _ _ => rfl)
      (fun _ => rfl) honly
    rwa [← tempRead_eq] at hboth
  · rw [tempRead_eq]
    exact hreqs

theorem serveReqs_none {s : State} (h : s.memReqs = []) : s.serveReqs = s := by
  rw [State.serveReqs, h]
  rfl

theorem clampI_eq {lo hi c : Int} (h1 : lo ≤ c) (h2 : c ≤ hi) : clampI lo hi c = c := by
  rw [clampI]
  omega

/-- The faults that a reading raises: TEMP_HIGH as it passes 95 °C and TEMP_CRIT as it passes 105 °C. -/
def tempFaults (was c : Int) (w : State) : State :=
  let s5 := if 95 < c ∧ was ≤ 95 then w.fault 13 allBanks else w
  if 105 < c ∧ was ≤ 105 then s5.fault 14 allBanks else s5

theorem exec_stackTempRead_within {dt : Nat} {k : Fin 4} {s : State} {c : Int} (h1 : -127 ≤ c) (h2 : c ≤ 127) :
    exec (.stackTempRead dt k c) s = .next
      (tempFaults (signed 8 ((s.start dt).rd (Reg.memTemp k) 7 0)) c (tempRead (s.start dt) k c)).serveReqs := by
  rw [exec_stackTempRead, clampI_eq h1 h2]
  rfl

theorem tempFaults_cool {was c : Int} (w : State) (h : c ≤ 95 ∨ (95 < was ∧ (c ≤ 105 ∨ 105 < was))) : tempFaults was c w = w := by
  rw [tempFaults, if_neg (by omega), if_neg (by omega)]

theorem tempFaults_high {was c : Int} (w : State) (h : 95 < c) (hc : c ≤ 105) (hw : was ≤ 95) :
    tempFaults was c w = w.fault 13 allBanks := by
  rw [tempFaults, if_neg (by omega), if_pos (by omega)]

theorem tempFaults_crit {was c : Int} (w : State) (hw : 95 < was) (hw' : was ≤ 105) (hc : 105 < c) :
    tempFaults was c w = w.fault 14 allBanks := by
  rw [tempFaults, if_pos (by omega), if_neg (by omega)]

theorem tempFaults_both {was c : Int} (w : State) (hc : 105 < c) (hw : was ≤ 95) :
    tempFaults was c w = (w.fault 13 allBanks).fault 14 allBanks := by
  rw [tempFaults, if_pos (by omega), if_pos (by omega)]

/-! ### Retraining (R210) -/

theorem exec_retrainStart (dt : Nat) (k : Fin 4) (pc : Fin 32) (s : State) : exec (.retrainStart dt k pc) s
    = if (s.start dt).running k ∧ ((s.start dt).stack k).pcBusy = none ∧ ((s.start dt).stack k).trainTemp.isSome
          ∧ (s.start dt).moved k pc ∧ (((s.start dt).stack k).lastPause = 0
            ∨ ((s.start dt).stack k).lastPause + 20 * usec ≤ (s.start dt).now) then
        .next ((((s.start dt).setStack k { ((s.start dt).stack k) with pcBusy := some pc.val, pcTries := 0 }).wr
          (Reg.memStatus k) 15 11 pc).setBit (Reg.memStatus k) 10 true)
      else .next (s.start dt) := by
  rfl

/-- The state in which the retraining of a pseudo-channel has passed. -/
def retrained (s : State) (k pc : Nat) : State :=
  ((s.setStack k { (s.stack k) with
    pcBusy := none, pcTries := 0, lastPause := s.now,
    pcTemp := (s.stack k).pcTemp.set pc (signed 8 (s.rd (Reg.memTemp k) 7 0)) }).countFld (Reg.memTrain k) 15 0 1).wr
      (Reg.memStatus k) 15 10 0

/-- A retraining that failed, counted and raised. -/
def retrainFailed (s : State) (k : Nat) : State :=
  ((s.setStack k { (s.stack k) with pcTries := (s.stack k).pcTries + 1 }).countFld (Reg.memTrain k) 31 16 1).fault 8 allBanks

theorem exec_retrainEnd_idle {dt : Nat} {k : Fin 4} {s : State} (x : Verdict) (h : ((s.start dt).stack k).pcBusy = none) :
    exec (.retrainEnd dt k x) s = .next (s.start dt) := by
  change execRetrainEnd dt k x s = _
  rw [execRetrainEnd]
  simp only [h]

theorem exec_retrainEnd_pass {dt pc : Nat} {k : Fin 4} {s : State} (h : ((s.start dt).stack k).pcBusy = some pc) :
    exec (.retrainEnd dt k .pass) s = .next (retrained (s.start dt) k pc).serveReqs := by
  change execRetrainEnd dt k .pass s = _
  rw [execRetrainEnd]
  simp only [h]
  rfl

theorem exec_retrainEnd_fail {dt pc : Nat} {k : Fin 4} {s : State} (h : ((s.start dt).stack k).pcBusy = some pc) :
    exec (.retrainEnd dt k .fail) s = .next (if 3 ≤ ((s.start dt).stack k).pcTries + 1 then
      (retrainFailed (s.start dt) k).failStack k else retrainFailed (s.start dt) k) := by
  change execRetrainEnd dt k .fail s = _
  rw [execRetrainEnd]
  simp only [h, retrainFailed]

theorem stack_wr (s : State) (o hi lo v k : Nat) : (s.wr o hi lo v).stack k = s.stack k := rfl

theorem stack_setBit (s : State) (o i k : Nat) (b : Bool) : (s.setBit o i b).stack k = s.stack k := rfl

theorem stack_countFld (s : State) (o hi lo n k : Nat) : (s.countFld o hi lo n).stack k = s.stack k :=
  stack_wr s o hi lo _ k

theorem rd_setStack (s : State) (k : Nat) (x : Stack) (o hi lo : Nat) : (s.setStack k x).rd o hi lo = s.rd o hi lo := rfl

theorem retrained_shows (s : State) (k pc : Nat) : ((retrained s k pc).stack k).pcBusy = none
    ∧ ((retrained s k pc).stack k).lastPause = s.now ∧ (retrained s k pc).rd (Reg.memStatus k) 15 10 = 0
    ∧ (retrained s k pc).rd (Reg.memTrain k) 15 0 = min 65535 (s.rd (Reg.memTrain k) 15 0 + 1) := by
  have hne : Reg.memTrain k ≠ Reg.memStatus k := by
    rw [Reg.memTrain, Reg.memStatus]
    omega
  rw [retrained]
  refine ⟨?_, ?_, State.rd_wr_self _ (by decide) (by decide), ?_⟩
  · rw [stack_wr, stack_countFld, stack_setStack_self]
  · rw [stack_wr, stack_countFld, stack_setStack_self]
  · rw [State.rd_wr_ne _ _ _ _ _ _ hne]
    rw [Words.rd_countFld_self _ 1 (by decide) (by decide), rd_setStack]
    norm_num

theorem memReqs_wr (s : State) (o hi lo v : Nat) : (s.wr o hi lo v).memReqs = s.memReqs := rfl

theorem memReqs_retrained (s : State) (k pc : Nat) : (retrained s k pc).memReqs = s.memReqs := by
  rw [retrained, memReqs_wr, State.countFld, memReqs_wr]
  rfl

/-- The state in which a pseudo-channel is being retrained. -/
theorem retraining_shows (s : State) (k : Nat) (x : Stack) {pc : Nat} (hpc : pc < 32) :
    ((((s.setStack k x).wr (Reg.memStatus k) 15 11 pc).setBit (Reg.memStatus k) 10 true).stack k) = x
      ∧ (((s.setStack k x).wr (Reg.memStatus k) 15 11 pc).setBit (Reg.memStatus k) 10 true).rd (Reg.memStatus k) 15 11 = pc
      ∧ (((s.setStack k x).wr (Reg.memStatus k) 15 11 pc).setBit (Reg.memStatus k) 10 true).bit (Reg.memStatus k) 10 = true := by
  refine ⟨?_, ?_, State.bit_setBit_self _ _ (by decide)⟩
  · rw [stack_setBit, stack_wr, stack_setStack_self]
  · rw [State.setBit, State.rd_wr_apart _ (by decide) (by decide) (by decide), State.rd_wr_self _ (by decide) (by decide)]
    exact Nat.mod_eq_of_lt hpc

/-- The statement's clauses about training and temperature. -/
theorem trainClauses (dt : Nat) (k : Fin 4) (s v : State) (hv : v = s.start dt) :
    ((2 ≤ v.rd (Reg.memStatus k) 2 0 ∨ (v.stack k).failed = true ∨ (v.stack k).frozen = true) →
      ∀ x, exec (.stackTrained dt k x) s = .next v)
    ∧ (v.rd (Reg.memStatus k) 2 0 ≤ 1 → (v.stack k).failed = false → (v.stack k).frozen = false →
      (∃ t, exec (.stackTrained dt k .pass) s = .next t ∧ t.rd (Reg.memStatus k) 2 0 = 2 ∧ (t.stack k).attempts = 0
        ∧ OnlyRegs [Reg.memStatus k] { v with stackTbl := t.stackTbl } t)
      ∧ ((v.stack k).attempts < 2 → exec (.stackTrained dt k .fail) s = .next (trainFailed v k))
      ∧ (2 ≤ (v.stack k).attempts → exec (.stackTrained dt k .fail) s = .next ((trainFailed v k).failStack k))) := by
  subst hv
  refine ⟨fun h x => exec_stackTrained_trained x ?_, fun hst hf hz => ?_⟩
  · rw [← Bool.not_eq_true, untrained_iff]
    rintro ⟨hst, hf, hz⟩
    rcases h with h | h | h
    · omega
    · exact absurd (h.symm.trans hf) Bool.noConfusion
    · exact absurd (h.symm.trans hz) Bool.noConfusion
  · have hun := (untrained_iff (s.start dt) k).mpr ⟨hst, hf, hz⟩
    rw [exec_stackTrained_pass hun, exec_stackTrained_fail hun]
    generalize s.start dt = v
    refine ⟨⟨_, rfl, State.rd_wr_self v (by decide) (by decide), by rw [stack_setStack_self]; rfl, ?_⟩, fun h => ?_, fun h => ?_⟩
    · have honly := (OnlyRegs.refl [Reg.memStatus k] v).wr (o := Reg.memStatus k) (by simp) 2 0 2
      exact Frame.onlyRegs_map (f := fun t => t.setStack k (trainedStack v k)) (fun _ _ => rfl) (fun _ => rfl) honly
    · rw [if_neg (by omega)]
    · rw [if_pos (by omega)]

/-- The statement's clause about a reading of the temperature. -/
theorem tempClause (dt : Nat) (k : Fin 4) (s v : State) (hv : v = s.start dt) (c : Int) (h1 : -127 ≤ c) (h2 : c ≤ 127)
    (hq : v.memReqs = []) : ∃ w, w.rd (Reg.memTemp k) 7 0 = unsigned 8 c
      ∧ w.bit (Reg.memStatus k) 9 = decide (85 < c)
      ∧ OnlyRegs [Reg.memTemp k, Reg.memStatus k] { v with stackTbl := w.stackTbl } w
      ∧ (c ≤ 95 → exec (.stackTempRead dt k c) s = .next w)
      ∧ (95 < c → c ≤ 105 → signed 8 (v.rd (Reg.memTemp k) 7 0) ≤ 95 →
        exec (.stackTempRead dt k c) s = .next (w.fault 13 allBanks).serveReqs)
      ∧ (95 < signed 8 (v.rd (Reg.memTemp k) 7 0) → (c ≤ 105 ∨ 105 < signed 8 (v.rd (Reg.memTemp k) 7 0)) →
        exec (.stackTempRead dt k c) s = .next w)
      ∧ (95 < signed 8 (v.rd (Reg.memTemp k) 7 0) → signed 8 (v.rd (Reg.memTemp k) 7 0) ≤ 105 → 105 < c →
        exec (.stackTempRead dt k c) s = .next (w.fault 14 allBanks).serveReqs)
      ∧ (105 < c → signed 8 (v.rd (Reg.memTemp k) 7 0) ≤ 95 →
        exec (.stackTempRead dt k c) s = .next ((w.fault 13 allBanks).fault 14 allBanks).serveReqs) := by
  subst hv
  rw [exec_stackTempRead_within h1 h2]
  generalize s.start dt = v at *
  obtain ⟨htemp, hhot, honly, hreqs⟩ := tempRead_shows v k c
  have hserve : (tempRead v k c).serveReqs = tempRead v k c := serveReqs_none (hreqs.trans hq)
  refine ⟨tempRead v k c, htemp, hhot, honly, fun h => ?_, fun h h' hw => ?_, fun hw h => ?_, fun hw hw' h => ?_, fun h hw => ?_⟩
  · rw [tempFaults_cool _ (.inl h), hserve]
  · rw [tempFaults_high _ h h' hw]
  · rw [tempFaults_cool _ (.inr ⟨hw, h⟩), hserve]
  · rw [tempFaults_crit _ hw hw' h]
  · rw [tempFaults_both _ h hw]

/-- The statement's clauses about retraining. -/
theorem retrainClauses (dt : Nat) (k : Fin 4) (s v : State) (hv : v = s.start dt) :
    (∀ pc : Fin 32, v.running k = true → (v.stack k).pcBusy = none → (v.stack k).trainTemp ≠ none → v.moved k pc = true →
      ((v.stack k).lastPause = 0 ∨ (v.stack k).lastPause + 20 * usec ≤ v.now) →
      ∃ t, exec (.retrainStart dt k pc) s = .next t ∧ (t.stack k).pcBusy = some pc.val
        ∧ t.rd (Reg.memStatus k) 15 11 = pc.val ∧ t.bit (Reg.memStatus k) 10 = true)
    ∧ (∀ pc : Fin 32, (v.running k = false ∨ (v.stack k).pcBusy ≠ none ∨ (v.stack k).trainTemp = none ∨ v.moved k pc = false
        ∨ ((v.stack k).lastPause ≠ 0 ∧ v.now < (v.stack k).lastPause + 20 * usec)) → exec (.retrainStart dt k pc) s = .next v)
    ∧ ((v.stack k).pcBusy = none → ∀ x, exec (.retrainEnd dt k x) s = .next v)
    ∧ ∀ pc, (v.stack k).pcBusy = some pc →
      (v.memReqs = [] → ∃ t, exec (.retrainEnd dt k .pass) s = .next t ∧ (t.stack k).pcBusy = none ∧ (t.stack k).lastPause = v.now
        ∧ t.rd (Reg.memStatus k) 15 10 = 0 ∧ t.rd (Reg.memTrain k) 15 0 = min 65535 (v.rd (Reg.memTrain k) 15 0 + 1))
      ∧ ((v.stack k).pcTries < 2 → exec (.retrainEnd dt k .fail) s = .next (retrainFailed v k))
      ∧ (2 ≤ (v.stack k).pcTries → exec (.retrainEnd dt k .fail) s = .next ((retrainFailed v k).failStack k)) := by
  subst hv
  refine ⟨fun pc hr hb ht hm hp => ?_, fun pc h => ?_, fun hb x => exec_retrainEnd_idle x hb, fun pc hb => ⟨fun hq => ?_, ?_⟩⟩
  · rw [exec_retrainStart, if_pos ⟨hr, hb, Option.isSome_iff_ne_none.mpr ht, hm, hp⟩]
    generalize s.start dt = v
    obtain ⟨hstack, hpc, hflag⟩ := retraining_shows v k { (v.stack k) with pcBusy := some pc.val, pcTries := 0 } pc.isLt
    exact ⟨_, rfl, congrArg Stack.pcBusy hstack, hpc, hflag⟩
  · rw [exec_retrainStart]
    generalize s.start dt = v at *
    refine if_neg ?_
    rintro ⟨hr, hb, ht, hm, hp⟩
    rcases h with h | h | h | h | h
    · exact absurd (h.symm.trans hr) Bool.noConfusion
    · exact h hb
    · rw [h] at ht
      cases ht
    · exact absurd (h.symm.trans hm) Bool.noConfusion
    · omega
  · rw [exec_retrainEnd_pass hb, serveReqs_none ((memReqs_retrained _ _ _).trans hq)]
    exact ⟨_, rfl, retrained_shows _ k pc⟩
  · rw [exec_retrainEnd_fail hb]
    exact ⟨fun h => by rw [if_neg (by omega)], fun h => by rw [if_pos (by omega)]⟩

/-! ### Patrol scrub (R214) -/

/-- The stacks that are in service. -/
def inService (s : State) : List Nat := (List.range 4).filter (fun k => !(s.stack k).failed)

theorem exec_scrubRow (dt : Nat) (finds : List GranuleFind) (s : State) : exec (.scrubRow dt finds) s
    = let s := (s.start dt).serveReqs
      let a := s.rd Reg.memScrubPos 31 0
      if s.power ≤ 1 ∧ s.alm.isSome ∧ (inService s).all (fun k => s.takes k a) ∧ s.scrubGranted ∧ s.mayPass scrubPort then
        if tget s.scrubbed 0 a ≠ 0 ∨ s.rowQueued a = true then .next ({ s with scrubAt := some s.now } : State).scrubNext
        else
          let bad := (inService s).filter (fun k => finds.getD k .clean == .uncorrectable)
          let s1 := (inService s).foldl (fun s k => s.scrubUnit a finds bad k)
            (({ s with scrubAt := some s.now } : State).pass scrubPort (inService s).length)
          .next (if s1.anyFrozen then s1 else s1.scrubNext)
      else .next s := by
  rfl

theorem inService_all {s : State} (h : ∀ k < 4, (s.stack k).failed = false) : inService s = [0, 1, 2, 3] := by
  refine List.filter_eq_self.mpr fun k hk => ?_
  rw [h k (List.mem_range.mp hk)]
  rfl

theorem scrubUnit_clean (s : State) (a k : Nat) (bad : List Nat) : s.scrubUnit a [] bad k = s := by
  rfl

theorem anyFrozen_pass (s : State) (p n : Nat) : (s.pass p n).anyFrozen = s.anyFrozen := by
  have hstack : ∀ k, (s.pass p n).stack k = s.stack k := by
    intro k
    rw [State.pass]
    split
    · exact stack_countFld _ _ _ _ _ k
    · rfl
  rw [State.anyFrozen, State.anyFrozen]
  simp only [hstack]

theorem rowQueued_none {s : State} (a : Nat) (h : s.memReqs = []) : s.rowQueued a = false := by
  rw [State.rowQueued, h]
  rfl

/-- The row of the scrub position may be scrubbed now. -/
def scrubReady (s : State) : Prop :=
  s.power ≤ 1 ∧ s.alm.isSome ∧ (inService s).all (fun k => s.takes k (s.rd Reg.memScrubPos 31 0)) ∧ s.scrubGranted
    ∧ s.mayPass scrubPort

theorem exec_scrubRow_waits {dt : Nat} {s : State} (finds : List GranuleFind) (hq : (s.start dt).memReqs = [])
    (h : ¬ scrubReady (s.start dt)) : exec (.scrubRow dt finds) s = .next (s.start dt) := by
  rw [exec_scrubRow, serveReqs_none hq]
  exact if_neg h

theorem exec_scrubRow_skips {dt : Nat} {s : State} (finds : List GranuleFind) (hq : (s.start dt).memReqs = [])
    (h : scrubReady (s.start dt)) (hw : tget (s.start dt).scrubbed 0 ((s.start dt).rd Reg.memScrubPos 31 0) ≠ 0) :
    exec (.scrubRow dt finds) s = .next ({ s.start dt with scrubAt := some (s.start dt).now } : State).scrubNext := by
  rw [exec_scrubRow, serveReqs_none hq]
  exact (if_pos h).trans (if_pos (.inl hw))

theorem exec_scrubRow_clean {dt : Nat} {s : State} (hq : (s.start dt).memReqs = []) (h : scrubReady (s.start dt))
    (hw : tget (s.start dt).scrubbed 0 ((s.start dt).rd Reg.memScrubPos 31 0) = 0)
    (hs : ∀ k < 4, ((s.start dt).stack k).failed = false) (hz : (s.start dt).anyFrozen = false) :
    exec (.scrubRow dt []) s
      = .next (({ s.start dt with scrubAt := some (s.start dt).now } : State).pass scrubPort 4).scrubNext := by
  have hthawed : ¬ (({ s.start dt with scrubAt := some (s.start dt).now } : State).pass scrubPort 4).anyFrozen = true := by
    rw [anyFrozen_pass]
    exact ne_true_of_eq_false hz
  rw [exec_scrubRow, serveReqs_none hq]
  generalize s.start dt = v at *
  refine (if_pos h).trans ((if_neg ?_).trans ?_)
  · rw [rowQueued_none _ hq]
    rintro (h' | h')
    · exact h' hw
    · cases h'
  · simp only [inService_all hs, scrubUnit_clean, List.foldl_cons, List.foldl_nil]
    exact congrArg Host.Outcome.next (if_neg hthawed)

theorem takes_all {s : State} {a : Nat} (h : ∀ k < 4, (s.stack k).failed = false ∧ s.takes k a = true) :
    (inService s).all (fun k => s.takes k a) = true := by
  refine List.all_eq_true.mpr fun k hk => ?_
  exact (h k (List.mem_range.mp (List.mem_filter.mp hk).1)).2

/-! ### Parity errors (R205, R211, R215) -/

theorem exec_caParityAlert (dt : Nat) (k : Fin 4) (n : Nat) (s : State) : exec (.caParityAlert dt k n) s
    = if (s.start dt).running k then
        .next (if 4 ≤ n then (((s.start dt).count (Reg.memCaReplays k) 1 32 (min 4 (n + 1))).fault k allBanks).failStack k
          else (s.start dt).count (Reg.memCaReplays k) 1 32 (min 4 (n + 1)))
      else .next (s.start dt) := by
  rfl

theorem exec_readParityError (dt : Nat) (k : Fin 4) (slot n : Nat) (port : Fin 25) (s : State) :
    exec (.readParityError dt k ⟨slot, port⟩ n) s
    = if (s.start dt).running k ∧ slot < slotCount then
        .next (if 4 ≤ n then ((s.start dt).count (Reg.memRdRetries k) 1 32 (min 4 (n + 1))).uncorrectable k slot [] port 4
          else (s.start dt).count (Reg.memRdRetries k) 1 32 (min 4 (n + 1)))
      else .next (s.start dt) := by
  rfl

theorem exec_uncorrectableRead (dt : Nat) (k : Fin 4) (slot : Nat) (port : Fin 25) (others : List (Fin 4)) (s : State) :
    exec (.uncorrectableRead dt k ⟨slot, port⟩ others) s
    = if (s.start dt).running k ∧ slot < slotCount then
        .next ((s.start dt).uncorrectable k slot (others.map (fun x => x.val)) port 0) else .next (s.start dt) := by
  rfl

/-- A counter of one whole word. -/
theorem count_word (s : State) (o n : Nat) : OnlyRegs [o] s (s.count o 1 32 n)
    ∧ ((s.count o 1 32 n).get o).toNat = min (2 ^ 32 - 1) ((s.get o).toNat + n) := by
  constructor
  · refine OnlyRegs.wrq 1 _ _ (OnlyRegs.refl _ s) fun j hj => ?_
    obtain rfl : j = 0 := by omega
    exact List.mem_singleton_self _
  · have hval := State.rdq_wrq 1 o (satAdd (2 ^ 32 - 1) (s.rdq o 1) n) s
    rw [State.rdq, State.rdq] at hval
    rw [State.count, ← Nat.add_zero (State.get _ o).toNat, ← Nat.mul_zero (2 ^ 32), hval, satAdd, State.rdq, State.rdq]
    exact Nat.mod_eq_of_lt (by omega)

/-- The statement's clauses about the errors of a stack. -/
theorem parityClauses (dt : Nat) (k : Fin 4) (s v : State) (hv : v = s.start dt) (hr : v.running k = true) :
    (∀ n < 4, ∃ t, exec (.caParityAlert dt k n) s = .next t ∧ OnlyRegs [Reg.memCaReplays k] v t
      ∧ (t.get (Reg.memCaReplays k)).toNat = min (2 ^ 32 - 1) ((v.get (Reg.memCaReplays k)).toNat + (n + 1)))
    ∧ (∀ n, 4 ≤ n → exec (.caParityAlert dt k n) s
        = .next (((v.count (Reg.memCaReplays k) 1 32 4).fault k allBanks).failStack k))
    ∧ (∀ slot n port, slot < slotCount → n < 4 → ∃ t, exec (.readParityError dt k ⟨slot, port⟩ n) s = .next t
      ∧ OnlyRegs [Reg.memRdRetries k] v t
      ∧ (t.get (Reg.memRdRetries k)).toNat = min (2 ^ 32 - 1) ((v.get (Reg.memRdRetries k)).toNat + (n + 1)))
    ∧ (∀ slot n port, slot < slotCount → 4 ≤ n → exec (.readParityError dt k ⟨slot, port⟩ n) s
        = .next ((v.count (Reg.memRdRetries k) 1 32 4).uncorrectable k slot [] port 4)) := by
  subst hv
  refine ⟨fun n hn => ?_, fun n hn => ?_, fun slot n port hs hn => ?_, fun slot n port hs hn => ?_⟩
  · rw [exec_caParityAlert, if_pos hr, if_neg (by omega), Nat.min_eq_right (by omega)]
    exact ⟨_, rfl, count_word _ _ _⟩
  · rw [exec_caParityAlert, if_pos hr, if_pos hn, Nat.min_eq_left (by omega)]
  · rw [exec_readParityError, if_pos ⟨hr, hs⟩, if_neg (by omega), Nat.min_eq_right (by omega)]
    exact ⟨_, rfl, count_word _ _ _⟩
  · rw [exec_readParityError, if_pos ⟨hr, hs⟩, if_pos hn, Nat.min_eq_left (by omega)]

/-- Settles O30, by the state of the stack: its training, its temperature, the row to scrub, and the failures. -/
theorem stacksAndErrors : Obligations.StacksAndErrors := by
  refine ⟨?_, ?_⟩
  · rintro dt k s v rfl
    obtain ⟨htrained, hfresh⟩ := trainClauses dt k s _ rfl
    exact ⟨htrained, hfresh, fun c h1 h2 hq => tempClause dt k s _ rfl c h1 h2 hq, retrainClauses dt k s _ rfl⟩
  · rintro dt s v rfl
    refine ⟨fun h hq finds => exec_scrubRow_waits finds hq ?_, fun hp ha hz hq hs hg ht => ?_, fun k hr n slot others port => ?_,
      fun k hr => ?_⟩
    · rintro ⟨hp, ha, hall, hg, ht⟩
      rcases h with h | h | h | h | ⟨k, hk, hf, htakes⟩
      · omega
      · rw [h] at ha
        cases ha
      · exact absurd (h.symm.trans hg) Bool.noConfusion
      · exact absurd (of_decide_eq_true ht) (not_le.mpr h)
      · have hmem : k ∈ inService (s.start dt) := List.mem_filter.mpr ⟨List.mem_range.mpr hk, by rw [hf]; rfl⟩
        exact absurd (htakes.symm.trans (List.all_eq_true.mp hall k hmem)) Bool.noConfusion
    · have hready : scrubReady (s.start dt) := ⟨hp, ha, takes_all hs, hg, decide_eq_true ht⟩
      exact ⟨fun hw => exec_scrubRow_clean hq hready hw (fun k hk => (hs k hk).1) hz,
        fun hw finds => exec_scrubRow_skips finds hq hready hw⟩
    · have hstopped := ne_true_of_eq_false hr
      rw [exec_caParityAlert, exec_readParityError, exec_uncorrectableRead, if_neg hstopped, if_neg (fun h => hstopped h.1),
        if_neg (fun h => hstopped h.1)]
      exact ⟨rfl, rfl, rfl⟩
    · obtain ⟨hca, hcaFails, hrd, hrdFails⟩ := parityClauses dt k s _ rfl hr
      refine ⟨hca, hcaFails, hrd, hrdFails, fun slot others port hs => ?_, fun slot n others port hs => ?_⟩
      · rw [exec_uncorrectableRead, if_pos ⟨hr, hs⟩]
      · rw [exec_readParityError, exec_uncorrectableRead, if_neg (fun h => absurd h.2 (not_lt.mpr hs)),
          if_neg (fun h => absurd h.2 (not_lt.mpr hs))]
        exact ⟨rfl, rfl⟩

end Sys2Proof.Proofs.Stacks

/-! Proofs of the statements of chapter 10: Harvest channels and engines (R222 to R230, R242 to R248). -/

namespace Sys2Proof.Proofs.Harvest

open Sys2Proof Sys2Proof.Machine

/-! ### Channels -/

theorem hch_setHch_self (s : State) (e c : Nat) (x : HCh) : (s.setHch e c x).hch e c = x :=
  tget_tset_self _ _ _ _

theorem hch_setBit (s : State) (o i e c : Nat) (b : Bool) : (s.setBit o i b).hch e c = s.hch e c := rfl

/-- A channel and its control register change together. -/
theorem onlyRegs_setHch {os : List Nat} {s t : State} (h : OnlyRegs os s t) (e c : Nat) (x : HCh) :
    OnlyRegs os { s with hrv := (t.setHch e c x).hrv } (t.setHch e c x) :=
  Frame.onlyRegs_map (f := fun u => { u with hrv := (t.setHch e c x).hrv }) (fun _ _ => rfl) (fun _ => rfl) h

theorem onlyRegs_sameHrv {os : List Nat} {s t : State} (h : OnlyRegs os s t) : OnlyRegs os { s with hrv := t.hrv } t := by
  rw [Frame.onlyRegs_keep (p := State.hrv) (fun _ _ => rfl) h]
  exact h

/-! ### Doorbell (R226, R246) -/

theorem exec_harvestDoorbell (dt : Nat) (e : Fin 5) (c : Fin 64) (s : State) :
    exec (.harvestDoorbell dt e c) s = .next ((s.start dt).doDoorbell e c) := by
  rfl

theorem hch_demandExit (s : State) (e c : Nat) : s.demandExit.hch e c = s.hch e c :=
  Frame.demandExit_keep (p := fun s => s.hch e c) ⟨fun _ _ _ => rfl, fun _ _ => rfl⟩ (fun _ _ _ => rfl) (fun _ _ _ => rfl) s

theorem doDoorbell_disabled {s : State} {e c : Nat} (h : (s.hch e c).st = 0) : s.doDoorbell e c = s.demandExit := by
  refine if_pos ?_
  rw [hch_demandExit, h]

/-- The channel `c` after a doorbell in the state `u`: where it is queued depends on its state alone, but for a link to be
redone. -/
def belled (u : State) (e ch : Nat) (c : HCh) : HCh :=
  let c1 := { c with db := (c.db + 1) % 2 ^ 16 }
  if c.st = 1 then { c1 with st := 2, entry := .head }
  else if c.st = 4 then
    if c.redo then (if u.pcieUp then { c1 with st := 2, entry := .desc (u.rd64 (Reg.hrvChTail e ch)) } else c1)
    else { c1 with st := 2, entry := .tail }
  else c1

theorem doDoorbell_enabled {s : State} {e c : Nat} (h : (s.hch e c).st ≠ 0) :
    s.doDoorbell e c = s.demandExit.setHch e c (belled s.demandExit e c (s.hch e c)) := by
  rw [State.doDoorbell]
  refine (if_neg ?_).trans ?_
  · rwa [hch_demandExit]
  · rw [hch_demandExit, belled]

theorem belled_shows (u : State) (e ch : Nat) (c : HCh) :
    (belled u e ch c).db = (c.db + 1) % 2 ^ 16
      ∧ (c.st = 1 → (belled u e ch c).st = 2 ∧ (belled u e ch c).entry = .head)
      ∧ (c.st = 4 → c.redo = false → (belled u e ch c).st = 2 ∧ (belled u e ch c).entry = .tail)
      ∧ (c.st = 4 → c.redo = true → u.pcieUp = true →
        (belled u e ch c).st = 2 ∧ (belled u e ch c).entry = .desc (u.rd64 (Reg.hrvChTail e ch)))
      ∧ ((c.st = 4 ∧ c.redo = true ∧ u.pcieUp = false) ∨ (c.st ≠ 1 ∧ c.st ≠ 4) → (belled u e ch c).st = c.st) := by
  rw [belled]
  refine ⟨?_, fun h => ?_, fun h hr => ?_, fun h hr hp => ?_, fun h => ?_⟩
  · split_ifs <;> rfl
  · rw [if_pos h]
    exact ⟨rfl, rfl⟩
  · rw [if_neg (by omega), if_pos h, if_neg (ne_true_of_eq_false hr)]
    exact ⟨rfl, rfl⟩
  · rw [if_neg (by omega), if_pos h, if_pos hr, if_pos hp]
    exact ⟨rfl, rfl⟩
  · rcases h with ⟨h, hr, hp⟩ | ⟨h1, h4⟩
    · rw [if_neg (by omega), if_pos h, if_pos hr, if_neg (ne_true_of_eq_false hp)]
    · rw [if_neg h1, if_neg h4]

/-! ### RESUME, ENABLE and disabling (R247) -/

theorem exec_channelResume (dt : Nat) (e : Fin 5) (c : Fin 64) (s : State) :
    exec (.channelResume dt e c) s = .next ((s.start dt).doResume e c) := by
  rfl

theorem exec_channelEnable (dt : Nat) (e : Fin 5) (c : Fin 64) (s : State) :
    exec (.channelEnable dt e c) s = .next ((s.start dt).doEnable e c) := by
  rfl

theorem exec_channelDisable (dt : Nat) (e : Fin 5) (c : Fin 64) (s : State) :
    exec (.channelDisable dt e c) s = .next ((s.start dt).doDisable e c) := by
  rfl

theorem doResume_halted {s : State} {e c : Nat} (h : (s.hch e c).st = 5) : s.doResume e c
    = (s.setHch e c { (s.hch e c) with st := 2, entry := .desc (s.rd64 (Reg.hrvChCur e c)) }).setBit (Reg.hrvChCtl e c) 8 true :=
  if_pos h

theorem resumed_shows (s : State) (e c : Nat) (x : HCh) :
    ((s.setHch e c x).setBit (Reg.hrvChCtl e c) 8 true).hch e c = x
      ∧ ((s.setHch e c x).setBit (Reg.hrvChCtl e c) 8 true).bit (Reg.hrvChCtl e c) 8 = true
      ∧ OnlyRegs [Reg.hrvChCtl e c] { s with hrv := ((s.setHch e c x).setBit (Reg.hrvChCtl e c) 8 true).hrv }
        ((s.setHch e c x).setBit (Reg.hrvChCtl e c) 8 true) := by
  refine ⟨?_, State.bit_setBit_self _ _ (by decide), ?_⟩
  · rw [hch_setBit, hch_setHch_self]
  · exact (OnlyRegs.refl [Reg.hrvChCtl e c] (s.setHch e c x)).setBit (by simp) 8 true

theorem doEnable_shows (s : State) (e c : Nat) : (s.doEnable e c).bit (Reg.hrvChCtl e c) 0 = true
    ∧ ((s.doEnable e c).hch e c).st = (if (s.hch e c).st = 0 then 1 else (s.hch e c).st)
    ∧ OnlyRegs [Reg.hrvChCtl e c] { s with hrv := (s.doEnable e c).hrv } (s.doEnable e c) := by
  have hbit : (s.setBit (Reg.hrvChCtl e c) 0 true).bit (Reg.hrvChCtl e c) 0 = true := State.bit_setBit_self _ _ (by decide)
  have honly := (OnlyRegs.refl [Reg.hrvChCtl e c] s).setBit (o := Reg.hrvChCtl e c) (by simp) 0 true
  rw [State.doEnable]
  split
  · next h => exact ⟨hbit, by rw [hch_setHch_self], onlyRegs_setHch honly e c _⟩
  · exact ⟨hbit, rfl, onlyRegs_sameHrv honly⟩

/-- The registers with the channel's bits cleared. -/
def ctlCleared (s : State) (e c : Nat) : State :=
  (s.setBit (Reg.hrvChCtl e c) 0 false).setBit (Reg.hrvChCtl e c) 8 false

theorem ctlCleared_shows (s : State) (e c : Nat) : (ctlCleared s e c).bit (Reg.hrvChCtl e c) 0 = false
    ∧ OnlyRegs [Reg.hrvChCtl e c] s (ctlCleared s e c) ∧ (ctlCleared s e c).hch e c = s.hch e c := by
  refine ⟨?_, ((OnlyRegs.refl _ s).setBit (by simp) 0 false).setBit (by simp) 8 false, rfl⟩
  rw [ctlCleared, State.bit_setBit_apart _ _ (by decide) (by decide), State.bit_setBit_self _ _ (by decide)]

theorem doDisable_eq (s : State) (e c : Nat) : s.doDisable e c
    = if (s.hch e c).st = 0 then ctlCleared s e c
      else if (s.hch e c).st = 3 then (ctlCleared s e c).setHch e c { (s.hch e c) with disabling := true }
      else (ctlCleared s e c).setHch e c { (s.hch e c) with st := 0 } := by
  rfl

theorem doDisable_stopped (s : State) (e c : Nat) (h : (s.hch e c).st ≠ 3) : ((s.doDisable e c).hch e c).st = 0
    ∧ (s.doDisable e c).bit (Reg.hrvChCtl e c) 0 = false
    ∧ OnlyRegs [Reg.hrvChCtl e c] { s with hrv := (s.doDisable e c).hrv } (s.doDisable e c) := by
  obtain ⟨hbit, honly, hch⟩ := ctlCleared_shows s e c
  by_cases h0 : (s.hch e c).st = 0
  · rw [doDisable_eq, if_pos h0, hch]
    exact ⟨h0, hbit, onlyRegs_sameHrv honly⟩
  · rw [doDisable_eq, if_neg h0, if_neg h]
    exact ⟨by rw [hch_setHch_self], hbit, onlyRegs_setHch honly e c _⟩

theorem doDisable_running (s : State) (e c : Nat) (h : (s.hch e c).st = 3) : ((s.doDisable e c).hch e c).st = 3
    ∧ ((s.doDisable e c).hch e c).disabling = true ∧ (s.doDisable e c).bit (Reg.hrvChCtl e c) 0 = false
    ∧ OnlyRegs [Reg.hrvChCtl e c] { s with hrv := (s.doDisable e c).hrv } (s.doDisable e c) := by
  obtain ⟨hbit, honly, -⟩ := ctlCleared_shows s e c
  rw [doDisable_eq, if_neg (by omega), if_pos h, hch_setHch_self]
  exact ⟨h, rfl, hbit, onlyRegs_setHch honly e c _⟩

theorem exec_channelDisableDone_job {dt : Nat} {e : Fin 5} {c : Fin 64} {s : State} {j : HJob}
    (h : ((s.start dt).engine e).job = some j) : exec (.channelDisableDone dt e c) s
      = if j.ch = c.val ∧ ((s.start dt).hch e c).disabling then .next ((s.start dt).disableDone e j) else .next (s.start dt) := by
  change execChannelDisableDone dt e c s = _
  rw [execChannelDisableDone]
  simp only [h]

theorem exec_channelDisableDone_idle {dt : Nat} {e : Fin 5} {c : Fin 64} {s : State}
    (h : ((s.start dt).engine e).job = none) : exec (.channelDisableDone dt e c) s = .next (s.start dt) := by
  change execChannelDisableDone dt e c s = _
  rw [execChannelDisableDone]
  simp only [h]

/-- The statement's clauses about the doorbell. -/
theorem doorbellClauses (e c : Nat) (v u : State) (hu : u = v.demandExit) (h : (v.hch e c).st ≠ 0) :
    (v.doDoorbell e c).mem = u.mem
      ∧ ((v.doDoorbell e c).hch e c).db = ((v.hch e c).db + 1) % 2 ^ 16
      ∧ ((v.hch e c).st = 1 → ((v.doDoorbell e c).hch e c).st = 2 ∧ ((v.doDoorbell e c).hch e c).entry = .head)
      ∧ ((v.hch e c).st = 4 → (v.hch e c).redo = false →
        ((v.doDoorbell e c).hch e c).st = 2 ∧ ((v.doDoorbell e c).hch e c).entry = .tail)
      ∧ ((v.hch e c).st = 4 → (v.hch e c).redo = true → u.pcieUp = true →
        ((v.doDoorbell e c).hch e c).st = 2 ∧ ((v.doDoorbell e c).hch e c).entry = .desc (u.rd64 (Reg.hrvChTail e c)))
      ∧ (((v.hch e c).st = 4 ∧ (v.hch e c).redo = true ∧ u.pcieUp = false) ∨ ((v.hch e c).st ≠ 1 ∧ (v.hch e c).st ≠ 4) →
        ((v.doDoorbell e c).hch e c).st = (v.hch e c).st) := by
  subst hu
  rw [doDoorbell_enabled h, hch_setHch_self]
  exact ⟨rfl, belled_shows _ e c _⟩

/-- Settles O33, by the state of the channel. -/
theorem channelCommands : Obligations.ChannelCommands := by
  rintro dt e c s v u rfl hu
  rw [exec_harvestDoorbell, exec_channelResume, exec_channelEnable, exec_channelDisable]
  refine ⟨fun h => ?_, fun h => ⟨_, rfl, doorbellClauses e c _ u hu h⟩, fun h => ?_, fun h => congrArg _ (if_neg h),
    ⟨_, rfl, doEnable_shows _ e c⟩, fun h => ⟨_, rfl, doDisable_stopped _ e c h⟩, fun h => ⟨_, rfl, doDisable_running _ e c h⟩,
    fun j hj hc hd => ?_, fun h => ?_⟩
  · rw [doDoorbell_disabled h, hu]
  · rw [doResume_halted h]
    generalize s.start dt = v
    obtain ⟨hch, hbit, honly⟩ := resumed_shows v e c { (v.hch e c) with st := 2, entry := .desc (v.rd64 (Reg.hrvChCur e c)) }
    exact ⟨_, rfl, congrArg HCh.st hch, congrArg HCh.entry hch, hbit, honly⟩
  · rw [exec_channelDisableDone_job hj, if_pos ⟨hc, hd⟩]
  · cases hj : ((s.start dt).engine e).job with
    | none => exact exec_channelDisableDone_idle hj
    | some j =>
      rw [exec_channelDisableDone_job hj]
      refine if_neg ?_
      rintro ⟨-, hd⟩
      rcases h with h | h
      · cases h.symm.trans hj
      · exact absurd (h.symm.trans hd) Bool.noConfusion

/-! ### The engine takes a channel and fetches (R222, R242) -/

theorem exec_engineTakeChannel_some {dt next c : Nat} {e : Fin 5} {s : State} (hn : (s.start dt).nextChannel e = some c) :
    exec (.engineTakeChannel dt e next) s
      = if (s.start dt).bit (Reg.hrvCtl e) 0 ∧ ((s.start dt).engine e).job.isNone then
          .next ((s.start dt).takeChannel e c next) else .next (s.start dt) := by
  change execEngineTakeChannel dt e next s = _
  rw [execEngineTakeChannel]
  simp only [hn]

theorem exec_engineTakeChannel_none {dt next : Nat} {e : Fin 5} {s : State} (hn : (s.start dt).nextChannel e = none) :
    exec (.engineTakeChannel dt e next) s = .next (s.start dt) := by
  change execEngineTakeChannel dt e next s = _
  rw [execEngineTakeChannel]
  simp only [hn, ite_self]

/-- The bytes of the descriptor that is fetched. -/
def fetched (s : State) (e : Nat) (j : HJob) (bytes : List Byte) : List Byte :=
  if isLocal j.addr then s.lread e j.addr 64 else bytes

/-- The channel as a fetched descriptor leaves it. -/
def fetchTaken (s : State) (e : Nat) (j : HJob) (d : Desc) : State :=
  (s.setHch e j.ch { (s.hch e j.ch) with sampled := (s.hch e j.ch).db, redo := false, tag := d.tag }).setBit
    (Reg.hrvChCtl e j.ch) 8 false

/-- The job of a fetched descriptor. -/
def fetchJob (s : State) (e : Nat) (j : HJob) (d : Desc) : HJob :=
  { j with d := d, strict := s.bit (Reg.hrvChCtl e j.ch) 1 }

/-- What becomes of a fetched descriptor as it is judged. -/
def judged (s : State) (e : Nat) (j : HJob) (bs : List Byte) : Res :=
  let d := descOf bs
  let w := fetchTaken s e j d
  let x := fetchJob s e j d
  if w.judge e x.strict bs d = 0 then .next (w.beginDesc e x)
  else .next (w.endDesc e x ⟨w.judge e x.strict bs d, 0, w.judgedFirst d, w.judgedFirst d, 0⟩ j.addr none endDepth)

theorem exec_descriptorFetch_job {dt : Nat} {e : Fin 5} {s : State} {j : HJob} (bytes : List Byte)
    (h : ((s.start dt).engine e).job = some j) : exec (.descriptorFetch dt e bytes) s
      = if j.phase ≠ .fetch ∨ ((s.start dt).hch e j.ch).disabling ∨ (s.start dt).harvestWaits then .next (s.start dt)
        else judged (s.start dt) e j (fetched (s.start dt) e j bytes) := by
  change execDescriptorFetch dt e bytes s = _
  rw [execDescriptorFetch]
  simp only [h]
  rfl

/-- The statement's clause about a descriptor that is fetched. -/
theorem fetchClause (dt : Nat) (e : Fin 5) (s v : State) (hv : v = s.start dt) (j x : HJob) (bytes bs : List Byte) (w : State)
    (d : Desc) (hj : (v.engine e).job = some j) (hp : j.phase = .fetch) (hd : (v.hch e j.ch).disabling = false)
    (hw : v.harvestWaits = false) (hbs : bs = fetched v e j bytes) (hdesc : d = descOf bs) (hwd : w = fetchTaken v e j d)
    (hx : x = fetchJob v e j d) :
    (w.judge e x.strict bs d = 0 → exec (.descriptorFetch dt e bytes) s = .next (w.beginDesc e x))
    ∧ (w.judge e x.strict bs d ≠ 0 → exec (.descriptorFetch dt e bytes) s
        = .next (w.endDesc e x ⟨w.judge e x.strict bs d, 0, w.judgedFirst d, w.judgedFirst d, 0⟩ j.addr none endDepth)) := by
  have hfetch : ¬ (j.phase ≠ .fetch ∨ (v.hch e j.ch).disabling ∨ v.harvestWaits) := by
    simp [hp, hd, hw]
  subst hv hbs hdesc hwd hx
  rw [exec_descriptorFetch_job bytes hj, if_neg hfetch, judged]
  exact ⟨fun h => if_pos h, fun h => if_neg h⟩

theorem exec_descriptorFetch_idle {dt : Nat} {e : Fin 5} {s : State} (bytes : List Byte)
    (h : ((s.start dt).engine e).job = none) : exec (.descriptorFetch dt e bytes) s = .next (s.start dt) := by
  change execDescriptorFetch dt e bytes s = _
  rw [execDescriptorFetch]
  simp only [h]

/-! ### The end of a transfer (R229, R242) -/

theorem exec_descriptorComplete_idle {dt : Nat} {e : Fin 5} {s : State} (bytes : List Byte) (next : Nat)
    (h : ((s.start dt).engine e).job = none) : exec (.descriptorComplete dt e bytes next) s = .next (s.start dt) := by
  change execDescriptorComplete dt e bytes next s = _
  rw [execDescriptorComplete]
  simp only [h]

theorem exec_descriptorComplete_fetch {dt : Nat} {e : Fin 5} {s : State} {j : HJob} (bytes : List Byte) (next : Nat)
    (h : ((s.start dt).engine e).job = some j) (hp : j.phase = .fetch) :
    exec (.descriptorComplete dt e bytes next) s = .next (s.start dt) := by
  change execDescriptorComplete dt e bytes next s = _
  rw [execDescriptorComplete]
  simp only [h, hp]

theorem exec_descriptorComplete_reread {dt : Nat} {e : Fin 5} {s : State} {j : HJob} (bytes : List Byte) (next : Nat)
    (h : ((s.start dt).engine e).job = some j) (hp : j.phase = .reread) : exec (.descriptorComplete dt e bytes next) s
      = .next (if ((s.start dt).hch e j.ch).disabling then s.start dt else (s.start dt).reread e j (some next) endDepth) := by
  change execDescriptorComplete dt e bytes next s = _
  rw [execDescriptorComplete]
  simp only [h, hp]

theorem exec_descriptorComplete_ended {dt : Nat} {e : Fin 5} {s : State} {j : HJob} {x : Ended} (bytes : List Byte) (next : Nat)
    (h : ((s.start dt).engine e).job = some j) (hp : j.phase = .ended x) :
    exec (.descriptorComplete dt e bytes next) s = .next ((s.start dt).settle e j x (some next) endDepth) := by
  change execDescriptorComplete dt e bytes next s = _
  rw [execDescriptorComplete]
  simp only [h, hp]

/-- The end of a transfer of an engine that fills streams. -/
theorem exec_descriptorComplete_stream {dt : Nat} {e : Fin 5} {s : State} {j : HJob} (bytes : List Byte) (next : Nat)
    (h : ((s.start dt).engine e).job = some j) (hp : j.phase = .run) (he : e ≠ 4)
    (hd : ((s.start dt).hch e j.ch).disabling = false) (hw : (s.start dt).harvestWaits = false) :
    (∀ x, (s.start dt).streamDone e j = some x →
      exec (.descriptorComplete dt e bytes next) s = .next ((s.start dt).endDesc e j x j.addr (some next) endDepth))
    ∧ ((s.start dt).streamDone e j = none → exec (.descriptorComplete dt e bytes next) s = .next (s.start dt)) := by
  have he' : e.val ≠ 4 := fun h' => he (Fin.ext h')
  change (∀ x, _ → execDescriptorComplete dt e bytes next s = _) ∧ (_ → execDescriptorComplete dt e bytes next s = _)
  rw [execDescriptorComplete]
  simp only [h, hp, hd, hw, Bool.false_eq_true, or_self, if_false, he', ne_eq, not_false_eq_true, if_true]
  exact ⟨fun x hx => by rw [hx], fun hx => by rw [hx]⟩

/-- The end of a transfer of engine 4, by its operation. -/
theorem exec_descriptorComplete_host {dt : Nat} {e : Fin 5} {s : State} {j : HJob} (bytes : List Byte) (next : Nat)
    (h : ((s.start dt).engine e).job = some j) (hp : j.phase = .run) (he : e = 4)
    (hd : ((s.start dt).hch e j.ch).disabling = false) (hw : (s.start dt).harvestWaits = false) :
    exec (.descriptorComplete dt e bytes next) s
      = if j.d.op = 3 then .next (if j.blk ∨ (j.d.sel = 3 ∧ !(s.start dt).mayPass (hrvPort 4)) then s.start dt
          else (s.start dt).deliverDevice j bytes (some next))
        else if (s.start dt).jobWaits j then .next (s.start dt)
        else .next ((((s.start dt).haul j).2.deliverHost j ((s.start dt).haul j).1).endDesc e j ((s.start dt).haul j).1.done j.addr
          (some next) endDepth) := by
  have he' : e.val = 4 := congrArg Fin.val he
  change execDescriptorComplete dt e bytes next s = _
  rw [execDescriptorComplete]
  simp only [h, hp, hd, hw, Bool.false_eq_true, or_self, if_false]
  exact if_neg (not_not.mpr he')

theorem exec_descriptorComplete_waits {dt : Nat} {e : Fin 5} {s : State} {j : HJob} (bytes : List Byte) (next : Nat)
    (h : ((s.start dt).engine e).job = some j) (hp : j.phase = .run)
    (hw : ((s.start dt).hch e j.ch).disabling = true ∨ (s.start dt).harvestWaits = true) :
    exec (.descriptorComplete dt e bytes next) s = .next (s.start dt) := by
  change execDescriptorComplete dt e bytes next s = _
  rw [execDescriptorComplete]
  simp only [h, hp, hw, if_true]

/-- A running transfer that its engine cannot end yet. -/
theorem descriptorComplete_stays {dt : Nat} {e : Fin 5} {s : State} {j : HJob} (bytes : List Byte) (next : Nat)
    (hj : ((s.start dt).engine e).job = some j) (hp : j.phase = .run)
    (h : ((s.start dt).hch e j.ch).disabling = true ∨ (s.start dt).harvestWaits = true
      ∨ (e ≠ 4 ∧ (s.start dt).streamDone e j = none)
      ∨ (e = 4 ∧ j.d.op = 3 ∧ (j.blk = true ∨ (j.d.sel = 3 ∧ (s.start dt).mayPass (hrvPort 4) = false)))
      ∨ (e = 4 ∧ j.d.op ≠ 3 ∧ (s.start dt).jobWaits j = true)) :
    exec (.descriptorComplete dt e bytes next) s = .next (s.start dt) := by
  cases hd : ((s.start dt).hch e j.ch).disabling with
  | true => exact exec_descriptorComplete_waits bytes next hj hp (.inl hd)
  | false =>
    cases hw : (s.start dt).harvestWaits with
    | true => exact exec_descriptorComplete_waits bytes next hj hp (.inr hw)
    | false =>
      rcases h with h | h | ⟨he, hx⟩ | ⟨he, hop, hb⟩ | ⟨he, hop, hb⟩
      · exact absurd (h.symm.trans hd) Bool.noConfusion
      · exact absurd (h.symm.trans hw) Bool.noConfusion
      · exact (exec_descriptorComplete_stream bytes next hj hp he hd hw).2 hx
      · rw [exec_descriptorComplete_host bytes next hj hp he hd hw, if_pos hop, if_pos]
        rcases hb with hb | ⟨hsel, ht⟩
        · exact .inl hb
        · exact .inr ⟨hsel, by rw [ht]; rfl⟩
      · rw [exec_descriptorComplete_host bytes next hj hp he hd hw, if_neg hop, if_pos hb]

/-! ### Failed accesses of host memory (R243) -/

theorem exec_harvestBusError_job {dt status a : Nat} {e : Fin 5} {s : State} {j : HJob}
    (h : ((s.start dt).engine e).job = some j) : exec (.harvestBusError dt e status a) s
      = if ((s.start dt).hch e j.ch).disabling then .next ((s.start dt).disableDone e j)
        else if status = 0x20 ∧ !isLocal j.addr ∧ (j.phase = .fetch ∨ j.phase = .reread) then
          .next ((s.start dt).endDesc e j ⟨status, 0, 0, 0, 0⟩ a none endDepth)
        else if status = 0x21 ∧ j.phase = .run ∧ j.d.op = 3 ∧ !j.blk then
          .next (((s.start dt).spoilDest j).endDesc e j ⟨status, 0, j.d.devOffset, j.d.devOffset, 0⟩ a none endDepth)
        else if status = 0x22 ∧ e.val = 4 ∧ j.phase = .run ∧ j.d.op ≠ 3 ∧ !(s.start dt).jobWaits j then
          .next ((((s.start dt).haul j).2.deliverHost j ((s.start dt).haul j).1).endDesc e j
            { ((s.start dt).haul j).1.done with status := status } a none endDepth)
        else .next (s.start dt) := by
  change execHarvestBusError dt e status a s = _
  rw [execHarvestBusError]
  simp only [h]

theorem exec_harvestBusError_idle {dt status a : Nat} {e : Fin 5} {s : State}
    (h : ((s.start dt).engine e).job = none) : exec (.harvestBusError dt e status a) s = .next (s.start dt) := by
  change execHarvestBusError dt e status a s = _
  rw [execHarvestBusError]
  simp only [h]

/-- The statement's clauses about a failed access. -/
theorem busErrorClauses (dt : Nat) (e : Fin 5) (s v : State) (hv : v = s.start dt) (j : HJob) (a : Nat)
    (hj : (v.engine e).job = some j) :
    ((v.hch e j.ch).disabling = true → ∀ status,
      exec (.harvestBusError dt e status a) s = .next (v.disableDone e j))
    ∧ (∀ status, (v.hch e j.ch).disabling = false →
      (status ≠ 0x20 ∨ isLocal j.addr = true ∨ (j.phase ≠ .fetch ∧ j.phase ≠ .reread)) →
      (status ≠ 0x21 ∨ j.phase ≠ .run ∨ j.d.op ≠ 3 ∨ j.blk = true) →
      (status ≠ 0x22 ∨ e ≠ 4 ∨ j.phase ≠ .run ∨ j.d.op = 3 ∨ v.jobWaits j = true) →
      exec (.harvestBusError dt e status a) s = .next v)
    ∧ ((v.hch e j.ch).disabling = false → (j.phase = .fetch ∨ j.phase = .reread) → isLocal j.addr = false →
      exec (.harvestBusError dt e 0x20 a) s = .next (v.endDesc e j ⟨0x20, 0, 0, 0, 0⟩ a none endDepth))
    ∧ ((v.hch e j.ch).disabling = false → j.phase = .run → j.d.op = 3 → j.blk = false →
      exec (.harvestBusError dt e 0x21 a) s
        = .next ((v.spoilDest j).endDesc e j ⟨0x21, 0, j.d.devOffset, j.d.devOffset, 0⟩ a none endDepth))
    ∧ ((v.hch e j.ch).disabling = false → e = 4 → j.phase = .run → j.d.op ≠ 3 → v.jobWaits j = false →
      exec (.harvestBusError dt e 0x22 a) s = .next (((v.haul j).2.deliverHost j (v.haul j).1).endDesc e j
        { (v.haul j).1.done with status := 0x22 } a none endDepth)) := by
  subst hv
  refine ⟨fun hd status => ?_, fun status hd h20 h21 h22 => ?_, fun hd hp hl => ?_, fun hd hp hop hb => ?_,
    fun hd he hp hop hw => ?_⟩
  · rw [exec_harvestBusError_job hj, if_pos hd]
  · have h1 : ¬ (status = 0x20 ∧ !isLocal j.addr ∧ (j.phase = .fetch ∨ j.phase = .reread)) := by
      rintro ⟨hs, hl, hp⟩
      rcases h20 with h | h | ⟨hf, hr⟩
      · exact h hs
      · rw [h] at hl
        cases hl
      · exact hp.elim hf hr
    have h2 : ¬ (status = 0x21 ∧ j.phase = .run ∧ j.d.op = 3 ∧ !j.blk) := by
      rintro ⟨hs, hp, hop, hb⟩
      rcases h21 with h | h | h | h
      · exact h hs
      · exact h hp
      · exact h hop
      · rw [h] at hb
        cases hb
    have h3 : ¬ (status = 0x22 ∧ e.val = 4 ∧ j.phase = .run ∧ j.d.op ≠ 3 ∧ !(s.start dt).jobWaits j) := by
      rintro ⟨hs, he, hp, hop, hw⟩
      rcases h22 with h | h | h | h | h
      · exact h hs
      · exact h (Fin.ext he)
      · exact h hp
      · exact hop h
      · rw [h] at hw
        cases hw
    rw [exec_harvestBusError_job hj, if_neg (ne_true_of_eq_false hd), if_neg h1, if_neg h2, if_neg h3]
  · rw [exec_harvestBusError_job hj, if_neg (ne_true_of_eq_false hd), if_pos ⟨rfl, by rw [hl]; rfl, hp⟩]
  · rw [exec_harvestBusError_job hj, if_neg (ne_true_of_eq_false hd), if_neg (fun h => absurd h.1 (by decide)), if_pos ⟨rfl, hp, hop, by rw [hb]; rfl⟩]
  · rw [exec_harvestBusError_job hj, if_neg (ne_true_of_eq_false hd), if_neg (fun h => absurd h.1 (by decide)), if_neg (fun h => absurd h.1 (by decide)),
      if_pos ⟨rfl, congrArg Fin.val he, hp, hop, by rw [hw]; rfl⟩]

/-- Settles O34, by the phase of the engine's job. -/
theorem engineSteps : Obligations.EngineSteps := by
  rintro dt e s v rfl
  refine ⟨fun c next hr hj hn => ?_, fun next h => ?_,
    fun j x bytes bs w d hj hp hd hw hbs hdesc hwd hx => fetchClause dt e s _ rfl j x bytes bs w d hj hp hd hw hbs hdesc hwd hx,
    fun j bytes hj h => ?_, fun j bytes next hj h => ?_, fun j bytes next hj hp hd hw => ⟨fun he hop hjw => ?_,
    fun he hop hb ht => ?_, fun x he hx => (exec_descriptorComplete_stream bytes next hj hp he hd hw).1 x hx⟩,
    fun j bytes next x hj hp => exec_descriptorComplete_ended bytes next hj hp, fun j bytes next hj hp hd => ?_,
    fun hj bytes next status a => ⟨exec_descriptorFetch_idle bytes hj, exec_descriptorComplete_idle bytes next hj,
      exec_harvestBusError_idle hj⟩, fun j a hj => busErrorClauses dt e s _ rfl j a hj⟩
  · rw [exec_engineTakeChannel_some hn, if_pos ⟨hr, Option.isNone_iff_eq_none.mpr hj⟩]
  · cases hn : (s.start dt).nextChannel e with
    | none => exact exec_engineTakeChannel_none hn
    | some c =>
      rw [exec_engineTakeChannel_some hn]
      refine if_neg ?_
      rintro ⟨hr, hj⟩
      rcases h with h | h | h
      · exact absurd (h.symm.trans hr) Bool.noConfusion
      · exact h (Option.isNone_iff_eq_none.mp hj)
      · cases h.symm.trans hn
  · rw [exec_descriptorFetch_job bytes hj, if_pos h]
  · rcases h with h | ⟨hp, hd⟩ | ⟨hp, h⟩
    · exact exec_descriptorComplete_fetch bytes next hj h
    · rw [exec_descriptorComplete_reread bytes next hj hp, if_pos hd]
    · exact descriptorComplete_stays bytes next hj hp h
  · rw [exec_descriptorComplete_host bytes next hj hp he hd hw, if_neg hop, if_neg (ne_true_of_eq_false hjw)]
  · rw [exec_descriptorComplete_host bytes next hj hp he hd hw, if_pos hop, if_neg]
    rintro (h | ⟨hsel, h⟩)
    · exact absurd (hb.symm.trans h) Bool.noConfusion
    · rcases ht with ht | ht
      · exact ht hsel
      · rw [ht] at h
        cases h
  · rw [exec_descriptorComplete_reread bytes next hj hp, if_neg (ne_true_of_eq_false hd)]

end Sys2Proof.Proofs.Harvest

/-! Proofs of the statements of chapter 11: PCIe, Ethernet, streams and the management ports (R253 to R274). -/

namespace Sys2Proof.Proofs.Ports

open Sys2Proof Sys2Proof.Machine

/-! ### PCIe and MSI-X (R248, R253, R254) -/

theorem exec_pcieLinkDown (dt : Nat) (s : State) : exec (.pcieLinkDown dt) s
    = if (s.start dt).pcieUp && !(s.start dt).perst then
        .next (((((s.start dt).wr Reg.prtPcieStatus 8 0 0).countFld Reg.prtPcieStatus 31 16 1).fault 24 allBanks).dropPcie)
      else .next (s.start dt) := by
  rfl

theorem exec_pcieLinkUp (dt gen width : Nat) (s : State) : exec (.pcieLinkUp dt gen width) s
    = if !(s.start dt).pcieUp && !(s.start dt).perst && (s.start dt).rd Reg.pwrStatus 6 4 != 3
          && decide (1 ≤ gen ∧ gen ≤ 6 ∧ widthCode width ≠ 0) then
        .next ((s.start dt).wr Reg.prtPcieStatus 8 0
          (256 * b2n ((if (s.start dt).recovery then 1 else gen) == 6) + 16 * widthCode width
            + 2 * (if (s.start dt).recovery then 1 else gen) + 1)).regainPcie.flushVectors
      else .next (s.start dt) := by
  rfl

theorem exec_perstDeassert (dt : Nat) (s : State) : exec (.perstDeassert dt) s
    = .next (if (s.start dt).perst then { s.start dt with perst := false, perstAt := (s.start dt).now } else s.start dt) := by
  rfl

theorem exec_pcieReady (dt : Nat) (s : State) : exec (.pcieReady dt) s
    = .next (if (s.start dt).perst then s.start dt else ({ s.start dt with pcieReady := true } : State).flushVectors) := by
  rfl

theorem exec_msixUnmask_on (dt : Nat) (i : Fin 64) (s : State) : exec (.msixUnmask dt i true) s
    = .next ((({ s.start dt with msixOn := true } : State).setBit (Reg.msixAddrDataCtl (4 * i + 3)) 0 false).flushVectors) := by
  rfl

theorem exec_msixUnmask_off (dt : Nat) (i : Fin 64) (s : State) : exec (.msixUnmask dt i false) s
    = .next ((({ s.start dt with msixOn := false } : State).setBit (Reg.msixAddrDataCtl (4 * i + 3)) 0 false).clearWords
        [Reg.msixPba 0, Reg.msixPba 1]) := by
  rfl

theorem get_clearWords_mem (s : State) {os : List Nat} {o : Nat} (h : o ∈ os) : (s.clearWords os).get o = regDefault o := by
  induction os generalizing s with
  | nil => cases h
  | cons a os ih =>
    by_cases hmem : o ∈ os
    · exact ih _ hmem
    · have ha : o = a := (List.mem_cons.mp h).resolve_right hmem
      subst ha
      rw [State.clearWords, Resets.get_clearWords_ne os _ hmem]
      exact tget_tdel_self _ _ _

theorem linkUp_ready {s : State} {gen width : Nat} (hu : s.pcieUp = false) (hp : s.perst = false)
    (hr : s.rd Reg.pwrStatus 6 4 ≠ 3) (h1 : 1 ≤ gen) (h6 : gen ≤ 6) (hw : widthCode width ≠ 0) :
    (!s.pcieUp && !s.perst && s.rd Reg.pwrStatus 6 4 != 3 && decide (1 ≤ gen ∧ gen ≤ 6 ∧ widthCode width ≠ 0)) = true := by
  simp [hu, hp, hr, h1, h6, hw]

theorem linkUp_waits {s : State} {gen width : Nat} (h : s.pcieUp = true ∨ s.perst = true ∨ s.rd Reg.pwrStatus 6 4 = 3) :
    (!s.pcieUp && !s.perst && s.rd Reg.pwrStatus 6 4 != 3 && decide (1 ≤ gen ∧ gen ≤ 6 ∧ widthCode width ≠ 0)) = false := by
  rcases h with h | h | h <;> simp [h]

/-- Settles O36, by the state of the link and of PERST_N. -/
theorem pcieAndInterrupts : Obligations.PcieAndInterrupts := by
  rintro dt s v rfl
  refine ⟨fun hu hp => ?_, fun gen width hu hp hr h1 h6 hw g hg => ?_, fun h => ?_, fun gen width h => ?_, fun hp => ?_,
    fun hp => ⟨?_, ?_⟩, fun hp => ?_, fun i => ⟨exec_msixUnmask_on dt i s, ?_⟩⟩
  · rw [exec_pcieLinkDown, if_pos (by rw [hu, hp]; rfl)]
  · rw [exec_pcieLinkUp, if_pos (linkUp_ready hu hp hr h1 h6 hw), hg]
  · rw [exec_pcieLinkDown]
    generalize s.start dt = v at h ⊢
    refine if_neg ?_
    rcases h with h | h <;> simp [h]
  · rw [exec_pcieLinkUp, if_neg (ne_true_of_eq_false (linkUp_waits h))]
  · rw [exec_perstDeassert, if_pos hp]
  · rw [exec_perstDeassert, if_neg (ne_true_of_eq_false hp)]
  · rw [exec_pcieReady, if_neg (ne_true_of_eq_false hp)]
  · rw [exec_pcieReady, if_pos hp]
  · rw [exec_msixUnmask_off]
    exact ⟨_, rfl, rfl, get_clearWords_mem _ (by simp), get_clearWords_mem _ (by simp), rfl⟩

/-! ### Messages on a stream (R263 to R266) -/

theorem exec_ethFrameReceive_off {dt : Nat} {q : Fin 32} {s : State} (bs : List Byte) (h : (s.start dt).portOn q = false) :
    exec (.ethFrameReceive dt q bs) s = .next (s.start dt) := by
  change execEthFrameReceive dt q bs s = _
  rw [execEthFrameReceive]
  exact if_neg (ne_true_of_eq_false h)

theorem exec_ethFrameReceive_dropped {dt : Nat} {q : Fin 32} {s : State} {bs : List Byte} (h : (s.start dt).portOn q = true)
    (ha : (s.start dt).acceptFrame q bs = none) :
    exec (.ethFrameReceive dt q bs) s = .next ((s.start dt).inc (Reg.prtEthDropped q)) := by
  change execEthFrameReceive dt q bs s = _
  rw [execEthFrameReceive]
  simp only [h, ha, if_true]
  rfl

theorem exec_ethFrameReceive_taken {dt : Nat} {q : Fin 32} {s : State} {frame bs : List Byte} {ip udp : Nat}
    (h : (s.start dt).portOn q = true) (ha : (s.start dt).acceptFrame q frame = some (ip, udp, bs)) :
    exec (.ethFrameReceive dt q frame) s = .next ((s.start dt).anyMsg q ip udp bs) := by
  change execEthFrameReceive dt q frame s = _
  rw [execEthFrameReceive]
  simp only [h, ha, if_true]

theorem exec_ackMessage (dt : Nat) (q : Fin 32) (ip udp : Nat) (bs : List Byte) (s : State) : exec (.ackMessage dt q ip udp bs) s
    = .next (if (s.start dt).portOn q then (s.start dt).streamMsg q 2 ip udp bs else s.start dt) := by
  rfl

theorem exec_resendMessage (dt : Nat) (q : Fin 32) (ip udp : Nat) (bs : List Byte) (s : State) :
    exec (.resendMessage dt q ip udp bs) s
    = .next (if (s.start dt).portOn q then (s.start dt).streamMsg q 3 ip udp bs else s.start dt) := by
  rfl

theorem exec_releaseMessage (dt : Nat) (q : Fin 32) (ip udp : Nat) (bs : List Byte) (s : State) :
    exec (.releaseMessage dt q ip udp bs) s
    = .next (if (s.start dt).portOn q then (s.start dt).streamMsg q 4 ip udp bs else s.start dt) := by
  rfl

/-- A message that fits its stream's owner and names the type `ty`. -/
def fitsStream (s : State) (ty : Nat) (bs : List Byte) : Prop :=
  msgOkFor (unitId (if beAt bs 0xC 2 < 256 then (s.stream (beAt bs 0xC 2)).owner else none)) bs = true ∧ beAt bs 3 1 = ty

theorem streamMsg_bad {s : State} {q ty ip udp : Nat} {bs : List Byte}
    (h : msgOkFor (unitId (if beAt bs 0xC 2 < 256 then (s.stream (beAt bs 0xC 2)).owner else none)) bs = false) :
    s.streamMsg q ty ip udp bs = s.inc (Reg.prtEthDropped q) := by
  refine if_pos ?_
  rw [h]
  rfl

theorem streamMsg_fits {s : State} {q ty ip udp : Nat} {bs : List Byte} (h : fitsStream s ty bs) :
    s.streamMsg q ty ip udp bs
      = if s.priv (6 + q / 8) = 1 then s.refuseHt q 5
        else if 256 ≤ beAt bs 0xC 2 ∨ !s.fromReceiver q (beAt bs 0xC 2) ip udp then s.refuseHt q 3
        else if !s.carriedHere q (beAt bs 0xC 2) (beAt bs 0xE 2) then
          (if ty = 4 then (s.refuseHt q 3).sendReleaseAck ⟨beAt bs 0xC 2, q, beAt bs 0x10 4, beAt bs 0x14 1 % 32, 0, 0⟩ 2
            else s.refuseHt q 3)
        else if ty = 2 then s.doAck q (beAt bs 0xC 2) (beAt bs 0x10 8) (beAt bs 0x18 4)
        else if ty = 3 then s.doResend (beAt bs 0xC 2) (beAt bs 0x10 8) (beAt bs 0x18 4)
        else s.doReleaseMsg q (beAt bs 0xC 2) bs := by
  obtain ⟨hok, hty⟩ := h
  refine if_neg ?_
  rw [hok, hty]
  simp

/-- A message that its port may not send, or not from here, or that its stream is not carried by. -/
theorem streamMsg_refused {s w : State} {q ty ip udp : Nat} {bs : List Byte} (h : fitsStream s ty bs)
    (hw : (s.priv (6 + q / 8) = 1 ∧ w = s.refuseHt q 5) ∨ (s.priv (6 + q / 8) ≠ 1 ∧ w = s.refuseHt q 3
      ∧ (256 ≤ beAt bs 0xC 2 ∨ s.fromReceiver q (beAt bs 0xC 2) ip udp = false
        ∨ s.carriedHere q (beAt bs 0xC 2) (beAt bs 0xE 2) = false)))
    (hty : ty ≠ 4 ∨ s.priv (6 + q / 8) = 1 ∨ 256 ≤ beAt bs 0xC 2 ∨ s.fromReceiver q (beAt bs 0xC 2) ip udp = false) :
    s.streamMsg q ty ip udp bs = w := by
  rw [streamMsg_fits h]
  rcases hw with ⟨hp, rfl⟩ | ⟨hp, rfl, hw⟩
  · rw [if_pos hp]
  · rw [if_neg hp]
    by_cases hfrom : 256 ≤ beAt bs 0xC 2 ∨ (!s.fromReceiver q (beAt bs 0xC 2) ip udp) = true
    · rw [if_pos hfrom]
    · have hty' : ty ≠ 4 := by
        rcases hty with h4 | h4 | h4 | h4
        · exact h4
        · exact absurd h4 hp
        · exact absurd (.inl h4) hfrom
        · exact absurd (.inr (by rw [h4]; rfl)) hfrom
      have hcarried : (!s.carriedHere q (beAt bs 0xC 2) (beAt bs 0xE 2)) = true := by
        rcases hw with h | h | h
        · exact absurd (.inl h) hfrom
        · exact absurd (.inr (by rw [h]; rfl)) hfrom
        · rw [h]
          rfl
      rw [if_neg hfrom, if_pos hcarried, if_neg hty']

/-- A RELEASE of a stream that is not carried here is answered too. -/
theorem streamMsg_release_elsewhere {s : State} {q ip udp : Nat} {bs : List Byte} (h : fitsStream s 4 bs)
    (hp : s.priv (6 + q / 8) ≠ 1) (hk : beAt bs 0xC 2 < 256) (hf : s.fromReceiver q (beAt bs 0xC 2) ip udp = true)
    (hc : s.carriedHere q (beAt bs 0xC 2) (beAt bs 0xE 2) = false) : s.streamMsg q 4 ip udp bs
      = (s.refuseHt q 3).sendReleaseAck ⟨beAt bs 0xC 2, q, beAt bs 0x10 4, beAt bs 0x14 1 % 32, 0, 0⟩ 2 := by
  rw [streamMsg_fits h, if_neg hp, if_neg, if_pos (by rw [hc]; rfl), if_pos rfl]
  rintro (h' | h')
  · omega
  · rw [hf] at h'
    cases h'

/-- A message that its stream takes. -/
theorem streamMsg_taken {s : State} {q ty ip udp : Nat} {bs : List Byte} (h : fitsStream s ty bs)
    (hp : s.priv (6 + q / 8) ≠ 1) (hk : beAt bs 0xC 2 < 256) (hf : s.fromReceiver q (beAt bs 0xC 2) ip udp = true)
    (hc : s.carriedHere q (beAt bs 0xC 2) (beAt bs 0xE 2) = true) : s.streamMsg q ty ip udp bs
      = if ty = 2 then s.doAck q (beAt bs 0xC 2) (beAt bs 0x10 8) (beAt bs 0x18 4)
        else if ty = 3 then s.doResend (beAt bs 0xC 2) (beAt bs 0x10 8) (beAt bs 0x18 4)
        else s.doReleaseMsg q (beAt bs 0xC 2) bs := by
  rw [streamMsg_fits h, if_neg hp, if_neg, if_neg (by rw [hc]; exact Bool.false_ne_true)]
  rintro (h' | h')
  · omega
  · rw [hf] at h'
    cases h'

theorem stream_setStream_self (s : State) (k : Nat) (x : Stream) : (s.setStream k x).stream k = x :=
  tget_tset_self _ _ _ _

theorem stream_setStream_ne (s : State) {k j : Nat} (x : Stream) (h : j ≠ k) : (s.setStream k x).stream j = s.stream j :=
  tget_tset_ne _ _ _ _ h

theorem doAck_outside {s : State} {q k nxt credit : Nat} (h : nxt < (s.stream k).acked ∨ (s.stream k).next < nxt) :
    s.doAck q k nxt credit = s.inc (Reg.prtEthDropped q) :=
  if_pos h

theorem doAck_covers {s : State} {q k nxt credit : Nat} (h1 : (s.stream k).acked ≤ nxt) (h2 : nxt ≤ (s.stream k).next) :
    ((s.doAck q k nxt credit).stream k).acked = nxt ∧ ((s.doAck q k nxt credit).stream k).credit = some credit
      ∧ (∀ f, f ∈ ((s.doAck q k nxt credit).stream k).sent ↔ f ∈ (s.stream k).sent ∧ nxt ≤ f.seq)
      ∧ (∀ j, j ≠ k → (s.doAck q k nxt credit).stream j = s.stream j) ∧ (s.doAck q k nxt credit).mem = s.mem := by
  rw [State.doAck, if_neg (by omega), stream_setStream_self]
  refine ⟨rfl, rfl, fun f => ?_, fun j hj => stream_setStream_ne _ _ hj, rfl⟩
  rw [List.mem_filter, decide_eq_true_iff]

/-- Every frame named is in the list of those to be sent again. -/
theorem mem_foldl_addNew {fs : List Frame} {f : Frame} (hf : f ∈ fs) (l : List Nat) :
    f.seq ∈ fs.foldl (fun l f => addNew l f.seq) l := by
  have hself : ∀ (l : List Nat) (a : Nat), a ∈ addNew l a := by
    intro l a
    rw [addNew]
    split
    · next h => exact h
    · exact List.mem_append_right _ (List.mem_singleton_self a)
  have hstep : ∀ (l : List Nat) (a b : Nat), a ∈ l → a ∈ addNew l b := by
    intro l a b ha
    rw [addNew]
    split
    · exact ha
    · exact List.mem_append_left _ ha
  have hkeep : ∀ (gs : List Frame) (l : List Nat), f.seq ∈ l → f.seq ∈ gs.foldl (fun l f => addNew l f.seq) l := by
    intro gs
    induction gs with
    | nil => exact fun l hl => hl
    | cons g gs ih => exact fun l hl => ih _ (hstep l _ _ hl)
  induction fs generalizing l with
  | nil => cases hf
  | cons g gs ih =>
    rcases List.mem_cons.mp hf with h | h
    · subst h
      exact hkeep gs _ (hself l _)
    · exact ih h _

theorem doResend_names {s : State} {k first count : Nat} {f : Frame} (hf : f ∈ (s.stream k).sent) (h1 : first ≤ f.seq)
    (h2 : f.seq < first + count) : f.seq ∈ ((s.doResend k first count).stream k).resend
      ∧ (∀ j, j ≠ k → (s.doResend k first count).stream j = s.stream j) ∧ (s.doResend k first count).mem = s.mem := by
  rw [State.doResend, stream_setStream_self]
  refine ⟨mem_foldl_addNew ?_ _, fun j hj => stream_setStream_ne _ _ hj, rfl⟩
  exact List.mem_filter.mpr ⟨hf, decide_eq_true ⟨h1, h2⟩⟩

theorem doReleaseMsg_masked {s : State} {q k : Nat} {bs : List Byte} {h : HeldRelease}
    (hh : h = ⟨k, q, beAt bs 0x10 4, beAt bs 0x14 1, beAt bs 0x18 16, beAt bs 0x28 16⟩)
    (hp : 32 ≤ h.part ∨ (s.get (Reg.prtStPartMask k)).toNat.testBit h.part = false) :
    s.doReleaseMsg q k bs = (s.refuseHt q 4).sendReleaseAck h 2 := by
  subst hh
  refine if_pos ?_
  rcases hp with hp | hp
  · exact .inl hp
  · exact .inr (by rw [hp]; rfl)

theorem doReleaseMsg_allowed {s : State} {q k : Nat} {bs : List Byte} {h : HeldRelease}
    (hh : h = ⟨k, q, beAt bs 0x10 4, beAt bs 0x14 1, beAt bs 0x18 16, beAt bs 0x28 16⟩) (hp : h.part < 32)
    (hm : (s.get (Reg.prtStPartMask k)).toNat.testBit h.part = true) :
    ((s.stream k).owner = none → s.releasesHeld = false → s.doReleaseMsg q k bs = s.serveRelease h)
    ∧ ((s.stream k).owner = none → s.releasesHeld = true → s.doReleaseMsg q k bs = { s with heldRel := s.heldRel ++ [h] })
    ∧ ∀ p, (s.stream k).owner = some p → s.doReleaseMsg q k bs = s.passRelease p h := by
  subst hh
  have hrefused : ¬ (32 ≤ beAt bs 0x14 1 ∨ (!(s.get (Reg.prtStPartMask k)).toNat.testBit (beAt bs 0x14 1)) = true) := by
    rintro (h | h)
    · exact absurd hp (not_lt.mpr h)
    · rw [hm] at h
      cases h
  rw [State.doReleaseMsg, if_neg hrefused]
  refine ⟨fun ho hr => ?_, fun ho hr => ?_, fun p ho => ?_⟩
  · rw [ho]
    exact if_neg (ne_true_of_eq_false hr)
  · rw [ho]
    exact if_pos hr
  · rw [ho]

/-- Settles O37, by what the message is, who sends it and whether its stream is carried here. -/
theorem ethernetMessages : Obligations.EthernetMessages := by
  rintro dt q s v rfl
  refine ⟨fun hoff bs ip udp => ⟨exec_ethFrameReceive_off bs hoff, ?_, ?_, ?_⟩, fun hon =>
    ⟨fun frame ha => exec_ethFrameReceive_dropped hon ha, fun frame ip udp bs ha => exec_ethFrameReceive_taken hon ha, ?_⟩⟩
  · rw [exec_ackMessage, if_neg (ne_true_of_eq_false hoff)]
  · rw [exec_resendMessage, if_neg (ne_true_of_eq_false hoff)]
  · rw [exec_releaseMessage, if_neg (ne_true_of_eq_false hoff)]
  · rintro ip udp k bs x rfl rfl
    rw [exec_ackMessage, exec_resendMessage, exec_releaseMessage, if_pos hon, if_pos hon, if_pos hon]
    generalize s.start dt = v at *
    refine ⟨fun w hok hw => ⟨fun hty => ?_, fun hty => ?_, fun hty hfrom => ?_, fun hty hp hk hf hc => ?_⟩, fun hbad => ?_,
      fun hok hp hk hf hc => ⟨fun nxt hty hn => ⟨fun h1 h2 => ?_, fun h => ?_⟩, fun f hty hmem h1 h2 => ?_, fun h hty hh hpart => ?_,
        fun h hty hh hpart hmask => ?_⟩⟩
    · rw [streamMsg_refused ⟨hok, hty⟩ hw (.inl (by decide))]
    · rw [streamMsg_refused ⟨hok, hty⟩ hw (.inl (by decide))]
    · rw [streamMsg_refused ⟨hok, hty⟩ hw (.inr hfrom)]
    · obtain ⟨h1, -⟩ | ⟨-, rfl, -⟩ := hw
      · exact absurd h1 hp
      · rw [streamMsg_release_elsewhere ⟨hok, hty⟩ hp hk hf hc]
    · rw [streamMsg_bad hbad, streamMsg_bad hbad, streamMsg_bad hbad]
      exact ⟨rfl, rfl, rfl⟩
    · subst hn
      rw [streamMsg_taken ⟨hok, hty⟩ hp hk hf hc, if_pos rfl]
      exact ⟨_, rfl, doAck_covers h1 h2⟩
    · subst hn
      rw [streamMsg_taken ⟨hok, hty⟩ hp hk hf hc, if_pos rfl, doAck_outside h]
    · rw [streamMsg_taken ⟨hok, hty⟩ hp hk hf hc, if_neg (by decide), if_pos rfl]
      exact ⟨_, rfl, doResend_names hmem h1 h2⟩
    · rw [streamMsg_taken ⟨hok, hty⟩ hp hk hf hc, if_neg (by decide), if_neg (by decide), doReleaseMsg_masked hh hpart]
    · rw [streamMsg_taken ⟨hok, hty⟩ hp hk hf hc, if_neg (by decide), if_neg (by decide)]
      obtain ⟨hserve, hhold, hpass⟩ := doReleaseMsg_allowed hh hpart hmask
      exact ⟨fun ho hr => congrArg _ (hserve ho hr), fun ho hr => congrArg _ (hhold ho hr), fun p ho => congrArg _ (hpass p ho)⟩

end Sys2Proof.Proofs.Ports

/-! Proofs of the statements of chapter 11 about sending, the management ports and the lane margins (R263, R264, R268 to
R274). -/

namespace Sys2Proof.Proofs.Ports

open Sys2Proof Sys2Proof.Machine

/-! ### Sending on a stream (R263, R264) -/

theorem exec_dataSend (dt : Nat) (k : Fin 256) (s : State) : exec (.dataSend dt k) s
    = if ((s.start dt).stream k).st = 1 ∧ (s.start dt).dataRuns ∧ (s.start dt).portOn ((s.start dt).stream k).port
          ∧ ((s.start dt).stream k).sendAt ≤ (s.start dt).now then .next ((s.start dt).doSend k)
      else .next (s.start dt) := by
  rfl

/-- A stream whose frames are all to be sent again. -/
def retryAll (s : State) (k : Nat) : State :=
  s.setStream k { (s.stream k) with
    retries := (s.stream k).retries + 1, resend := (s.stream k).sent.map (fun f => f.seq), advAt := s.now }

/-- A stream that is abandoned. -/
def abandonStream (s : State) (k : Nat) : State :=
  (s.failStream k).setStream k { ((s.failStream k).stream k) with st := 3, sent := [], resend := [] }

theorem exec_retransmitTimeout (dt : Nat) (k : Fin 256) (s : State) : exec (.retransmitTimeout dt k) s
    = if ((s.start dt).stream k).st = 1 ∧ (s.start dt).dataRuns ∧ !((s.start dt).stream k).sent.isEmpty
          ∧ ((s.start dt).stream k).advAt + (s.start dt).rto k ≤ (s.start dt).now then
        (if (s.start dt).retryMax k ≤ ((s.start dt).stream k).retries then .next (abandonStream (s.start dt) k)
        else .next (retryAll (s.start dt) k))
      else .next (s.start dt) := by
  rfl

theorem doSend_again {s : State} {k q : Nat} {rest : List Nat} {f : Frame} (hr : (s.stream k).resend = q :: rest)
    (hf : (s.stream k).sent.find? (fun f => f.seq == q) = some f) : s.doSend k
      = ((s.setStream k { (s.stream k) with resend := rest }).sendData k true f).inc (Reg.prtStResent k) := by
  rw [State.doSend]
  simp only [hr, hf]

/-- Settles O39, by the state of the stream and of its retries. -/
theorem streamSending : Obligations.StreamSending := by
  rintro dt k s v x rfl rfl
  rw [exec_dataSend, exec_retransmitTimeout]
  generalize s.start dt = v
  refine ⟨fun h => ⟨if_neg ?_, if_neg ?_⟩, fun h => if_neg ?_, fun h => if_neg ?_, fun hst hrun => ⟨fun hon hat =>
    ⟨if_pos ⟨hst, hrun, hon, hat⟩, fun q rest f hr hf => ?_⟩, fun hsent hdue => ?_⟩⟩
  · rintro ⟨hst, hrun, -, -⟩
    exact h.elim (fun h => h hst) (fun h => absurd (h.symm.trans hrun) Bool.noConfusion)
  · rintro ⟨hst, hrun, -, -⟩
    exact h.elim (fun h => h hst) (fun h => absurd (h.symm.trans hrun) Bool.noConfusion)
  · rintro ⟨-, -, hon, hat⟩
    exact h.elim (fun h => absurd (h.symm.trans hon) Bool.noConfusion) (fun h => absurd hat (not_le.mpr h))
  · rintro ⟨-, -, hsent, hdue⟩
    rcases h with h | h
    · rw [h] at hsent
      cases hsent
    · omega
  · rw [if_pos ⟨hst, hrun, hon, hat⟩, doSend_again hr hf]
  · have hsome : (!(v.stream k).sent.isEmpty) = true := by
      rw [Bool.not_eq_true', List.isEmpty_eq_false_iff]
      exact hsent
    rw [if_pos ⟨hst, hrun, hsome, hdue⟩]
    refine ⟨fun hr => ?_, fun hr => ?_⟩
    · rw [if_neg (by omega), retryAll]
      refine ⟨_, rfl, ?_, ?_, ?_, fun j hj => stream_setStream_ne _ _ hj, rfl⟩
      · rw [stream_setStream_self]
      · rw [stream_setStream_self]
      · rw [stream_setStream_self]
    · rw [if_pos hr, abandonStream]
      exact ⟨_, rfl, by rw [stream_setStream_self], by rw [stream_setStream_self]⟩

/-! ### TELEMETRY (R268) -/

theorem exec_telemetrySend_none {dt : Nat} {o : Fin 4} {s : State}
    (h : ((List.range 8).map (fun k => 8 * o.val + k)).find? (s.start dt).portOn = none) :
    exec (.telemetrySend dt o) s = .next (s.start dt) := by
  change execTelemetrySend dt o s = _
  rw [execTelemetrySend]
  simp only [h]

/-- The state in which the telemetry body has been sampled. -/
def sampled (s : State) : State :=
  { s.sampleBody.2 with telem := s.sampleBody.1, telemSeq := (s.telemSeq + 1) % 2 ^ 16 }

theorem exec_telemetrySend_some {dt q : Nat} {o : Fin 4} {s : State}
    (h : ((List.range 8).map (fun k => 8 * o.val + k)).find? (s.start dt).portOn = some q) : exec (.telemetrySend dt o) s
      = if (s.start dt).bit Reg.prtTelemCtl 16 ∧ (s.start dt).power ≤ 2 ∧ !(s.start dt).inReset then
          .next ((sampled (s.start dt)).sendFrame q none (some ((sampled (s.start dt)).collector q))
            (message 6 0xFFFF 0 (s.start dt).sampleBody.1))
        else .next (s.start dt) := by
  change execTelemetrySend dt o s = _
  rw [execTelemetrySend]
  simp only [h]
  rfl

theorem sampled_eq (s : State) : sampled s = { s with
    freeCtr := s.freeCtr + 1, telem := s.sampleBody.1, telemSeq := (s.telemSeq + 1) % 2 ^ 16 } := by
  rfl

theorem portOn_telem (s : State) (q c n : Nat) (b : List Byte) :
    ({ s with freeCtr := c, telem := b, telemSeq := n } : State).portOn q = s.portOn q := by
  rfl

theorem collector_telem (s : State) (q c n : Nat) (b : List Byte) :
    ({ s with freeCtr := c, telem := b, telemSeq := n } : State).collector q = s.collector q := by
  rfl

theorem out_wrq (n : Nat) (s : State) (o v : Nat) : (s.wrq o n v).out = s.out := by
  induction n generalizing s o v with
  | zero => rfl
  | succ n ih => rw [State.wrq, ih, State.put_out]

theorem telem_count (s : State) (o n w k : Nat) : (s.count o n w k).telem = s.telem ∧ (s.count o n w k).telemSeq = s.telemSeq
    ∧ (s.count o n w k).out = s.out := by
  have hkeep := Frame.wrq_keep (p := fun s => (s.telem, s.telemSeq)) ⟨fun _ _ _ => rfl, fun _ _ => rfl⟩ n s o
    (satAdd (2 ^ w - 1) (s.rdq o n) k)
  obtain ⟨htelem, hseq⟩ := Prod.mk.inj hkeep
  exact ⟨htelem, hseq, out_wrq _ _ _ _⟩

/-- A frame of a port that is on. -/
theorem sendFrame_on {s : State} {q : Nat} (k : Option Nat) (dst : Option NetAddr) (bs : List Byte) (h : s.portOn q = true) :
    s.sendFrame q k dst bs = (s.count (Reg.prtEthTx q) 2 64 1).emit (.frame q k dst bs) :=
  if_pos h

/-- The statement's clause about TELEMETRY that is sent. -/
theorem telemetryClause (dt q : Nat) (o : Fin 4) (s v : State) (hv : v = s.start dt)
    (hq : ((List.range 8).map (fun k => 8 * o.val + k)).find? v.portOn = some q) (hctl : v.bit Reg.prtTelemCtl 16 = true)
    (hp : v.power ≤ 2) (hr : v.inReset = false) : ∃ t, exec (.telemetrySend dt o) s = .next t ∧ t.telem = v.sampleBody.1
      ∧ t.telemSeq = (v.telemSeq + 1) % 2 ^ 16
      ∧ t.out = v.out ++ [.frame q none (some (v.collector q)) (message 6 0xFFFF 0 v.sampleBody.1)] := by
  subst hv
  have hon : (s.start dt).portOn q = true := List.find?_some hq
  rw [exec_telemetrySend_some hq, if_pos ⟨hctl, hp, by rw [hr]; rfl⟩]
  generalize s.start dt = v at *
  refine ⟨_, rfl, ?_⟩
  rw [sampled_eq, collector_telem, sendFrame_on _ _ _ (by rw [portOn_telem]; exact hon)]
  obtain ⟨htelem, hseq, hout⟩ := telem_count ({ v with
    freeCtr := v.freeCtr + 1, telem := v.sampleBody.1, telemSeq := (v.telemSeq + 1) % 2 ^ 16 } : State) (Reg.prtEthTx q) 2 64 1
  exact ⟨htelem, hseq, congrArg (· ++ [_]) hout⟩

/-! ### Management messages (R269, R273) -/

theorem exec_mgmtRead (dt : Nat) (q : Fin 32) (bs : List Byte) (s : State) : exec (.mgmtRead dt q bs) s
    = .next (if (s.start dt).portOn q then (s.start dt).mgmtMsg q 7 bs else s.start dt) := by
  rfl

theorem exec_mgmtWrite (dt : Nat) (q : Fin 32) (bs : List Byte) (s : State) : exec (.mgmtWrite dt q bs) s
    = .next (if (s.start dt).portOn q then (s.start dt).mgmtMsg q 9 bs else s.start dt) := by
  rfl

/-- The message counted in the running second of its port. -/
def mgmtCounted (s : State) (q : Nat) : State :=
  { s with mgmtWin := tset s.mgmtWin (0, 0) q ((s.mgmtCount q).1, (s.mgmtCount q).2 + 1) }

theorem mgmtMsg_served {s : State} {q ty : Nat} {bs : List Byte} (hok : msgOk bs = true) (hty : beAt bs 3 1 = ty)
    (hc : (s.mgmtCount q).2 < 1000) (hp : s.priv (2 + q / 8) ≠ 1) : s.mgmtMsg q ty bs
      = if ty = 7 then (mgmtCounted s q).doMgmtRead q bs
        else ((mgmtCounted s q).refuse (2 + q / 8) 2).mgmtResp q (if bs.length < 0x18 then 0 else beAt bs 0x10 4) 2 [] := by
  refine (if_neg ?_).trans ((if_neg (by omega)).trans (if_neg hp))
  rw [hok, hty]
  simp

/-! ### SMBus (R270) -/

theorem exec_smbusRegisterRead (dt off : Nat) (s : State) : exec (.smbusRegisterRead dt off) s
    = .next (if (s.start dt).priv 1 = 1 then (s.start dt).smbNack 5 else ((s.start dt).readAccess .smbus off 4).2.emit
        (smbAnswer 1 (leBytes 1 4 ++ leBytes 4 off) (leBytes 4 ((s.start dt).readAccess .smbus off 4).1))) := by
  rfl

theorem exec_smbusTelemetryRead (dt : Nat) (s : State) : exec (.smbusTelemetryRead dt) s
    = .next (if (s.start dt).priv 1 = 1 then (s.start dt).smbNack 5 else
        (s.start dt).latestBody.2.emit (smbAnswer 2 [] ((s.start dt).latestBody.1.take 32))) := by
  rfl

/-- The body that a sensor read answers from. -/
def sensorBody (s : State) : List Byte × State := if s.power = 3 then s.sampleBody else s.latestBody

theorem exec_smbusSensorRead (dt : Nat) (s : State) : exec (.smbusSensorRead dt) s
    = .next (if (s.start dt).priv 1 = 1 then (s.start dt).smbNack 5 else
        (sensorBody (s.start dt)).2.emit (smbAnswer 3 [] (((sensorBody (s.start dt)).1.drop 32).take 38))) := by
  rfl

theorem exec_smbusOtherCommand (dt command : Nat) (isWrite : Bool) (s : State) : exec (.smbusOtherCommand dt command isWrite) s
    = .next (if isWrite || command == 0 || decide (3 < command) then
        (s.start dt).smbNack (if (s.start dt).priv 1 = 1 then 5 else 6) else s.start dt) := by
  rfl

/-- A command that the port does not know. -/
theorem smbusOther_nacked {dt command : Nat} {isWrite : Bool} {s : State} (h : isWrite = true ∨ command = 0 ∨ 3 < command) :
    exec (.smbusOtherCommand dt command isWrite) s
      = .next ((s.start dt).smbNack (if (s.start dt).priv 1 = 1 then 5 else 6)) := by
  rw [exec_smbusOtherCommand, if_pos]
  rcases h with h | h | h <;> simp [h]

theorem smbusOther_known {dt command : Nat} {s : State} (h1 : 1 ≤ command) (h3 : command ≤ 3) :
    exec (.smbusOtherCommand dt command false) s = .next (s.start dt) := by
  rw [exec_smbusOtherCommand, if_neg]
  simp only [Bool.false_or, Bool.or_eq_true, beq_iff_eq, decide_eq_true_iff]
  omega

theorem latestBody_sent {s : State} (h : s.telem ≠ []) : s.latestBody = (s.telem, s) :=
  if_neg (fun he => h (List.isEmpty_iff.mp he))

theorem latestBody_none {s : State} (h : s.telem = []) : s.latestBody = s.sampleBody :=
  if_pos (List.isEmpty_iff.mpr h)

/-! ### UART (R271) -/

theorem exec_uartStatus (dt : Nat) (s : State) : exec (.uartStatus dt) s
    = .next (if (s.start dt).priv 12 = 3 then (s.start dt).refuse 12 5 else
        (s.start dt).emit (.uart (s.start dt).statusLine)) := by
  rfl

theorem exec_uartOtherLine (dt : Nat) (line : List Byte) (s : State) : exec (.uartOtherLine dt line) s
    = .next (if (s.start dt).recovery || line == text "STATUS" then s.start dt
        else if (s.start dt).priv 12 = 3 then (s.start dt).refuse 12 5
        else ((s.start dt).refuse 12 6).emit (.uart (text "REFUSED" ++ [13]))) := by
  rfl

theorem uartOther_answered {dt : Nat} {line : List Byte} {s : State} (h : (s.start dt).recovery = false)
    (hl : line ≠ text "STATUS") : exec (.uartOtherLine dt line) s
      = .next (if (s.start dt).priv 12 = 3 then (s.start dt).refuse 12 5
        else ((s.start dt).refuse 12 6).emit (.uart (text "REFUSED" ++ [13]))) := by
  rw [exec_uartOtherLine, if_neg]
  rw [h, Bool.false_or, beq_iff_eq]
  exact hl

/-! ### Lane margins (R274) -/

/-- The latest height and width of a lane, and the runs of low and good measurements as given. -/
def marginShown (s : State) (lane height width : Nat) (runs : Nat × Nat) : State :=
  ({ s with margins := tset s.margins (0, 0) lane runs } : State).wr (Reg.prtMargin lane) 15 0
    (min 255 width * 256 + min 255 height)

/-- The runs of low and good measurements after one of either kind. -/
def marginRuns (low : Bool) (m : Nat × Nat) : Nat × Nat := if low then (min 3 (m.1 + 1), 0) else (0, min 3 (m.2 + 1))

/-- What the runs of a lane raise or clear. -/
def marginJudged (s : State) (lane height width : Nat) (runs : Nat × Nat) : Res :=
  let s1 := marginShown s lane height width runs
  if runs.1 = 3 ∧ !s1.bit (Reg.prtMargin lane) 16 then .next ((s1.setBit (Reg.prtMargin lane) 16 true).fault 35 allBanks)
  else if runs.2 = 3 then .next (s1.setBit (Reg.prtMargin lane) 16 false)
  else .next s1

theorem marginJudged_good (s : State) (lane height width n : Nat) : marginJudged s lane height width (0, n)
    = if n = 3 then .next ((marginShown s lane height width (0, n)).setBit (Reg.prtMargin lane) 16 false)
      else .next (marginShown s lane height width (0, n)) := by
  rw [marginJudged]
  exact if_neg (fun h => absurd h.1 (by decide : ¬ (0 = 3)))

theorem marginJudged_low (s : State) (lane height width n : Nat) : marginJudged s lane height width (n, 0)
    = if n = 3 ∧ !(marginShown s lane height width (n, 0)).bit (Reg.prtMargin lane) 16 then
        .next (((marginShown s lane height width (n, 0)).setBit (Reg.prtMargin lane) 16 true).fault 35 allBanks)
      else .next (marginShown s lane height width (n, 0)) := by
  rw [marginJudged]
  exact if_congr Iff.rfl rfl (if_neg (fun h => absurd h (by decide : ¬ (0 = 3))))

theorem exec_marginMeasure (dt : Nat) (lane : Fin 56) (height width : Nat) (s : State) :
    exec (.marginMeasure dt lane height width) s
    = marginJudged (s.start dt) lane height width
        (marginRuns (decide (height < (s.start dt).rd Reg.prtMarginMin 7 0)) (tget (s.start dt).margins (0, 0) lane)) := by
  rfl

/-- A half word is its two bytes. -/
theorem rd_bytes (s : State) (o : Nat) : s.rd o 7 0 = s.rd o 15 0 % 256 ∧ s.rd o 15 8 = s.rd o 15 0 / 256 := by
  simp only [State.rd, fld, bitsOf]
  omega

theorem marginShown_shows (s : State) (lane height width : Nat) (runs : Nat × Nat) :
    (marginShown s lane height width runs).rd (Reg.prtMargin lane) 7 0 = min 255 height
      ∧ (marginShown s lane height width runs).rd (Reg.prtMargin lane) 15 8 = min 255 width
      ∧ (marginShown s lane height width runs).bit (Reg.prtMargin lane) 16 = s.bit (Reg.prtMargin lane) 16
      ∧ OnlyRegs [Reg.prtMargin lane] { s with margins := tset s.margins (0, 0) lane runs } (marginShown s lane height width runs) := by
  have hhalf : (marginShown s lane height width runs).rd (Reg.prtMargin lane) 15 0 = min 255 width * 256 + min 255 height := by
    rw [marginShown, State.rd_wr_self _ (by decide) (by decide)]
    omega
  obtain ⟨hlow, hhigh⟩ := rd_bytes (marginShown s lane height width runs) (Reg.prtMargin lane)
  refine ⟨?_, ?_, ?_, (OnlyRegs.refl _ _).wr (by simp) 15 0 _⟩
  · rw [hlow, hhalf]
    omega
  · rw [hhigh, hhalf]
    omega
  · exact State.bit_wr_apart _ (by decide) (by decide) (by decide)

/-- The flag of a lane, set or cleared, leaves the measurement. -/
theorem marginFlag_shows (s : State) (lane height width : Nat) (runs : Nat × Nat) (b : Bool) :
    ((marginShown s lane height width runs).setBit (Reg.prtMargin lane) 16 b).rd (Reg.prtMargin lane) 7 0 = min 255 height
      ∧ ((marginShown s lane height width runs).setBit (Reg.prtMargin lane) 16 b).rd (Reg.prtMargin lane) 15 8 = min 255 width
      ∧ ((marginShown s lane height width runs).setBit (Reg.prtMargin lane) 16 b).bit (Reg.prtMargin lane) 16 = b
      ∧ OnlyRegs [Reg.prtMargin lane] { s with margins := tset s.margins (0, 0) lane runs }
        ((marginShown s lane height width runs).setBit (Reg.prtMargin lane) 16 b) := by
  obtain ⟨hheight, hwidth, -, honly⟩ := marginShown_shows s lane height width runs
  refine ⟨?_, ?_, State.bit_setBit_self _ b (by decide), honly.setBit (by simp) 16 b⟩
  · rw [State.setBit, State.rd_wr_apart _ (by decide) (by decide) (by decide), hheight]
  · rw [State.setBit, State.rd_wr_apart _ (by decide) (by decide) (by decide), hwidth]

/-- Bits 16 to 0 of a register, put together from the flag and the two bytes. -/
theorem rd_flag (s : State) (o : Nat) : s.rd o 16 0 = 2 ^ 16 * b2n (s.bit o 16) + 256 * s.rd o 15 8 + s.rd o 7 0 := by
  simp only [State.rd, State.bit, fld, bitsOf, b2n, Nat.testBit_eq_decide_div_mod_eq, decide_eq_true_iff, Nat.shiftRight_eq_div_pow]
  split <;> omega

/-- The statement's clauses about a measurement. -/
theorem marginClauses (dt : Nat) (lane : Fin 56) (height width : Nat) (s v : State) (hv : v = s.start dt) :
    (v.rd Reg.prtMarginMin 7 0 ≤ height → ∃ t, exec (.marginMeasure dt lane height width) s = .next t
      ∧ t.rd (Reg.prtMargin lane) 7 0 = min 255 height ∧ t.rd (Reg.prtMargin lane) 15 8 = min 255 width
      ∧ (2 ≤ (tget v.margins (0, 0) lane).2 → t.bit (Reg.prtMargin lane) 16 = false)
      ∧ ((tget v.margins (0, 0) lane).2 < 2 → t.bit (Reg.prtMargin lane) 16 = v.bit (Reg.prtMargin lane) 16)
      ∧ OnlyRegs [Reg.prtMargin lane] { v with margins := t.margins } t)
    ∧ (height < v.rd Reg.prtMarginMin 7 0 → ((tget v.margins (0, 0) lane).1 < 2 ∨ v.bit (Reg.prtMargin lane) 16 = true) →
      ∃ t, exec (.marginMeasure dt lane height width) s = .next t
      ∧ t.rd (Reg.prtMargin lane) 7 0 = min 255 height ∧ t.rd (Reg.prtMargin lane) 15 8 = min 255 width
      ∧ t.bit (Reg.prtMargin lane) 16 = v.bit (Reg.prtMargin lane) 16
      ∧ OnlyRegs [Reg.prtMargin lane] { v with margins := t.margins } t)
    ∧ (height < v.rd Reg.prtMarginMin 7 0 → 2 ≤ (tget v.margins (0, 0) lane).1 → v.bit (Reg.prtMargin lane) 16 = false →
      ∃ w, exec (.marginMeasure dt lane height width) s = .next (w.fault 35 allBanks)
        ∧ w.rd (Reg.prtMargin lane) 16 0 = 2 ^ 16 + 256 * min 255 width + min 255 height
        ∧ OnlyRegs [Reg.prtMargin lane] { v with margins := w.margins } w) := by
  subst hv
  rw [exec_marginMeasure]
  generalize s.start dt = v
  refine ⟨fun h => ?_, fun h hfew => ?_, fun h hmany hflag => ?_⟩
  · rw [decide_eq_false (not_lt.mpr h), marginRuns, if_neg Bool.false_ne_true, marginJudged_good]
    generalize hn : min 3 ((tget v.margins (0, 0) lane).2 + 1) = n
    obtain ⟨hheight, hwidth, hbit, honly⟩ := marginShown_shows v lane height width (0, n)
    obtain ⟨hheight', hwidth', hbit', honly'⟩ := marginFlag_shows v lane height width (0, n) false
    by_cases hm : 2 ≤ (tget v.margins (0, 0) lane).2
    · rw [if_pos (by omega)]
      exact ⟨_, rfl, hheight', hwidth', fun _ => hbit', fun hc => absurd hm (not_le.mpr hc), honly'⟩
    · rw [if_neg (by omega)]
      exact ⟨_, rfl, hheight, hwidth, fun hc => absurd hc hm, fun _ => hbit, honly⟩
  · rw [decide_eq_true h, marginRuns, if_pos rfl, marginJudged_low]
    generalize hn : min 3 ((tget v.margins (0, 0) lane).1 + 1) = n
    obtain ⟨hheight, hwidth, hbit, honly⟩ := marginShown_shows v lane height width (n, 0)
    rw [if_neg]
    · exact ⟨_, rfl, hheight, hwidth, hbit, honly⟩
    · rintro ⟨hthree, hclear⟩
      rcases hfew with hfew | hset
      · omega
      · rw [hbit, hset] at hclear
        cases hclear
  · rw [decide_eq_true h, marginRuns, if_pos rfl, marginJudged_low]
    generalize hn : min 3 ((tget v.margins (0, 0) lane).1 + 1) = n
    obtain ⟨-, -, hbit, -⟩ := marginShown_shows v lane height width (n, 0)
    obtain ⟨hheight, hwidth, hset, honly⟩ := marginFlag_shows v lane height width (n, 0) true
    rw [if_pos ⟨by omega, by rw [hbit, hflag]; rfl⟩]
    refine ⟨_, rfl, ?_, honly⟩
    rw [rd_flag, hheight, hwidth, hset]
    rfl

/-- Settles O40, by what each port may answer, and for a lane by the runs of its measurements. -/
theorem managementPorts : Obligations.ManagementPorts := by
  refine ⟨?_, marginClauses⟩
  rintro dt s v rfl
  refine ⟨fun o q hq hctl hp hr => telemetryClause dt q o s _ rfl hq hctl hp hr, fun o h => ?_, fun q bs hoff => ⟨?_, ?_⟩,
    fun q bs hon => ⟨?_, ?_⟩, fun command h1 h3 => smbusOther_known h1 h3, fun line h => ?_,
    fun q bs w hon hok hc hp hw => ⟨fun hty => ?_, fun hty => ?_⟩, fun hp => ⟨fun off => ?_, ?_, latestBody_sent, latestBody_none,
      fun hpow => ?_, fun hpow => ?_, fun command isWrite h => ?_⟩, fun hp => ⟨fun off => ?_, ?_, ?_, fun command isWrite h => ?_⟩,
    fun hp => ⟨?_, fun line hr hl => ?_⟩, fun hp => ⟨?_, fun line hr hl => ?_⟩⟩
  · cases hq : ((List.range 8).map (fun k => 8 * o.val + k)).find? (s.start dt).portOn with
    | none => exact exec_telemetrySend_none hq
    | some q =>
      rw [exec_telemetrySend_some hq]
      refine if_neg ?_
      rintro ⟨hctl, hp, hr⟩
      rcases h with h | h | h | h
      · cases h.symm.trans hq
      · exact absurd (h.symm.trans hctl) Bool.noConfusion
      · omega
      · rw [h] at hr
        cases hr
  · rw [exec_mgmtRead, if_neg (ne_true_of_eq_false hoff)]
  · rw [exec_mgmtWrite, if_neg (ne_true_of_eq_false hoff)]
  · rw [exec_mgmtRead, if_pos hon]
  · rw [exec_mgmtWrite, if_pos hon]
  · rw [exec_uartOtherLine, if_pos]
    rcases h with h | h
    · rw [h, Bool.true_or]
    · rw [h, beq_self_eq_true, Bool.or_true]
  · rw [exec_mgmtRead, if_pos hon, mgmtMsg_served hok hty hc hp, if_pos rfl, hw]
    rfl
  · rw [exec_mgmtWrite, if_pos hon, mgmtMsg_served hok hty hc hp, if_neg (by decide), hw]
    rfl
  · rw [exec_smbusRegisterRead, if_neg hp]
  · rw [exec_smbusTelemetryRead, if_neg hp]
  · rw [exec_smbusSensorRead, if_neg hp, sensorBody, if_neg hpow]
  · rw [exec_smbusSensorRead, if_neg hp, sensorBody, if_pos hpow]
  · rw [smbusOther_nacked h, if_neg hp]
  · rw [exec_smbusRegisterRead, if_pos hp]
  · rw [exec_smbusTelemetryRead, if_pos hp]
  · rw [exec_smbusSensorRead, if_pos hp]
  · rw [smbusOther_nacked h, if_pos hp]
  · rw [exec_uartStatus, if_neg hp]
  · rw [uartOther_answered hr hl, if_neg hp]
  · rw [exec_uartStatus, if_pos hp]
  · rw [uartOther_answered hr hl, if_pos hp]

end Sys2Proof.Proofs.Ports

/-! Proofs of the statements of chapter 12 (the ring). -/

namespace Sys2Proof.Proofs.Ring

open Sys2Proof Sys2Proof.Machine

/-! ### Register words and ports -/

theorem bit_wr_self (s : State) {o hi lo i : Nat} (v : Nat) (h : lo ≤ hi) (hh : hi < 32) (h1 : lo ≤ i) (h2 : i ≤ hi) :
    (s.wr o hi lo v).bit o i = v.testBit (i - lo) := by
  rw [State.bit, State.wr, State.get_put_self, testBit_setFld _ _ _ _ _ h hh, if_pos ⟨h1, h2⟩]

theorem rport_setRport_self (s : State) (k : Nat) (x : RPort) : (s.setRport k x).rport k = x :=
  tget_tset_self _ _ _ _

theorem rport_setRport_ne (s : State) {k j : Nat} (x : RPort) (h : j ≠ k) : (s.setRport k x).rport j = s.rport j :=
  tget_tset_ne _ _ _ _ h

theorem bit_setRport (s : State) (k : Nat) (x : RPort) (o i : Nat) : (s.setRport k x).bit o i = s.bit o i := rfl

theorem rd_setRport (s : State) (k : Nat) (x : RPort) (o hi lo : Nat) : (s.setRport k x).rd o hi lo = s.rd o hi lo := rfl

/-- A port and register words change together. -/
theorem onlyRegs_setRport {os : List Nat} {s t : State} {x : Tbl RPort} (h : OnlyRegs os { s with rports := x } t) (k : Nat)
    (p : RPort) : OnlyRegs os { s with rports := (t.setRport k p).rports } (t.setRport k p) :=
  Frame.onlyRegs_map (s := { s with rports := x }) (f := fun u => { u with rports := (t.setRport k p).rports })
    (fun _ _ => rfl) (fun _ => rfl) h

theorem onlyRegs_sameRports {os : List Nat} {s t : State} {x : Tbl RPort} (h : OnlyRegs os { s with rports := x } t) :
    OnlyRegs os { s with rports := t.rports } t := by
  rw [show t.rports = x from Frame.onlyRegs_keep (p := State.rports) (fun _ _ => rfl) h]
  exact h

/-! ### What the election shows (R279, R287) -/

theorem onlyRegs_elect {os : List Nat} {s t : State} (h : OnlyRegs os s t) (ho : Reg.rngStatus ∈ os) :
    OnlyRegs os s t.elect := by
  have h0 : OnlyRegs os s ((t.setBit Reg.rngStatus 0 t.ringMember).setBit Reg.rngStatus 1 t.roleOk) :=
    (h.setBit ho _ _).setBit ho _ _
  unfold State.elect
  dsimp only
  generalize (t.setBit Reg.rngStatus 0 t.ringMember).setBit Reg.rngStatus 1 t.roleOk = t0 at h0 ⊢
  have hput : ∀ own pos hops align, OnlyRegs os s ((((t0.setBit Reg.rngStatus 2 own).wr Reg.rngStatus 20 15 pos).wr
      Reg.rngStatus 26 21 hops).wr Reg.rngStatus 28 27 align) :=
    fun _ _ _ _ => (((h0.setBit ho _ _).wr ho _ _ _).wr ho _ _ _).wr ho _ _ _
  split
  · exact (h0.wr ho _ _ _).wr ho _ _ _
  · split
    · split
      · exact hput _ _ _ _
      · exact hput _ _ _ _
    · split
      · exact hput _ _ _ _
      · exact hput _ _ _ _

theorem onlyRegs_setForeign {os : List Nat} {s t : State} (h : OnlyRegs os s t) (ho : Reg.rngStatus ∈ os) :
    OnlyRegs os s t.setForeign := h.setBit ho _ _

/-- The election and what is foreign reach one register. -/
theorem onlyRegs_elected (s : State) : OnlyRegs [Reg.rngStatus] s s.elect.setForeign :=
  onlyRegs_setForeign (onlyRegs_elect (OnlyRegs.refl _ s) (by simp)) (by simp)

theorem get_elected (s : State) {o : Nat} (h : o ≠ Reg.rngStatus) : s.elect.setForeign.get o = s.get o :=
  (onlyRegs_elected s).2 o (by simpa using h)

theorem rports_elected (s : State) : s.elect.setForeign.rports = s.rports :=
  Frame.onlyRegs_keep (p := State.rports) (fun _ _ => rfl) (onlyRegs_elected s)

theorem rport_elected (s : State) (k : Nat) : s.elect.setForeign.rport k = s.rport k := by
  rw [State.rport, rports_elected, State.rport]

theorem rngPortStatus_ne (k : Nat) : Reg.rngPortStatus k ≠ Reg.rngStatus := by
  rw [Reg.rngPortStatus, Reg.rngStatus]
  omega

theorem bit_elected (s : State) (k i : Nat) : s.elect.setForeign.bit (Reg.rngPortStatus k) i = s.bit (Reg.rngPortStatus k) i := by
  rw [State.bit, get_elected s (rngPortStatus_ne k), State.bit]

theorem rd_elected (s : State) (k hi lo : Nat) :
    s.elect.setForeign.rd (Reg.rngPortStatus k) hi lo = s.rd (Reg.rngPortStatus k) hi lo := by
  rw [State.rd, get_elected s (rngPortStatus_ne k), State.rd]

/-! ### Segments (R277, R278) -/

/-- A segment brought up at the generation `g`. -/
def segUp (s : State) (k g : Nat) (a064 : Bool) : State :=
  ((((s.wr (Reg.rngPortStatus k) 2 0 (1 + 2 * g)).setBit (Reg.rngPortStatus k) 3 a064).setRport k
    { s.rport k with tries := 0, downAt := none, raised := false }).elect).setForeign

theorem exec_segmentTrainEnd_pass (dt : Nat) (d : Dir) (peerMax bypassed : Nat) (a064 : Bool) (s : State) :
    exec (.segmentTrainEnd dt d .pass ⟨peerMax, a064⟩ bypassed) s
      = if !(s.start dt).bypassOpen || (s.start dt).bit (Reg.rngPortStatus (dirNat d)) 0
          || (s.start dt).segTop peerMax bypassed a064 - ((s.start dt).rport (dirNat d)).tries == 0 then .next (s.start dt)
        else .next (segUp (s.start dt) (dirNat d)
          ((s.start dt).segTop peerMax bypassed a064 - ((s.start dt).rport (dirNat d)).tries) a064) := by
  rfl

theorem exec_segmentTrainEnd_fail (dt : Nat) (d : Dir) (peerMax bypassed : Nat) (a064 : Bool) (s : State) :
    exec (.segmentTrainEnd dt d .fail ⟨peerMax, a064⟩ bypassed) s
      = if !(s.start dt).bypassOpen || (s.start dt).bit (Reg.rngPortStatus (dirNat d)) 0
          || (s.start dt).segTop peerMax bypassed a064 - ((s.start dt).rport (dirNat d)).tries == 0 then .next (s.start dt)
        else .next ((s.start dt).setRport (dirNat d) { (s.start dt).rport (dirNat d) with
          tries := if (s.start dt).segTop peerMax bypassed a064 - ((s.start dt).rport (dirNat d)).tries = 1 then 0
            else ((s.start dt).rport (dirNat d)).tries + 1 }) := by
  rfl

theorem segUp_shows (s : State) (k : Nat) {g : Nat} (a064 : Bool) (hg : g ≤ 3) :
    (segUp s k g a064).bit (Reg.rngPortStatus k) 0 = true ∧ (segUp s k g a064).rd (Reg.rngPortStatus k) 2 1 = g
      ∧ (segUp s k g a064).bit (Reg.rngPortStatus k) 3 = a064 ∧ ((segUp s k g a064).rport k).tries = 0
      ∧ OnlyRegs [Reg.rngPortStatus k, Reg.rngStatus] { s with rports := (segUp s k g a064).rports } (segUp s k g a064) := by
  have hwords : OnlyRegs [Reg.rngPortStatus k, Reg.rngStatus] { s with rports := s.rports }
      ((s.wr (Reg.rngPortStatus k) 2 0 (1 + 2 * g)).setBit (Reg.rngPortStatus k) 3 a064) :=
    ((OnlyRegs.refl _ s).wr (by simp) _ _ _).setBit (by simp) _ _
  refine ⟨?_, ?_, ?_, ?_, ?_⟩
  · rw [segUp, bit_elected, bit_setRport, State.bit_setBit_apart _ _ (by decide) (by decide), bit_wr_self _ _ (by decide) (by decide) (by decide) (by decide),
      Nat.testBit_zero]
    exact decide_eq_true (by omega)
  · rw [segUp, rd_elected, rd_setRport, State.rd_setBit_apart _ _ (by decide) (by decide)]
    have hlow : (s.wr (Reg.rngPortStatus k) 2 0 (1 + 2 * g)).rd (Reg.rngPortStatus k) 2 0 = 1 + 2 * g := by
      rw [State.rd_wr_self _ (by decide) (by decide)]
      omega
    generalize s.wr (Reg.rngPortStatus k) 2 0 (1 + 2 * g) = t at hlow ⊢
    simp only [State.rd, fld, bitsOf] at hlow ⊢
    omega
  · rw [segUp, bit_elected, bit_setRport]
    exact State.bit_setBit_self _ a064 (by decide)
  · rw [segUp, rport_elected, rport_setRport_self]
  · exact onlyRegs_sameRports (onlyRegs_setForeign (onlyRegs_elect (onlyRegs_setRport hwords k _) (by simp)) (by simp))

theorem segTop_le (s : State) (peerMax bypassed : Nat) (a064 : Bool) : s.segTop peerMax bypassed a064 ≤ 3 := by
  have htop : bypassTop bypassed ≤ 3 := by
    rw [bypassTop]
    split
    · omega
    · split
      · omega
      · omega
  rw [State.segTop]
  split
  · omega
  · omega

/-- A segment taken down. -/
def segLost (s : State) (k : Nat) : State :=
  ((((s.portClear k).countFld (Reg.rngPortStatus k) 31 16 1).setRport k { RPort.idle with downAt := some s.now }).elect).setForeign

theorem exec_segmentDown (dt : Nat) (d : Dir) (s : State) : exec (.segmentDown dt d) s
    = if (s.start dt).bit (Reg.rngPortStatus (dirNat d)) 0 then .next (segLost (s.start dt) (dirNat d)) else .next (s.start dt) := by
  rfl

theorem segLost_shows (s : State) (k : Nat) : (segLost s k).bit (Reg.rngPortStatus k) 0 = false
    ∧ (segLost s k).rd (Reg.rngPortStatus k) 31 16 = min (s.rd (Reg.rngPortStatus k) 31 16 + 1) (2 ^ 16 - 1)
    ∧ ((segLost s k).rport k).downAt = some s.now ∧ ((segLost s k).rport k).raised = false
    ∧ OnlyRegs [Reg.rngPortStatus k, Reg.rngStatus] { s with rports := (segLost s k).rports } (segLost s k) := by
  have hclear : OnlyRegs [Reg.rngPortStatus k, Reg.rngStatus] { s with rports := (s.portClear k).rports } (s.portClear k) :=
    onlyRegs_setRport (x := s.rports) ((OnlyRegs.refl _ s).wr (by simp) 14 0 0) k _
  refine ⟨?_, ?_, ?_, ?_, ?_⟩
  · rw [segLost, bit_elected, bit_setRport, State.countFld, State.bit_wr_apart _ (by decide) (by decide) (by decide),
      State.portClear, bit_setRport, bit_wr_self _ _ (by decide) (by decide) (by decide) (by decide), Nat.zero_testBit]
  · rw [segLost, rd_elected, rd_setRport, Words.rd_countFld_self _ _ (by decide) (by decide), min_comm, State.portClear,
      rd_setRport, State.rd_wr_apart _ (by decide) (by decide) (by decide)]
  · rw [segLost, rport_elected, rport_setRport_self]
  · rw [segLost, rport_elected, rport_setRport_self]
    rfl
  · exact onlyRegs_sameRports (onlyRegs_setForeign (onlyRegs_elect (onlyRegs_setRport (hclear.countFld (by simp) _ _ _) k _)
      (by simp)) (by simp))

theorem exec_linkFrameCrcFail (dt : Nat) (d : Dir) (frame : BadFrame) (s : State) : exec (.linkFrameCrcFail dt d frame) s
    = if (s.start dt).bit (Reg.rngPortStatus (dirNat d)) 0 then
        .next (if frame.trig then (s.start dt).countFld (Reg.rngPortErrs (dirNat d)) 31 16 1
          else (s.start dt).countFld (Reg.rngPortErrs (dirNat d)) 15 0 (1 + frame.later))
      else .next (s.start dt) := by
  rfl

theorem exec_segmentDownTimeout_down {dt t : Nat} {d : Dir} {s : State} (h : ((s.start dt).rport (dirNat d)).downAt = some t) :
    exec (.segmentDownTimeout dt d) s
      = if !((s.start dt).rport (dirNat d)).raised && decide (t + 20 * msec < (s.start dt).now) then
          .next (((s.start dt).setRport (dirNat d) { (s.start dt).rport (dirNat d) with raised := true }).fault
            (26 + dirNat d) allBanks)
        else .next (s.start dt) := by
  change execSegmentDownTimeout dt d s = _
  rw [execSegmentDownTimeout]
  simp only [h]

theorem exec_segmentDownTimeout_up {dt : Nat} {d : Dir} {s : State} (h : ((s.start dt).rport (dirNat d)).downAt = none) :
    exec (.segmentDownTimeout dt d) s = .next (s.start dt) := by
  change execSegmentDownTimeout dt d s = _
  rw [execSegmentDownTimeout]
  simp only [h]

/-! ### Positions and the bypass (R279, R281) -/

theorem exec_positionCommit (dt : Nat) (rq : Requester) (s : State) :
    exec (.positionCommit dt rq) s = (s.start dt).hostWrite rq Reg.rngPosSet (fun s => .next s.doPosCommit) := by
  rfl

theorem doPosCommit_writing {s : State} (h : s.posWrite ≠ none) : s.doPosCommit = s :=
  if_pos (Option.isSome_iff_ne_none.mpr h)

theorem doPosCommit_free {s : State} (h : s.posWrite = none) : s.doPosCommit
    = ({ s with posWrite := some (128 * s.rd Reg.rngPosSet 7 7 + s.rd Reg.rngPosSet 5 0) } : State).setBit Reg.rngPosSet 30 false :=
  if_neg (by rw [h]; decide)

theorem exec_positionFlashWriteDone_writing {dt x : Nat} {s : State} (h : (s.start dt).posWrite = some x) :
    exec (.positionFlashWriteDone dt) s
      = .next (({ s.start dt with posWrite := none, posNext := some x } : State).setBit Reg.rngPosSet 30 true) := by
  change execPositionFlashWriteDone dt s = _
  rw [execPositionFlashWriteDone]
  simp only [h]

theorem exec_positionFlashWriteDone_idle {dt : Nat} {s : State} (h : (s.start dt).posWrite = none) :
    exec (.positionFlashWriteDone dt) s = .next (s.start dt) := by
  change execPositionFlashWriteDone dt s = _
  rw [execPositionFlashWriteDone]
  simp only [h]

/-- The ring ports down and the bypass open. -/
def opened (s : State) : State :=
  ({ s with bypassOpen := true } : State).forAll [0, 1] (fun s d => s.setRport d { RPort.idle with downAt := some s.now })

theorem opened_eq (s : State) : opened s
    = (({ s with bypassOpen := true } : State).setRport 0 { RPort.idle with downAt := some s.now }).setRport 1
      { RPort.idle with downAt := some s.now } := by
  rfl

theorem exec_bypassOpen_ready {dt t : Nat} {s : State} (h : (s.start dt).ringReady = some t) : exec (.bypassOpen dt) s
    = if !(s.start dt).bypassOpen && (s.start dt).ringMember && !(s.start dt).inReset && decide (t + msec ≤ (s.start dt).now) then
        .next (opened (s.start dt)).elect
      else .next (s.start dt) := by
  change execBypassOpen dt s = _
  rw [execBypassOpen]
  dsimp only
  split
  · next u hu =>
    obtain rfl := Option.some.inj (hu.symm.trans h)
    rfl
  · next hu => cases hu.symm.trans h

theorem exec_bypassOpen_none {dt : Nat} {s : State} (h : (s.start dt).ringReady = none) :
    exec (.bypassOpen dt) s = .next (s.start dt) := by
  change execBypassOpen dt s = _
  rw [execBypassOpen]
  simp only [h]

theorem opened_shows (s : State) : (opened s).elect.bypassOpen = true ∧ ((opened s).elect.rport 0).downAt = some s.now
    ∧ ((opened s).elect.rport 1).downAt = some s.now
    ∧ OnlyRegs [Reg.rngStatus] { s with bypassOpen := true, rports := (opened s).elect.rports } (opened s).elect := by
  have honly : OnlyRegs [Reg.rngStatus] (opened s) (opened s).elect := onlyRegs_elect (OnlyRegs.refl _ _) (by simp)
  have hports : (opened s).elect.rports = (opened s).rports := Frame.onlyRegs_keep (p := State.rports) (fun _ _ => rfl) honly
  have hport : ∀ k, (opened s).elect.rport k = (opened s).rport k := fun k => by rw [State.rport, hports, State.rport]
  refine ⟨Frame.onlyRegs_keep (p := State.bypassOpen) (fun _ _ => rfl) honly, ?_, ?_, ?_⟩
  · rw [hport, opened_eq, rport_setRport_ne _ _ (by decide), rport_setRport_self]
  · rw [hport, opened_eq, rport_setRport_self]
  · rw [hports]
    exact honly

/-- Settles O41, by what each command changes of a port's register and of its state. -/
theorem ringSegments : Obligations.RingSegments := by
  rintro dt d s v k rfl rfl
  refine ⟨fun peerMax bypassed a064 g hopen hdown hg hg0 => ?_, fun x peerMax bypassed a064 h => ?_, fun hup => ⟨?_, fun later => ?_,
    fun later => ?_⟩, fun hdown => ⟨?_, fun frame => ?_⟩, fun t hat hraised hlate => ?_, fun h => ?_, fun rq what hrefused => ?_,
    fun rq hallowed hnone => ?_, fun rq hallowed hsome => ?_, fun x hx => ?_, exec_positionFlashWriteDone_idle, fun h => ?_,
    fun t hready hclosed hmember hreset hdue => ?_⟩
  · have hg3 := segTop_le (s.start dt) peerMax bypassed a064
    have hgo : (!(s.start dt).bypassOpen || (s.start dt).bit (Reg.rngPortStatus (dirNat d)) 0 || g == 0) = false := by
      rw [hopen, hdown, beq_false_of_ne hg0]
      rfl
    constructor
    · rw [exec_segmentTrainEnd_pass, ← hg, if_neg (ne_true_of_eq_false hgo)]
      exact ⟨_, rfl, segUp_shows (s.start dt) (dirNat d) a064 (by omega)⟩
    · rw [exec_segmentTrainEnd_fail, ← hg, if_neg (ne_true_of_eq_false hgo)]
  · refine if_pos ?_
    rcases h with h | h | h
    · rw [h]
      rfl
    · rw [h, Bool.or_true, Bool.true_or]
    · rw [Nat.sub_eq_zero_of_le h, beq_self_eq_true, Bool.or_true]
  · rw [exec_segmentDown, if_pos hup]
    exact ⟨_, rfl, segLost_shows _ _⟩
  · rw [exec_linkFrameCrcFail, if_pos hup]
    refine ⟨_, rfl, (OnlyRegs.refl _ _).countFld (by simp) _ _ _, ?_, Words.rd_countFld_apart _ _ (by decide) (by decide) (by decide)⟩
    exact (Words.rd_countFld_self _ _ (by decide) (by decide)).trans (min_comm _ _)
  · rw [exec_linkFrameCrcFail, if_pos hup]
    refine ⟨_, rfl, (OnlyRegs.refl _ _).countFld (by simp) _ _ _, ?_, Words.rd_countFld_apart _ _ (by decide) (by decide) (by decide)⟩
    exact (Words.rd_countFld_self _ _ (by decide) (by decide)).trans (min_comm _ _)
  · rw [exec_segmentDown, if_neg (ne_true_of_eq_false hdown)]
  · rw [exec_linkFrameCrcFail, if_neg (ne_true_of_eq_false hdown)]
  · rw [exec_segmentDownTimeout_down hat, if_pos]
    rw [hraised, decide_eq_true hlate]
    rfl
  · cases hat : ((s.start dt).rport (dirNat d)).downAt with
    | none => exact exec_segmentDownTimeout_up hat
    | some t =>
      rw [exec_segmentDownTimeout_down hat, if_neg]
      intro hc
      rw [Bool.and_eq_true, Bool.not_eq_true', decide_eq_true_iff] at hc
      obtain ⟨hfirst, hlate⟩ := hc
      rcases h with h | h | ⟨u, hu, hle⟩
      · cases h.symm.trans hat
      · exact absurd (h.symm.trans hfirst) Bool.noConfusion
      · obtain rfl := Option.some.inj (hat.symm.trans hu)
        omega
  · rw [exec_positionCommit, Frame.hostWrite_refused _ hrefused]
  · rw [exec_positionCommit, Frame.hostWrite_allowed _ hallowed, doPosCommit_free hnone]
    exact ⟨_, rfl, State.bit_setBit_self _ false (by decide), rfl⟩
  · rw [exec_positionCommit, Frame.hostWrite_allowed _ hallowed, doPosCommit_writing hsome]
  · rw [exec_positionFlashWriteDone_writing hx]
    exact ⟨_, rfl, State.bit_setBit_self _ true (by decide), rfl, rfl, State.get_setBit_ne _ _ _ (by decide)⟩
  · cases hready : (s.start dt).ringReady with
    | none => exact exec_bypassOpen_none hready
    | some t =>
      rw [exec_bypassOpen_ready hready, if_neg]
      intro hc
      rw [Bool.and_eq_true, Bool.and_eq_true, Bool.and_eq_true, Bool.not_eq_true', Bool.not_eq_true', decide_eq_true_iff] at hc
      obtain ⟨⟨⟨hclosed, hmember⟩, hreset⟩, hdue⟩ := hc
      rcases h with h | h | h | h | ⟨u, hu, hlt⟩
      · cases h.symm.trans hready
      · exact absurd (h.symm.trans hclosed) Bool.noConfusion
      · exact absurd (h.symm.trans hmember) Bool.noConfusion
      · exact absurd (h.symm.trans hreset) Bool.noConfusion
      · obtain rfl := Option.some.inj (hready.symm.trans hu)
        omega
  · rw [exec_bypassOpen_ready hready, if_pos]
    · exact ⟨_, rfl, opened_shows _⟩
    · rw [hclosed, hmember, hreset, decide_eq_true hdue]
      rfl

end Sys2Proof.Proofs.Ring

/-! Proofs of the statements about the flits of the ring (chapter 12). -/

namespace Sys2Proof.Proofs.Flits

open Sys2Proof Sys2Proof.Machine

/-! ### A flit that is not received -/

theorem exec_trigFlit_none {dt : Nat} {d : Dir} {flit : List Native} {s : State} (h : (s.start dt).recvFlit d 0 flit = none) :
    exec (.trigFlit dt d flit) s = .next (s.start dt) := by
  change execTrigFlit dt d flit s = _
  rw [execTrigFlit]
  simp only [h]

theorem exec_calFlit_none {dt : Nat} {d : Dir} {flit : List Native} {s : State} (h : (s.start dt).recvFlit d 1 flit = none) :
    exec (.calFlit dt d flit) s = .next (s.start dt) := by
  change execCalFlit dt d flit s = _
  rw [execCalFlit]
  simp only [h]

theorem exec_digFlit_none {dt : Nat} {d : Dir} {flit : List Native} {s : State} (h : (s.start dt).recvFlit d 2 flit = none) :
    exec (.digFlit dt d flit) s = .next (s.start dt) := by
  change execDigFlit dt d flit s = _
  rw [execDigFlit]
  simp only [h]

theorem exec_ctlFlit_none {dt : Nat} {d : Dir} {flit : List Native} {s : State} (h : (s.start dt).recvFlit d 3 flit = none) :
    exec (.ctlFlit dt d flit) s = .next (s.start dt) := by
  change execCtlFlit dt d flit s = _
  rw [execCtlFlit]
  simp only [h]

theorem exec_recFlit_none {dt : Nat} {d : Dir} {flit : List Native} {s : State} (h : (s.start dt).recvFlit d 4 flit = none) :
    exec (.recFlit dt d flit) s = .next (s.start dt) := by
  change execRecFlit dt d flit s = _
  rw [execRecFlit]
  simp only [h]

/-! ### A flit that is received (R283) -/

/-- The events of a TRIG flit taken in their order. -/
def takeEvents (s : State) (src b : Nat) : State :=
  s.forAll (List.range (bitsOf b 229 228)) (fun s k =>
    s.takeTrig src (bitsOf b (219 + 4 * k) (216 + 4 * k)) (bitsOf b (71 + 72 * k) (72 * k)))

theorem exec_trigFlit_some {dt b : Nat} {d : Dir} {flit : List Native} {h : FlitHdr} {s : State}
    (hr : (s.start dt).recvFlit d 0 flit = some (h, b)) :
    exec (.trigFlit dt d flit) s = .next ((takeEvents (s.start dt) h.src b).repeatFlit d h b) := by
  change execTrigFlit dt d flit s = _
  rw [execTrigFlit]
  simp only [hr]
  rfl

theorem takeEvents_one {b : Nat} (s : State) (src : Nat) (h : bitsOf b 229 228 = 1) :
    takeEvents s src b = s.takeTrig src (bitsOf b 219 216) (bitsOf b 71 0) := by
  rw [takeEvents, h]
  rfl

theorem takeTrig_seen {s : State} {src l t : Nat} (h : s.hasSeen l src t = true) : s.takeTrig src l t = s := by
  rw [State.takeTrig, h, Bool.true_or, if_pos rfl]

theorem forAll_stays {f : State → Nat → State} {s : State} (l : List Nat) (h : ∀ k ∈ l, f s k = s) : s.forAll l f = s := by
  rw [State.forAll]
  induction l with
  | nil => rfl
  | cons a l ih => rw [List.foldl_cons, h a List.mem_cons_self, ih (fun k hk => h k (List.mem_cons_of_mem a hk))]

theorem takeEvents_seen {s : State} {src b : Nat} (h : ∀ k < bitsOf b 229 228,
    s.hasSeen (bitsOf b (219 + 4 * k) (216 + 4 * k)) src (bitsOf b (71 + 72 * k) (72 * k)) = true) : takeEvents s src b = s :=
  forAll_stays _ (fun k hk => takeTrig_seen (h k (List.mem_range.mp hk)))

theorem exec_calFlit_some {dt b : Nat} {d : Dir} {flit : List Native} {h : FlitHdr} {s : State}
    (hr : (s.start dt).recvFlit d 1 flit = some (h, b)) :
    exec (.calFlit dt d flit) s
      = .next ((if (s.start dt).marksFrom h.src && !(s.start dt).hasSeen 16 h.src (bitsOf b 71 0) then
          ((s.start dt).noteSeen 16 h.src (bitsOf b 71 0)).holdMark ⟨bitsOf b 71 0, bitsOf b 103 72, b.testBit 104, h.src, false⟩
        else s.start dt).repeatFlit d h b) := by
  change execCalFlit dt d flit s = _
  rw [execCalFlit]
  simp only [hr]

theorem exec_digFlit_some {dt b : Nat} {d : Dir} {flit : List Native} {h : FlitHdr} {s : State}
    (hr : (s.start dt).recvFlit d 2 flit = some (h, b)) :
    exec (.digFlit dt d flit) s
      = .next ((if (s.start dt).forMe h then (s.start dt).takeDig h b else s.start dt).repeatFlit d h b) := by
  change execDigFlit dt d flit s = _
  rw [execDigFlit]
  simp only [hr]

theorem exec_ctlFlit_some {dt b : Nat} {d : Dir} {flit : List Native} {h : FlitHdr} {s : State}
    (hr : (s.start dt).recvFlit d 3 flit = some (h, b)) :
    exec (.ctlFlit dt d flit) s = if ((s.start dt).repeatFlit d h b).forMe h then ((s.start dt).repeatFlit d h b).takeCtl d h.src b
      else .next ((s.start dt).repeatFlit d h b) := by
  change execCtlFlit dt d flit s = _
  rw [execCtlFlit]
  simp only [hr]

theorem takeCtl_answer {s : State} (d : Dir) (src : Nat) {b : Nat} (h : bitsOf b 3 0 = 3 ∨ bitsOf b 3 0 = 4 ∨ bitsOf b 3 0 = 5) :
    s.takeCtl d src b = .next (s.takeResponse src (bitsOf b 3 0) (bitsOf b 15 4) (bitsOf b 105 42)) := by
  rw [State.takeCtl]
  exact (if_neg (by omega)).trans (if_pos (by omega))

theorem exec_recFlit_some {dt b : Nat} {d : Dir} {flit : List Native} {h : FlitHdr} {s : State}
    (hr : (s.start dt).recvFlit d 4 flit = some (h, b)) :
    exec (.recFlit dt d flit) s
      = .next ((if (s.start dt).forMe h then (s.start dt).takeRec h b else s.start dt).repeatFlit d h b) := by
  change execRecFlit dt d flit s = _
  rw [execRecFlit]
  simp only [hr]

/-- Settles O42, by what each command does with a flit received and with one that is not. -/
theorem ringFlits : Obligations.RingFlits := by
  rintro dt d flit s v h b rfl
  refine ⟨exec_trigFlit_none, exec_calFlit_none, exec_digFlit_none, exec_ctlFlit_none, exec_recFlit_none,
    fun hr => ⟨_, exec_trigFlit_some hr, fun hone => takeEvents_one _ _ hone, takeEvents_seen⟩, fun hr => ⟨fun hfrom hnew => ?_,
    fun hnot => ?_⟩, exec_digFlit_some, fun hr hother => ?_, fun hr hmine => ?_, exec_recFlit_some⟩
  · rw [exec_calFlit_some hr, hfrom, hnew]
    rfl
  · rw [exec_calFlit_some hr, if_neg]
    intro hc
    rw [Bool.and_eq_true, Bool.not_eq_true'] at hc
    obtain ⟨hfrom, hnew⟩ := hc
    rcases hnot with hnot | hnot
    · exact absurd (hnot.symm.trans hfrom) Bool.noConfusion
    · exact absurd (hnot.symm.trans hnew) Bool.noConfusion
  · rw [exec_ctlFlit_some hr, if_neg (ne_true_of_eq_false hother)]
  · rw [exec_ctlFlit_some hr, if_pos hmine]
    exact ⟨rfl, takeCtl_answer d h.src⟩

end Sys2Proof.Proofs.Flits

/-! The refutation of the statement about ALIGN frames (chapter 12). -/

namespace Sys2Proof.Proofs.Align

open Sys2Proof Sys2Proof.Machine

/-- The offset θ that a measurement at the port `k` in the state `s` finds. -/
def thetaOf (s : State) (k t1 t2 t3 t4 : Nat) : Int :=
  halfFree (diff72 t1 t2 - diff72 t3 t4 - signed 32 (s.get (Reg.rngPortAsym k)).toNat) (Config.freeBit s.freeCtr)

/-- The count of good measurements is neither a register word nor an output. -/
theorem blind_alignGood : Frame.Blind State.alignGood := ⟨fun _ _ _ => rfl, fun _ _ => rfl⟩

theorem alignGood_lostAlign (s : State) (theta : Int) : (s.lostAlign theta).alignGood = s.alignGood :=
  Frame.ite_keep (p := State.alignGood) ((Frame.wr_keep blind_alignGood _ _ _ _ _).trans (Frame.setBit_keep blind_alignGood _ _ _ _))
    rfl

theorem alignGood_judgeStep (s : State) (theta : Int) : (s.judgeStep theta).alignGood = s.alignGood :=
  Frame.ite_keep (p := State.alignGood)
    (Frame.ite_keep (p := State.alignGood) rfl
      ((Frame.setBit_keep blind_alignGood _ _ _ _).trans (Frame.setBit_keep blind_alignGood _ _ _ _)))
    (Frame.setBit_keep blind_alignGood _ _ _ _)

theorem alignGood_nowAligned (s : State) : s.nowAligned.alignGood = s.alignGood := by
  rw [State.nowAligned, Frame.setBit_keep blind_alignGood, Frame.setBit_keep blind_alignGood, Frame.wr_keep blind_alignGood,
    Frame.setBit_keep blind_alignGood]
  rfl

/-- A state judged after a measurement of θ that makes `good` in a row. -/
def judged (s : State) (theta : Int) (good : Nat) : State :=
  if 64 ≤ good then (s.setGood good).nowAligned else ((s.setGood good).lostAlign theta).judgeStep theta

theorem alignGood_judged (s : State) (theta : Int) (good : Nat) : (judged s theta good).alignGood = min 64 good :=
  Frame.ite_keep (p := State.alignGood) (alignGood_nowAligned _) ((alignGood_judgeStep _ _).trans (alignGood_lostAlign _ _))

theorem measure_eq (s : State) (k t1 t2 t3 t4 : Nat) : ∃ u : State, s.measure k t1 t2 t3 t4
    = judged u (thetaOf s k t1 t2 t3 t4) (if (thetaOf s k t1 t2 t3 t4).natAbs ≤ 16 then s.alignGood + 1 else 0) :=
  ⟨_, rfl⟩

/-- A measurement within 16 ticks counts as one more in a row, any other starts the count over. -/
theorem alignGood_measure (s : State) (k t1 t2 t3 t4 : Nat) : (s.measure k t1 t2 t3 t4).alignGood
    = min 64 (if (thetaOf s k t1 t2 t3 t4).natAbs ≤ 16 then s.alignGood + 1 else 0) := by
  obtain ⟨u, hu⟩ := measure_eq s k t1 t2 t3 t4
  rw [hu, alignGood_judged]

theorem exec_alignFlit_measured {dt ago t3 t4 : Nat} {d : Dir} {peer : AlignBody} {s : State}
    (hup : (s.start dt).ringUp (dirNat d) = true)
    (hgo : (((s.start dt).takePeer (dirNat d) peer).follows
      && ((s.start dt).takePeer (dirNat d) peer).parent == some (dirNat d)
      && ((s.start dt).takePeer (dirNat d) peer).counting) = true)
    (ht4 : peer.took = some t4) (ht3 : ((s.start dt).rport (dirNat d)).sentAt = some t3) :
    exec (.alignFlit dt d ago peer) s
      = .next ((((s.start dt).takePeer (dirNat d) peer).takeLoad peer.load).measure (dirNat d) peer.departed
          ((((s.start dt).takePeer (dirNat d) peer).takeLoad peer.load).before ago) t3 t4) := by
  change execAlignFlit dt d ago peer s = _
  rw [execAlignFlit]
  dsimp only
  rw [if_pos hup, if_pos hgo, ht4, ht3]

/-- A follower at Epoch 0 whose East port is up and has sent its frame. -/
def joining : State :=
  { State.reset with
    alm := some Tests.tAlm, bypassOpen := true, counting := true,
    rports := [(0, { RPort.idle with sentAt := some 0 })],
    mem := { Memory.empty with regs := [(Reg.rngPortStatus 0, 1)] } }

/-- The frame of a source that has loaded its Epoch one frame later. -/
def peer : AlignBody := ⟨none, false, some 5, 0, 0, some 0, 8192⟩

def told : State := (joining.start 0).takePeer 0 peer

theorem told_follows : told.follows = true := by rfl

theorem told_parent : told.parent = some 0 := by rfl

theorem told_counting : told.counting = true := by rfl

/-- The receive stamp before the load is taken, and after. -/
theorem before_joining : (joining.start 0).before 0 = 0 := by rfl

theorem before_loaded : (told.takeLoad 8192).before 0 = 8192 := by rfl

theorem asym_loaded : (told.takeLoad 8192).get (Reg.rngPortAsym 0) = 0 := by rfl

theorem theta_joining : (thetaOf (told.takeLoad 8192) 0 0 0 0 0).natAbs = 0 := by
  rw [thetaOf, asym_loaded, halfFree, if_neg]
  · rfl
  · exact fun h => absurd h.1 (by decide)

theorem theta_loaded : (thetaOf (told.takeLoad 8192) 0 0 8192 0 0).natAbs = 4096 := by
  rw [thetaOf, asym_loaded, halfFree, if_neg]
  · rfl
  · exact fun h => absurd h.1 (by decide)

/-- Refutes O43: a frame that brings an Epoch load is stamped after the follower's Epoch has moved with it, and not by the
Epoch as the command begins: here the measurement finds θ = 4096 where the statement's stamp gives 0. -/
theorem not_ringAlignment : ¬ Obligations.RingAlignment := by
  intro h
  obtain ⟨hup, -⟩ := h 0 .east joining (joining.start 0) 0 rfl rfl
  obtain ⟨hflit, -⟩ := hup rfl
  obtain ⟨-, -, hmeasured⟩ := hflit 0 peer told rfl
  have hstated := hmeasured 0 0 told_follows told_parent told_counting rfl rfl
  have hmodel : exec (.alignFlit 0 .east 0 peer) joining
      = .next ((told.takeLoad 8192).measure 0 0 ((told.takeLoad 8192).before 0) 0 0) := exec_alignFlit_measured rfl rfl rfl rfl
  have hgood := congrArg State.alignGood (Host.Outcome.next.inj (hmodel.symm.trans hstated))
  rw [before_loaded, before_joining, alignGood_measure, theta_loaded] at hgood
  change _ = ((told.takeLoad 8192).measure 0 0 0 0 0).alignGood at hgood
  rw [alignGood_measure, theta_joining, if_neg (by decide), if_pos (by decide)] at hgood
  omega

end Sys2Proof.Proofs.Align

/-! Proofs of the statements about the windows of the ring (chapter 12). -/

namespace Sys2Proof.Proofs.Windows

open Sys2Proof Sys2Proof.Machine

/-! ### Resolution (R293) -/

theorem exec_windowResolve (dt : Nat) (w : Fin 64) (s : State) : exec (.windowResolve dt w) s = .next ((s.start dt).doResolve w) := by
  rfl

/-- What a window resolves to has a code of three bits. -/
theorem result_resolveWin_lt (s : State) (ctl : Word) (path : Nat) : (s.resolveWin ctl path).result < 8 := by
  have hunit : ∀ x : RUnit, (WinTarget.at_ x).result < 8
    | .dev _ => (by decide : 1 < 8)
    | .proc _ => (by decide : 2 < 8)
  have hnone : ∀ r, r < 8 → (WinTarget.none r).result < 8 := fun _ h => h
  rw [State.resolveWin]
  split
  · exact hnone 0 (by decide)
  · split
    · exact hnone 4 (by decide)
    · dsimp only
      split
      · split
        · exact hnone 3 (by decide)
        · split
          · split
            · exact hunit _
            · exact hnone 3 (by decide)
          · split
            · exact hunit _
            · exact hnone 3 (by decide)
      · split
        · exact hnone 3 (by decide)
        · split
          · split
            · exact hunit _
            · exact hnone 3 (by decide)
          · exact hnone 3 (by decide)

/-! ### Reads and writes through a window (R293 to R295) -/

/-- An access that the state of the device or its form discards. -/
def winClosed (u : State) (off width : Nat) : Bool := u.inReset || u.recovery || !winFits off width

theorem winClosed_false {u : State} {off width : Nat} (h1 : u.inReset = false) (h2 : u.recovery = false)
    (h3 : winFits off width = true) : winClosed u off width = false := by
  rw [winClosed, h1, h2, h3]
  rfl

theorem winClosed_true {u : State} {off width : Nat} (h : u.inReset = true ∨ u.recovery = true ∨ winFits off width = false) :
    winClosed u off width = true := by
  rw [winClosed]
  rcases h with h | h | h
  · rw [h, Bool.true_or, Bool.true_or]
  · rw [h, Bool.or_true, Bool.true_or]
  · rw [h]
    exact Bool.or_true _

theorem exec_windowRead (dt : Nat) (w : Fin 64) (off width : Nat) (s : State) : exec (.windowRead dt w off width) s
    = if winClosed (s.start dt).demandExit off width then .next ((s.start dt).demandExit.readOnes width)
      else if ((s.start dt).demandExit.winWrites w).isEmpty then .next ((s.start dt).demandExit.readWindow w off width)
      else .next { (s.start dt).demandExit with
        winWait := (s.start dt).demandExit.winWait ++ [(w.val, off, width, (s.start dt).demandExit.winWrites w)] } := by
  rfl

/-- A write through a window in the state `u`, by what the window resolves to. -/
def windowWrite (u : State) (w : Fin 64) (off width value : Nat) : WinTarget → Res
  | .none _ => .next u
  | .at_ (.dev pos) =>
    if u.mine pos then u.writeOwn off width value false
    else .next (u.sendCtl opWrite (some pos) off value (width == 8) .write [pos] w)
  | .at_ (.proc i) =>
    if off < 0x40 then .next u
    else
      let far := (u.arcOfDecl i).filter (fun p => !u.mine p)
      let x := if far.isEmpty then u else u.sendCtl opBroadcast none off value (width == 8) .write far w
      if (u.arcOfDecl i).any u.mine then x.writeOwn off width value true else .next x

theorem exec_windowWrite (dt : Nat) (w : Fin 64) (off width value : Nat) (s : State) : exec (.windowWrite dt w off width value) s
    = if winClosed (s.start dt).demandExit off width then .next (s.start dt).demandExit
      else windowWrite (s.start dt).demandExit w off width value ((s.start dt).demandExit.winTarget w) := by
  change execWindowWrite dt w off width value s = _
  unfold execWindowWrite winClosed
  dsimp only
  generalize (s.start dt).demandExit = u
  refine if_congr Iff.rfl rfl ?_
  cases u.winTarget w with
  | none r => rfl
  | at_ x =>
    cases x with
    | dev pos => rfl
    | proc i => rfl

/-- The requests under way and the next tag. -/
def requests (s : State) : List CtlReq × Nat := (s.ctlReqs, s.ctlTag)

theorem blind_requests : Frame.Blind requests := ⟨fun _ _ _ => rfl, fun _ _ => rfl⟩

theorem requests_pickPort (s : State) : requests s.pickPort.2 = requests s := by
  rw [State.pickPort]
  split
  · rfl
  · rfl

theorem requests_queueTrig (s : State) (d : Nat) : requests (s.queueTrig d) = requests s :=
  Frame.ite_keep (p := requests) (c := s.now < (s.rport d).trigBusy) (Frame.inc_keep blind_requests s _) rfl

theorem requests_sendOne (s : State) (cf dst body : Nat) : requests (s.sendOne cf dst 3 body) = requests s := by
  rw [State.sendOne, State.sendFlit]
  refine Frame.ite_keep (p := requests) ?_ (requests_pickPort s)
  rw [blind_requests.emit]
  exact (Frame.ite_keep (p := requests) (requests_queueTrig _ _) rfl).trans (requests_pickPort s)

/-- A request sent to one unit is under way, under its tag. -/
theorem requests_sendCtl (s : State) (op dst off data : Nat) (wide : Bool) (why : CtlWhy) (l : List Nat) (win : Nat) :
    requests (s.sendCtl op (some dst) off data wide why l win)
      = (s.ctlReqs ++ [⟨s.ctlTag, why, l, s.now, wide, 0, win⟩], (s.ctlTag + 1) % 4096) :=
  requests_sendOne _ _ _ _

/-! ### Requests that are not answered in time (R294) -/

theorem exec_ctlTimeout_none {dt tag : Nat} {s : State} (h : (s.start dt).ctlReqs.find? (fun q => q.tag == tag
      && q.why != .activate && decide (q.sentAt + (s.start dt).ctlTimeout ≤ (s.start dt).now)) = none) :
    exec (.ctlTimeout dt tag) s = .next (s.start dt) := by
  change execCtlTimeout dt tag s = _
  rw [execCtlTimeout, h]

theorem exec_ctlTimeout_some {dt tag : Nat} {s : State} {q : CtlReq} (h : (s.start dt).ctlReqs.find? (fun q => q.tag == tag
      && q.why != .activate && decide (q.sentAt + (s.start dt).ctlTimeout ≤ (s.start dt).now)) = some q) :
    exec (.ctlTimeout dt tag) s
      = .next ((((s.start dt).putReq tag none).countFld Reg.rngCtlStats 15 0 q.from_.length).unanswered q) := by
  change execCtlTimeout dt tag s = _
  rw [execCtlTimeout, h]

/-- A request dropped: those under another tag stay. -/
theorem ctlReqs_putReq_none (s : State) (tag : Nat) : (s.putReq tag none).ctlReqs = s.ctlReqs.filter (fun y => y.tag != tag) := by
  rw [State.putReq]
  change s.ctlReqs.filterMap _ = _
  generalize s.ctlReqs = l
  induction l with
  | nil => rfl
  | cons q l ih =>
    by_cases h : q.tag = tag
    · simp [h, ih]
    · simp [h, ih]

/-- Settles O44, by what a window resolves to and by what is under way through it. -/
theorem ringWindows : Obligations.RingWindows := by
  rintro dt w s v u rfl rfl
  refine ⟨?_, fun off width value r hreset hrecovery hfits => ?_, fun off width value h => ⟨?_, ?_⟩, fun tag h => exec_ctlTimeout_none h,
    fun tag q h => ⟨_, exec_ctlTimeout_some h, ?_, ?_, ?_⟩⟩
  · refine ⟨_, exec_windowResolve dt w s, (State.rd_wr_self _ (by decide) (by decide)).trans ?_⟩
    exact Nat.mod_eq_of_lt (result_resolveWin_lt _ _ _)
  · have hopen := winClosed_false hreset hrecovery hfits
    rw [exec_windowRead, if_neg (ne_true_of_eq_false hopen), exec_windowWrite, if_neg (ne_true_of_eq_false hopen)]
    generalize (s.start dt).demandExit = u at *
    refine ⟨fun hnone => ?_, fun hsome => ?_, fun i hi hoff => ?_, fun hr => ⟨?_, fun hnone => ?_⟩, fun pos hp hmine => ?_,
      fun i all far x hi hoff hall hfar hx => ?_, fun pos hp hmine => ?_⟩
    · rw [hnone, if_pos List.isEmpty_nil]
    · rw [if_neg (by rwa [List.isEmpty_iff])]
    · rw [hi, windowWrite, if_pos hoff]
    · rw [hr, windowWrite]
    · rw [hnone, if_pos List.isEmpty_nil, State.readWindow, hr]
      rfl
    · rw [hp, windowWrite, if_pos hmine]
    · subst hall hfar hx
      rw [hi, windowWrite, if_neg (not_lt.mpr hoff)]
      simp only [List.isEmpty_iff]
      rfl
    · rw [hp, windowWrite, if_neg (ne_true_of_eq_false hmine)]
      obtain ⟨hreqs, htag⟩ := Prod.mk.inj (requests_sendCtl u opWrite pos off value (width == 8) .write [pos] w)
      exact ⟨_, rfl, hreqs, htag⟩
  · rw [exec_windowRead, if_pos (winClosed_true h)]
    rfl
  · rw [exec_windowWrite, if_pos (winClosed_true h)]
  · rw [Words.rd_countFld_self _ _ (by decide) (by decide), min_comm]
    rfl
  · exact (ctlReqs_putReq_none _ _)
  · exact (OnlyRegs.refl _ _).countFld (by simp) _ _ _

end Sys2Proof.Proofs.Windows

/-! Proofs of the statements about power states (chapter 13). -/

namespace Sys2Proof.Proofs.Power

open Sys2Proof Sys2Proof.Machine

/-! ### Words that messages and counters reach -/

theorem get_signal {o n : Nat} (h : o ≠ Reg.msixPba (n / 32)) (s : State) : (s.signal n).get o = s.get o := by
  rw [State.signal]
  split
  · rfl
  · split
    · exact State.get_setBit_ne _ _ _ h
    · split
      · rfl
      · rfl

theorem get_pwrEvent {o : Nat} (h : o ≠ Reg.pwrIrq) (hm : o ≠ Reg.msixPba 0) (s : State) (k : Nat) :
    (s.pwrEvent k).get o = s.get o := by
  rw [State.pwrEvent]
  split
  · rw [get_signal hm, State.get_setBit_ne _ _ _ h]
  · exact State.get_setBit_ne _ _ _ h

theorem rd_whole (s : State) (o : Nat) : s.rd o 31 0 = (s.get o).toNat := by
  rw [State.rd, fld, bitsOf, Nat.shiftRight_zero]
  exact Nat.mod_eq_of_lt (s.get o).isLt

/-- A counter of a whole word goes on by 1 and stops at its greatest value. -/
theorem get_inc_self (s : State) (o : Nat) : (s.inc o).get o = BitVec.ofNat 32 (min (2 ^ 32 - 1) ((s.get o).toNat + 1)) := by
  refine BitVec.eq_of_toNat_eq ?_
  rw [← rd_whole, State.inc, Words.rd_countFld_self s 1 (by decide) (by decide), rd_whole, BitVec.toNat_ofNat, Nat.mod_eq_of_lt]
  omega

theorem get_forAll_settleTok (l : List Nat) (s : State) (o : Nat) : (s.forAll l State.settleTok).get o = s.get o :=
  Frame.forAll_keep (p := fun s => s.get o) (fun s k => Frame.settleTok_keep (p := fun s => s.get o) (fun _ _ _ => rfl) s k) l s

/-! ### The state shown (R311) -/

theorem power_pwrEvent (s : State) (k : Nat) : (s.pwrEvent k).power = s.power := by
  rw [State.power, State.rd, get_pwrEvent (by decide) (by decide), State.power, State.rd]

theorem power_setPower (s : State) {st : Nat} (h : st < 4) : (s.setPower st).power = st := by
  by_cases hsame : s.rd Reg.pwrStatus 1 0 = st
  · rw [State.setPower, if_pos hsame]
    exact hsame
  · rw [State.setPower, if_neg hsame, power_pwrEvent]
    exact (State.rd_wr_self _ (by decide) (by decide)).trans (Nat.mod_eq_of_lt h)

theorem get_setPower {o : Nat} (h : o ≠ Reg.pwrStatus) (hi : o ≠ Reg.pwrIrq) (hm : o ≠ Reg.msixPba 0) (s : State) (st : Nat) :
    (s.setPower st).get o = s.get o := by
  rw [State.setPower]
  split
  · rfl
  · rw [get_pwrEvent hi hm, State.get_wr_ne _ _ _ _ h, get_forAll_settleTok]

theorem move_setPower (s : State) (st : Nat) : (s.setPower st).move = s.move :=
  Frame.setPower_keep (p := State.move) ⟨fun _ _ _ => rfl, fun _ _ => rfl⟩ (fun _ _ _ => rfl) s st

/-! ### Entry and exit (R311, R314) -/

theorem exec_powerStateEntry (dt : Nat) (s : State) : exec (.powerStateEntry dt) s
    = if !(s.start dt).mayEnter || (s.start dt).target == 0 then .next (s.start dt)
      else if (s.start dt).target = 1 then .next ((s.start dt).countEntry 1).stopLantern
      else if (s.start dt).calRun.isSome then .next (s.start dt)
      else .next { s.start dt with move := .entering (s.start dt).target (s.start dt).now } := by
  rfl

theorem stopLantern_shows (s : State) : s.stopLantern.lnt.stopped = true ∧ s.stopLantern.mem = s.mem := ⟨rfl, rfl⟩

/-- The statement's facts about the state Ordinary. -/
theorem countEntry_ordinary (s : State) : (s.countEntry 1).stopLantern.power = 1
    ∧ (s.countEntry 1).stopLantern.lnt.stopped = true
    ∧ (s.countEntry 1).stopLantern.get (Reg.pwrEntries 0)
      = BitVec.ofNat 32 (min (2 ^ 32 - 1) ((s.get (Reg.pwrEntries 0)).toNat + 1)) := by
  obtain ⟨hstopped, hmem⟩ := stopLantern_shows (s.countEntry 1)
  have hget : ∀ o, (s.countEntry 1).stopLantern.get o = ((s.setPower 1).inc (Reg.pwrEntries 0)).get o :=
    State.get_congr (congrArg Memory.regs hmem)
  refine ⟨?_, hstopped, ?_⟩
  · rw [State.power, State.rd, hget, ← State.rd, State.inc, State.countFld, State.rd_wr_ne _ _ _ _ _ _ (by decide)]
    exact power_setPower s (by decide)
  · rw [hget, get_inc_self, get_setPower (by decide) (by decide) (by decide)]

theorem exec_powerStateExit (dt : Nat) (s : State) : exec (.powerStateExit dt) s = .next (s.start dt).demandExit := by
  rfl

theorem exec_wakeNEdge (dt : Nat) (s : State) : exec (.wakeNEdge dt) s = .next (s.start dt).demandExit := by
  rfl

/-- The statement of both commands that demand an exit and nothing else. -/
theorem exits_of_demandExit {dt : Nat} {s u : State} (h : (s.start dt).demandExit = u) :
    exec (.powerStateExit dt) s = .next u ∧ exec (.wakeNEdge dt) s = .next u := by
  rw [exec_powerStateExit, exec_wakeNEdge, h]
  exact ⟨rfl, rfl⟩

theorem demandExit_steady {s : State} (hm : s.move = .steady) (hp : s.power = 1 ∨ s.power = 3) :
    s.demandExit = { s with idleSince := s.now, move := .exiting s.now } := by
  have h0 : ¬ ({ s with idleSince := s.now } : State).power = 0 := by
    change ¬ s.power = 0
    omega
  have h2 : ¬ ({ s with idleSince := s.now } : State).power = 2 := by
    change ¬ s.power = 2
    omega
  rw [State.demandExit]
  split
  · next hno => cases hno.symm.trans hm
  · next hno => cases hno.symm.trans hm
  · rw [if_neg h0]
    exact if_neg h2

theorem demandExit_entering {s : State} {t0 : Nat} (hm : s.move = .entering 1 t0) :
    s.demandExit = { s with idleSince := s.now, move := .steady } := by
  rw [State.demandExit]
  split
  · next t1 t2 h =>
    obtain ⟨rfl, -⟩ := PowerMove.entering.inj (h.symm.trans hm)
    rw [if_neg (by decide)]
  · next hno => cases hno.symm.trans hm
  · next hno => cases hno.symm.trans hm

/-- The device in Feast, as an exit ends. -/
def awake (s : State) : State :=
  ({ s with move := .steady, idleSince := s.now, scrubAt := if s.power = 1 then s.scrubAt else some s.now } : State).setPower 0

/-- The filling groups that slept start their Eve history over. -/
def refilled (s : State) : State :=
  s.forAll (s.enabledGroups.filter (fun g => s.gArmed g && s.gmode g != 1 && (s.grp g).st == .filling))
    (fun z g => (z.settlePorts g).setGrp g { ((z.settlePorts g).grp g) with
      fillFrom := (z.settlePorts g).settledAt g, able := (z.settlePorts g).ep })

/-- What waited for Feast goes on; `ring` where the ring ports were off. -/
def resumed (s : State) (ring : Bool) : State := (s.resumeLinks ring).endAllPauses.sensePins.deliverWake

/-- A RELOAD that waited for the exit is acted on. -/
def exitEnd (x : State) : State := if x.reloadWait.isSome then x.checkReload else x

theorem exec_powerExitComplete_done {dt t0 : Nat} {s : State} (hm : (s.start dt).move = .exiting t0)
    (hd : (s.start dt).exitDone = true) : exec (.powerExitComplete dt) s
      = .next (exitEnd (resumed (if (s.start dt).power = 1 then awake (s.start dt) else refilled (awake (s.start dt)))
          ((s.start dt).power == 3))) := by
  change execPowerExitComplete dt s = _
  unfold execPowerExitComplete
  dsimp only
  split
  · exact if_pos hd
  · next hno => exact absurd hm (hno t0)

theorem exec_powerExitComplete_waits {dt : Nat} {s : State} (hd : (s.start dt).exitDone = false) :
    exec (.powerExitComplete dt) s = .next (s.start dt) := by
  change execPowerExitComplete dt s = _
  unfold execPowerExitComplete
  dsimp only
  split
  · exact if_neg (ne_true_of_eq_false hd)
  · rfl

theorem awake_shows (s : State) : (awake s).power = 0 ∧ (awake s).move = .steady :=
  ⟨power_setPower _ (by decide), move_setPower _ 0⟩

/-! ### Policy (R310) -/

theorem exec_powerPolicyWrite_ctl (dt : Nat) (rq : Requester) (value : Word) (s : State) :
    exec (.powerPolicyWrite dt rq Reg.pwrCtl value) s
      = (s.start dt).hostWrite rq Reg.pwrCtl (fun s => guardReserved (fld value 31 2 != 0) (s.put Reg.pwrCtl value)) := by
  rfl

theorem exec_powerPolicyWrite_tolerance {dt off : Nat} {rq : Requester} {value : Word} {s : State}
    (h : off = Reg.pwrTolCapture ∨ off = Reg.pwrTolEgress ∨ off = Reg.pwrTolControl) :
    exec (.powerPolicyWrite dt rq off value) s
      = (s.start dt).hostWrite rq off (fun s => .next (s.put off value).demandExit) := by
  refine (if_neg ?_).trans (if_pos h)
  rcases h with h | h | h
  · rw [h]
    decide
  · rw [h]
    decide
  · rw [h]
    decide

theorem exec_powerPolicyWrite_other {dt off : Nat} {rq : Requester} {value : Word} {s : State} (h : off ≠ Reg.pwrCtl)
    (hc : off ≠ Reg.pwrTolCapture) (he : off ≠ Reg.pwrTolEgress) (ht : off ≠ Reg.pwrTolControl) :
    exec (.powerPolicyWrite dt rq off value) s = .next (s.start dt) :=
  (if_neg h).trans (if_neg (by rintro (h | h | h) <;> contradiction))

/-- The statement's first half. -/
theorem stateClauses (dt : Nat) (s v : State) (hv : v = s.start dt) :
    (v.mayEnter = true → v.target = 1 → ∃ t, exec (.powerStateEntry dt) s = .next t ∧ t.power = 1 ∧ t.lnt.stopped = true
      ∧ t.get (Reg.pwrEntries 0) = BitVec.ofNat 32 (min (2 ^ 32 - 1) ((v.get (Reg.pwrEntries 0)).toNat + 1)))
    ∧ (v.mayEnter = true → 2 ≤ v.target → v.calRun = none →
      exec (.powerStateEntry dt) s = .next { v with move := .entering v.target v.now })
    ∧ ((v.mayEnter = false ∨ v.target = 0 ∨ (2 ≤ v.target ∧ v.calRun ≠ none)) → exec (.powerStateEntry dt) s = .next v) := by
  subst hv
  rw [exec_powerStateEntry]
  generalize s.start dt = v
  refine ⟨fun hm ht => ?_, fun hm ht hc => ?_, fun h => ?_⟩
  · rw [hm, ht]
    exact ⟨_, rfl, countEntry_ordinary v⟩
  · have hgo : (!v.mayEnter || v.target == 0) = false := by
      rw [hm, beq_false_of_ne (by omega)]
      rfl
    rw [if_neg (ne_true_of_eq_false hgo), if_neg (by omega), if_neg (by rw [hc]; decide)]
  · rcases h with h | h | ⟨h, hc⟩
    · rw [h]
      rfl
    · rw [h, beq_self_eq_true, Bool.or_true, if_pos rfl]
    · split
      · rfl
      · rw [if_neg (by omega), if_pos (Option.isSome_iff_ne_none.mpr hc)]

/-! ### The ceiling (R315) -/

/-- A measurement taken: the last hundred, and their mean. -/
def lastHundred (s : State) (mw : Nat) : List Nat := (s.powerRaw ++ [mw]).drop (s.powerRaw.length - 99)

def meanPower (s : State) (mw : Nat) : Nat := (lastHundred s mw).sum / (lastHundred s mw).length

def measured (s : State) (mw : Nat) : State :=
  (({ s with powerRaw := lastHundred s mw } : State).put Reg.pwrPower (BitVec.ofNat 32 mw)).put Reg.pwrPowerAvg
    (BitVec.ofNat 32 (meanPower s mw))

theorem exec_powerMeasure (dt mw : Nat) (s : State) : exec (.powerMeasure dt mw) s
    = if (s.start dt).maxW * 1000 < meanPower (s.start dt) mw then
        .next (if (s.start dt).bit Reg.pwrStatus 11 then { measured (s.start dt) mw with throttleOk := none }
          else (({ measured (s.start dt) mw with throttleOk := none } : State).fault 17 allBanks).setThrottle true)
      else if (s.start dt).bit Reg.pwrStatus 11 ∧ meanPower (s.start dt) mw * 100 ≤ (s.start dt).maxW * 1000 * 95 then
        .next (if (s.start dt).throttleOk.getD (s.start dt).now + 100 * msec ≤ (s.start dt).now then
            ({ measured (s.start dt) mw with throttleOk := none } : State).setThrottle false
          else { measured (s.start dt) mw with throttleOk := some ((s.start dt).throttleOk.getD (s.start dt).now) })
      else .next { measured (s.start dt) mw with throttleOk := none } := by
  rfl

theorem bit_setThrottle (s : State) (on : Bool) : (s.setThrottle on).bit Reg.pwrStatus 11 = on := by
  rw [State.setThrottle, State.bit, get_pwrEvent (by decide) (by decide), ← State.bit, State.bit_setBit_self _ _ (by decide)]

theorem throttleOk_setThrottle (s : State) (on : Bool) : (s.setThrottle on).throttleOk = s.throttleOk := by
  have hp : Frame.Blind State.throttleOk := ⟨fun _ _ _ => rfl, fun _ _ => rfl⟩
  rw [State.setThrottle, Frame.pwrEvent_keep hp, Frame.setBit_keep hp]
  exact Frame.forAll_keep (Frame.settleTok_keep (p := State.throttleOk) (fun _ _ _ => rfl)) _ s

theorem measured_shows (s : State) (mw : Nat) : (measured s mw).get Reg.pwrPower = BitVec.ofNat 32 mw
    ∧ (measured s mw).get Reg.pwrPowerAvg = BitVec.ofNat 32 (meanPower s mw) := by
  rw [measured]
  refine ⟨?_, State.get_put_self _ _ _⟩
  rw [State.get_put_ne _ _ (by decide), State.get_put_self]

/-- The statement's second half. -/
theorem measureClauses (dt mw : Nat) (s v : State) (hv : v = s.start dt) :
    (v.maxW * 1000 < meanPower v mw → v.bit Reg.pwrStatus 11 = false → ∃ t, exec (.powerMeasure dt mw) s = .next t
      ∧ t = (({ measured v mw with throttleOk := none } : State).fault 17 allBanks).setThrottle true
      ∧ t.bit Reg.pwrStatus 11 = true)
    ∧ (v.maxW * 1000 < meanPower v mw → v.bit Reg.pwrStatus 11 = true →
      exec (.powerMeasure dt mw) s = .next { measured v mw with throttleOk := none })
    ∧ (meanPower v mw * 100 ≤ v.maxW * 1000 * 95 → v.bit Reg.pwrStatus 11 = true → ∀ from_, from_ = v.throttleOk.getD v.now →
      (v.now < from_ + 100 * msec → exec (.powerMeasure dt mw) s = .next { measured v mw with throttleOk := some from_ })
      ∧ (from_ + 100 * msec ≤ v.now → ∃ t, exec (.powerMeasure dt mw) s = .next t ∧ t.bit Reg.pwrStatus 11 = false
        ∧ t.throttleOk = none))
    ∧ (meanPower v mw ≤ v.maxW * 1000 → (v.bit Reg.pwrStatus 11 = false ∨ v.maxW * 1000 * 95 < meanPower v mw * 100) →
      exec (.powerMeasure dt mw) s = .next { measured v mw with throttleOk := none }) := by
  subst hv
  rw [exec_powerMeasure]
  generalize s.start dt = v
  refine ⟨fun hover hoff => ?_, fun hover hon => ?_, fun hlow hon from_ hfrom => ⟨fun hearly => ?_, fun hdue => ?_⟩,
    fun hunder h => ?_⟩
  · rw [if_pos hover, if_neg (ne_true_of_eq_false hoff)]
    exact ⟨_, rfl, rfl, bit_setThrottle _ true⟩
  · rw [if_pos hover, if_pos hon]
  · rw [if_neg (by omega), if_pos ⟨hon, hlow⟩, ← hfrom, if_neg (not_le.mpr hearly)]
  · rw [if_neg (by omega), if_pos ⟨hon, hlow⟩, ← hfrom, if_pos hdue]
    exact ⟨_, rfl, bit_setThrottle _ false, throttleOk_setThrottle _ false⟩
  · rw [if_neg (not_lt.mpr hunder), if_neg]
    rintro ⟨hon, hlow⟩
    rcases h with h | h
    · exact absurd (h.symm.trans hon) Bool.noConfusion
    · omega

/-- Settles O46, by what each command makes of the state of the device and of the mean. -/
theorem powerStates : Obligations.PowerStates := by
  refine ⟨?_, ?_⟩
  · rintro dt s v rfl
    obtain ⟨hordinary, hdeeper, hstays⟩ := stateClauses dt s _ rfl
    refine ⟨hordinary, hdeeper, hstays, ⟨exec_powerStateExit dt s, exec_wakeNEdge dt s⟩, ?_, ?_, ?_, ?_,
      exec_powerExitComplete_waits, ?_, ?_, ?_⟩
    · rintro hm hp u rfl
      exact exits_of_demandExit (demandExit_steady hm hp)
    · rintro t0 hm u rfl
      exact exits_of_demandExit (demandExit_entering hm)
    · intro t0 w x hm hd hp hw hx
      have hawake : w = awake (s.start dt) := by rw [hw, awake, if_pos hp]
      obtain ⟨hpower, hmove⟩ := awake_shows (s.start dt)
      rw [exec_powerExitComplete_done hm hd, if_pos hp, ← hawake, beq_false_of_ne (by omega), resumed, ← hx]
      rw [← hawake] at hpower hmove
      exact ⟨hpower, hmove, rfl⟩
    · intro t0 w y x hm hd hp hw hy hx
      have hawake : w = awake (s.start dt) := by rw [hw, awake, if_neg hp]
      obtain ⟨hpower, hmove⟩ := awake_shows (s.start dt)
      rw [exec_powerExitComplete_done hm hd, if_neg hp, ← hawake, refilled, ← hy, resumed, ← hx]
      rw [← hawake] at hpower hmove
      exact ⟨hpower, hmove, rfl⟩
    · rintro rq value off what (rfl | h) hrefused
      · rw [exec_powerPolicyWrite_ctl, Frame.hostWrite_refused _ hrefused]
      · rw [exec_powerPolicyWrite_tolerance h, Frame.hostWrite_refused _ hrefused]
    · exact fun rq value off h hc he ht => exec_powerPolicyWrite_other h hc he ht
    · intro rq value off hallowed
      refine ⟨fun h => ?_, ?_, ?_⟩
      · rw [exec_powerPolicyWrite_tolerance h, Frame.hostWrite_allowed _ hallowed]
      · rintro rfl hres
        rw [exec_powerPolicyWrite_ctl, Frame.hostWrite_allowed _ hallowed, hres]
        exact ⟨_, rfl, State.get_put_self _ _ _, (OnlyRegs.refl _ _).put (by simp) _⟩
      · rintro rfl hres
        rw [exec_powerPolicyWrite_ctl, Frame.hostWrite_allowed _ hallowed, guardReserved, if_pos (bne_iff_ne.mpr hres)]
  · rintro dt mw avg lim raw s v u rfl rfl rfl rfl rfl
    exact ⟨measured_shows _ mw, measureClauses dt mw s _ rfl⟩

end Sys2Proof.Proofs.Power

/-! What the commit of records and the ends of captures leave unchanged (chapters 6 and 8), for any part of the state that a
function `p` of it reads. -/

namespace Sys2Proof.Proofs.Frame

open Sys2Proof Sys2Proof.Machine

variable {α : Type}

/-- The words that capture writes lie above the management block and the flash registers. -/
def CaptureWord (o : Nat) : Prop := 0x90000 ≤ o

theorem captureWord_add {a : Nat} (h : 0x90000 ≤ a) (b : Nat) : CaptureWord (a + b) := le_trans h (Nat.le_add_right a b)

theorem captureWord_aqgStatus (g : Nat) : CaptureWord (Reg.aqgStatus g) := captureWord_add (by decide) _

theorem captureWord_aqgAccDiscarded (g : Nat) : CaptureWord (Reg.aqgAccDiscarded g) := captureWord_add (by decide) _

theorem captureWord_aqgAccSums (g : Nat) : CaptureWord (Reg.aqgAccSums g) := captureWord_add (by decide) _

theorem captureWord_aqgAbandoned (g : Nat) : CaptureWord (Reg.aqgAbandoned g) := captureWord_add (by decide) _

/-- A part of the state that the commit of a record does not reach. -/
structure CaptureBlind (p : State → α) : Prop where
  put : ∀ s o w, CaptureWord o → p (State.put s o w) = p s
  emit : ∀ s x, p (State.emit s x) = p s
  groups : ∀ s g x, p (State.setGrp s g x) = p s
  parts : ∀ s q x, p (State.setPart s q x) = p s
  tokens : ∀ (s : State) n t, p { s with short := n, tokens := t } = p s
  space : ∀ s a ws, p (State.writeGranule s a ws) = p s
  free : ∀ (s : State) n, p { s with freeCtr := n } = p s

section

variable {p : State → α} (hp : CaptureBlind p)

include hp

theorem setWord_keep (s : State) {o : Nat} (h : CaptureWord o) (i : Nat) (b : Bool) : p (s.setBit o i b) = p s := hp.put s o _ h

theorem incWord_keep (s : State) {o : Nat} (h : CaptureWord o) : p (s.inc o) = p s := hp.put s o _ h

theorem countFldWord_keep (s : State) {o : Nat} (h : CaptureWord o) (hi lo k : Nat) : p (s.countFld o hi lo k) = p s := hp.put s o _ h

theorem wrqWord_keep (n : Nat) (s : State) {o : Nat} (h : CaptureWord o) (v : Nat) : p (s.wrq o n v) = p s := by
  induction n generalizing s o v with
  | zero => rfl
  | succ n ih => rw [State.wrq, ih _ (le_trans h (Nat.le_add_right o 4)), hp.put _ _ _ h]

theorem count_keep (s : State) {o : Nat} (h : CaptureWord o) (n w k : Nat) : p (s.count o n w k) = p s := wrqWord_keep hp _ s h _

theorem captureSignal_keep (s : State) (v : Nat) : p (s.signal v) = p s := by
  rw [State.signal]
  split
  · rfl
  · split
    · exact setWord_keep hp s (captureWord_add (by decide) _) _ _
    · split
      · rfl
      · exact hp.emit s _

theorem settlePorts_keep (s : State) (g : Nat) : p (s.settlePorts g) = p s :=
  forAll_keep (settleTok_keep hp.tokens) _ s

theorem writeGranules_keep (q n a : Nat) (ws : List Native) (s : State) : p (s.writeGranules q n a ws) = p s := by
  induction n generalizing s a ws with
  | zero => rfl
  | succ n ih => rw [State.writeGranules, ih, hp.space]

theorem groupMsg_keep (s : State) (g : Nat) : p (s.groupMsg g) = p s := by
  have hsent : ∀ x, p ((s.signal (8 + g)).setGrp g x) = p s := fun x => by rw [hp.groups, captureSignal_keep hp]
  rw [State.groupMsg]
  split
  · split
    · exact hp.groups s g _
    · exact hsent _
  · exact hsent _

theorem groupEvent_keep (s : State) (g evt en : Nat) : p (s.groupEvent g evt en) = p s := by
  rw [State.groupEvent]
  split
  · rw [groupMsg_keep hp, setWord_keep hp s (captureWord_aqgStatus g)]
  · exact setWord_keep hp s (captureWord_add (by decide) _) _ _

theorem commitIn_keep (s : State) (g q : Nat) (r : Rec) : p (s.commitIn g q r) = p s := by
  have hstored : ∀ x, p ((s.writeGranules q (s.rounded r.granules) (s.nextStart q) (r.words g (s.part q).seq)).setPart q x)
      = p s := fun x => by rw [hp.parts, writeGranules_keep hp]
  have hevent : ∀ t, p t = p s → p (if r.kind = 1 then (t.groupEvent g 17 8).groupEvent g 19 10 else t.groupEvent g 17 8) = p s := by
    intro t ht
    split
    · rw [groupEvent_keep hp, groupEvent_keep hp, ht]
    · rw [groupEvent_keep hp, ht]
  rw [State.commitIn]
  refine hevent _ (ite_keep ((incWord_keep hp _ (captureWord_add (by decide) _)).trans ?_) ?_)
  · exact ite_keep ((count_keep hp _ (captureWord_add (by decide) _) _ _ _).trans (hstored _)) ((count_keep hp _ (captureWord_add (by decide) _) _ _ _).trans (hstored _))
  · exact ite_keep ((count_keep hp _ (captureWord_add (by decide) _) _ _ _).trans (hstored _)) ((count_keep hp _ (captureWord_add (by decide) _) _ _ _).trans (hstored _))

theorem commit_keep (s : State) (g : Nat) (r : Rec) : p (s.commit g r) = p s := by
  rw [State.commit, commitIn_keep hp, State.chargeGap]
  exact ite_keep (setTok_keep hp.tokens s _ _) rfl

theorem commitReady_keep (n : Nat) (s : State) (g : Nat) : p (s.commitReady g n) = p s := by
  induction n generalizing s with
  | zero => rfl
  | succ n ih =>
    rw [State.commitReady]
    split
    · rfl
    · split
      · rw [ih, commit_keep hp, hp.groups]
      · rfl

theorem drainWrites_keep (s : State) : p s.drainWrites = p s :=
  forAll_keep (fun s g => commitReady_keep hp _ s g) _ s

theorem emitGap_keep (s : State) (g : Nat) (r : Rec) : p (s.emitGap g r) = p s := by
  rw [State.emitGap]
  split
  · rw [commit_keep hp, hp.groups]
  · rw [hp.groups, hp.groups]

theorem writeGap_keep (s : State) (g cause lo hi tag : Nat) : p (s.writeGap g cause lo hi tag) = p s := by
  rw [State.writeGap, hp.groups, emitGap_keep hp]

theorem discardSum_keep (s : State) (g : Nat) : p (s.discardSum g) = p s := by
  rw [State.discardSum]
  split
  · rfl
  · rw [hp.groups, writeGap_keep hp, count_keep hp _ (captureWord_aqgAccDiscarded g)]

theorem pass_keep (s : State) (port n : Nat) : p (s.pass port n) = p s := by
  rw [State.pass]
  refine ite_keep ?_ (setTok_keep hp.tokens s _ _)
  exact (countFldWord_keep hp _ (captureWord_add (by decide) _) _ _ _).trans (setTok_keep hp.tokens s _ _)

theorem askEmit_keep (s : State) (g : Nat) (r : Rec) : p (s.askEmit g r) = p s := by
  rw [State.askEmit]
  split
  · rfl
  · rw [hp.groups, pass_keep hp]

theorem tryEmit_keep (n : Nat) (s : State) (g : Nat) : p (s.tryEmit g n) = p s := by
  induction n generalizing s with
  | zero => rfl
  | succ n ih =>
    rw [State.tryEmit]
    split
    · rfl
    · split
      · dsimp only
        split
        · rw [ih]
          split
          · rw [commit_keep hp, hp.groups, askEmit_keep hp]
          · rw [hp.groups, hp.groups, askEmit_keep hp]
        · exact askEmit_keep hp s g _
      · rfl

theorem emitSum_keep (s : State) (g : Nat) : p (s.emitSum g) = p s := by
  rw [State.emitSum]
  split
  · exact hp.groups s g _
  · rw [tryEmit_keep hp, count_keep hp _ (captureWord_aqgAccSums g), hp.groups]

theorem histLost_keep (s : State) (g : Nat) (c : Cur) : p (s.histLost g c) = p s := by
  rw [State.histLost]
  split
  · rw [hp.groups]
    exact hp.free s _
  · rfl

theorem abandon_keep (s : State) (g : Nat) : p (s.abandon g) = p s := by
  rw [State.abandon]
  split
  · rfl
  · rw [incWord_keep hp _ (captureWord_aqgAbandoned g), hp.groups, histLost_keep hp, settlePorts_keep hp]

theorem afterAbandon_keep (s : State) (g : Nat) : p (s.afterAbandon g) = p s := by
  have hsum : p (if (s.grp g).acc.place = 1 then s.discardSum g else s) = p s := ite_keep (discardSum_keep hp s g) rfl
  rw [State.afterAbandon]
  exact ite_keep ((emitSum_keep hp _ g).trans hsum) hsum

theorem beginCause_keep (s : State) (g cause : Nat) : p (s.beginCause g cause) = p s := by
  have hleft : p ((s.settlePorts g).abandon g) = p s := by rw [abandon_keep hp, settlePorts_keep hp]
  refine ite_keep rfl ((hp.groups _ g _).trans (ite_keep ((afterAbandon_keep hp _ g).trans hleft) hleft))

end

end Sys2Proof.Proofs.Frame

/-! Proofs of the statements about rails and power fail (chapter 13). -/

namespace Sys2Proof.Proofs.Rails

open Sys2Proof Sys2Proof.Machine

/-! ### What stage 3 of the power-fail sequence leaves (R319) -/

/-- The journal, an escalation that waits and Safe Hold. -/
def failView (s : State) : Bool × Option Nat × Journal := (s.holdDue, s.safeHoldAt, s.journal)

theorem captureBlind_failView : Frame.CaptureBlind failView :=
  ⟨fun _ _ _ _ => rfl, fun _ _ => rfl, fun _ _ _ => rfl, fun _ _ _ => rfl, fun _ _ _ => rfl, fun _ _ _ => rfl, fun _ _ => rfl⟩

theorem blind_failView : Frame.Blind failView := ⟨fun _ _ _ => rfl, fun _ _ => rfl⟩

theorem failView_setEngine (s : State) (e : Nat) (x : HEng) : failView (s.setEngine e x) = failView s := rfl

theorem failView_setRport (s : State) (d : Nat) (x : RPort) : failView (s.setRport d x) = failView s := rfl

theorem failView_stopLantern (s : State) : failView s.stopLantern = failView s := rfl

theorem failView_ringClosed (s : State) : failView { s with
    bypassOpen := false, ringReady := none, alignGood := 0, stepDue := none } = failView s := rfl

theorem failView_resetUnits (s : State) (b : Nat) : failView (s.resetUnits b) = failView s := by
  rw [State.resetUnits]
  refine Frame.forAll_keep (p := failView) (fun s i => ?_) _ s
  rfl

theorem failView_stopBank (s : State) (b : Nat) (down : Bool) : failView (s.stopBank b down) = failView s := by
  have hoff : ∀ x, failView ((s.setBank b x).setBit (Reg.bnkConvStatus b) 0 false) = failView s :=
    fun _ => Frame.setBit_keep blind_failView _ _ _ _
  rw [State.stopBank, failView_resetUnits]
  exact Frame.ite_keep ((Frame.setBit_keep blind_failView _ _ _ _).trans (hoff _)) (hoff _)

theorem failView_freeBytes (n : Nat) (s : State) : failView (s.freeBytes n).2 = failView s := by
  induction n generalizing s with
  | zero => rfl
  | succ n ih => exact (ih _).trans rfl

theorem failView_spoilDest (s : State) (j : HJob) : failView (s.spoilDest j) = failView s := by
  rw [State.spoilDest]
  split
  · dsimp only
    split
    · exact (failView_freeBytes _ s)
    · split
      · exact (failView_freeBytes _ s)
      · rfl
  · rfl

theorem failView_leaveStream (s : State) (e : Nat) : failView (s.leaveStream e) = failView s := by
  rw [State.leaveStream]
  refine Frame.forAll_keep (p := failView) (fun s k => ?_) _ s
  exact Frame.ite_keep (p := failView) rfl rfl

theorem failView_freeEngine (s : State) (e : Nat) (j : HJob) : failView (s.freeEngine e j) = failView s := by
  rw [State.freeEngine, State.prune, captureBlind_failView.parts, captureBlind_failView.parts, failView_setEngine,
    failView_leaveStream]

theorem failView_lostLink (s : State) (e : Nat) (j : HJob) : failView (s.lostLink e j) = failView s := by
  rw [State.lostLink, failView_freeEngine, State.wr64, Frame.wrq_keep blind_failView]
  exact failView_spoilDest s j

theorem failView_dropPcie (s : State) : failView s.dropPcie = failView s := by
  rw [State.dropPcie]
  refine (Frame.forAll_keep (p := failView) (fun s e => ?_) _ _).trans
    (Frame.foldl_keep (p := failView) (f := fun s i => s.setHch (i / 64) (i % 64) _) (fun s i => ?_) _ s)
  rotate_left
  · rfl
  split
  · split
    · exact failView_lostLink s e _
    · rfl
  · rfl

theorem failView_ethAllDown (s : State) (count : Bool) : failView (s.ethAllDown count) = failView s := by
  have hdown : ∀ (s : State) q, failView (if count then (s.setBit (Reg.prtEthStatus q) 0 false).countFld (Reg.prtEthStatus q) 31 16 1
      else s.setBit (Reg.prtEthStatus q) 0 false) = failView s := fun s q =>
    Frame.ite_keep ((Frame.countFld_keep blind_failView _ _ _ _ _).trans (Frame.setBit_keep blind_failView _ _ _ _))
      (Frame.setBit_keep blind_failView _ _ _ _)
  exact Frame.forAll_keep (p := failView) hdown _ s

theorem failView_elect (s : State) : failView s.elect = failView s :=
  Frame.onlyRegs_keep (p := failView) (fun _ _ => rfl) (Ring.onlyRegs_elect (OnlyRegs.refl [Reg.rngStatus] s) (by simp))

theorem failView_portClear (s : State) (d : Nat) : failView (s.portClear d) = failView s := by
  rw [State.portClear, failView_setRport, Frame.wr_keep blind_failView]

theorem failView_ringOff (s : State) (count : Bool) : failView (s.ringOff count) = failView s := by
  have hport : ∀ (s : State) d, failView (State.portClear (if count && s.bit (Reg.rngPortStatus d) 0 then
      s.countFld (Reg.rngPortStatus d) 31 16 1 else s) d) = failView s := fun s d => by
    rw [failView_portClear]
    exact Frame.ite_keep (p := failView) (Frame.countFld_keep blind_failView _ _ _ _ _) rfl
  rw [State.ringOff, failView_elect, failView_ringClosed]
  exact Frame.forAll_keep hport _ s

theorem failView_failHeld (s : State) : failView s.failHeld = failView s := by
  have hstop : failView (s.stopBanks (List.range 16) false) = failView s :=
    Frame.forAll_keep (p := failView) (fun s b => failView_stopBank s b false) _ s
  rw [State.failHeld, Frame.wr_keep blind_failView, State.linksDown, failView_ringOff, failView_ethAllDown, State.pcieQuietDown,
    failView_dropPcie, Frame.wr_keep blind_failView, failView_stopLantern, hstop]

theorem failView_abandonSeason (s : State) : failView s.abandonSeason = failView s := by
  rw [State.abandonSeason]
  refine Frame.ite_keep ?_ rfl
  rw [Frame.setBit_keep blind_failView, Frame.setBit_keep blind_failView]
  rfl

theorem failView_stacksSleep (s : State) : failView s.stacksSleep = failView s := by
  rw [State.stacksSleep]
  refine (Frame.forAll_keep (p := failView) (fun s k => ?_) _ _).trans (Frame.drainWrites_keep captureBlind_failView s)
  rw [Frame.countFld_keep blind_failView, Frame.wr_keep blind_failView, Frame.wr_keep blind_failView]
  rfl

/-! ### Rails (R316, R318) -/

theorem exec_railWarn (dt : Nat) (r : Fin 9) (mv : Nat) (s : State) : exec (.railWarn dt r mv) s
    = if railNominal r < 25 * railOff r mv then
        .next ((((s.start dt).wr (Reg.pwrRail r) 15 0 (min 65535 mv)).setBit (Reg.pwrRail r) 18 true).fault 17 allBanks)
      else .next (s.start dt) := by
  rfl

/-- A rail's reading shown. -/
def railShown (s : State) (r mv : Nat) : State := s.wr (Reg.pwrRail r) 15 0 (min 65535 mv)

/-- A trip registered: the reading and the bit of its direction. -/
def railTripped (s : State) (r mv : Nat) : State :=
  { (railShown s r mv).setBit (Reg.pwrRail r) (16 + b2n (decide (railNominal r < mv))) true with tripped := addNew s.tripped r }

theorem exec_railTrip (dt : Nat) (r : Fin 9) (mv : Nat) (s : State) : exec (.railTrip dt r mv) s
    = if railNominal r < 20 * railOff r mv ∧ !(s.start dt).tripped.contains r.val then
        .next (((railTripped (s.start dt) r mv).fault (15 + b2n (decide (railNominal r < mv))) allBanks).tripAction r)
      else .next (s.start dt) := by
  rfl

theorem rd_railShown (s : State) (r mv : Nat) : (railShown s r mv).rd (Reg.pwrRail r) 15 0 = min 65535 mv := by
  rw [railShown, State.rd_wr_self _ (by decide) (by decide)]
  omega

theorem railTripped_shows {s : State} {r : Nat} (mv : Nat) (h : s.tripped.contains r = false) :
    (railTripped s r mv).tripped = s.tripped ++ [r] ∧ (railTripped s r mv).rd (Reg.pwrRail r) 15 0 = min 65535 mv
      ∧ (railTripped s r mv).bit (Reg.pwrRail r) (16 + b2n (decide (railNominal r < mv))) = true
      ∧ OnlyRegs [Reg.pwrRail r] { s with tripped := (railTripped s r mv).tripped } (railTripped s r mv) := by
  have hside : b2n (decide (railNominal r < mv)) ≤ 1 := by
    rw [b2n]
    split
    · decide
    · decide
  generalize hk : 16 + b2n (decide (railNominal r < mv)) = k
  have hwords : OnlyRegs [Reg.pwrRail r] s ((railShown s r mv).setBit (Reg.pwrRail r) k true) :=
    ((OnlyRegs.refl _ s).wr (by simp) 15 0 _).setBit (by simp) k true
  have hrd : ((railShown s r mv).setBit (Reg.pwrRail r) k true).rd (Reg.pwrRail r) 15 0 = min 65535 mv := by
    rw [State.rd_setBit_apart _ _ (by omega) (by omega), rd_railShown]
  have hbit : ((railShown s r mv).setBit (Reg.pwrRail r) k true).bit (Reg.pwrRail r) k = true :=
    State.bit_setBit_self _ true (by omega)
  rw [railTripped, hk]
  refine ⟨?_, hrd, hbit, ?_⟩
  · exact if_neg (by rwa [List.contains_eq_mem, decide_eq_false_iff_not] at h)
  · exact Frame.onlyRegs_map (f := fun u => { u with tripped := addNew s.tripped r }) (fun _ _ => rfl) (fun _ => rfl) hwords

/-- A rail back within tolerance. -/
def railBack (s : State) (r mv : Nat) : State := railShown { s with tripped := s.tripped.filter (fun x => x != r) } r mv

theorem exec_railReturn (dt : Nat) (r : Fin 9) (mv : Nat) (s : State) : exec (.railReturn dt r mv) s
    = if (s.start dt).tripped.contains r.val ∧ 100 * railOff r mv ≤ 3 * railNominal r then
        if r.val = 1 then .next (railBack (s.start dt) r mv).coldReset
        else if r.val = 0 ∨ r.val = 5 ∨ r.val = 6 then .next ((railBack (s.start dt) r mv).requestReset 5)
        else .next (railBack (s.start dt) r mv)
      else .next (s.start dt) := by
  rfl

theorem tripped_railShown (s : State) (r mv : Nat) : (railShown s r mv).tripped = s.tripped := by
  rw [railShown, Frame.wr_keep (p := State.tripped) ⟨fun _ _ _ => rfl, fun _ _ => rfl⟩]

theorem railBack_shows (s : State) (r mv : Nat) : (railBack s r mv).tripped.contains r = false
    ∧ (railBack s r mv).rd (Reg.pwrRail r) 15 0 = min 65535 mv
    ∧ OnlyRegs [Reg.pwrRail r] { s with tripped := (railBack s r mv).tripped } (railBack s r mv) := by
  have htripped : (railBack s r mv).tripped = s.tripped.filter (fun x => x != r) := by rw [railBack, tripped_railShown]
  refine ⟨?_, rd_railShown _ r mv, ?_⟩
  · rw [htripped]
    simp
  · rw [htripped]
    exact (OnlyRegs.refl _ _).wr (by simp) 15 0 _

/-- The statement's first half. -/
theorem railClauses (dt : Nat) (r : Fin 9) (mv : Nat) (s v : State) (hv : v = s.start dt) :
    (railNominal r < 25 * railOff r mv → exec (.railWarn dt r mv) s
      = .next (((v.wr (Reg.pwrRail r) 15 0 (min 65535 mv)).setBit (Reg.pwrRail r) 18 true).fault 17 allBanks))
    ∧ (25 * railOff r mv ≤ railNominal r → exec (.railWarn dt r mv) s = .next v)
    ∧ ((20 * railOff r mv ≤ railNominal r ∨ v.tripped.contains r.val = true) → exec (.railTrip dt r mv) s = .next v)
    ∧ ((v.tripped.contains r.val = false ∨ 3 * railNominal r < 100 * railOff r mv) →
      exec (.railReturn dt r mv) s = .next v)
    ∧ (railNominal r < 20 * railOff r mv → v.tripped.contains r.val = false → ∃ w : State,
      exec (.railTrip dt r mv) s = .next ((w.fault (15 + b2n (decide (railNominal r < mv))) allBanks).tripAction r)
        ∧ w.tripped = v.tripped ++ [r.val] ∧ w.rd (Reg.pwrRail r) 15 0 = min 65535 mv
        ∧ w.bit (Reg.pwrRail r) (16 + b2n (decide (railNominal r < mv))) = true
        ∧ OnlyRegs [Reg.pwrRail r] { v with tripped := w.tripped } w)
    ∧ (v.tripped.contains r.val = true → 100 * railOff r mv ≤ 3 * railNominal r → ∃ w : State, w.tripped.contains r.val = false
      ∧ w.rd (Reg.pwrRail r) 15 0 = min 65535 mv ∧ OnlyRegs [Reg.pwrRail r] { v with tripped := w.tripped } w
      ∧ (r.val = 1 → exec (.railReturn dt r mv) s = .next w.coldReset)
      ∧ (r.val = 0 ∨ r.val = 5 ∨ r.val = 6 → exec (.railReturn dt r mv) s = .next (w.requestReset 5))
      ∧ (r.val ≠ 0 → r.val ≠ 1 → r.val ≠ 5 → r.val ≠ 6 → exec (.railReturn dt r mv) s = .next w)) := by
  subst hv
  rw [exec_railWarn, exec_railTrip, exec_railReturn]
  generalize s.start dt = v
  refine ⟨fun h => if_pos h, fun h => if_neg (not_lt.mpr h), fun h => if_neg ?_, fun h => if_neg ?_, fun hoff hnew => ?_,
    fun hold hoff => ?_⟩
  · rintro ⟨hoff, hnew⟩
    rcases h with h | h
    · omega
    · rw [h] at hnew
      cases hnew
  · rintro ⟨hold, hoff⟩
    rcases h with h | h
    · exact absurd (h.symm.trans hold) Bool.noConfusion
    · omega
  · rw [if_pos ⟨hoff, by rw [hnew]; rfl⟩]
    exact ⟨_, rfl, railTripped_shows mv hnew⟩
  · obtain ⟨hgone, hshown, honly⟩ := railBack_shows v r mv
    rw [if_pos ⟨hold, hoff⟩]
    exact ⟨_, hgone, hshown, honly, fun h => if_pos h, fun h => (if_neg (by omega)).trans (if_pos h),
      fun h0 h1 h5 h6 => (if_neg h1).trans (if_neg (by omega))⟩

/-! ### The power-fail sequence (R319, R320) -/

/-- The sequence started and counted. -/
def failSeen (s : State) : State := (({ s with pfAt := some s.now } : State).countFld Reg.pwrPfCount 15 0 1).pwrEvent 1

theorem exec_pwrFailAssert (dt : Nat) (s : State) : exec (.pwrFailAssert dt) s
    = if (s.start dt).pfAt.isSome then .next (s.start dt)
      else if 2 ≤ (s.start dt).power then .next ((failSeen (s.start dt)).wr Reg.pwrStatus 6 4 2)
      else .next ((((((failSeen (s.start dt)).wr Reg.pwrStatus 6 4 1).fault 17 allBanks).demandExit).failPause).abortRun true) := by
  rfl

theorem failSeen_asleep (s : State) : ((failSeen s).wr Reg.pwrStatus 6 4 2).rd Reg.pwrStatus 6 4 = 2
    ∧ ((failSeen s).wr Reg.pwrStatus 6 4 2).pfAt = some s.now
    ∧ ((failSeen s).wr Reg.pwrStatus 6 4 2).rd Reg.pwrPfCount 15 0 = min (2 ^ 16 - 1) (s.rd Reg.pwrPfCount 15 0 + 1) := by
  have hp : Frame.Blind State.pfAt := ⟨fun _ _ _ => rfl, fun _ _ => rfl⟩
  refine ⟨State.rd_wr_self _ (by decide) (by decide), ?_, ?_⟩
  · rw [Frame.wr_keep hp, failSeen, Frame.pwrEvent_keep hp, Frame.countFld_keep hp]
  · rw [State.rd_wr_ne _ _ _ _ _ _ (by decide), failSeen, State.rd, Power.get_pwrEvent (by decide) (by decide), ← State.rd,
      Words.rd_countFld_self _ _ (by decide) (by decide)]
    rfl

/-- The groups that capture stop, and the journal is written. -/
def journalled (s : State) (p : Nat) : State :=
  let s0 := s.forAll (s.enabledGroups.filter (fun g => s.gArmed g && !(s.grp g).pauses.any (fun x => x.cause == 6)))
    (fun s g => s.beginCause g 6)
  ({ s0 with journal := ⟨true, journalParts s0.parts, s0.journalGaps p, s0.lost, s0.ledgerMem⟩, blkJob := none } :
    State).abandonSeason.stacksSleep

theorem failView_journalled (s : State) (p : Nat) : (journalled s p).holdDue = s.holdDue ∧ (journalled s p).journal.valid = true := by
  have hcause := Frame.forAll_keep (p := failView) (fun s g => Frame.beginCause_keep captureBlind_failView s g 6)
    (s.enabledGroups.filter (fun g => s.gArmed g && !(s.grp g).pauses.any (fun x => x.cause == 6))) s
  have hview : failView (journalled s p) = _ := (failView_stacksSleep _).trans (failView_abandonSeason _)
  exact ⟨(congrArg (fun x => x.1) hview).trans (congrArg (fun x => x.1) hcause), congrArg (fun x => x.2.2.valid) hview⟩

/-- What a stage 3 with an escalation that waits goes on to. -/
def holdTaken (s : State) : State := if s.holdDue then ({ s with holdDue := false } : State).safeHold else s

/-- Stage 3: the converters, the SerDes and the links stop. -/
def stageThree (s : State) : State := { s.failHeld with holdDone := s.safeHoldAt.isSome }

theorem exec_journalWritten_some {dt p : Nat} {s : State} (h : (s.start dt).pfAt = some p) : exec (.journalWritten dt) s
    = if (s.start dt).rd Reg.pwrStatus 6 4 = 3 ∨ (s.start dt).now < p + 1100 * usec then .next (s.start dt)
      else .next (stageThree (holdTaken (journalled (s.start dt) p))) := by
  change execJournalWritten dt s = _
  unfold execJournalWritten stageThree holdTaken journalled
  simp only [h]

theorem exec_journalWritten_none {dt : Nat} {s : State} (h : (s.start dt).pfAt = none) :
    exec (.journalWritten dt) s = .next (s.start dt) := by
  change execJournalWritten dt s = _
  unfold execJournalWritten
  simp only [h]

/-- The sequence over: its journal void, its ride-through counted. -/
def rodeThrough (s : State) : State :=
  (({ s with pfAt := none, journal := { s.journal with valid := false } } : State).wr Reg.pwrStatus 6 4 0).countFld
    Reg.pwrPfCount 31 16 1

/-- How a sequence ends in the state `w`; `held` where it had come to stage 3. -/
def rideEnd (held : Bool) (w : State) : State :=
  if w.holdDue then ({ w with holdDue := false } : State).safeHold.serveHeld
  else if w.rstLow ∨ w.safeHoldAt.isSome then w.serveHeld
  else if 2 ≤ w.power then (if held && w.power == 2 then w.resumeLinks true else w).serveHeld
  else (if held then (w.stacksWake.forAll (List.range 16) (fun s b => s.powerUp b false)).resumeLinks true
    else w).endAllPauses.serveHeld.serveReqs

theorem exec_pwrFailRideThrough_some {dt p : Nat} {s : State} (h : (s.start dt).pfAt = some p) : exec (.pwrFailRideThrough dt) s
    = .next (if (s.start dt).now < p + 100 * usec ∨ !(s.start dt).tripped.isEmpty ∨ !(s.start dt).residencyOver then s.start dt
      else rideEnd ((s.start dt).rd Reg.pwrStatus 6 4 == 3) (rodeThrough (s.start dt))) := by
  change execPwrFailRideThrough dt s = _
  unfold execPwrFailRideThrough rideEnd rodeThrough
  simp only [h, apply_ite Host.Outcome.next]

theorem exec_pwrFailRideThrough_none {dt : Nat} {s : State} (h : (s.start dt).pfAt = none) :
    exec (.pwrFailRideThrough dt) s = .next (s.start dt) := by
  change execPwrFailRideThrough dt s = _
  unfold execPwrFailRideThrough
  simp only [h]

theorem stageThree_shows (s : State) : (stageThree s).rd Reg.pwrStatus 6 4 = 3 ∧ (stageThree s).journal = s.journal
    ∧ stageThree s = { s.failHeld with holdDone := s.failHeld.safeHoldAt.isSome } := by
  have hview := failView_failHeld s
  have hrd : s.failHeld.rd Reg.pwrStatus 6 4 = 3 := State.rd_wr_self _ (by decide) (by decide)
  refine ⟨hrd, congrArg (fun x => x.2.2) hview, ?_⟩
  have hsafe : s.safeHoldAt = s.failHeld.safeHoldAt := congrArg (fun x => x.2.1) hview.symm
  exact congrArg (fun x : Option Nat => { s.failHeld with holdDone := x.isSome }) hsafe

/-- The statement's clauses about the journal. -/
theorem journalClauses (dt p : Nat) (s v : State) (hv : v = s.start dt) (hp : v.pfAt = some p)
    (h3 : v.rd Reg.pwrStatus 6 4 ≠ 3) (hdue : p + 1100 * usec ≤ v.now) :
    (v.holdDue = false → ∃ t, exec (.journalWritten dt) s = .next t ∧ t.rd Reg.pwrStatus 6 4 = 3 ∧ t.journal.valid = true)
    ∧ (v.holdDue = true → ∃ (t w : State), exec (.journalWritten dt) s = .next t ∧ t = { w.safeHold.failHeld with
      holdDone := w.safeHold.failHeld.safeHoldAt.isSome } ∧ w.journal.valid = true ∧ w.holdDue = false) := by
  subst hv
  rw [exec_journalWritten_some hp, if_neg (by omega)]
  generalize s.start dt = v
  obtain ⟨hhold, hvalid⟩ := failView_journalled v p
  refine ⟨fun hno => ?_, fun hyes => ?_⟩
  · have htaken : holdTaken (journalled v p) = journalled v p := if_neg (by rw [hhold, hno]; exact Bool.false_ne_true)
    obtain ⟨hrd, hjournal, -⟩ := stageThree_shows (journalled v p)
    rw [htaken]
    exact ⟨_, rfl, hrd, by rw [hjournal, hvalid]⟩
  · have htaken : holdTaken (journalled v p) = ({ journalled v p with holdDue := false } : State).safeHold :=
      if_pos (hhold.trans hyes)
    obtain ⟨-, -, hthree⟩ := stageThree_shows ({ journalled v p with holdDue := false } : State).safeHold
    rw [htaken]
    exact ⟨_, { journalled v p with holdDue := false }, rfl, hthree, hvalid, rfl⟩

/-- What of the state the end of a sequence reads that it does not set. -/
def endView (s : State) : Bool × ResetStep × Option Nat := (s.holdDue, s.resetStep, s.safeHoldAt)

theorem endView_rodeThrough (s : State) : endView (rodeThrough s) = endView s := by
  have hp : Frame.Blind endView := ⟨fun _ _ _ => rfl, fun _ _ => rfl⟩
  rw [rodeThrough, Frame.countFld_keep hp, Frame.wr_keep hp]
  rfl

theorem power_rodeThrough (s : State) : (rodeThrough s).power = s.power := by
  rw [State.power, rodeThrough, State.countFld, State.rd_wr_ne _ _ _ _ _ _ (by decide),
    State.rd_wr_apart _ (by decide) (by decide) (by decide)]
  rfl

theorem rodeThrough_counts (s : State) :
    (rodeThrough s).rd Reg.pwrPfCount 31 16 = min (2 ^ 16 - 1) (s.rd Reg.pwrPfCount 31 16 + 1) := by
  rw [rodeThrough, Words.rd_countFld_self _ _ (by decide) (by decide), State.rd_wr_ne _ _ _ _ _ _ (by decide)]
  rfl

theorem rstLow_rodeThrough (s : State) : (rodeThrough s).rstLow = s.rstLow := by
  rw [State.rstLow, show (rodeThrough s).resetStep = s.resetStep from congrArg (fun x => x.2.1) (endView_rodeThrough s), State.rstLow]

theorem rideEnd_reset {held : Bool} {w : State} (hd : w.holdDue = false) (h : w.rstLow = true ∨ w.safeHoldAt.isSome = true) :
    rideEnd held w = w.serveHeld :=
  (if_neg (ne_true_of_eq_false hd)).trans (if_pos h)

theorem rideEnd_clear {held : Bool} {w : State} (hd : w.holdDue = false) (hr : w.rstLow = false) (hs : w.safeHoldAt = none) :
    rideEnd held w = if 2 ≤ w.power then (if held && w.power == 2 then w.resumeLinks true else w).serveHeld
      else (if held then (w.stacksWake.forAll (List.range 16) (fun s b => s.powerUp b false)).resumeLinks true
        else w).endAllPauses.serveHeld.serveReqs := by
  refine (if_neg (ne_true_of_eq_false hd)).trans (if_neg ?_)
  rw [hr, hs]
  decide

/-- The statement's clauses about a ride-through. -/
theorem rideClauses (dt p : Nat) (s v w : State) (hv : v = s.start dt) (hp : v.pfAt = some p) (hdue : p + 100 * usec ≤ v.now)
    (htrip : v.tripped = []) (hres : v.residencyOver = true) (hw : w = rodeThrough v) :
    (v.holdDue = true → exec (.pwrFailRideThrough dt) s = .next (({ w with holdDue := false } : State).safeHold.serveHeld))
    ∧ (v.holdDue = false →
      ((v.rstLow = true ∨ v.safeHoldAt.isSome = true) → exec (.pwrFailRideThrough dt) s = .next w.serveHeld)
      ∧ (v.rstLow = false → v.safeHoldAt = none →
        (2 ≤ v.power → (v.power ≠ 2 ∨ v.rd Reg.pwrStatus 6 4 ≠ 3) → exec (.pwrFailRideThrough dt) s = .next w.serveHeld)
        ∧ (v.power = 2 → v.rd Reg.pwrStatus 6 4 = 3 →
          exec (.pwrFailRideThrough dt) s = .next (w.resumeLinks true).serveHeld)
        ∧ (v.power ≤ 1 → v.rd Reg.pwrStatus 6 4 ≠ 3 →
          exec (.pwrFailRideThrough dt) s = .next w.endAllPauses.serveHeld.serveReqs)
        ∧ (v.power ≤ 1 → v.rd Reg.pwrStatus 6 4 = 3 → exec (.pwrFailRideThrough dt) s
          = .next ((w.stacksWake.forAll (List.range 16) (fun x b => x.powerUp b false)).resumeLinks
            true).endAllPauses.serveHeld.serveReqs))) := by
  have hgo : ¬ (v.now < p + 100 * usec ∨ (!v.tripped.isEmpty) = true ∨ (!v.residencyOver) = true) := by
    rw [htrip, hres]
    rintro (h | h | h)
    · omega
    · cases h
    · cases h
  have hview := endView_rodeThrough v
  have hhold : w.holdDue = v.holdDue := by rw [hw]; exact congrArg (fun x => x.1) hview
  have hsafe : w.safeHoldAt = v.safeHoldAt := by rw [hw]; exact congrArg (fun x => x.2.2) hview
  have hrst : w.rstLow = v.rstLow := by rw [hw, rstLow_rodeThrough]
  have hpow : w.power = v.power := by rw [hw, power_rodeThrough]
  subst hv
  rw [exec_pwrFailRideThrough_some hp, if_neg hgo, ← hw]
  generalize s.start dt = v at *
  refine ⟨fun h => congrArg _ (if_pos (hhold.trans h)), fun h => ⟨fun hlow => ?_, fun hr hs => ?_⟩⟩
  · rw [rideEnd_reset (hhold.trans h) (by rwa [hrst, hsafe])]
  · rw [rideEnd_clear (hhold.trans h) (hrst.trans hr) (hsafe.trans hs), hpow]
    refine ⟨fun hdeep hno => ?_, fun htwo hthree => ?_, fun hawake hno => ?_, fun hawake hthree => ?_⟩
    · rw [if_pos hdeep, if_neg]
      rw [Bool.and_eq_true, beq_iff_eq, beq_iff_eq]
      omega
    · rw [if_pos (by omega), htwo, hthree]
      rfl
    · rw [if_neg (by omega), beq_false_of_ne hno, if_neg Bool.false_ne_true]
    · rw [if_neg (by omega), hthree, beq_self_eq_true, if_pos rfl]

/-- Settles O47, by the branches of each command and by what the stages of a power failure leave. -/
theorem railsAndPowerFail : Obligations.RailsAndPowerFail := by
  refine ⟨railClauses, ?_⟩
  rintro dt s v rfl
  refine ⟨?_, fun h => ?_, fun h => ⟨exec_journalWritten_none h, exec_pwrFailRideThrough_none h⟩, fun p hp h => ?_, fun p hp h => ?_,
    fun p hp h3 hdue => journalClauses dt p s _ rfl hp h3 hdue, fun p w hp hdue htrip hres hw => ⟨?_,
    rideClauses dt p s _ w rfl hp hdue htrip hres hw⟩⟩
  · intro w hnone hw
    have hseen : w = failSeen (s.start dt) := hw
    rw [exec_pwrFailAssert, if_neg (by rw [hnone]; decide)]
    refine ⟨fun hawake => ?_, fun hdeep => ?_⟩
    · rw [if_neg (by omega), hseen]
    · rw [if_pos hdeep]
      exact ⟨_, rfl, failSeen_asleep _⟩
  · rw [exec_pwrFailAssert, if_pos h]
  · rw [exec_pwrFailRideThrough_some hp, if_pos]
    rcases h with h | h | h
    · exact .inl h
    · refine .inr (.inl ?_)
      rw [List.isEmpty_eq_false_iff.mpr h]
      rfl
    · refine .inr (.inr ?_)
      rw [h]
      rfl
  · rw [exec_journalWritten_some hp, if_pos h]
  · rw [hw]
    exact rodeThrough_counts _

end Sys2Proof.Proofs.Rails

/-! Proofs of the statements of chapter 17 (the Lantern): DCS packets. -/

namespace Sys2Proof.Proofs.Lantern

open Sys2Proof Sys2Proof.Machine

/-! ### DCS packets (R388) -/

theorem exec_dcsSend (dt : Nat) (s : State) : exec (.dcsSend dt) s = .next (s.start dt).doDcs := by
  rfl

/-- The bytes of LNT_DCS_BUF. -/
def dcsBytes (s : State) : List Byte := (List.range 16).flatMap (fun k => leBytes 4 (s.get (Reg.lntDcsBuf k)).toNat)

/-- A packet may go out. -/
def dcsMay (s : State) : Bool := s.lntOn && s.power == 0 && !s.bit Reg.fltAction 17 && !s.lnt.pushing

theorem exec_dcsSent_some {dt ty n : Nat} {s : State} (h : (s.start dt).lnt.dcs = some (ty, n)) : exec (.dcsSent dt) s
    = if dcsMay (s.start dt) then
        .next (({ s.start dt with lnt := { (s.start dt).lnt with dcs := none } } : State).emit
          (.dcs ty ((dcsBytes (s.start dt)).take n)))
      else .next (s.start dt) := by
  change execDcsSent dt s = _
  unfold execDcsSent
  dsimp only
  split
  · next hs =>
    obtain ⟨rfl, rfl⟩ := Prod.mk.inj (Option.some.inj (hs.symm.trans h))
    rfl
  · next hno => cases hno.symm.trans h

theorem exec_dcsSent_none {dt : Nat} {s : State} (h : (s.start dt).lnt.dcs = none) : exec (.dcsSent dt) s = .next (s.start dt) := by
  change execDcsSent dt s = _
  unfold execDcsSent
  simp only [h]

theorem doDcs_queued {s : State} (h : s.lnt.dcs = none) (h1 : 1 ≤ s.rd Reg.lntDcsSend 6 0) (h2 : s.rd Reg.lntDcsSend 6 0 ≤ 64) :
    s.doDcs = { s with lnt := { s.lnt with dcs := some (s.rd Reg.lntDcsSend 13 8, s.rd Reg.lntDcsSend 6 0) } } := by
  rw [State.doDcs, if_neg (by rw [h]; decide)]
  dsimp only
  rw [decide_eq_true ⟨h1, h2⟩, if_pos rfl, if_pos rfl]

theorem doDcs_free {s : State} (h : s.lnt.dcs = none) (hwc : s.rd Reg.lntDcsSend 6 0 = 0 ∨ 64 < s.rd Reg.lntDcsSend 6 0) :
    s.doDcs = { s.fresh.2 with lnt := { s.lnt with
      dcs := some (s.rd Reg.lntDcsSend 13 8, (Config.freeByte s.fresh.1).toNat % 65) } } := by
  rw [State.doDcs, if_neg (by rw [h]; decide)]
  dsimp only
  rw [decide_eq_false (by omega), if_neg Bool.false_ne_true, if_neg Bool.false_ne_true]
  rfl

/-- Byte `k` of a list of words of four bytes. -/
theorem getD_flatMap_leBytes (f : Nat → Nat) (l : List Nat) (k : Nat) (h : k / 4 < l.length) :
    (l.flatMap (fun i => leBytes 4 (f i))).getD k 0 = BitVec.ofNat 8 (f (l.getD (k / 4) 0) / 256 ^ (k % 4)) := by
  induction l generalizing k with
  | nil => exact absurd h (Nat.not_lt_zero _)
  | cons a l ih =>
    rw [List.flatMap_cons]
    by_cases hk : k < 4
    · rw [List.getD_append _ _ _ _ (by rwa [Scope.length_leBytes]), Nat.div_eq_of_lt hk, Nat.mod_eq_of_lt hk]
      interval_cases k
      · simp [leBytes]
      · simp [leBytes]
      · simp [leBytes, Nat.div_div_eq_div_mul]
      · simp [leBytes, Nat.div_div_eq_div_mul]
    · rw [List.getD_append_right _ _ _ _ (by rw [Scope.length_leBytes]; omega), Scope.length_leBytes, ih (k - 4) (by simp at h; omega),
        show k / 4 = (k - 4) / 4 + 1 by omega, show (k - 4) % 4 = k % 4 by omega]
      rfl

theorem length_dcsBytes (s : State) : (dcsBytes s).length = 64 := by
  simp [dcsBytes]

theorem getD_dcsBytes (s : State) {k n : Nat} (h : k < n) (hn : n ≤ 64) :
    ((dcsBytes s).take n).getD k 0 = BitVec.ofNat 8 ((s.get (Reg.lntDcsBuf (k / 4))).toNat / 256 ^ (k % 4)) := by
  have hword : (List.range 16).getD (k / 4) 0 = k / 4 := by
    rw [List.getD_eq_getElem _ _ (by simp; omega), List.getElem_range]
  have hall : (dcsBytes s).getD k 0 = _ :=
    getD_flatMap_leBytes (fun i => (s.get (Reg.lntDcsBuf i)).toNat) (List.range 16) k (by simp; omega)
  rw [hword] at hall
  rw [← hall, List.getD_eq_getElem?_getD, List.getD_eq_getElem?_getD, List.getElem?_take_of_lt h]

/-- Settles O58, by the branches of both commands and the bytes of the buffer. -/
theorem dcsPackets : Obligations.DcsPackets := by
  rintro dt s v rfl
  refine ⟨fun h h1 h2 => ?_, fun h hwc => ?_, fun h => ?_, fun ty n h hn hon hp hs hpush => ?_, fun h => ?_⟩
  · rw [exec_dcsSend, doDcs_queued h h1 h2]
  · rw [exec_dcsSend, doDcs_free h hwc]
    exact ⟨_, _, rfl, rfl, Nat.le_of_lt_succ (Nat.mod_lt _ (by decide)), rfl, rfl⟩
  · rw [exec_dcsSend, State.doDcs, if_pos h]
    exact ⟨_, rfl, (OnlyRegs.refl _ _).setBit (by simp) _ _, State.bit_setBit_self _ true (by decide)⟩
  · have hmay : dcsMay (s.start dt) = true := by
      rw [dcsMay, hon, hp, hs, hpush]
      rfl
    rw [exec_dcsSent_some h, if_pos hmay]
    refine ⟨_, rfl, ?_, fun k hk => getD_dcsBytes _ hk hn⟩
    rw [List.length_take, length_dcsBytes]
    omega
  · cases hd : (s.start dt).lnt.dcs with
    | none => exact exec_dcsSent_none hd
    | some x =>
      rw [exec_dcsSent_some (ty := x.1) (n := x.2) hd, if_neg]
      rw [dcsMay, Bool.and_eq_true, Bool.and_eq_true, Bool.and_eq_true, beq_iff_eq, Bool.not_eq_true', Bool.not_eq_true']
      rintro ⟨⟨⟨hon, hp⟩, hs⟩, hpush⟩
      rcases h with h | h | h | h | h
      · cases h.symm.trans hd
      · exact absurd (h.symm.trans hon) Bool.noConfusion
      · exact h hp
      · exact absurd (h.symm.trans hs) Bool.noConfusion
      · exact absurd (h.symm.trans hpush) Bool.noConfusion

end Sys2Proof.Proofs.Lantern

/-! Proofs of the statements of chapter 17 (the Lantern): commits, frames, pushes and restarts. -/

namespace Sys2Proof.Proofs.Lantern

open Sys2Proof Sys2Proof.Machine

/-! ### Settings (R386) -/

/-- The settings, as written and as in force, are all that tells whether they differ and whether they are good. -/
theorem lntChanged_congr {s t : State} (hget : ∀ o ∈ lntShadows, t.get o = s.get o) (hact : t.mem.active = s.mem.active) :
    t.lntChanged = s.lntChanged := by
  have hone : ∀ o ∈ lntShadows, (t.get o != t.act o) = (s.get o != s.act o) := fun o ho => by
    rw [hget o ho, State.act, hact, ← State.act]
  rw [State.lntChanged, State.shadowDiffers, State.lntChanged, State.shadowDiffers, List.any_eq, List.any_eq]
  refine decide_eq_decide.mpr ⟨fun ⟨o, ho, h⟩ => ⟨o, ho, ?_⟩, fun ⟨o, ho, h⟩ => ⟨o, ho, ?_⟩⟩
  · rwa [← hone o ho]
  · rwa [hone o ho]

theorem lntCheck_congr {s t : State} (h : ∀ o ∈ Reg.lntFrameUs :: lntShadows, t.get o = s.get o) : t.lntCheck = s.lntCheck := by
  have hmode := h Reg.lntMode (by decide)
  have hcfg := h Reg.lntCfg (by decide)
  have hrate := h Reg.lntRate (by decide)
  have hh := h Reg.lntH (by decide)
  have hhb := h Reg.lntHblank (by decide)
  have hv := h Reg.lntV (by decide)
  have hvb := h Reg.lntVblank (by decide)
  have hus := h Reg.lntFrameUs (by decide)
  unfold State.lntCheck State.rd State.bit
  rw [hmode, hcfg, hrate, hh, hhb, hv, hvb, hus]

/-- Words handed over: what is in force there is what was written. -/
theorem act_handWords (l : List Nat) (s : State) (o : Nat) :
    (s.handWords l).act o = if o ∈ l then s.get o else s.act o := by
  induction l generalizing s with
  | nil => rfl
  | cons a l ih =>
    rw [State.handWords, ih]
    by_cases hl : o ∈ l
    · rw [if_pos hl, if_pos (List.mem_cons_of_mem a hl)]
      rfl
    · rw [if_neg hl]
      by_cases ha : o = a
      · subst ha
        rw [if_pos List.mem_cons_self]
        exact tget_tset_self _ _ _ _
      · rw [if_neg (by simp [ha, hl])]
        exact tget_tset_ne _ _ _ _ ha

theorem regs_handWords (l : List Nat) (s : State) : (s.handWords l).mem.regs = s.mem.regs := by
  induction l generalizing s with
  | nil => rfl
  | cons a l ih => rw [State.handWords, ih]

/-! ### Restarts asked for (R386) -/

/-- A restart taken: at once a hold where no frame is in progress. -/
def restarting (s : State) : State :=
  let s2 := { s with lnt := { s.lnt with restart := true } }
  if s2.lnt.pushing || s2.lnt.winOpen || s2.lnt.holdEnd.isSome then s2 else s2.beginHold

theorem askRestart_cases (s : State) : (∃ u, (u = s ∨ u = s.fresh.2) ∧ s.askRestart = restarting u ∧ s.lntCheck ≠ .bad)
    ∨ (∃ u, (u = s ∨ u = s.fresh.2) ∧ s.askRestart = u.setBit Reg.lntStatus 5 true ∧ s.lntCheck ≠ .good) := by
  unfold State.askRestart
  cases hc : s.lntCheck with
  | good => exact .inl ⟨s, .inl rfl, rfl, by decide⟩
  | bad => exact .inr ⟨s, .inl rfl, rfl, by decide⟩
  | open_ =>
    cases hf : Config.freeBit s.fresh.1 with
    | false =>
      refine .inr ⟨s.fresh.2, .inr rfl, ?_, by decide⟩
      dsimp only
      rw [hf]
      rfl
    | true =>
      refine .inl ⟨s.fresh.2, .inr rfl, ?_, by decide⟩
      dsimp only
      rw [hf]
      rfl

/-- What a restart asked for leaves: the commits, and every word but the status. -/
theorem askRestart_keeps (s : State) : s.askRestart.lnt.pend = s.lnt.pend ∧ s.askRestart.lnt.used = s.lnt.used
    ∧ ∀ o, o ≠ Reg.lntStatus → s.askRestart.get o = s.get o := by
  have hrestart : ∀ u : State, (restarting u).lnt.pend = u.lnt.pend ∧ (restarting u).lnt.used = u.lnt.used
      ∧ ∀ o, (restarting u).get o = u.get o := by
    intro u
    rw [restarting]
    dsimp only
    split
    · exact ⟨rfl, rfl, fun _ => rfl⟩
    · exact ⟨rfl, rfl, fun _ => rfl⟩
  obtain ⟨u, hu, h, -⟩ | ⟨u, hu, h, -⟩ := askRestart_cases s
  · rw [h]
    obtain ⟨hpend, hused, hget⟩ := hrestart u
    rcases hu with rfl | rfl
    · exact ⟨hpend, hused, fun o _ => hget o⟩
    · exact ⟨hpend, hused, fun o _ => hget o⟩
  · rw [h]
    rcases hu with rfl | rfl
    · exact ⟨rfl, rfl, fun o ho => State.get_setBit_ne _ _ _ ho⟩
    · exact ⟨rfl, rfl, fun o ho => State.get_setBit_ne _ _ _ ho⟩

theorem askRestart_good {s : State} (h : s.lntCheck = .good) : s.askRestart.lnt.restart = true := by
  obtain ⟨u, -, hu, -⟩ | ⟨u, -, -, hno⟩ := askRestart_cases s
  · rw [hu, restarting]
    dsimp only
    split
    · rfl
    · rfl
  · exact absurd h hno

theorem askRestart_bad {s : State} (h : s.lntCheck = .bad) :
    s.askRestart.bit Reg.lntStatus 5 = true ∧ s.askRestart.lnt.restart = s.lnt.restart := by
  obtain ⟨u, -, -, hno⟩ | ⟨u, hu, heq, -⟩ := askRestart_cases s
  · exact absurd h hno
  · rw [heq]
    refine ⟨State.bit_setBit_self _ true (by decide), ?_⟩
    rcases hu with rfl | rfl
    · rfl
    · rfl

/-! ### Commits (R380) -/

/-- The commit that LNT_COMMIT describes. -/
def newCommit (s : State) : Commit :=
  ⟨((s.get Reg.lntCommitSeq).toNat + 1) % 2 ^ 32, s.rd Reg.lntCommit 1 0, s.bit Reg.lntCommit 4,
    s.rectAt (Reg.lntCommitRect 0) (Reg.lntCommitRect 1)⟩

/-- The sequence taken, and a pending commit counted as superseded. -/
def sequenced (s : State) : State :=
  if s.lnt.pend.isSome then (s.put Reg.lntCommitSeq (BitVec.ofNat 32 (newCommit s).seq)).countFld Reg.lntStatus 15 8 1
  else s.put Reg.lntCommitSeq (BitVec.ofNat 32 (newCommit s).seq)

/-- A commit outside its window counted as late. -/
def judgedLate (s : State) : State :=
  if s.lnt.winOpen && s.lnt.holdEnd.isNone then s else (s.setBit Reg.lntStatus 3 true).countFld Reg.lntStatus 23 16 1

/-- A commit pending. -/
def pended (s : State) (c : Commit) : State := { s with lnt := { s.lnt with pend := some c } }

theorem exec_lntCommit (dt : Nat) (s : State) : exec (.lntCommit dt) s = .next (s.start dt).doCommit := by
  rfl

theorem doCommit_off {s : State} (h : s.lntOn = false) : s.doCommit
    = (if (sequenced s).lntChanged then (sequenced s).askRestart.applyIfOff else sequenced s).takeCommit (newCommit s) :=
  if_pos (by rw [h]; rfl)

theorem doCommit_on {s : State} (h : s.lntOn = true) : s.doCommit
    = if (pended (judgedLate (sequenced s)) (newCommit s)).lntChanged then
        (pended (judgedLate (sequenced s)) (newCommit s)).askRestart
      else pended (judgedLate (sequenced s)) (newCommit s) :=
  if_neg (by rw [h]; decide)

theorem lnt_countFld (s : State) (o hi lo k : Nat) : (s.countFld o hi lo k).lnt = s.lnt :=
  Frame.countFld_keep (p := State.lnt) ⟨fun _ _ _ => rfl, fun _ _ => rfl⟩ s o hi lo k

theorem sequenced_shows (s : State) : (sequenced s).lnt = s.lnt ∧ ((sequenced s).get Reg.lntCommitSeq).toNat = (newCommit s).seq
    ∧ (sequenced s).rd Reg.lntStatus 15 8 = (if s.lnt.pend.isSome then min 255 (s.rd Reg.lntStatus 15 8 + 1)
      else s.rd Reg.lntStatus 15 8)
    ∧ (sequenced s).rd Reg.lntStatus 23 16 = s.rd Reg.lntStatus 23 16 ∧ (sequenced s).bit Reg.lntStatus 3 = s.bit Reg.lntStatus 3
    ∧ OnlyRegs [Reg.lntCommitSeq, Reg.lntStatus] s (sequenced s) := by
  have hseq : (BitVec.ofNat 32 (newCommit s).seq).toNat = (newCommit s).seq := by
    rw [BitVec.toNat_ofNat]
    exact Nat.mod_mod _ _
  have hput : OnlyRegs [Reg.lntCommitSeq, Reg.lntStatus] s (s.put Reg.lntCommitSeq (BitVec.ofNat 32 (newCommit s).seq)) :=
    (OnlyRegs.refl _ s).put (by simp) _
  have hstatus : ∀ hi lo, (s.put Reg.lntCommitSeq (BitVec.ofNat 32 (newCommit s).seq)).rd Reg.lntStatus hi lo
      = s.rd Reg.lntStatus hi lo := fun hi lo => State.rd_put_ne _ _ _ _ (by decide)
  have hbit : (s.put Reg.lntCommitSeq (BitVec.ofNat 32 (newCommit s).seq)).bit Reg.lntStatus 3 = s.bit Reg.lntStatus 3 :=
    State.bit_put_ne _ _ _ (by decide)
  rw [sequenced]
  cases hp : s.lnt.pend.isSome with
  | false =>
    rw [if_neg Bool.false_ne_true, if_neg Bool.false_ne_true]
    exact ⟨rfl, by rw [State.get_put_self, hseq], hstatus 15 8, hstatus 23 16, hbit, hput⟩
  | true =>
    rw [if_pos rfl, if_pos rfl]
    refine ⟨lnt_countFld _ _ _ _ _, ?_, ?_, ?_, ?_, hput.countFld (by simp) _ _ _⟩
    · rw [State.countFld, State.get_wr_ne _ _ _ _ (by decide), State.get_put_self, hseq]
    · rw [Words.rd_countFld_self _ _ (by decide) (by decide), hstatus]
      rfl
    · rw [Words.rd_countFld_apart _ _ (by decide) (by decide) (by decide), hstatus]
    · rw [State.countFld, State.bit_wr_apart _ (by decide) (by decide) (by decide), hbit]

theorem onlyRegs_judgedLate {os : List Nat} {s t : State} (h : OnlyRegs os s t) (ho : Reg.lntStatus ∈ os) :
    OnlyRegs os s (judgedLate t) := by
  rw [judgedLate]
  split
  · exact h
  · exact (h.setBit ho 3 true).countFld ho 23 16 1

theorem judgedLate_shows (s : State) : (judgedLate s).lnt = s.lnt
    ∧ (s.lnt.winOpen = false ∨ s.lnt.holdEnd.isSome = true → (judgedLate s).bit Reg.lntStatus 3 = true
      ∧ (judgedLate s).rd Reg.lntStatus 23 16 = min 255 (s.rd Reg.lntStatus 23 16 + 1))
    ∧ (s.lnt.winOpen = true → s.lnt.holdEnd = none → judgedLate s = s)
    ∧ (judgedLate s).rd Reg.lntStatus 15 8 = s.rd Reg.lntStatus 15 8 := by
  rw [judgedLate]
  split
  · next h =>
    rw [Bool.and_eq_true, Option.isNone_iff_eq_none] at h
    obtain ⟨hopen, hhold⟩ := h
    refine ⟨rfl, fun hno => ?_, fun _ _ => rfl, rfl⟩
    rcases hno with hno | hno
    · exact absurd (hno.symm.trans hopen) Bool.noConfusion
    · rw [hhold] at hno
      cases hno
  · next h =>
    refine ⟨(lnt_countFld _ _ _ _ _).trans rfl, fun _ => ⟨?_, ?_⟩, fun hopen hhold => ?_, ?_⟩
    · rw [State.countFld, State.bit_wr_apart _ (by decide) (by decide) (by decide), State.bit_setBit_self _ _ (by decide)]
    · rw [Words.rd_countFld_self _ _ (by decide) (by decide), State.rd_setBit_apart _ _ (by decide) (by decide)]
      rfl
    · refine absurd ?_ h
      rw [hopen, hhold]
      rfl
    · rw [Words.rd_countFld_apart _ _ (by decide) (by decide) (by decide), State.rd_setBit_apart _ _ (by decide) (by decide)]

theorem takeCommit_shows (s : State) (c : Commit) : (s.takeCommit c).lnt.used = some c ∧ (s.takeCommit c).lnt.pend = none
    ∧ (s.takeCommit c).get Reg.lntTakenSeq = BitVec.ofNat 32 c.seq
    ∧ ∀ o, o ≠ Reg.lntTakenSeq → (s.takeCommit c).get o = s.get o :=
  ⟨rfl, rfl, State.get_put_self _ _ _, fun _ ho => State.get_put_ne _ _ ho⟩

theorem get_applyIfOff (s : State) (o : Nat) : s.applyIfOff.get o = s.get o := by
  rw [State.applyIfOff]
  split
  · exact State.get_congr (regs_handWords lntShadows s) o
  · rfl

/-- With the outputs off a commit is in use at once. -/
theorem doCommit_off_shows {s : State} (h : s.lntOn = false) : (s.doCommit.get Reg.lntCommitSeq).toNat = (newCommit s).seq
    ∧ s.doCommit.lnt.used = some (newCommit s) ∧ s.doCommit.lnt.pend = none
    ∧ s.doCommit.get Reg.lntTakenSeq = BitVec.ofNat 32 (newCommit s).seq := by
  rw [doCommit_off h]
  obtain ⟨-, hseq, -⟩ := sequenced_shows s
  generalize sequenced s = u at hseq ⊢
  have hkept : (if u.lntChanged then u.askRestart.applyIfOff else u).get Reg.lntCommitSeq = u.get Reg.lntCommitSeq := by
    split
    · obtain ⟨-, -, hget⟩ := askRestart_keeps u
      rw [get_applyIfOff, hget _ (by decide)]
    · rfl
  obtain ⟨hused, hpend, htaken, hother⟩ := takeCommit_shows (if u.lntChanged then u.askRestart.applyIfOff else u) (newCommit s)
  exact ⟨by rw [hother _ (by decide), hkept, hseq], hused, hpend, htaken⟩

/-- A pending commit as it stands in the registers, settings unchanged. -/
def pending (s : State) : State := pended (judgedLate (sequenced s)) (newCommit s)

theorem onlyRegs_pending (s : State) :
    OnlyRegs [Reg.lntCommitSeq, Reg.lntStatus] { s with lnt := { s.lnt with pend := some (newCommit s) } } (pending s) := by
  obtain ⟨hlnt, -, -, -, -, honly⟩ := sequenced_shows s
  obtain ⟨hlnt', -⟩ := judgedLate_shows (sequenced s)
  have hwords : OnlyRegs [Reg.lntCommitSeq, Reg.lntStatus] s (judgedLate (sequenced s)) := onlyRegs_judgedLate honly (by simp)
  rw [pending, pended, hlnt', hlnt]
  exact Frame.onlyRegs_map (f := fun u => { u with lnt := { s.lnt with pend := some (newCommit s) } }) (fun _ _ => rfl)
    (fun _ => rfl) hwords

theorem lnt_pending (s : State) : (pending s).lnt = { s.lnt with pend := some (newCommit s) } :=
  Frame.onlyRegs_keep (p := State.lnt) (fun _ _ => rfl) (onlyRegs_pending s)

theorem get_pending (s : State) {o : Nat} (h : o ≠ Reg.lntCommitSeq) (hs : o ≠ Reg.lntStatus) : (pending s).get o = s.get o :=
  (onlyRegs_pending s).2 o (by simp [h, hs])

theorem changed_pending (s : State) : (pending s).lntChanged = s.lntChanged :=
  lntChanged_congr (fun o ho => get_pending s (by rintro rfl; revert ho; decide) (by rintro rfl; revert ho; decide))
    (Words.active_of_onlyRegs (s := { s with lnt := { s.lnt with pend := some (newCommit s) } }) (onlyRegs_pending s))

theorem check_pending (s : State) : (pending s).lntCheck = s.lntCheck :=
  lntCheck_congr (fun o ho => get_pending s (by rintro rfl; revert ho; decide) (by rintro rfl; revert ho; decide))

theorem seq_pending (s : State) : ((pending s).get Reg.lntCommitSeq).toNat = (newCommit s).seq := by
  obtain ⟨-, hseq, -⟩ := sequenced_shows s
  have hlate : (judgedLate (sequenced s)).get Reg.lntCommitSeq = (sequenced s).get Reg.lntCommitSeq :=
    (onlyRegs_judgedLate (OnlyRegs.refl [Reg.lntStatus] _) (by simp)).2 _ (by decide)
  rw [← hseq, ← hlate]
  rfl

theorem doCommit_pending {s : State} (h : s.lntOn = true) :
    s.doCommit = if s.lntChanged then (pending s).askRestart else pending s := by
  rw [← changed_pending, doCommit_on h]
  rfl

/-- What the status shows of a pending commit. -/
theorem status_pending (s : State) :
    (s.lnt.winOpen = false ∨ s.lnt.holdEnd.isSome = true → (pending s).bit Reg.lntStatus 3 = true
      ∧ (pending s).rd Reg.lntStatus 23 16 = min 255 (s.rd Reg.lntStatus 23 16 + 1))
    ∧ (s.lnt.winOpen = true → s.lnt.holdEnd = none → (pending s).bit Reg.lntStatus 3 = s.bit Reg.lntStatus 3
      ∧ (pending s).rd Reg.lntStatus 23 16 = s.rd Reg.lntStatus 23 16)
    ∧ (pending s).rd Reg.lntStatus 15 8 = (if s.lnt.pend.isSome then min 255 (s.rd Reg.lntStatus 15 8 + 1)
      else s.rd Reg.lntStatus 15 8) := by
  have hbit : (pending s).bit Reg.lntStatus 3 = (judgedLate (sequenced s)).bit Reg.lntStatus 3 := rfl
  have hrd : ∀ hi lo, (pending s).rd Reg.lntStatus hi lo = (judgedLate (sequenced s)).rd Reg.lntStatus hi lo := fun _ _ => rfl
  obtain ⟨hlnt, -, hcount, hlate, hthree, -⟩ := sequenced_shows s
  obtain ⟨-, hout, hin, hcount'⟩ := judgedLate_shows (sequenced s)
  rw [hlnt, hlate] at hout
  rw [hlnt] at hin
  refine ⟨fun h => ?_, fun hopen hhold => ?_, ?_⟩
  · rw [hbit, hrd]
    exact hout h
  · rw [hbit, hrd, hin hopen hhold]
    exact ⟨hthree, hlate⟩
  · rw [hrd, hcount', hcount]

/-- The statement's clause about a commit. -/
theorem commitClause (dt : Nat) (s v : State) (hv : v = s.start dt) (c : Commit) (hc : c = newCommit v) :
    ∃ t, exec (.lntCommit dt) s = .next t
      ∧ (t.get Reg.lntCommitSeq).toNat = c.seq
      ∧ (v.lntOn = false → t.lnt.used = some c ∧ t.lnt.pend = none ∧ t.get Reg.lntTakenSeq = BitVec.ofNat 32 c.seq)
      ∧ (v.lntOn = true → t.lnt.pend = some c
        ∧ (v.lntChanged = false →
          (v.lnt.winOpen = false ∨ v.lnt.holdEnd.isSome = true → t.bit Reg.lntStatus 3 = true
            ∧ t.rd Reg.lntStatus 23 16 = min 255 (v.rd Reg.lntStatus 23 16 + 1))
          ∧ (v.lnt.winOpen = true → v.lnt.holdEnd = none → t.bit Reg.lntStatus 3 = v.bit Reg.lntStatus 3
            ∧ t.rd Reg.lntStatus 23 16 = v.rd Reg.lntStatus 23 16)
          ∧ t.rd Reg.lntStatus 15 8 = (if v.lnt.pend.isSome then min 255 (v.rd Reg.lntStatus 15 8 + 1)
            else v.rd Reg.lntStatus 15 8)
          ∧ OnlyRegs [Reg.lntCommitSeq, Reg.lntStatus] { v with lnt := { v.lnt with pend := some c } } t)
        ∧ (v.lntChanged = true → v.lntCheck = .good → t.lnt.restart = true)
        ∧ (v.lntChanged = true → v.lntCheck = .bad → t.bit Reg.lntStatus 5 = true ∧ t.lnt.restart = v.lnt.restart)) := by
  subst hv hc
  rw [exec_lntCommit]
  generalize s.start dt = v
  refine ⟨_, rfl, ?_⟩
  cases hon : v.lntOn with
  | false =>
    obtain ⟨hseq, hused, hpend, htaken⟩ := doCommit_off_shows hon
    exact ⟨hseq, fun _ => ⟨hused, hpend, htaken⟩, Bool.noConfusion⟩
  | true =>
    rw [doCommit_pending hon]
    obtain ⟨hout, hin, hcount⟩ := status_pending v
    cases hch : v.lntChanged with
    | false =>
      rw [if_neg Bool.false_ne_true]
      refine ⟨seq_pending v, Bool.noConfusion, fun _ => ⟨?_, fun _ => ⟨hout, hin, hcount, onlyRegs_pending v⟩, Bool.noConfusion,
        Bool.noConfusion⟩⟩
      rw [lnt_pending]
    | true =>
      rw [if_pos rfl]
      obtain ⟨hpend, -, hget⟩ := askRestart_keeps (pending v)
      refine ⟨by rw [hget _ (by decide), seq_pending], Bool.noConfusion, fun _ => ⟨?_, Bool.noConfusion, fun _ hgood => ?_,
        fun _ hbad => ?_⟩⟩
      · rw [hpend, lnt_pending]
      · exact askRestart_good ((check_pending v).trans hgood)
      · obtain ⟨hbit, hrestart⟩ := askRestart_bad ((check_pending v).trans hbad)
        exact ⟨hbit, by rw [hrestart, lnt_pending]⟩

end Sys2Proof.Proofs.Lantern

/-! Proofs of the statements of chapter 17 (the Lantern): frames, pushes and the ends of restarts. -/

namespace Sys2Proof.Proofs.Lantern

open Sys2Proof Sys2Proof.Machine

/-! ### Frame instants (R380, R382) -/

theorem exec_lntTeEdge (dt : Nat) (line : Fin 2) (s : State) : exec (.lntTeEdge dt line) s
    = if !(s.start dt).lntRuns || (s.start dt).lntVideo || (s.start dt).actf Reg.lntCfg 3 3 != line.val then .next (s.start dt)
      else if (s.start dt).lnt.pushing then .next ((s.start dt).inc Reg.lntTeMiss)
      else .next (s.start dt).frameInstant := by
  rfl

theorem exec_videoFrameStart (dt : Nat) (s : State) : exec (.videoFrameStart dt) s
    = if (s.start dt).lntRuns && (s.start dt).lntVideo then .next (s.start dt).frameInstant else .next (s.start dt) := by
  rfl

/-- The TE edge is missed: two frame periods without one. -/
def teMissed (s : State) : Bool :=
  s.lntRuns && !s.lntVideo && decide (s.lnt.frameAt.getD s.lnt.gapFrom + 2 * s.framePeriod ≤ s.now)

theorem exec_teMissTimeout (dt : Nat) (s : State) : exec (.teMissTimeout dt) s
    = if teMissed (s.start dt) then
        .next (if ((s.start dt).inc Reg.lntTeMiss).lnt.pushing then (s.start dt).inc Reg.lntTeMiss
          else ((s.start dt).inc Reg.lntTeMiss).frameInstant)
      else .next (s.start dt) := by
  rfl

theorem lnt_inc (s : State) (o : Nat) : (s.inc o).lnt = s.lnt := lnt_countFld s o 31 0 1

/-- The statement's clauses about the frame instants. -/
theorem frameClauses (dt : Nat) (s v : State) (hv : v = s.start dt) :
    (∀ line : Fin 2,
      (v.lntRuns = false ∨ v.lntVideo = true ∨ v.actf Reg.lntCfg 3 3 ≠ line.val → exec (.lntTeEdge dt line) s = .next v)
      ∧ (v.lntRuns = true → v.lntVideo = false → v.actf Reg.lntCfg 3 3 = line.val →
        (v.lnt.pushing = false → exec (.lntTeEdge dt line) s = .next v.frameInstant)
        ∧ (v.lnt.pushing = true → exec (.lntTeEdge dt line) s = .next (v.inc Reg.lntTeMiss))))
    ∧ (v.lntRuns = true → v.lntVideo = true → exec (.videoFrameStart dt) s = .next v.frameInstant)
    ∧ (v.lntRuns = false ∨ v.lntVideo = false → exec (.videoFrameStart dt) s = .next v)
    ∧ (v.lntRuns = false ∨ v.lntVideo = true ∨ v.now < v.lnt.frameAt.getD v.lnt.gapFrom + 2 * v.framePeriod →
      exec (.teMissTimeout dt) s = .next v)
    ∧ (v.lntRuns = true → v.lntVideo = false → v.lnt.frameAt.getD v.lnt.gapFrom + 2 * v.framePeriod ≤ v.now →
      (v.lnt.pushing = true → exec (.teMissTimeout dt) s = .next (v.inc Reg.lntTeMiss))
      ∧ (v.lnt.pushing = false → exec (.teMissTimeout dt) s = .next (v.inc Reg.lntTeMiss).frameInstant)) := by
  subst hv
  simp only [exec_lntTeEdge, exec_videoFrameStart, exec_teMissTimeout, lnt_inc]
  generalize s.start dt = v
  refine ⟨fun line => ⟨fun h => if_pos ?_, fun hruns hvideo hline => ?_⟩, fun hruns hvideo => if_pos ?_, fun h => if_neg ?_,
    fun h => if_neg ?_, fun hruns hvideo hdue => ?_⟩
  · rw [Bool.or_eq_true, Bool.or_eq_true, Bool.not_eq_true', bne_iff_ne]
    tauto
  · rw [hruns, hvideo, hline, bne_self_eq_false]
    exact ⟨fun hpush => if_neg (ne_true_of_eq_false hpush), fun hpush => if_pos hpush⟩
  · rw [hruns, hvideo]
    rfl
  · rcases h with h | h
    · rw [h]
      exact Bool.false_ne_true
    · rw [h, Bool.and_false]
      exact Bool.false_ne_true
  · rw [teMissed, Bool.and_eq_true, Bool.and_eq_true, Bool.not_eq_true', decide_eq_true_iff]
    rintro ⟨⟨hruns, hvideo⟩, hdue⟩
    rcases h with h | h | h
    · exact absurd (h.symm.trans hruns) Bool.noConfusion
    · exact absurd (h.symm.trans hvideo) Bool.noConfusion
    · omega
  · have hmissed : teMissed v = true := by
      rw [teMissed, hruns, hvideo, decide_eq_true hdue]
      rfl
    rw [if_pos hmissed]
    exact ⟨fun hpush => by rw [if_pos hpush], fun hpush => by rw [if_neg (ne_true_of_eq_false hpush)]⟩

/-! ### Pushes (R381, R383) -/

/-- A pending commit is taken at this push. -/
def takes (s : State) : Bool := s.lnt.pend.isSome && !s.lnt.restart

/-- The Trace layer is due in the frame whose number since the last is `n`. -/
def traceDue (s : State) : Bool := s.bit Reg.lntTrace 31 && decide (max 1 (s.rd Reg.lntTraceEvery 7 0) ≤ s.lnt.traceCount + 1)

/-- The window closed at the start of a push. -/
def windowClosed (s : State) : State :=
  { s.takePending with lnt := { s.takePending.lnt with
      winOpen := false, traceCount := if traceDue s.takePending then 0 else s.takePending.lnt.traceCount + 1 } }

/-- The rectangle of the commit taken. -/
def commitRect (s : State) : Nat × Nat × Nat × Nat :=
  match (windowClosed s).lnt.used with
  | some c => if takes s then c.rect else (0, 0, 0, 0)
  | none => (0, 0, 0, 0)

/-- The rectangle that a push sends. -/
def pushRect (s : State) : Nat × Nat × Nat × Nat :=
  clipRect (windowClosed s).lntW (windowClosed s).lntH
    (if (windowClosed s).lntVideo then (0, 0, (windowClosed s).lntW, (windowClosed s).lntH)
      else bounding (commitRect s) (if traceDue s.takePending then (windowClosed s).traceRect else (0, 0, 0, 0)))

/-- A frame in which nothing is sent. -/
def frameSkipped (s : State) : State :=
  if (if takes s then (windowClosed s).retire else windowClosed s).lnt.restart then
    (if takes s then (windowClosed s).retire else windowClosed s).beginHold
  else if takes s then (windowClosed s).retire else windowClosed s

/-- A push under way. -/
def pushing (s : State) : State :=
  { (windowClosed s).retire.emitPush (pushRect s) with
    lnt := { ((windowClosed s).retire.emitPush (pushRect s)).lnt with pushing := true } }

/-- A push may start. -/
def pushWaits (s : State) : Bool := !s.lntRuns || !s.lnt.winOpen || s.lnt.pushing || decide (s.now < s.pushAt)

theorem exec_pushStart (dt : Nat) (s : State) : exec (.pushStart dt) s
    = if pushWaits (s.start dt) then .next (s.start dt)
      else if (pushRect (s.start dt)).2.2.1 = 0 ∨ (pushRect (s.start dt)).2.2.2 = 0 then .next (frameSkipped (s.start dt))
      else .next (pushing (s.start dt)) := by
  rfl

theorem takePending_waits {s : State} (h : s.lnt.pend = none ∨ s.lnt.restart = true) : s.takePending = s := by
  rw [State.takePending]
  rcases h with h | h
  · rw [h]
  · split
    · rw [if_pos h]
    · rfl

theorem takePending_takes {s : State} {c : Commit} (h : s.lnt.pend = some c) (hr : s.lnt.restart = false) :
    s.takePending = s.takeCommit c := by
  rw [State.takePending, h]
  exact if_neg (ne_true_of_eq_false hr)

theorem takes_waits {s : State} (h : s.lnt.pend = none ∨ s.lnt.restart = true) : takes s = false := by
  rw [takes]
  rcases h with h | h
  · rw [h]
    rfl
  · rw [h, Bool.not_true, Bool.and_false]

theorem takes_taken {s : State} {c : Commit} (h : s.lnt.pend = some c) (hr : s.lnt.restart = false) : takes s = true := by
  rw [takes, h, hr]
  rfl

theorem takePending_keeps (s : State) : s.takePending.out = s.out ∧ s.takePending.lnt.pushing = s.lnt.pushing
    ∧ s.takePending.lnt.restart = s.lnt.restart ∧ s.takePending.mem.active = s.mem.active
    ∧ ∀ o, o ≠ Reg.lntTakenSeq → s.takePending.get o = s.get o := by
  rw [State.takePending]
  split
  · split
    · exact ⟨rfl, rfl, rfl, rfl, fun _ _ => rfl⟩
    · exact ⟨rfl, rfl, rfl, rfl, fun _ ho => State.get_put_ne _ _ ho⟩
  · exact ⟨rfl, rfl, rfl, rfl, fun _ _ => rfl⟩

/-- The settings in force stay, and with them the size and the mode. -/
theorem size_windowClosed (s : State) : (windowClosed s).lntVideo = s.lntVideo ∧ (windowClosed s).lntW = s.lntW
    ∧ (windowClosed s).lntH = s.lntH := by
  obtain ⟨-, -, -, hact, -⟩ := takePending_keeps s
  have hactf : ∀ o hi lo, (windowClosed s).actf o hi lo = s.actf o hi lo := fun o hi lo => by
    rw [State.actf, State.act, show (windowClosed s).mem.active = s.mem.active from hact, ← State.act, ← State.actf]
  exact ⟨congrArg (· == 1) (hactf _ 0 0), hactf _ 11 0, hactf _ 11 0⟩

theorem traceDue_off {s : State} (h : s.bit Reg.lntTrace 31 = false) : traceDue s.takePending = false := by
  obtain ⟨-, -, -, -, hget⟩ := takePending_keeps s
  rw [traceDue, State.bit, hget _ (by decide), ← State.bit, h]
  rfl

theorem retire_keeps (s : State) : s.retire.lnt = s.lnt ∧ s.retire.out = s.out ∧ ∀ o, o ≠ Reg.lntRetiredSeq → s.retire.get o = s.get o := by
  rw [State.retire]
  split
  · exact ⟨rfl, rfl, fun _ ho => State.get_put_ne _ _ ho⟩
  · exact ⟨rfl, rfl, fun _ _ => rfl⟩

theorem retire_used {s : State} {c : Commit} (h : s.lnt.used = some c) :
    s.retire.get Reg.lntRetiredSeq = BitVec.ofNat 32 (c.seq - 1) := by
  rw [State.retire, h]
  exact State.get_put_self _ _ _

theorem out_countFld (s : State) (o hi lo k : Nat) : (s.countFld o hi lo k).out = s.out := rfl

theorem emitPush_shows (s : State) (r : Nat × Nat × Nat × Nat) : (s.emitPush r).lnt = s.lnt
    ∧ (∃ px, (s.emitPush r).out = s.out ++ [.push r.1 r.2.1 r.2.2.1 r.2.2.2 px])
    ∧ ∀ o, o ≠ Reg.lntUnderrun → (s.emitPush r).get o = s.get o := by
  unfold State.emitPush
  dsimp only
  refine ⟨?_, ⟨(List.range r.2.2.2).flatMap (s.pushLine r.1 r.2.1 r.2.2.1), ?_⟩, fun o ho => ?_⟩
  · rw [lnt_countFld]
    rfl
  · rw [out_countFld]
    rfl
  · exact State.get_wr_ne _ _ _ _ ho

/-- What a push shows, whether or not something is sent. -/
theorem frameSkipped_shows (s : State) : (frameSkipped s).lnt.winOpen = false
    ∧ (frameSkipped s).lnt.used = s.takePending.lnt.used ∧ (frameSkipped s).lnt.pend = s.takePending.lnt.pend
    ∧ (frameSkipped s).out = s.out ∧ (s.lnt.pushing = false → (frameSkipped s).lnt.pushing = false)
    ∧ ∀ o, (frameSkipped s).get o = (if takes s then (windowClosed s).retire else windowClosed s).get o := by
  obtain ⟨hout, hpush, -⟩ := takePending_keeps s
  have hkept : (if takes s then (windowClosed s).retire else windowClosed s).lnt = (windowClosed s).lnt
      ∧ (if takes s then (windowClosed s).retire else windowClosed s).out = s.out := by
    obtain ⟨hlnt, hout', -⟩ := retire_keeps (windowClosed s)
    split
    · exact ⟨hlnt, hout'.trans hout⟩
    · exact ⟨rfl, hout⟩
  rw [frameSkipped]
  generalize (if takes s then (windowClosed s).retire else windowClosed s) = u at hkept ⊢
  obtain ⟨hlnt, hout'⟩ := hkept
  have hopen : u.lnt.winOpen = false := by rw [hlnt]; rfl
  have hused : u.lnt.used = s.takePending.lnt.used := by rw [hlnt]; rfl
  have hpend : u.lnt.pend = s.takePending.lnt.pend := by rw [hlnt]; rfl
  have hstill : u.lnt.pushing = s.lnt.pushing := by rw [hlnt]; exact hpush
  split
  · exact ⟨rfl, hused, hpend, hout', fun _ => rfl, fun _ => rfl⟩
  · exact ⟨hopen, hused, hpend, hout', fun h => hstill.trans h, fun _ => rfl⟩

theorem pushing_shows (s : State) : (pushing s).lnt.winOpen = false ∧ (pushing s).lnt.used = s.takePending.lnt.used
    ∧ (pushing s).lnt.pend = s.takePending.lnt.pend ∧ (pushing s).lnt.pushing = true
    ∧ (∃ px, (pushing s).out = s.out ++ [.push (pushRect s).1 (pushRect s).2.1 (pushRect s).2.2.1 (pushRect s).2.2.2 px])
    ∧ ∀ o, o ≠ Reg.lntUnderrun → (pushing s).get o = (windowClosed s).retire.get o := by
  obtain ⟨hout, -⟩ := takePending_keeps s
  obtain ⟨hlnt, hout', -⟩ := retire_keeps (windowClosed s)
  obtain ⟨hlnt', ⟨px, hpx⟩, hget⟩ := emitPush_shows (windowClosed s).retire (pushRect s)
  have hall : (pushing s).lnt = { (windowClosed s).lnt with pushing := true } := by
    rw [pushing, hlnt', hlnt]
  refine ⟨by rw [hall]; rfl, by rw [hall]; rfl, by rw [hall]; rfl, by rw [hall], ⟨px, ?_⟩, hget⟩
  exact hpx.trans (by rw [hout', show (windowClosed s).out = s.out from hout])

/-! ### The rectangle of a push (R381) -/

/-- A rectangle has no pixel. -/
abbrev rectEmpty (r : Nat × Nat × Nat × Nat) : Prop := r.2.2.1 = 0 ∨ r.2.2.2 = 0

theorem clipRect_empty {r : Nat × Nat × Nat × Nat} (w h : Nat) (he : rectEmpty r) : rectEmpty (clipRect w h r) := by
  simp only [rectEmpty, clipRect] at he ⊢
  omega

theorem clipRect_whole (w h : Nat) : clipRect w h (0, 0, w, h) = (0, 0, w, h) := by
  simp [clipRect]

theorem bounding_zero (r : Nat × Nat × Nat × Nat) : bounding r (0, 0, 0, 0) = if rectEmpty r then (0, 0, 0, 0) else r := by
  rw [bounding]
  refine if_congr Iff.rfl rfl ?_
  exact if_pos (.inl rfl)

/-- In Command mode with the Trace layer off a push sends the commit's rectangle. -/
theorem pushRect_commit {s : State} (ht : s.bit Reg.lntTrace 31 = false) (hv : s.lntVideo = false) :
    pushRect s = clipRect s.lntW s.lntH (if rectEmpty (commitRect s) then (0, 0, 0, 0) else commitRect s) := by
  obtain ⟨hvideo, hw, hh⟩ := size_windowClosed s
  rw [pushRect, hvideo, hw, hh, hv, if_neg Bool.false_ne_true, traceDue_off ht, if_neg Bool.false_ne_true, bounding_zero]

theorem pushRect_video {s : State} (hv : s.lntVideo = true) : pushRect s = (0, 0, s.lntW, s.lntH) := by
  obtain ⟨hvideo, hw, hh⟩ := size_windowClosed s
  rw [pushRect, hvideo, hw, hh, hv, if_pos rfl, clipRect_whole]

theorem commitRect_none {s : State} (h : takes s = false) : commitRect s = (0, 0, 0, 0) := by
  rw [commitRect]
  split
  · rw [h]
    rfl
  · rfl

theorem commitRect_taken {s : State} {c : Commit} (h : s.lnt.pend = some c) (hr : s.lnt.restart = false) : commitRect s = c.rect := by
  have hused : (windowClosed s).lnt.used = some c := by
    rw [windowClosed, takePending_takes h hr]
    rfl
  rw [commitRect, hused, takes_taken h hr]
  rfl

theorem pushRect_taken {s : State} {c : Commit} (h : s.lnt.pend = some c) (hr : s.lnt.restart = false)
    (ht : s.bit Reg.lntTrace 31 = false) (hv : s.lntVideo = false) :
    (rectEmpty (clipRect s.lntW s.lntH c.rect) → rectEmpty (pushRect s))
    ∧ (¬ rectEmpty (clipRect s.lntW s.lntH c.rect) → pushRect s = clipRect s.lntW s.lntH c.rect) := by
  rw [pushRect_commit ht hv, commitRect_taken h hr]
  by_cases he : rectEmpty c.rect
  · rw [if_pos he]
    exact ⟨fun _ => clipRect_empty _ _ (.inl rfl), fun hno => absurd (clipRect_empty _ _ he) hno⟩
  · rw [if_neg he]
    exact ⟨id, fun _ => rfl⟩

theorem pushRect_nothing {s : State} (h : s.lnt.pend = none) (ht : s.bit Reg.lntTrace 31 = false) (hv : s.lntVideo = false) :
    rectEmpty (pushRect s) := by
  rw [pushRect_commit ht hv, commitRect_none (takes_waits (.inl h)), if_pos (.inl rfl)]
  exact clipRect_empty _ _ (.inl rfl)

/-! ### What the start of a push leaves -/

/-- The frame with its push, or with none where there is nothing to send. -/
def pushed (s : State) : State := if (pushRect s).2.2.1 = 0 ∨ (pushRect s).2.2.2 = 0 then frameSkipped s else pushing s

theorem pushed_empty {s : State} (h : rectEmpty (pushRect s)) : pushed s = frameSkipped s := if_pos h

theorem pushed_sent {s : State} (h : ¬ rectEmpty (pushRect s)) : pushed s = pushing s := if_neg h

theorem pushed_shows (s : State) : (pushed s).lnt.winOpen = false ∧ (pushed s).lnt.used = s.takePending.lnt.used
    ∧ (pushed s).lnt.pend = s.takePending.lnt.pend := by
  rw [pushed]
  split
  · obtain ⟨hopen, hused, hpend, -⟩ := frameSkipped_shows s
    exact ⟨hopen, hused, hpend⟩
  · obtain ⟨hopen, hused, hpend, -⟩ := pushing_shows s
    exact ⟨hopen, hused, hpend⟩

/-- The commit taken: its sequence shown, and the slots before it free. -/
theorem pushed_taken {s : State} {c : Commit} (h : s.lnt.pend = some c) (hr : s.lnt.restart = false) :
    (pushed s).get Reg.lntTakenSeq = BitVec.ofNat 32 c.seq ∧ (pushed s).get Reg.lntRetiredSeq = BitVec.ofNat 32 (c.seq - 1) := by
  have hused : (windowClosed s).lnt.used = some c := by
    rw [windowClosed, takePending_takes h hr]
    rfl
  have htaken : (windowClosed s).get Reg.lntTakenSeq = BitVec.ofNat 32 c.seq := by
    change s.takePending.get Reg.lntTakenSeq = _
    rw [takePending_takes h hr]
    exact State.get_put_self _ _ _
  obtain ⟨-, -, hother⟩ := retire_keeps (windowClosed s)
  have hwords : (windowClosed s).retire.get Reg.lntTakenSeq = BitVec.ofNat 32 c.seq
      ∧ (windowClosed s).retire.get Reg.lntRetiredSeq = BitVec.ofNat 32 (c.seq - 1) :=
    ⟨(hother _ (by decide)).trans htaken, retire_used hused⟩
  rw [pushed]
  split
  · obtain ⟨-, -, -, -, -, hget⟩ := frameSkipped_shows s
    rw [hget, hget, takes_taken h hr, if_pos rfl]
    exact hwords
  · obtain ⟨-, -, -, -, -, hget⟩ := pushing_shows s
    rw [hget _ (by decide), hget _ (by decide)]
    exact hwords

/-- The statement's clause about the start of a push. -/
theorem pushClause (dt : Nat) (s v : State) (hv : v = s.start dt) (hruns : v.lntRuns = true) (hwin : v.lnt.winOpen = true)
    (hpush : v.lnt.pushing = false) (hdue : v.pushAt ≤ v.now) : ∃ t,
      exec (.pushStart dt) s = .next t ∧ t.lnt.winOpen = false
      ∧ (v.lnt.pend = none ∨ v.lnt.restart = true → t.lnt.used = v.lnt.used ∧ t.lnt.pend = v.lnt.pend)
      ∧ (v.lnt.pend = none → v.bit Reg.lntTrace 31 = false → v.lntVideo = false → t.lnt.pushing = false ∧ t.out = v.out)
      ∧ (∀ c : Commit, v.lnt.pend = some c → v.lnt.restart = false → t.lnt.used = some c ∧ t.lnt.pend = none
        ∧ t.get Reg.lntTakenSeq = BitVec.ofNat 32 c.seq ∧ t.get Reg.lntRetiredSeq = BitVec.ofNat 32 (c.seq - 1)
        ∧ ∀ x y w h, v.bit Reg.lntTrace 31 = false → v.lntVideo = false → clipRect v.lntW v.lntH c.rect = (x, y, w, h) →
          (w = 0 ∨ h = 0 → t.lnt.pushing = false ∧ t.out = v.out)
          ∧ (w ≠ 0 → h ≠ 0 → t.lnt.pushing = true ∧ ∃ px, t.out = v.out ++ [.push x y w h px]))
      ∧ (v.lntVideo = true → v.lntW ≠ 0 → v.lntH ≠ 0 → t.lnt.pushing = true
        ∧ ∃ px, t.out = v.out ++ [.push 0 0 v.lntW v.lntH px]) := by
  have hgo : pushWaits v = false := by
    rw [pushWaits, hruns, hwin, hpush, decide_eq_false (not_lt.mpr hdue)]
    rfl
  subst hv
  rw [exec_pushStart, if_neg (ne_true_of_eq_false hgo), ← apply_ite Host.Outcome.next, ← pushed]
  generalize s.start dt = v at *
  obtain ⟨hopen, hused, hpend⟩ := pushed_shows v
  obtain ⟨-, -, -, hout, hstill, -⟩ := frameSkipped_shows v
  obtain ⟨-, -, -, hon, hsent, -⟩ := pushing_shows v
  refine ⟨_, rfl, hopen, fun h => ?_, fun h ht hvid => ?_, fun c hc hr => ?_, fun hvid hw hh => ?_⟩
  · rw [hused, hpend, takePending_waits h]
    exact ⟨rfl, rfl⟩
  · rw [pushed_empty (pushRect_nothing h ht hvid)]
    exact ⟨hstill hpush, hout⟩
  · obtain ⟨htaken, hretired⟩ := pushed_taken hc hr
    rw [hused, hpend]
    refine ⟨by rw [takePending_takes hc hr]; rfl, by rw [takePending_takes hc hr]; rfl, htaken, hretired,
      fun x y w h ht hvid hclip => ?_⟩
    obtain ⟨hempty, hfull⟩ := pushRect_taken hc hr ht hvid
    rw [hclip] at hempty hfull
    refine ⟨fun he => ?_, fun hw hh => ?_⟩
    · rw [pushed_empty (hempty he)]
      exact ⟨hstill hpush, hout⟩
    · have hrect : pushRect v = (x, y, w, h) := hfull (by rintro (he | he) <;> contradiction)
      rw [hrect] at hsent
      rw [pushed_sent (by rw [hrect]; rintro (he | he) <;> contradiction)]
      exact ⟨hon, hsent⟩
  · have hrect := pushRect_video hvid
    rw [hrect] at hsent
    rw [pushed_sent (by rw [hrect]; rintro (he | he) <;> contradiction)]
    exact ⟨hon, hsent⟩

/-! ### The ends of pushes and restarts (R386) -/

/-- A push over. -/
def pushOver (s : State) : State := { s with lnt := { s.lnt with pushing := false, gapFrom := s.now } }

theorem beginHold_pushOver (s : State) : (pushOver s).beginHold.lnt.holdEnd = some (s.now + 2 * s.framePeriod)
    ∧ (pushOver s).beginHold.lnt.pushing = false ∧ (pushOver s).beginHold.lnt.winOpen = false
    ∧ (pushOver s).beginHold.mem = s.mem :=
  ⟨rfl, rfl, rfl, rfl⟩

theorem exec_pushEnd (dt : Nat) (s : State) : exec (.pushEnd dt) s
    = if !(s.start dt).lnt.pushing then .next (s.start dt)
      else .next (if (s.start dt).lnt.restart && (s.start dt).lnt.holdEnd.isNone then (pushOver (s.start dt)).beginHold
        else pushOver (s.start dt)) := by
  rfl

/-- The settings in force as a hold ends. -/
def settled (s : State) : State := if s.lnt.restart then s.applyLnt else s

/-- A hold over. -/
def holdOver (s : State) : State :=
  { settled s with lnt := { (settled s).lnt with holdEnd := none, restart := false, frameAt := none, gapFrom := s.now } }

theorem holdOver_shows (s : State) : (holdOver s).lnt.holdEnd = none ∧ (holdOver s).lnt.restart = false
    ∧ (holdOver s).mem = (settled s).mem :=
  ⟨rfl, rfl, rfl⟩

theorem act_settled {s : State} (h : s.lnt.restart = true) {o : Nat} (ho : o ∈ lntShadows) : (settled s).act o = s.get o := by
  rw [settled, if_pos h]
  exact (act_handWords lntShadows s o).trans (if_pos ho)

theorem exec_restartHoldEnd_some {dt t : Nat} {s : State} (h : (s.start dt).lnt.holdEnd = some t) : exec (.restartHoldEnd dt) s
    = if t ≤ (s.start dt).now then .next (holdOver (s.start dt)) else .next (s.start dt) := by
  change execRestartHoldEnd dt s = _
  unfold execRestartHoldEnd
  dsimp only
  split
  · next u hu =>
    obtain rfl := Option.some.inj (hu.symm.trans h)
    rfl
  · next hno => cases hno.symm.trans h

theorem exec_restartHoldEnd_none {dt : Nat} {s : State} (h : (s.start dt).lnt.holdEnd = none) :
    exec (.restartHoldEnd dt) s = .next (s.start dt) := by
  change execRestartHoldEnd dt s = _
  unfold execRestartHoldEnd
  simp only [h]

/-- Settles O57, by what a commit, a frame instant, a push and the end of a restart each make of the Lantern's state. -/
theorem lanternFrames : Obligations.LanternFrames := by
  rintro dt s v rfl
  refine ⟨?_, ?_, fun h => ?_, pushClause dt s _ rfl, fun h => ?_, fun hpush h => ?_, fun hpush hr hh => ?_, exec_restartHoldEnd_none,
    fun t0 ht => ⟨fun hearly => ?_, fun hdue => ?_⟩⟩
  · rintro seq c rfl rfl
    exact commitClause dt s _ rfl _ rfl
  · rintro u rfl
    exact frameClauses dt s _ rfl
  · rw [exec_pushStart, if_pos]
    rw [pushWaits, Bool.or_eq_true, Bool.or_eq_true, Bool.or_eq_true, Bool.not_eq_true', Bool.not_eq_true', decide_eq_true_iff]
    tauto
  · rw [exec_pushEnd]
    exact if_pos (by rw [h]; rfl)
  · rw [exec_pushEnd, hpush, if_neg (by decide)]
    refine congrArg _ (if_neg ?_)
    rw [Bool.and_eq_true, Option.isNone_iff_eq_none]
    rintro ⟨hr, hh⟩
    rcases h with h | h
    · exact absurd (h.symm.trans hr) Bool.noConfusion
    · rw [hh] at h
      cases h
  · have hhold : ((s.start dt).lnt.restart && (s.start dt).lnt.holdEnd.isNone) = true := by
      rw [hr, hh]
      rfl
    rw [exec_pushEnd, hpush, if_neg (by decide), if_pos hhold]
    exact ⟨_, rfl, beginHold_pushOver _⟩
  · rw [exec_restartHoldEnd_some ht, if_neg (not_le.mpr hearly)]
  · rw [exec_restartHoldEnd_some ht, if_pos hdue]
    obtain ⟨hhold, hrestart, hmem⟩ := holdOver_shows (s.start dt)
    refine ⟨_, rfl, hhold, hrestart, fun hr o ho => ?_, fun hr => ?_⟩
    · rw [State.act, hmem, ← State.act, act_settled hr ho]
    · rw [hmem, settled, if_neg (ne_true_of_eq_false hr)]

end Sys2Proof.Proofs.Lantern

/-! Proofs of the statements of chapter 16 (Jubilee updates): keys and flash wear. -/

namespace Sys2Proof.Proofs.Keys

open Sys2Proof Sys2Proof.Machine

/-! ### Keys (R372) -/

theorem exec_keyProg (dt : Nat) (s : State) : exec (.keyProg dt) s = .next (s.start dt).doKeyProg := by
  rfl

theorem exec_keyRevoke (dt : Nat) (s : State) : exec (.keyRevoke dt) s = .next (s.start dt).doKeyRevoke := by
  rfl

theorem exec_keySetRequire (dt : Nat) (s : State) : exec (.keySetRequire dt) s = .next (s.start dt).doKeyRequire := by
  rfl

theorem keyOpen_true {s : State} (h : s.rd Reg.updKeyCtl 31 16 = 0xA256) : (!s.keyOpen) = false := by
  rw [State.keyOpen, h]
  rfl

theorem keyOpen_false {s : State} (h : s.rd Reg.updKeyCtl 31 16 ≠ 0xA256) : (!s.keyOpen) = true := by
  rw [State.keyOpen, beq_false_of_ne h]
  rfl

theorem keySlot_lt (s : State) : s.keySlot < 4 := bitsOf_lt _ 1 0

theorem keyRefused_shows (s : State) : OnlyRegs [Reg.updKeyCtl] s s.keyRefused ∧ s.keyRefused.bit Reg.updKeyCtl 8 = true :=
  ⟨(OnlyRegs.refl _ _).setBit (by simp) _ _, State.bit_setBit_self _ true (by decide)⟩

theorem bit_setBit_below (s : State) (o : Nat) {k : Nat} (b : Bool) (h : k < 4) : (s.setBit o k b).bit o k = b :=
  State.bit_setBit_self _ b (by omega)

theorem keys_setBit (s : State) (o i : Nat) (b : Bool) : (s.setBit o i b).keys = s.keys := rfl

/-- REVOKE of a valid slot, another slot being valid. -/
theorem doKeyRevoke_taken {s : State} (hopen : (!s.keyOpen) = false) (hk : s.keyValid s.keySlot = true) {j : Nat} (hj : j < 4)
    (hne : j ≠ s.keySlot) (hv : s.keyValid j = true) : s.doKeyRevoke = s.setBit Reg.almKeys s.keySlot false := by
  refine (if_neg (ne_true_of_eq_false hopen)).trans (if_pos ?_)
  rw [hk, Bool.true_and, List.any_eq_true]
  exact ⟨j, List.mem_range.mpr hj, by rw [hv, bne_iff_ne.mpr hne]; rfl⟩

theorem doKeyRevoke_refused {s : State} (hopen : (!s.keyOpen) = false)
    (h : s.keyValid s.keySlot = false ∨ ∀ j < 4, j ≠ s.keySlot → s.keyValid j = false) : s.doKeyRevoke = s.keyRefused := by
  refine (if_neg (ne_true_of_eq_false hopen)).trans (if_neg ?_)
  rw [Bool.and_eq_true, List.any_eq_true]
  rintro ⟨hk, j, hj, hother⟩
  rw [Bool.and_eq_true, bne_iff_ne] at hother
  obtain ⟨hne, hv⟩ := hother
  rcases h with h | h
  · exact absurd (h.symm.trans hk) Bool.noConfusion
  · exact absurd ((h j (List.mem_range.mp hj) hne).symm.trans hv) Bool.noConfusion

/-! ### Flash wear (R373) -/

/-- A block taken off the pool and counted. -/
def blockRetired (s : State) : State := (s.wr Reg.updFlash 9 0 (s.rd Reg.updFlash 9 0 - 1)).countFld Reg.updFlash 31 16 1

theorem exec_flashBlockRetire (dt : Nat) (s : State) : exec (.flashBlockRetire dt) s
    = .next (if (s.start dt).rd Reg.updFlash 9 0 = 26 then ((blockRetired (s.start dt)).updEvent 2).fault 34 allBanks
      else blockRetired (s.start dt)) := by
  rfl

theorem blockRetired_shows (s : State) : OnlyRegs [Reg.updFlash] s (blockRetired s)
    ∧ (blockRetired s).rd Reg.updFlash 9 0 = s.rd Reg.updFlash 9 0 - 1
    ∧ (blockRetired s).rd Reg.updFlash 31 16 = min (2 ^ 16 - 1) (s.rd Reg.updFlash 31 16 + 1) := by
  have hlt : s.rd Reg.updFlash 9 0 < 2 ^ 10 := bitsOf_lt _ 9 0
  refine ⟨((OnlyRegs.refl _ s).wr (by simp) 9 0 _).countFld (by simp) 31 16 1, ?_, ?_⟩
  · rw [blockRetired, Words.rd_countFld_apart _ _ (by decide) (by decide) (by decide), State.rd_wr_self _ (by decide) (by decide)]
    omega
  · rw [blockRetired, Words.rd_countFld_self _ _ (by decide) (by decide), State.rd_wr_apart _ (by decide) (by decide) (by decide)]

theorem get_updEvent {o : Nat} (h : o ≠ Reg.updIrq) (hm : o ≠ Reg.msixPba 0) (s : State) (k : Nat) :
    (s.updEvent k).get o = s.get o := by
  rw [State.updEvent]
  split
  · rw [Power.get_signal hm, State.get_setBit_ne _ _ _ h]
  · exact State.get_setBit_ne _ _ _ h

/-- An event of the block is shown. -/
theorem bit_updEvent (s : State) {k : Nat} (h : k < 16) : (s.updEvent k).bit Reg.updIrq (16 + k) = true := by
  have hset : (s.setBit Reg.updIrq (16 + k) true).bit Reg.updIrq (16 + k) = true := State.bit_setBit_self _ true (by omega)
  rw [State.updEvent]
  split
  · rw [State.bit, Power.get_signal (by decide), ← State.bit, hset]
  · exact hset

/-- Settles O56, by the branches of the three key operations and of the retirement. -/
theorem keysAndFlash : Obligations.KeysAndFlash := by
  rintro dt s v k rfl hslot
  rw [exec_keyProg, exec_keyRevoke, exec_keySetRequire, exec_flashBlockRetire]
  generalize s.start dt = v at *
  have hk : k = v.keySlot := hslot
  have hlt := keySlot_lt v
  subst hk
  refine ⟨fun hkey => ?_, fun hkey => ?_, fun hmany => ?_, fun hfew => ?_⟩
  · have hopen := keyOpen_true hkey
    obtain ⟨honly, hbit⟩ := keyRefused_shows v
    refine ⟨fun hrec hempty => ?_, fun h => ?_, fun hrec => ?_, fun hrec => ?_, fun j hj hvalid hne hother => ?_, fun h => ?_⟩
    · rw [State.doKeyProg, if_neg (ne_true_of_eq_false hopen), if_pos (by rw [hrec, hempty]; rfl)]
      refine ⟨_, rfl, bit_setBit_below _ _ true hlt, ?_, (OnlyRegs.refl _ _).setBit (by simp) _ _⟩
      rw [keys_setBit]
      exact tget_tset_self v.keys [] v.keySlot v.keyHash
    · rw [State.doKeyProg, if_neg (ne_true_of_eq_false hopen), if_neg]
      · exact ⟨_, rfl, honly, hbit⟩
      · rw [Bool.and_eq_true]
        rintro ⟨hrec, hempty⟩
        rcases h with h | h
        · exact absurd (h.symm.trans hrec) Bool.noConfusion
        · exact absurd (h.symm.trans hempty) Bool.noConfusion
    · rw [State.doKeyRequire, if_neg (ne_true_of_eq_false hopen), if_pos hrec]
      exact ⟨_, rfl, (OnlyRegs.refl _ _).setBit (by simp) _ _, State.bit_setBit_self _ true (by decide)⟩
    · rw [State.doKeyRequire, if_neg (ne_true_of_eq_false hopen), if_neg (ne_true_of_eq_false hrec)]
      exact ⟨_, rfl, honly, hbit⟩
    · rw [doKeyRevoke_taken hopen hvalid hj hne hother]
      refine ⟨_, rfl, (OnlyRegs.refl _ _).setBit (by simp) _ _, bit_setBit_below _ _ false hlt, ?_⟩
      rw [State.keyValid, State.bit_setBit_apart _ _ (by omega) hne]
      exact hother
    · rw [doKeyRevoke_refused hopen h]
      exact ⟨_, rfl, honly, hbit⟩
  · have hshut := keyOpen_false hkey
    rw [State.doKeyProg, if_pos hshut, State.doKeyRequire, if_pos hshut, State.doKeyRevoke, if_pos hshut]
    exact ⟨rfl, rfl, rfl⟩
  · rw [if_neg hmany]
    exact ⟨_, rfl, blockRetired_shows v⟩
  · rw [if_pos hfew]
    obtain ⟨-, hpool, -⟩ := blockRetired_shows v
    refine ⟨_, rfl, ?_, bit_updEvent _ (by decide)⟩
    rw [State.rd, get_updEvent (by decide) (by decide), ← State.rd, hpool, hfew]

end Sys2Proof.Proofs.Keys

/-! Proofs of the statements of chapter 15 (faults): stacks in Safe Hold and SRAM errors. -/

namespace Sys2Proof.Proofs.Scrub

open Sys2Proof Sys2Proof.Machine

/-! ### Stacks without a request in Safe Hold (R348) -/

/-- A stack that is awake and has had no request for 1 ms. -/
abbrev idles (s : State) (k : Nat) : Bool := s.rd (Reg.memStatus k) 2 0 == 2 && decide ((s.stack k).lastReq + msec ≤ s.now)

/-- Its return to self-refresh. -/
def sleepAgain (s : State) (k : Nat) : State :=
  ((s.setStack k { (s.stack k) with srFrom := s.now }).wr (Reg.memStatus k) 2 0 3).countFld (Reg.memSr k) 15 0 1

theorem exec_safeHoldStackIdle (dt : Nat) (s : State) : exec (.safeHoldStackIdle dt) s
    = if (s.start dt).safeHoldAt.isSome ∧ (s.start dt).holdDone then
        .next ((s.start dt).forAll ((List.range 4).filter (idles (s.start dt))) sleepAgain)
      else .next (s.start dt) := by
  rfl

theorem sameBytes_refl (s : State) : SameBytes s s := rfl

theorem sameBytes_trans {s t u : State} (h : SameBytes s t) (h' : SameBytes t u) : SameBytes s u := by
  rw [SameBytes] at *
  rw [h', h]

theorem sameBytes_put (s : State) (o v : Nat) : SameBytes s (s.put o v) := rfl

theorem sameBytes_sleepAgain (s : State) (k : Nat) : SameBytes s (sleepAgain s k) := by
  unfold sleepAgain State.countFld State.wr
  exact sameBytes_trans (sameBytes_trans (t := s.setStack k _) rfl (sameBytes_put _ _ _)) (sameBytes_put _ _ _)

theorem now_sleepAgain (s : State) (k : Nat) : (sleepAgain s k).now = s.now := by
  unfold sleepAgain
  rfl

theorem memStatus_ne {j k : Nat} (h : j ≠ k) : Reg.memStatus j ≠ Reg.memStatus k := by
  unfold Reg.memStatus
  omega

theorem memStatus_ne_memSr (j k : Nat) : Reg.memStatus j ≠ Reg.memSr k := by
  unfold Reg.memStatus Reg.memSr
  omega

theorem rd_countFld_ne (s : State) {p o : Nat} (hi lo k a b : Nat) (h : p ≠ o) : (s.countFld o hi lo k).rd p a b = s.rd p a b :=
  State.rd_wr_ne _ _ _ _ _ _ h

theorem status_sleepAgain_self (s : State) (k : Nat) : (sleepAgain s k).rd (Reg.memStatus k) 2 0 = 3 := by
  rw [sleepAgain, rd_countFld_ne _ _ _ _ _ _ (memStatus_ne_memSr k k), State.rd_wr_self _ (by decide) (by decide)]
  rfl

theorem status_sleepAgain_ne (s : State) {j k : Nat} (h : j ≠ k) :
    (sleepAgain s k).rd (Reg.memStatus j) 2 0 = s.rd (Reg.memStatus j) 2 0 := by
  rw [sleepAgain, rd_countFld_ne _ _ _ _ _ _ (memStatus_ne_memSr j k), State.rd_wr_ne _ _ _ _ _ _ (memStatus_ne h)]
  rfl

theorem stackTbl_sleepAgain (s : State) (k : Nat) : (sleepAgain s k).stackTbl
    = tset s.stackTbl Stack.idle k { (s.stack k) with srFrom := s.now } := by
  unfold sleepAgain
  rfl

theorem srFrom_sleepAgain_self (s : State) (k : Nat) : ((sleepAgain s k).stack k).srFrom = s.now := by
  rw [State.stack, stackTbl_sleepAgain, tget_tset_self]

theorem stack_sleepAgain_ne (s : State) {j k : Nat} (h : j ≠ k) : (sleepAgain s k).stack j = s.stack j := by
  rw [State.stack, stackTbl_sleepAgain, tget_tset_ne _ _ _ _ h]
  rfl

theorem sameBytes_sleepAll (l : List Nat) (s : State) : SameBytes s (s.forAll l sleepAgain) := by
  unfold State.forAll
  induction l generalizing s with
  | nil => exact sameBytes_refl s
  | cons a l ih => exact sameBytes_trans (sameBytes_sleepAgain s a) (ih _)

/-- A stack that is not among them stays as it was. -/
theorem sleepAll_not_mem {l : List Nat} {k : Nat} (h : k ∉ l) (s : State) :
    (s.forAll l sleepAgain).rd (Reg.memStatus k) 2 0 = s.rd (Reg.memStatus k) 2 0
      ∧ (s.forAll l sleepAgain).stack k = s.stack k := by
  unfold State.forAll
  induction l generalizing s with
  | nil => exact ⟨rfl, rfl⟩
  | cons a l ih =>
    obtain ⟨hne, hl⟩ := not_or.mp (mt List.mem_cons.mpr h)
    obtain ⟨hst, hk⟩ := ih hl (sleepAgain s a)
    exact ⟨hst.trans (status_sleepAgain_ne s hne), hk.trans (stack_sleepAgain_ne s hne)⟩

/-- A stack among them is in self-refresh from now on. -/
theorem sleepAll_mem {l : List Nat} {k : Nat} (h : k ∈ l) (s : State) :
    (s.forAll l sleepAgain).rd (Reg.memStatus k) 2 0 = 3 ∧ ((s.forAll l sleepAgain).stack k).srFrom = s.now := by
  induction l generalizing s with
  | nil => exact absurd h List.not_mem_nil
  | cons a l ih =>
    change ((sleepAgain s a).forAll l sleepAgain).rd (Reg.memStatus k) 2 0 = 3
      ∧ (((sleepAgain s a).forAll l sleepAgain).stack k).srFrom = s.now
    by_cases hl : k ∈ l
    · obtain ⟨hst, hfrom⟩ := ih hl (sleepAgain s a)
      exact ⟨hst, hfrom.trans (now_sleepAgain s a)⟩
    · obtain rfl := (List.mem_cons.mp h).resolve_right hl
      obtain ⟨hst, hk⟩ := sleepAll_not_mem hl (sleepAgain s k)
      exact ⟨hst.trans (status_sleepAgain_self s k), (congrArg Stack.srFrom hk).trans (srFrom_sleepAgain_self s k)⟩

/-! ### SRAM errors (R351) -/

theorem exec_sramScrub (dt : Nat) (find : SramFind) (s : State) :
    exec (.sramScrub dt find) s = execSramScrub dt find s := by
  rfl

theorem exec_sramScrub_eve_none {dt : Nat} {s : State} {b c : Fin 16} (t : Nat)
    (h : ((s.start dt).fault 9 (maskBit b)).groupOfChan (16 * b.val + c.val) = none) :
    exec (.sramScrub dt (.eve b c t)) s = .next ((s.start dt).fault 9 (maskBit b)) := by
  rw [exec_sramScrub]
  unfold execSramScrub
  dsimp only
  rw [h]

theorem exec_sramScrub_eve_some {dt g : Nat} {s : State} {b c : Fin 16} (t : Nat)
    (h : ((s.start dt).fault 9 (maskBit b)).groupOfChan (16 * b.val + c.val) = some g) :
    exec (.sramScrub dt (.eve b c t)) s = .next (if ((s.start dt).fault 9 (maskBit b)).wouldHold g t
      then ((s.start dt).fault 9 (maskBit b)).sramGap g else (s.start dt).fault 9 (maskBit b)) := by
  rw [exec_sramScrub]
  unfold execSramScrub
  dsimp only
  rw [h]

/-- A cleared accumulation grid of a group. -/
def gridCleared (s : State) (g : Nat) : State :=
  s.setGrp g { (s.grp g) with acc := { (s.grp g).acc with grid := [], gridCount := 0 } }

theorem gridCleared_shows (s : State) (g : Nat) : ((gridCleared s g).grp g).acc.grid = []
    ∧ ((gridCleared s g).grp g).acc.gridCount = 0 ∧ (gridCleared s g).mem = s.mem := by
  rw [gridCleared, State.grp_setGrp_self]
  exact ⟨rfl, rfl, rfl⟩

theorem exec_sramScrub_grid (dt : Nat) (g : Fin 32) (s : State) :
    exec (.sramScrub dt (.grid g)) s = .next (gridCleared ((s.start dt).fault 9 allBanks) g) := by
  rfl

/-- Settles O50, by the stacks that have been idle and by what SRAM scrub finds. -/
theorem safeHoldAndScrub : Obligations.SafeHoldAndScrub := by
  rintro dt s v rfl
  refine ⟨fun h => ?_, fun hat hdone => ?_, ?_, rfl, fun b c i hg => exec_sramScrub_eve_none i hg, fun b c i g hg => ?_,
    fun g => rfl, fun g => ⟨_, exec_sramScrub_grid dt g s, gridCleared_shows _ _⟩, fun e w => rfl⟩
  · rw [exec_safeHoldStackIdle, if_neg]
    rintro ⟨hat, hdone⟩
    rcases h with h | h
    · rw [h] at hat
      exact absurd hat Bool.noConfusion
    · exact absurd (h.symm.trans hdone) Bool.noConfusion
  · rw [exec_safeHoldStackIdle, if_pos ⟨hat, hdone⟩]
    generalize s.start dt = v at *
    refine ⟨_, rfl, sameBytes_sleepAll _ v, fun k => ⟨fun hst hreq => ?_, fun h => ?_⟩⟩
    · refine sleepAll_mem (List.mem_filter.mpr ⟨List.mem_range.mpr k.isLt, ?_⟩) v
      rw [idles, hst, decide_eq_true hreq]
      rfl
    · refine (sleepAll_not_mem (fun hk => ?_) v).1
      obtain ⟨-, hidle⟩ := List.mem_filter.mp hk
      rw [idles, Bool.and_eq_true, beq_iff_eq, decide_eq_true_iff] at hidle
      obtain ⟨hst, hreq⟩ := hidle
      rcases h with h | h
      · exact h hst
      · omega
  · refine ⟨_, rfl, (OnlyRegs.refl _ _).inc (by simp), ?_⟩
    rw [Power.get_inc_self, BitVec.toNat_ofNat, Nat.mod_eq_of_lt (by omega)]
  · rw [exec_sramScrub_eve_some i hg]
    exact ⟨fun h => by rw [h, if_pos rfl], fun h => by rw [if_neg (ne_true_of_eq_false h)]⟩

end Sys2Proof.Proofs.Scrub

/-! Proofs of the statements of chapter 16 (Jubilee updates): the download. -/

namespace Sys2Proof.Proofs.Download

open Sys2Proof Sys2Proof.Machine Sys2Proof.Proofs.Update

/-! ### BEGIN and ABANDON (R358) -/

theorem exec_updBegin (dt : Nat) (s : State) : exec (.updBegin dt) s = .next (s.start dt).doBegin := by
  rfl

theorem exec_updAbandon (dt : Nat) (s : State) : exec (.updAbandon dt) s = .next (s.start dt).doAbandon := by
  rfl

/-- A status word in which STATE is `st` and ERROR 0. -/
def statusOf (s : State) (st : Nat) : State := (s.setUpd st).updError 0

theorem updState_statusOf (s : State) (st : Nat) : (statusOf s st).updState = st % 2 ^ 4 := by
  rw [statusOf, updState_updError, updState_setUpd]

theorem error_statusOf (s : State) (st : Nat) : (statusOf s st).rd Reg.updStatus 23 16 = 0 := by
  rw [statusOf, rd_updError_error, Nat.zero_mod]

theorem onlyRegs_statusOf (s : State) (st : Nat) : OnlyRegs [Reg.updStatus] s (statusOf s st) :=
  ((OnlyRegs.refl _ s).wr (by simp) 3 0 st).wr (by simp) 23 16 0

theorem imgs_statusOf (s : State) (st : Nat) : (statusOf s st).imgs = s.imgs := by
  rw [statusOf, State.updError, State.wr, State.put_imgs, State.setUpd, State.wr, State.put_imgs]

theorem stageBank_statusOf (s : State) (st : Nat) : (statusOf s st).stageBank = s.stageBank := by
  rw [statusOf, State.updError, State.wr, State.put_stageBank, State.setUpd, State.wr, State.put_stageBank]

theorem pkgLen_statusOf (s : State) (st : Nat) : (statusOf s st).pkgLen = s.pkgLen := by
  rw [statusOf, State.updError, State.wr, State.put_pkgLen, State.setUpd, State.wr, State.put_pkgLen]

/-- Neither command is accepted while an activation is requested or in another state. -/
theorem not_accepted {s : State} {a b c : Nat} (h : s.actReq ≠ none ∨ (s.updState ≠ a ∧ s.updState ≠ b ∧ s.updState ≠ c)) :
    ¬ ((s.updState = a ∨ s.updState = b ∨ s.updState = c) ∧ s.actReq.isNone) := by
  rintro ⟨hst, hreq⟩
  rcases h with h | ⟨ha, hb, hc⟩
  · exact h (Option.isNone_iff_eq_none.mp hreq)
  · rcases hst with hst | hst | hst
    · exact ha hst
    · exact hb hst
    · exact hc hst

theorem accepted {s : State} {a b c : Nat} (hreq : s.actReq = none) (h : s.updState = a ∨ s.updState = b ∨ s.updState = c) :
    (s.updState = a ∨ s.updState = b ∨ s.updState = c) ∧ s.actReq.isNone :=
  ⟨h, by rw [hreq]; rfl⟩

/-- The state a BEGIN erases: the target bank staged and its image invalid. -/
def begun (s : State) : State :=
  State.invalidate { s with stageBank := s.targetBank, pkgLen := s.rd Reg.updPkgLen 26 0, eraseAt := some s.now, voteAll := false }
    s.targetBank

theorem doBegin_accepted {s : State} (hreq : s.actReq = none) (h : s.updState = 0 ∨ s.updState = 4 ∨ s.updState = 5) :
    s.doBegin = statusOf (begun s) 1 := by
  rw [State.doBegin, State.beginCode, if_pos (accepted hreq h), if_pos rfl]
  rfl

theorem doBegin_refused {s : State} (h : s.actReq ≠ none ∨ (s.updState ≠ 0 ∧ s.updState ≠ 4 ∧ s.updState ≠ 5)) :
    s.doBegin = s.updError (if s.updState = 8 then 0x11 else 0x10) := by
  rw [State.doBegin, State.beginCode, if_neg (not_accepted h), if_neg]
  split
  · decide
  · decide

theorem img_invalidate (s : State) (b : Nat) : ((s.invalidate b).img b).valid = false
    ∧ ((s.invalidate b).img b).confirmed = false := by
  rw [State.invalidate, State.setFlags, State.img_setImg_self]
  exact ⟨rfl, rfl⟩

theorem img_eq {s t : State} (h : s.imgs = t.imgs) (b : Nat) : s.img b = t.img b := by
  rw [State.img, h, ← State.img]

theorem begun_shows (s : State) : (begun s).stageBank = s.targetBank ∧ (begun s).pkgLen = s.rd Reg.updPkgLen 26 0
    ∧ ((begun s).img s.targetBank).valid = false ∧ ((begun s).img s.targetBank).confirmed = false := by
  obtain ⟨hvalid, hconf⟩ := img_invalidate { s with
    stageBank := s.targetBank, pkgLen := s.rd Reg.updPkgLen 26 0, eraseAt := some s.now, voteAll := false } s.targetBank
  exact ⟨rfl, rfl, hvalid, hconf⟩

/-- The state an ABANDON leaves: the staged bank invalid and no length. -/
def abandoned (s : State) : State := State.invalidate { s with pkgLen := 0, voteAll := false } s.stageBank

theorem doAbandon_accepted {s : State} (hreq : s.actReq = none) (h : s.updState = 2 ∨ s.updState = 4 ∨ s.updState = 5) :
    s.doAbandon = statusOf (abandoned s) 0 := by
  rw [State.doAbandon, if_pos (accepted hreq h)]
  rfl

theorem doAbandon_refused {s : State} (h : s.actReq ≠ none ∨ (s.updState ≠ 2 ∧ s.updState ≠ 4 ∧ s.updState ≠ 5)) :
    s.doAbandon = s.updError 0x10 := by
  rw [State.doAbandon, if_neg (not_accepted h)]

/-! ### The erase and the blocks (R358, R359) -/

/-- An erased bank with no block staged. -/
def erased (s : State) : State := State.setImg { s with eraseAt := none } s.stageBank ImgBank.blank

theorem exec_updEraseComplete (dt : Nat) (s : State) : exec (.updEraseComplete dt) s
    = if (s.start dt).updState = 1 then .next ((erased (s.start dt)).setUpd 2) else .next (s.start dt) := by
  rfl

theorem img_erased (s : State) : (erased s).img s.stageBank = ImgBank.blank :=
  State.img_setImg_self _ _ _

theorem img_setUpd (s : State) (st b : Nat) : (s.setUpd st).img b = s.img b :=
  img_put _ _ _ _

theorem exec_updBlkGo (dt : Nat) (s : State) : exec (.updBlkGo dt) s = .next (s.start dt).doBlkGo := by
  rfl

theorem doBlkGo_busy {s : State} (h : s.blkJob ≠ none) : s.doBlkGo = s := by
  rw [State.doBlkGo, if_pos]
  exact Option.isSome_iff_ne_none.mpr h

theorem doBlkGo_free {s : State} (h : s.blkJob = none) : s.doBlkGo
    = match s.blockFate s.winBlock.1 s.winBlock.2 (s.get Reg.updBlkCrc).toNat with
      | .stage => { s with blkJob := some ⟨s.winBlock.1, s.winBlock.2, .win⟩ }
      | .badCrc => s.blockRefused
      | _ => s := by
  have hfree : ¬ s.blkBusy = true := by
    rw [State.blkBusy, h]
    exact Bool.noConfusion
  exact if_neg hfree

theorem exec_blockStaged (dt : Nat) (x : Verdict) (s : State) : exec (.blockStaged dt x) s = execBlockStaged dt x s := by
  rfl

/-- The block of `j` staged, if its download goes on. -/
def blockWritten (s : State) (j : BlkJob) : State :=
  if s.updState = 2 then State.setImg { s with blkJob := none } s.stageBank { (s.img s.stageBank) with
    blocks := tset (s.img s.stageBank).blocks [] (j.off / 4096) j.bytes } else { s with blkJob := none }

theorem exec_blockStaged_none {dt : Nat} {s : State} (x : Verdict) (h : (s.start dt).blkJob = none) :
    exec (.blockStaged dt x) s = .next (s.start dt) := by
  rw [exec_blockStaged]
  unfold execBlockStaged
  dsimp only
  rw [h]

theorem exec_blockStaged_fail {dt : Nat} {s : State} {j : BlkJob} (h : (s.start dt).blkJob = some j) :
    exec (.blockStaged dt .fail) s = .next (s.start dt) := by
  rw [exec_blockStaged]
  unfold execBlockStaged
  dsimp only
  rw [h]

theorem exec_blockStaged_pass {dt : Nat} {s : State} {j : BlkJob} (h : (s.start dt).blkJob = some j) :
    exec (.blockStaged dt .pass) s = .next (match j.src with
      | .h2d => (blockWritten (s.start dt) j).blockEnd j (if (s.start dt).updState = 2 then 0 else 2)
      | .win => blockWritten (s.start dt) j
      | .uart => (blockWritten (s.start dt) j).answerBlk ((s.start dt).updState == 2) j.off) := by
  rw [exec_blockStaged]
  unfold execBlockStaged blockWritten
  dsimp only
  rw [h]
  simp only [beq_iff_eq]
  rfl

/-- Settles O51, by the states in which each command of a download is accepted. -/
theorem updateDownload : Obligations.UpdateDownload := by
  rintro dt s v rfl
  rw [exec_updBegin, exec_updAbandon, exec_updEraseComplete, exec_updBlkGo]
  refine ⟨fun hreq hst => ?_, fun h => ?_, fun hreq hst => ?_, fun h => ?_, fun hst => ?_, fun hst => if_neg hst, fun hjob => ?_,
    fun off bytes f hjob hwin hf => ?_, fun hjob x => exec_blockStaged_none x hjob, fun j w u hjob hu hw => ?_⟩
  · rw [doBegin_accepted hreq hst]
    generalize s.start dt = v
    obtain ⟨hbank, hlen, hvalid, hconf⟩ := begun_shows v
    have honly := onlyRegs_statusOf (begun v) 1
    refine ⟨_, rfl, updState_statusOf _ 1, (stageBank_statusOf _ 1).trans hbank, (pkgLen_statusOf _ 1).trans hlen,
      error_statusOf _ 1, ?_, ?_, ?_⟩
    · rw [img_eq (imgs_statusOf _ 1), hvalid]
    · rw [img_eq (imgs_statusOf _ 1), hconf]
    · rw [stageBank_statusOf, pkgLen_statusOf, imgs_statusOf]
      exact honly
  · rw [doBegin_refused h]
    refine ⟨_, rfl, (OnlyRegs.refl _ _).wr (by simp) 23 16 _, ?_, updState_updError _ _⟩
    rw [rd_updError_error]
    split
    · rfl
    · rfl
  · rw [doAbandon_accepted hreq hst]
    generalize s.start dt = v
    obtain ⟨hvalid, hconf⟩ := img_invalidate { v with pkgLen := 0, voteAll := false } v.stageBank
    have honly := onlyRegs_statusOf (abandoned v) 0
    refine ⟨_, rfl, updState_statusOf _ 0, ?_, ?_, ?_⟩
    · rw [img_eq (imgs_statusOf _ 0)]
      exact hvalid
    · rw [img_eq (imgs_statusOf _ 0)]
      exact hconf
    · rw [imgs_statusOf]
      exact honly
  · rw [doAbandon_refused h]
    exact ⟨_, rfl, (OnlyRegs.refl _ _).wr (by simp) 23 16 _, rd_updError_error _ _, updState_updError _ _⟩
  · rw [if_pos hst]
    generalize s.start dt = v
    exact ⟨_, rfl, updState_setUpd _ 2, (img_setUpd _ 2 _).trans (img_erased v), (OnlyRegs.refl _ (erased v)).wr (by simp) 3 0 2⟩
  · rw [doBlkGo_busy hjob]
  · rw [doBlkGo_free hjob, hwin, ← hf]
    refine ⟨fun h => by rw [h], fun h => by rw [h]; rfl, fun hs hc => ?_⟩
    cases f with
    | stage => exact absurd rfl hs
    | badCrc => exact absurd rfl hc
    | _ => rfl
  · subst hu
    obtain rfl : w = blockWritten (s.start dt) j := hw
    rw [exec_blockStaged_fail hjob, exec_blockStaged_pass hjob]
    exact ⟨rfl, fun h => by rw [h], fun h => by rw [h], fun h => by rw [h]⟩

end Sys2Proof.Proofs.Download

/-! Proofs of the statements of chapter 16 (Jubilee updates): what a procession sends and how it ends. -/

namespace Sys2Proof.Proofs.Procession

open Sys2Proof Sys2Proof.Machine Sys2Proof.Proofs.Update

/-! ### Frames that a head sends on the ring -/

/-- The part of the state that a head's own requests leave unchanged. -/
def headView (s : State) : Memory × Option Dist × Option Vote × Option Nat × Option Act × Option Nat :=
  (s.mem, s.dist, s.vote, s.verifyFor, s.actReq, s.actWait)

theorem headView_parts {s t : State} (h : headView t = headView s) : t.mem = s.mem ∧ t.dist = s.dist ∧ t.vote = s.vote
    ∧ t.verifyFor = s.verifyFor ∧ t.actReq = s.actReq ∧ t.actWait = s.actWait := by
  simpa only [headView, Prod.mk.injEq] using h

theorem headView_sendFlit (s : State) (d body : Nat) {h : FlitHdr} (hcls : h.cls = 3) :
    headView (s.sendFlit d h body) = headView s := by
  rw [State.sendFlit]
  refine Frame.ite_keep (p := headView) ?_ rfl
  rw [if_neg (by rw [hcls]; decide)]
  rfl

theorem headView_sendOne (s : State) (cf dst body : Nat) : headView (s.sendOne cf dst 3 body) = headView s := by
  rw [State.sendOne, headView_sendFlit _ _ _ rfl, State.pickPort]
  split
  · rfl
  · rfl

theorem headView_sendBoth (s : State) (cf dst body : Nat) : headView (s.sendBoth cf dst 3 body) = headView s := by
  rw [State.sendBoth, headView_sendFlit _ _ _ rfl, headView_sendFlit _ _ _ rfl]

theorem headView_sendCtl (s : State) (op : Nat) (dst : Option Nat) (off data : Nat) (wide : Bool) (why : CtlWhy) (l : List Nat)
    (win : Nat) : headView (s.sendCtl op dst off data wide why l win) = headView s := by
  cases dst with
  | some q => exact headView_sendOne _ _ _ _
  | none => exact headView_sendBoth _ _ _ _

theorem headView_broadcast (s : State) (off data : Nat) (why : CtlWhy) (l : List Nat) :
    headView (s.broadcast off data why l) = headView s :=
  headView_sendCtl _ _ _ _ _ _ _ _ _

theorem headView_askAll (s : State) (off : Nat) (why : CtlWhy) (l : List Nat) :
    headView (s.forAll l (fun s p => s.askReg p off why)) = headView s :=
  Frame.forAll_keep (p := headView) (fun s p => headView_sendCtl s opRead (some p) off 0 false why [p] 64) l s

theorem rd_of_mem {s t : State} (h : t.mem = s.mem) (o hi lo : Nat) : t.rd o hi lo = s.rd o hi lo := by
  rw [State.rd, State.get, h]
  rfl

theorem rdq_of_mem {s t : State} (h : t.mem = s.mem) (o n : Nat) : t.rdq o n = s.rdq o n :=
  State.rdq_congr n o (fun k _ => by rw [State.get, h, ← State.get])

/-! ### DISTRIBUTE and VOTE (R360, R367) -/

theorem exec_updDistribute (dt : Nat) (s : State) : exec (.updDistribute dt) s = .next (s.start dt).doDistribute := by
  rfl

theorem exec_updVote (dt : Nat) (s : State) : exec (.updVote dt) s = .next (s.start dt).doVote := by
  rfl

theorem not_headFree {s : State} (h : s.headStaged = false ∨ s.dist.isSome = true) : ¬ (s.headStaged ∧ s.dist.isNone) := by
  rintro ⟨hstaged, hnone⟩
  rcases h with h | h
  · exact absurd (h.symm.trans hstaged) Bool.noConfusion
  · rw [Option.isNone_iff_eq_none.mp hnone] at h
    exact absurd h Bool.noConfusion

theorem headFree {s : State} (h : s.headStaged = true) (hd : s.dist = none) : s.headStaged ∧ s.dist.isNone :=
  ⟨h, by rw [hd]; rfl⟩

/-- The broadcasts that begin a distribution. -/
def distSent (s : State) : State := (s.broadcast Reg.updPkgLen s.pkgLen .write s.others).broadcast Reg.updCtl 1 .write s.others

/-- The distribution under way. -/
def distBegun (s : State) : State :=
  { distSent s with dist := if s.others.isEmpty then none else some ⟨1, s.blockOffs 0, true, s.others, s.now, s.now, [], [], []⟩ }

theorem doDistribute_begins {s : State} (h : s.headStaged = true) (hd : s.dist = none) : s.doDistribute
    = ((distBegun s).forAll s.others (fun s p => s.askReg p Reg.updStatus .vote)).updError 0 := by
  rw [State.doDistribute, if_pos (headFree h hd)]
  rfl

theorem dist_updError (s : State) (code : Nat) : (s.updError code).dist = s.dist := by
  rw [State.updError, State.wr, State.put_dist]

theorem doDistribute_shows {s : State} (h : s.headStaged = true) (hd : s.dist = none) : s.doDistribute.dist = (distBegun s).dist
    ∧ s.doDistribute.rd Reg.updStatus 23 16 = 0 := by
  obtain ⟨-, hdist, -⟩ := headView_parts (headView_askAll (distBegun s) Reg.updStatus .vote s.others)
  rw [doDistribute_begins h hd, rd_updError_error, dist_updError]
  exact ⟨hdist, rfl⟩

/-- The words of a vote. -/
def voteWords : List Nat :=
  [Reg.updVoteYes, Reg.updVoteYes + 4, Reg.updVoteNo, Reg.updVoteNo + 4, Reg.updVoteAbsent, Reg.updVoteAbsent + 4]

/-- The vote under way. -/
def voteBegun (s : State) : State :=
  State.setUpd { s.clearWords voteWords with
    vote := some ⟨s.now, s.ringPos :: s.others⟩, verifyFor := some s.now, voteAll := false } 9

theorem doVote_begins {s : State} (h : s.headStaged = true) (hd : s.dist = none) : s.doVote
    = ((voteBegun s).broadcast Reg.updCtl 4 .write s.others).forAll s.others (fun s p => s.askReg p Reg.updStatus .vote) := by
  rw [State.doVote, if_pos (headFree h hd)]
  rfl

theorem voteWords_clear (s : State) {o : Nat} (h : o ∈ voteWords) (h' : o + 4 ∈ voteWords) (hr : regDefault o = 0)
    (hr' : regDefault (o + 4) = 0) (hne : o ≠ Reg.updStatus) (hne' : o + 4 ≠ Reg.updStatus) : (voteBegun s).rdq o 2 = 0 := by
  have hword : ∀ w ∈ voteWords, w ≠ Reg.updStatus → (voteBegun s).get w = regDefault w := fun w hw hs => by
    rw [voteBegun, State.setUpd, State.wr, State.get_put_ne _ _ hs]
    exact Ports.get_clearWords_mem s hw
  rw [State.rdq, State.rdq, State.rdq, hword o h hne, hword _ h' hne', hr, hr']
  rfl

theorem setUpd_keeps (s : State) (st : Nat) : (s.setUpd st).vote = s.vote ∧ (s.setUpd st).verifyFor = s.verifyFor := by
  rw [State.setUpd, State.wr, State.put_vote, State.put_verifyFor]
  exact ⟨rfl, rfl⟩

theorem voteBegun_shows (s : State) : (voteBegun s).updState = 9 ∧ (voteBegun s).vote = some ⟨s.now, s.ringPos :: s.others⟩
    ∧ (voteBegun s).verifyFor = some s.now ∧ (voteBegun s).rdq Reg.updVoteYes 2 = 0 ∧ (voteBegun s).rdq Reg.updVoteNo 2 = 0
    ∧ (voteBegun s).rdq Reg.updVoteAbsent 2 = 0 := by
  obtain ⟨hvote, hver⟩ := setUpd_keeps { s.clearWords voteWords with
    vote := some ⟨s.now, s.ringPos :: s.others⟩, verifyFor := some s.now, voteAll := false } 9
  exact ⟨updState_setUpd _ 9, hvote, hver,
    voteWords_clear s (by decide) (by decide) rfl rfl (by decide) (by decide),
    voteWords_clear s (by decide) (by decide) rfl rfl (by decide) (by decide),
    voteWords_clear s (by decide) (by decide) rfl rfl (by decide) (by decide)⟩

theorem doVote_shows {s : State} (h : s.headStaged = true) (hd : s.dist = none) : s.doVote.updState = 9
    ∧ s.doVote.vote = some ⟨s.now, s.ringPos :: s.others⟩ ∧ s.doVote.verifyFor = some s.now
    ∧ s.doVote.rdq Reg.updVoteYes 2 = 0 ∧ s.doVote.rdq Reg.updVoteNo 2 = 0 ∧ s.doVote.rdq Reg.updVoteAbsent 2 = 0 := by
  obtain ⟨hmem, -, hvote, hver, -⟩ := headView_parts
    ((headView_askAll ((voteBegun s).broadcast Reg.updCtl 4 .write s.others) Reg.updStatus .vote s.others).trans
      (headView_broadcast (voteBegun s) Reg.updCtl 4 .write s.others))
  rw [doVote_begins h hd, State.updState, rd_of_mem hmem, hvote, hver, rdq_of_mem hmem, rdq_of_mem hmem, rdq_of_mem hmem]
  exact voteBegun_shows s

/-! ### The waits of a distribution (R360) -/

theorem exec_distributeEraseWaitExpiry (dt : Nat) (s : State) :
    exec (.distributeEraseWaitExpiry dt) s = execDistributeEraseWaitExpiry dt s := by
  rfl

theorem exec_distributeBlockInterval (dt : Nat) (s : State) :
    exec (.distributeBlockInterval dt) s = execDistributeBlockInterval dt s := by
  rfl

theorem eraseWait_none {dt : Nat} {s : State} (h : (s.start dt).dist = none) :
    exec (.distributeEraseWaitExpiry dt) s = .next (s.start dt) := by
  rw [exec_distributeEraseWaitExpiry]
  unfold execDistributeEraseWaitExpiry
  dsimp only
  rw [h]

theorem eraseWait_some {dt : Nat} {s : State} {d : Dist} (h : (s.start dt).dist = some d) :
    exec (.distributeEraseWaitExpiry dt) s = if d.waiting ∧ d.since + 2 * second ≤ (s.start dt).now then
      .next ((s.start dt).distStep { d with waiting := false, erasing := [] }) else .next (s.start dt) := by
  rw [exec_distributeEraseWaitExpiry]
  unfold execDistributeEraseWaitExpiry
  dsimp only
  rw [h]

theorem blockInterval_none {dt : Nat} {s : State} (h : (s.start dt).dist = none) :
    exec (.distributeBlockInterval dt) s = .next (s.start dt) := by
  rw [exec_distributeBlockInterval]
  unfold execDistributeBlockInterval
  dsimp only
  rw [h]

theorem blockInterval_some {dt : Nat} {s : State} {d : Dist} (h : (s.start dt).dist = some d) :
    exec (.distributeBlockInterval dt) s = if !d.waiting ∧ d.lastBlk + 2500 * usec ≤ (s.start dt).now then
      .next ((s.start dt).distStep d) else .next (s.start dt) := by
  rw [exec_distributeBlockInterval]
  unfold execDistributeBlockInterval
  dsimp only
  rw [h]

theorem distStep_sends {d : Dist} {off : Nat} {rest : List Nat} (s : State) (h : d.todo = off :: rest) :
    s.distStep d = ({ s with dist := some { d with todo := rest, lastBlk := s.now } } : State).sendBlock off := by
  unfold State.distStep
  rw [h]

theorem distStep_waits {d : Dist} (s : State) (h : d.todo = []) (ha : d.asked ≠ []) : s.distStep d = s := by
  unfold State.distStep
  rw [h]
  exact if_neg (mt List.isEmpty_iff.mp ha)

/-- After the last block every other member is asked what it misses. -/
theorem distStep_asks {d : Dist} (s : State) (h : d.todo = []) (ha : d.asked = []) : s.distStep d
    = ({ s with dist := some { d with asked := s.others, missing := [], short := [], lastBlk := s.now } } : State).forAll s.others
        (fun s p => s.askReg p Reg.updNextMissing .missing) := by
  unfold State.distStep
  rw [h]
  exact if_pos (by rw [ha]; rfl)

theorem dist_distStep_asks {d : Dist} (s : State) (h : d.todo = []) (ha : d.asked = []) : (s.distStep d).dist
    = some { d with asked := s.others, missing := [], short := [], lastBlk := s.now } := by
  obtain ⟨-, hdist, -⟩ := headView_parts (headView_askAll ({ s with
    dist := some { d with asked := s.others, missing := [], short := [], lastBlk := s.now } } : State)
    Reg.updNextMissing .missing s.others)
  rw [distStep_asks s h ha]
  exact hdist

/-! ### The end of a vote (R367) -/

theorem exec_updVoteTimeout (dt : Nat) (s : State) : exec (.updVoteTimeout dt) s = execUpdVoteTimeout dt s := by
  rfl

/-- The devices of a list marked absent. -/
def absentMarked (s : State) (x : Vote) : State :=
  ({ s with vote := some { x with open_ := [] } } : State).forAll x.open_ (fun s p => s.setPos Reg.updVoteAbsent p)

theorem voteTimeout_none {dt : Nat} {s : State} (h : (s.start dt).vote = none) :
    exec (.updVoteTimeout dt) s = .next (s.start dt) := by
  rw [exec_updVoteTimeout]
  unfold execUpdVoteTimeout
  dsimp only
  rw [h]

theorem voteTimeout_some {dt : Nat} {s : State} {x : Vote} (h : (s.start dt).vote = some x) :
    exec (.updVoteTimeout dt) s = if x.since + max 1 ((s.start dt).rd Reg.updVoteTimeout 15 0) * msec ≤ (s.start dt).now then
      .next (absentMarked (s.start dt) x).concludeVote else .next (s.start dt) := by
  rw [exec_updVoteTimeout]
  unfold execUpdVoteTimeout
  dsimp only
  rw [h]
  rfl

theorem blind_vote : Frame.Blind (fun s => s.vote) := ⟨fun _ _ _ => State.put_vote _ _ _, fun _ _ => rfl⟩

theorem vote_absentMarked (s : State) (x : Vote) : (absentMarked s x).vote = some { x with open_ := [] } :=
  Frame.forAll_keep (p := fun s => s.vote) (fun s _ => Frame.wrq_keep blind_vote _ s _ _) _ _

theorem testBit_setPos (s : State) (o q p : Nat) (hq : q < 64) :
    ((s.setPos o p).rdq o 2).testBit q = ((s.rdq o 2).testBit q || decide (p = q)) := by
  rw [State.setPos, State.rdq_wrq, Nat.testBit_mod_two_pow, decide_eq_true hq, Bool.true_and, Nat.testBit_or, maskBit,
    Nat.testBit_two_pow]

theorem testBit_setAll (o : Nat) {q : Nat} (hq : q < 64) (l : List Nat) (s : State) :
    ((s.forAll l (fun s p => s.setPos o p)).rdq o 2).testBit q = ((s.rdq o 2).testBit q || decide (q ∈ l)) := by
  unfold State.forAll
  induction l generalizing s with
  | nil => simp
  | cons a l ih =>
    rw [List.foldl_cons, ih, testBit_setPos s o q a hq, Bool.or_assoc, ← Bool.decide_or]
    exact congrArg _ (decide_eq_decide.mpr (by rw [List.mem_cons, eq_comm]))

/-- A device that has not voted is marked absent. -/
theorem absentMarked_mem (s : State) {x : Vote} {q : Nat} (hq : q < 64) (h : q ∈ x.open_) :
    ((absentMarked s x).rdq Reg.updVoteAbsent 2).testBit q = true := by
  rw [absentMarked, testBit_setAll _ hq, decide_eq_true h, Bool.or_true]

/-- Every device has answered yes. -/
abbrev allYes (s : State) : Bool := s.rdq Reg.updVoteNo 2 == 0 && s.rdq Reg.updVoteAbsent 2 == 0

/-- The conclusion of a vote, before its event. -/
def concluded (s : State) : State :=
  (State.setUpd { s with vote := none, verifyFor := none, voteAll := allYes s } (if allYes s then 4 else 5)).updError
    (if allYes s then 0 else 0x0C)

theorem concludeVote_concludes {s : State} {x : Vote} (h : s.vote = some x) (ho : x.open_ = []) :
    s.concludeVote = (concluded s).updEvent 0 := by
  unfold State.concludeVote
  rw [h]
  exact if_pos (by rw [ho]; rfl)

theorem updEvent_keep {α : Type} {p : State → α} (hp : Frame.Blind p) (s : State) (k : Nat) : p (s.updEvent k) = p s := by
  rw [State.updEvent]
  exact Frame.ite_keep ((Frame.signal_keep hp _ _).trans (Frame.setBit_keep hp _ _ _ _)) (Frame.setBit_keep hp _ _ _ _)

theorem vote_concluded (s : State) : (concluded s).vote = none := by
  rw [concluded, State.updError, State.wr, State.put_vote, State.setUpd, State.wr, State.put_vote]

theorem get_concluded (s : State) {o : Nat} (h : o ≠ Reg.updStatus) : (concluded s).get o = s.get o := by
  rw [concluded, State.updError, State.wr, State.get_put_ne _ _ h, State.setUpd, State.wr, State.get_put_ne _ _ h]
  rfl

theorem updStatus_updEvent (s : State) (k hi lo : Nat) : (s.updEvent k).rd Reg.updStatus hi lo = s.rd Reg.updStatus hi lo := by
  rw [State.rd, Keys.get_updEvent (by decide) (by decide), ← State.rd]

/-- A vote in which somebody is absent fails. -/
theorem concludeVote_shows {s : State} {x : Vote} (h : s.vote = some x) (ho : x.open_ = []) : s.concludeVote.vote = none
    ∧ s.concludeVote.rdq Reg.updVoteAbsent 2 = s.rdq Reg.updVoteAbsent 2
    ∧ (s.rdq Reg.updVoteAbsent 2 ≠ 0 → s.concludeVote.updState = 5 ∧ s.concludeVote.rd Reg.updStatus 23 16 = 0x0C) := by
  rw [concludeVote_concludes h ho]
  refine ⟨(updEvent_keep blind_vote _ 0).trans (vote_concluded s), State.rdq_congr 2 _ (fun k hk => ?_), fun hne => ?_⟩
  · have hw : Reg.updVoteAbsent + 4 * k ≠ Reg.updStatus ∧ Reg.updVoteAbsent + 4 * k ≠ Reg.updIrq
        ∧ Reg.updVoteAbsent + 4 * k ≠ Reg.msixPba 0 := by
      unfold Reg.updVoteAbsent Reg.updStatus Reg.updIrq Reg.msixPba
      omega
    obtain ⟨hst, hirq, hpba⟩ := hw
    rw [Keys.get_updEvent hirq hpba, get_concluded s hst]
  · have hall : allYes s = false := by rw [allYes, beq_false_of_ne hne, Bool.and_false]
    rw [State.updState, updStatus_updEvent, updStatus_updEvent, concluded, hall, rd_updError_error, ← State.updState,
      updState_updError, updState_setUpd]
    exact ⟨rfl, rfl⟩

/-! ### An ACTIVATE that is not answered (R368) -/

theorem exec_activateAnswerTimeout (dt : Nat) (s : State) :
    exec (.activateAnswerTimeout dt) s = execActivateAnswerTimeout dt s := by
  rfl

theorem answerTimeout_none {dt : Nat} {s : State} (h : (s.start dt).actWait = none) :
    exec (.activateAnswerTimeout dt) s = .next (s.start dt) := by
  rw [exec_activateAnswerTimeout]
  unfold execActivateAnswerTimeout
  dsimp only
  rw [h]

theorem answerTimeout_some {dt t : Nat} {s : State} (h : (s.start dt).actWait = some t) :
    exec (.activateAnswerTimeout dt) s = if t + 20 * msec ≤ (s.start dt).now then
      .next (((s.start dt).countFld Reg.rngCtlStats 15 0
        (((s.start dt).ctlReqs.filter (fun q => q.why == .activate)).map (fun q => q.from_.length)).sum).callOff)
      else .next (s.start dt) := by
  rw [exec_activateAnswerTimeout]
  unfold execActivateAnswerTimeout
  dsimp only
  rw [h]

/-- An activation called off, before the members are told. -/
def withdrawn (s : State) : State :=
  (State.setUpd { s with actReq := none, actWait := none, ctlReqs := s.ctlReqs.filter (fun q => q.why != .activate) } 4).updError 0x0D

theorem withdrawn_shows (s : State) : (withdrawn s).updState = 4 ∧ (withdrawn s).rd Reg.updStatus 23 16 = 0x0D
    ∧ (withdrawn s).actReq = none ∧ (withdrawn s).actWait = none := by
  refine ⟨(updState_updError _ _).trans (updState_setUpd _ 4), rd_updError_error _ _, ?_, ?_⟩
  · rw [withdrawn, State.updError, State.wr, State.put_actReq, State.setUpd, State.wr, State.put_actReq]
  · rw [withdrawn, State.updError, State.wr, State.put_actWait, State.setUpd, State.wr, State.put_actWait]

theorem callOff_shows (s : State) : s.callOff.updState = 4 ∧ s.callOff.rd Reg.updStatus 23 16 = 0x0D
    ∧ s.callOff.actReq = none ∧ s.callOff.actWait = none := by
  have hview : headView s.callOff = headView (withdrawn s) := headView_broadcast _ _ _ _ _
  obtain ⟨hmem, -, -, -, hreq, hwait⟩ := headView_parts hview
  rw [State.updState, rd_of_mem hmem, rd_of_mem hmem, hreq, hwait]
  exact withdrawn_shows s

/-- Settles O52, by what a head has under way and whether its time is over. -/
theorem updateProcession : Obligations.UpdateProcession := by
  rintro dt s v rfl
  rw [exec_updDistribute, exec_updVote]
  refine ⟨fun h => ?_, fun hst hd => ?_, fun hd => ⟨eraseWait_none hd, blockInterval_none hd⟩, fun d hd => ?_,
    voteTimeout_none, fun x hx => ?_, answerTimeout_none, fun t0 ht => ?_⟩
  · rw [State.doDistribute, if_neg (not_headFree h), State.doVote, if_neg (not_headFree h)]
    exact ⟨_, rfl, rfl, (OnlyRegs.refl _ _).wr (by simp) 23 16 _, rd_updError_error _ _⟩
  · obtain ⟨hdist, herr⟩ := doDistribute_shows hst hd
    refine ⟨fun ho => ?_, fun ho => ?_, _, rfl, doVote_shows hst hd⟩
    · refine ⟨_, _, rfl, hdist.trans (if_neg (mt List.isEmpty_iff.mp ho)), rfl, rfl, rfl, rfl, herr⟩
    · exact ⟨_, rfl, hdist.trans (if_pos (by rw [ho]; rfl)), herr⟩
  · rw [eraseWait_some hd, blockInterval_some hd]
    refine ⟨fun hw => ⟨if_neg ?_, fun hdue => if_pos ⟨hw, hdue⟩, fun hearly => if_neg ?_⟩,
      fun hw => ⟨if_neg ?_, fun hearly => if_neg ?_, fun hdue => ?_⟩⟩
    · rintro ⟨hno, -⟩
      rw [hw] at hno
      exact absurd hno Bool.noConfusion
    · rintro ⟨-, hdue⟩
      omega
    · rintro ⟨hyes, -⟩
      exact absurd (hw.symm.trans hyes) Bool.noConfusion
    · rintro ⟨-, hdue⟩
      omega
    · rw [if_pos ⟨by rw [hw]; rfl, hdue⟩]
      exact ⟨fun off rest h => by rw [distStep_sends _ h], fun h ha => by rw [distStep_waits _ h ha],
        fun h ha => ⟨_, rfl, dist_distStep_asks _ h ha⟩⟩
  · rw [voteTimeout_some hx]
    refine ⟨fun hearly => if_neg (by omega), fun hdue => ?_⟩
    rw [if_pos hdue]
    generalize s.start dt = v at *
    obtain ⟨hvote, habs, hfail⟩ := concludeVote_shows (vote_absentMarked v x) rfl
    refine ⟨_, rfl, hvote, fun p hp hmem => ?_, fun ⟨p, hmem, hp⟩ => hfail (fun hzero => ?_)⟩
    · rw [habs, absentMarked_mem v hp hmem]
    · have hbit := absentMarked_mem v hp hmem
      rw [hzero, Nat.zero_testBit] at hbit
      exact Bool.noConfusion hbit
  · rw [answerTimeout_some ht]
    refine ⟨fun hearly => if_neg (by omega), fun hdue n hn => ?_⟩
    rw [if_pos hdue, ← hn]
    exact ⟨_, rfl, rfl, callOff_shows _⟩

end Sys2Proof.Proofs.Procession

/-! Proofs of the statements of chapter 16 (Jubilee updates): verification and activation. -/

namespace Sys2Proof.Proofs.Activation

open Sys2Proof Sys2Proof.Machine Sys2Proof.Proofs.Update

/-! ### VERIFY (R361) -/

theorem exec_updVerify (dt : Nat) (s : State) : exec (.updVerify dt) s = .next (s.start dt).doVerify := by
  rfl

theorem verifyFor_setUpd (s : State) (st : Nat) : (s.setUpd st).verifyFor = s.verifyFor := by
  rw [State.setUpd, State.wr, State.put_verifyFor]

/-- A verification begun. -/
def verifying (s : State) : State := State.setUpd { s with verifyFor := some s.now } 3

theorem doVerify_begins {s : State} (h : s.updState = 2 ∨ s.updState = 5) : s.doVerify = verifying s :=
  if_pos h

theorem doVerify_refused {s : State} (h2 : s.updState ≠ 2) (h5 : s.updState ≠ 5) : s.doVerify = s.updError 0x10 :=
  if_neg (fun h => h.elim h2 h5)

theorem verifying_shows (s : State) : (verifying s).updState = 3 ∧ (verifying s).verifyFor = some s.now
    ∧ OnlyRegs [Reg.updStatus] { s with verifyFor := (verifying s).verifyFor } (verifying s) := by
  have hfor : (verifying s).verifyFor = some s.now := verifyFor_setUpd _ 3
  refine ⟨updState_setUpd _ 3, hfor, ?_⟩
  rw [hfor]
  exact (OnlyRegs.refl _ { s with verifyFor := some s.now }).wr (by simp) 3 0 3

theorem exec_updVerifyComplete (dt : Nat) (s : State) : exec (.updVerifyComplete dt) s
    = if (s.start dt).verifyFor.isNone then .next (s.start dt)
      else if (s.start dt).verifyOutcome.2.vote.isSome then
        .next ((s.start dt).verifyOutcome.2.castVote (s.start dt).ringPos (s.start dt).verifyOutcome.1)
      else .next (((s.start dt).verifyOutcome.2.setUpd (if (s.start dt).verifyOutcome.1 then 4 else 5)).updEvent 0) := by
  rfl

/-- A package that passes: its bank is valid, with the manifest's version and floor. -/
def passed (u : State) : State :=
  (u.setFlags u.stageBank true false (u.flashLe u.stageBank 0xC 4) (u.flashLe u.stageBank 0x28 4)).updError 0

theorem verifyOutcome_pass {s : State} (h : ({ s with verifyFor := none } : State).badPackage = none) :
    s.verifyOutcome = (true, passed { s with verifyFor := none }) := by
  unfold State.verifyOutcome
  dsimp only
  rw [h]
  rfl

/-- A package that fails its check `code` at `off`. -/
def failed (u : State) (code off : Nat) : State := ((u.updError code).put Reg.updErrOffset (BitVec.ofNat 32 off)).fault 31 allBanks

theorem verifyOutcome_fail {s : State} {code off : Nat}
    (h : ({ s with verifyFor := none } : State).badPackage = some (code, off)) :
    s.verifyOutcome = (false, failed { s with verifyFor := none } code off) := by
  unfold State.verifyOutcome
  dsimp only
  rw [h]
  rfl

theorem verifyOutcome_fst (s : State) : s.verifyOutcome.1 = ({ s with verifyFor := none } : State).badPackage.isNone := by
  cases h : ({ s with verifyFor := none } : State).badPackage with
  | none => rw [verifyOutcome_pass h]; rfl
  | some x => rw [verifyOutcome_fail h]; rfl

theorem faultBlind_vote : Frame.FaultBlind (fun s : State => s.vote) :=
  ⟨⟨fun _ _ _ => State.put_vote _ _ _, fun _ _ => rfl⟩, fun _ _ _ => rfl, fun _ _ _ => rfl, fun _ _ _ _ => rfl⟩

theorem vote_verifyOutcome (s : State) : s.verifyOutcome.2.vote = s.vote := by
  cases h : ({ s with verifyFor := none } : State).badPackage with
  | none =>
    rw [verifyOutcome_pass h, passed, State.updError, State.wr, State.put_vote]
    rfl
  | some x =>
    rw [verifyOutcome_fail h]
    refine (Frame.fault_keep faultBlind_vote _ _ (by decide)).trans ?_
    rw [State.put_vote, State.updError, State.wr, State.put_vote]

/-- What a package that passes shows: VERIFIED, and a valid bank. -/
theorem passed_shows (u : State) : (((passed u).setUpd 4).updEvent 0).updState = 4
    ∧ (((passed u).setUpd 4).updEvent 0).rd Reg.updStatus 23 16 = 0
    ∧ (((passed u).setUpd 4).updEvent 0).bit Reg.updIrq 16 = true
    ∧ ((((passed u).setUpd 4).updEvent 0).img u.stageBank).valid = true := by
  have himg : (((passed u).setUpd 4).updEvent 0).img u.stageBank = (passed u).img u.stageBank :=
    (Procession.updEvent_keep (p := fun s => s.img u.stageBank) ⟨fun s o w => img_put s o w _, fun _ _ => rfl⟩ _ 0).trans
      (img_put _ _ _ _)
  refine ⟨?_, ?_, Keys.bit_updEvent _ (k := 0) (by decide), ?_⟩
  · rw [State.updState, Procession.updStatus_updEvent]
    exact updState_setUpd _ 4
  · rw [Procession.updStatus_updEvent, rd_setUpd_apart _ _ (by decide)]
    exact rd_updError_error _ 0
  · rw [himg, passed, State.updError, State.wr, img_put, State.setFlags, State.img_setImg_self]

/-! ### ACTIVATE and CANCEL (R362) -/

theorem exec_updActivate (dt : Nat) (s : State) : exec (.updActivate dt) s = .next (s.start dt).doActivate := by
  rfl

theorem doActivate_refused {s : State} (h : s.activateCode ≠ 0) : s.doActivate = s.updError s.activateCode :=
  if_pos h

theorem doActivate_rom {s : State} (h : s.activateCode = 0) (hr : s.recovery = true) : s.doActivate = s.romActivate := by
  rw [State.doActivate, if_neg (not_not_intro h), if_pos hr]

/-- The instant of an activation told to the procession, before ACTIVATE. -/
def instantSent (s : State) : State :=
  (((s.updError 0).broadcast (Reg.updActAt + 8) (s.actInstant / 2 ^ 64) .write s.others).broadcast (Reg.updActAt + 4)
    (s.actInstant / 2 ^ 32) .write s.others).broadcast Reg.updActAt s.actInstant .write s.others

/-- An ACTIVATE told to the procession, whose answers are awaited. -/
def activateSent (s : State) : State :=
  State.setUpd { (instantSent s).broadcast Reg.updCtl 8 .activate s.others with actWait := some s.now } 6

theorem doActivate_procession {s : State} (h : s.activateCode = 0) (hr : s.recovery = false) (hp : s.procession = true) :
    s.doActivate = (activateSent s).askActivation ⟨s.actInstant, false, false⟩ := by
  rw [State.doActivate, if_neg (not_not_intro h), if_neg (ne_true_of_eq_false hr)]
  exact if_pos hp

theorem doActivate_alone {s : State} (h : s.activateCode = 0) (hr : s.recovery = false) (hp : s.procession = false) :
    s.doActivate = if s.actInstant = 0 then (s.updError 0).askActivation ⟨s.actInstant, false, false⟩
      else ((s.updError 0).setUpd 6).askActivation ⟨s.actInstant, false, false⟩ := by
  rw [State.doActivate, if_neg (not_not_intro h), if_neg (ne_true_of_eq_false hr)]
  exact if_neg (ne_true_of_eq_false hp)

theorem mem_instantSent (s : State) : ((instantSent s).broadcast Reg.updCtl 8 .activate s.others).mem = (s.updError 0).mem := by
  have h : Procession.headView ((instantSent s).broadcast Reg.updCtl 8 .activate s.others) = Procession.headView (s.updError 0) := by
    rw [instantSent]
    simp only [Procession.headView_broadcast]
  obtain ⟨hmem, -⟩ := Procession.headView_parts h
  exact hmem

theorem activateSent_shows (s : State) : (activateSent s).updState = 6 ∧ (activateSent s).actWait = some s.now
    ∧ (activateSent s).rd Reg.updStatus 23 16 = 0 := by
  refine ⟨updState_setUpd _ 6, ?_, ?_⟩
  · rw [activateSent, State.setUpd, State.wr, State.put_actWait]
  · rw [activateSent, rd_setUpd_apart _ _ (by decide)]
    exact (Procession.rd_of_mem (mem_instantSent s) _ _ _).trans (rd_updError_error s 0)

/-- A scheduled activation of an awake device. -/
def scheduled (s : State) (a : Act) : State := { (s.updError 0).setUpd 6 with actReq := some a }

theorem power_status (s : State) : ((s.updError 0).setUpd 6).power = s.power := by
  rw [State.power, State.setUpd, State.rd_wr_ne _ _ _ _ _ _ (by decide), State.updError, State.rd_wr_ne _ _ _ _ _ _ (by decide),
    ← State.power]

theorem move_status (s : State) : ((s.updError 0).setUpd 6).move = s.move := by
  rw [State.setUpd, State.wr, State.put_move, State.updError, State.wr, State.put_move]

theorem askActivation_awake {s : State} {a : Act} (hat : a.at_ ≠ 0) (hp : s.power ≤ 1) (hm : s.move = .steady) :
    s.askActivation a = { s with actReq := some a } := by
  have hawake : ¬ (2 ≤ s.power ∨ (s.move != .steady) = true) := by
    rw [hm]
    rintro (h | h)
    · omega
    · exact absurd h (by decide)
  unfold State.askActivation
  simp only [if_neg hawake]
  exact if_neg (fun h => hat h.1)

/-- An activation asked for. -/
def withReq (a : Act) (s : State) : State := { s with actReq := some a }

theorem onlyRegs_withReq (a : Act) {os : List Nat} {s t : State} (h : OnlyRegs os s t) : OnlyRegs os (withReq a s) (withReq a t) :=
  Frame.onlyRegs_map (f := withReq a) (fun _ _ => rfl) (fun _ => rfl) h

theorem scheduled_shows (s : State) (a : Act) : (scheduled s a).updState = 6 ∧ (scheduled s a).actReq = some a
    ∧ OnlyRegs [Reg.updStatus] { s with actReq := (scheduled s a).actReq } (scheduled s a) := by
  have hmem : (scheduled s a).mem = ((s.updError 0).setUpd 6).mem := by rw [scheduled]
  have hreq : (scheduled s a).actReq = some a := by rw [scheduled]
  refine ⟨(Procession.rd_of_mem hmem _ _ _).trans (updState_setUpd _ 6), hreq, ?_⟩
  rw [hreq]
  exact onlyRegs_withReq a (((OnlyRegs.refl _ s).wr (by simp) 23 16 0).wr (by simp) 3 0 6)

theorem exec_updCancel (dt : Nat) (s : State) : exec (.updCancel dt) s = .next (s.start dt).doCancelActivation := by
  rfl

/-- A schedule taken back. -/
def takenBack (s : State) : State := (State.setUpd { s with actReq := none, actWait := none } 4).updError 0

theorem doCancelActivation_scheduled {s : State} (h : s.updState = 6) : s.doCancelActivation = takenBack s :=
  if_pos h

theorem takenBack_shows (s : State) : (takenBack s).updState = 4 ∧ (takenBack s).actReq = none
    ∧ (takenBack s).rd Reg.updStatus 23 16 = 0 := by
  refine ⟨(updState_updError _ _).trans (updState_setUpd _ 4), ?_, rd_updError_error _ 0⟩
  rw [takenBack, State.updError, State.wr, State.put_actReq, State.setUpd, State.wr, State.put_actReq]

/-! ### The activation (R363) -/

theorem exec_activationStart (dt : Nat) (s : State) : exec (.activationStart dt) s = execActivationStart dt s := by
  rfl

theorem activationStart_none {dt : Nat} {s : State} (h : (s.start dt).actReq = none) :
    exec (.activationStart dt) s = .next (s.start dt) := by
  rw [exec_activationStart]
  unfold execActivationStart
  dsimp only
  rw [h]

theorem activationStart_some {dt : Nat} {s : State} {a : Act} (h : (s.start dt).actReq = some a) :
    exec (.activationStart dt) s = if !a.started && (s.start dt).activationClear && decide (a.at_ ≤ (s.start dt).ep)
        && !(s.start dt).inReset then .next ((s.start dt).startActivation a) else .next (s.start dt) := by
  rw [exec_activationStart]
  unfold execActivationStart
  dsimp only
  rw [h]

theorem captureBlind_updStatus : Frame.CaptureBlind (fun s => s.get Reg.updStatus) :=
  ⟨fun s o w h => State.get_put_ne s w (show Reg.updStatus ≠ o from by
      unfold Frame.CaptureWord at h
      unfold Reg.updStatus
      omega),
    fun _ _ => rfl, fun _ _ _ => rfl, fun _ _ _ => rfl, fun _ _ _ => rfl, fun _ _ _ => rfl, fun _ _ => rfl⟩

theorem updStatus_pauseAll (s : State) (gs : List Nat) (cause hi lo : Nat) :
    (s.pauseAll gs cause).rd Reg.updStatus hi lo = s.rd Reg.updStatus hi lo := by
  have h : (s.pauseAll gs cause).get Reg.updStatus = s.get Reg.updStatus :=
    Frame.forAll_keep (p := fun s => s.get Reg.updStatus) (fun s g => Frame.beginCause_keep captureBlind_updStatus s g cause) _ s
  rw [State.rd, h, ← State.rd]

/-- Step 1 of an activation: ACTIVATING. -/
def activating (s : State) (a : Act) : State :=
  State.setUpd { s with actReq := some { a with started := true }, actWait := none, confirmFrom := none } 7

/-- Capture and Harvest paused and the commit word naming the bank. -/
def committed (s : State) (b : Nat) : State := ((s.pauseAll s.enabledGroups 4).commitWord b).wr Reg.updStatus 11 10 0

theorem startActivation_eq (s : State) (a : Act) : s.startActivation a
    = if a.back then ((((committed (activating s a) (1 - s.activeBank)).invalidate s.activeBank).setBit Reg.updStatus 13 true).updEvent 1)
      else { committed (activating s a) s.stageBank with pkgLen := 0 } := by
  unfold State.startActivation
  split
  · rfl
  · rfl

theorem committed_shows (s : State) (b : Nat) : (committed s b).updState = s.updState
    ∧ (committed s b).rd Reg.updStatus 11 10 = 0 ∧ (committed s b).rd Reg.updStatus 9 9 = b % 2 := by
  refine ⟨?_, State.rd_wr_self _ (by decide) (by decide), ?_⟩
  · rw [State.updState, committed, State.rd_wr_apart _ (by decide) (by decide) (by decide), State.commitWord,
      State.rd_wr_apart _ (by decide) (by decide) (by decide), updStatus_pauseAll, ← State.updState]
  · rw [committed, State.rd_wr_apart _ (by decide) (by decide) (by decide), State.commitWord]
    exact State.rd_wr_self _ (by decide) (by decide)

theorem updStatus_invalidate (s : State) (b hi lo : Nat) : (s.invalidate b).rd Reg.updStatus hi lo = s.rd Reg.updStatus hi lo := by
  rfl

theorem rolledBack_shows (s : State) (b hi lo : Nat) (h : hi < 13) :
    (((s.invalidate b).setBit Reg.updStatus 13 true).updEvent 1).rd Reg.updStatus hi lo = s.rd Reg.updStatus hi lo := by
  rw [Procession.updStatus_updEvent, State.setBit, State.rd_wr_apart _ (by decide) (by decide) (.inl h), updStatus_invalidate]

theorem activeBank_lt (s : State) : s.activeBank < 2 := bitsOf_lt _ 9 9

theorem startActivation_shows (s : State) (a : Act) : (s.startActivation a).updState = 7
    ∧ (s.startActivation a).rd Reg.updStatus 11 10 = 0
    ∧ (s.startActivation a).rd Reg.updStatus 9 9 = (if a.back then 1 - s.activeBank else s.stageBank % 2) := by
  have hstate : (activating s a).updState = 7 := updState_setUpd _ 7
  have hlt := activeBank_lt s
  rw [startActivation_eq]
  split
  · obtain ⟨hst, htries, hbank⟩ := committed_shows (activating s a) (1 - s.activeBank)
    rw [State.updState, rolledBack_shows _ _ _ _ (by decide), rolledBack_shows _ _ _ _ (by decide),
      rolledBack_shows _ _ _ _ (by decide), ← State.updState]
    exact ⟨hst.trans hstate, htries, hbank.trans (Nat.mod_eq_of_lt (by omega))⟩
  · obtain ⟨hst, htries, hbank⟩ := committed_shows (activating s a) s.stageBank
    exact ⟨hst.trans hstate, htries, hbank⟩

/-! ### Capture resumes, and the confirmation window (R363 to R365) -/

theorem exec_activationResume (dt : Nat) (s : State) : exec (.activationResume dt) s = execActivationResume dt s := by
  rfl

/-- The activation over: the bank runs unconfirmed, or is the one that was left. -/
def resumed (s : State) (a : Act) : State :=
  State.setUpd { s with
    actReq := none, confirmFrom := if a.back then none else some s.now,
    streams := s.streams.map (fun (x : Nat × Stream) => (x.1, { x.2 with advAt := s.now })) } (if a.back then 0 else 8)

theorem activationResume_none {dt : Nat} {s : State} (h : (s.start dt).actReq = none) :
    exec (.activationResume dt) s = .next (s.start dt) := by
  rw [exec_activationResume]
  unfold execActivationResume
  dsimp only
  rw [h]

theorem activationResume_some {dt : Nat} {s : State} {a : Act} (h : (s.start dt).actReq = some a) :
    exec (.activationResume dt) s = if (s.start dt).updState = 7 ∧ (s.start dt).pfAt.isNone then
      .next ((((resumed (s.start dt) a).updEvent 0).endAllPauses).serveHeld) else .next (s.start dt) := by
  rw [exec_activationResume]
  unfold execActivationResume
  dsimp only
  rw [h]
  rfl

theorem resumed_shows (s : State) (a : Act) : (resumed s a).actReq = none
    ∧ (resumed s a).updState = (if a.back then 0 else 8) ∧ (resumed s a).confirmFrom = (if a.back then none else some s.now) := by
  refine ⟨?_, (updState_setUpd _ _).trans ?_, ?_⟩
  · rw [resumed, State.setUpd, State.wr, State.put_actReq]
  · split
    · rfl
    · rfl
  · rw [resumed, State.setUpd, State.wr, State.put_confirmFrom]

theorem exec_confirmWindowExpiry (dt : Nat) (s : State) :
    exec (.confirmWindowExpiry dt) s = execConfirmWindowExpiry dt s := by
  rfl

theorem confirmWindow_none {dt : Nat} {s : State} (h : (s.start dt).confirmFrom = none) :
    exec (.confirmWindowExpiry dt) s = .next (s.start dt) := by
  rw [exec_confirmWindowExpiry]
  unfold execConfirmWindowExpiry
  dsimp only
  rw [h]

theorem confirmWindow_some {dt t : Nat} {s : State} (h : (s.start dt).confirmFrom = some t) :
    exec (.confirmWindowExpiry dt) s = if (s.start dt).updState = 8 ∧ (s.start dt).actReq.isNone
        ∧ t + (s.start dt).confirmWindow ≤ (s.start dt).now then .next ((s.start dt).askActivation ⟨0, true, false⟩)
      else .next (s.start dt) := by
  rw [exec_confirmWindowExpiry]
  unfold execConfirmWindowExpiry
  dsimp only
  rw [h]

theorem confirmWindow_idle {dt : Nat} {s : State} (h : (s.start dt).confirmFrom = none ∨ (s.start dt).updState ≠ 8
    ∨ (s.start dt).actReq ≠ none) : exec (.confirmWindowExpiry dt) s = .next (s.start dt) := by
  cases hfrom : (s.start dt).confirmFrom with
  | none => exact confirmWindow_none hfrom
  | some t =>
    rw [confirmWindow_some hfrom, if_neg]
    rintro ⟨hst, hreq, -⟩
    rcases h with h | h | h
    · exact absurd (h.symm.trans hfrom) nofun
    · exact h hst
    · exact h (Option.isNone_iff_eq_none.mp hreq)

/-- Settles O53, by the state of the update, the activation asked for and the windows that run. -/
theorem updateActivation : Obligations.UpdateActivation := by
  rintro dt s v rfl
  rw [exec_updVerify, exec_updVerifyComplete, exec_updActivate, exec_updCancel]
  refine ⟨fun h => ?_, fun h2 h5 => ?_, fun h => if_pos (by rw [h]; rfl), fun u hfor hu => ?_, fun h => ?_, fun h hrom => ?_,
    fun h hrom => ⟨fun hproc => ?_, fun hproc => ⟨fun hnow => ?_, fun hat => ⟨?_, fun hpower hmove => ?_⟩⟩⟩, fun h => ?_, fun h => ?_,
    fun h => ⟨activationStart_none h, activationResume_none h⟩, fun a ha => ?_, fun a ha => ⟨fun h => ?_, fun hst hpf => ?_⟩,
    confirmWindow_idle, fun t0 ht => ⟨fun hearly => ?_, fun hst hreq hdue => ?_⟩⟩
  · rw [doVerify_begins h]
    exact ⟨_, rfl, verifying_shows _⟩
  · rw [doVerify_refused h2 h5]
    exact ⟨_, rfl, (OnlyRegs.refl _ _).wr (by simp) 23 16 _, rd_updError_error _ _⟩
  · have hrun : ¬ (s.start dt).verifyFor.isNone = true := by
      intro hnone
      rw [Option.isNone_iff_eq_none.mp hnone] at hfor
      exact Bool.noConfusion hfor
    rw [if_neg hrun, vote_verifyOutcome]
    generalize s.start dt = v at *
    subst hu
    refine ⟨fun hvote => ?_, fun hvote => ?_⟩
    · rw [if_neg (by rw [hvote]; exact Bool.noConfusion)]
      refine ⟨_, rfl, fun hpass => ?_, fun code off hfail => ?_⟩
      · rw [verifyOutcome_pass hpass]
        exact passed_shows { v with verifyFor := none }
      · rw [verifyOutcome_fail hfail]
        rfl
    · rw [if_pos hvote, verifyOutcome_fst]
  · rw [doActivate_refused h]
    exact ⟨_, rfl, (OnlyRegs.refl _ _).wr (by simp) 23 16 _, rd_updError_error _ _⟩
  · rw [doActivate_rom h hrom]
  · rw [doActivate_procession h hrom hproc]
    exact ⟨_, rfl, activateSent_shows _⟩
  · rw [doActivate_alone h hrom hproc, if_pos hnow, hnow]
  · rw [doActivate_alone h hrom hproc, if_neg hat]
  · rw [doActivate_alone h hrom hproc, if_neg hat,
      askActivation_awake hat (by rw [power_status]; exact hpower) (by rw [move_status]; exact hmove)]
    exact ⟨_, rfl, scheduled_shows _ _⟩
  · rw [doCancelActivation_scheduled h]
    exact ⟨_, rfl, takenBack_shows _⟩
  · rw [State.doCancelActivation, if_neg h]
    exact ⟨_, rfl, (OnlyRegs.refl _ _).wr (by simp) 23 16 _, rd_updError_error _ _⟩
  · rw [activationStart_some ha]
    refine ⟨fun h => if_neg ?_, fun hnew hclear hat hreset => ?_⟩
    · simp only [Bool.and_eq_true, Bool.not_eq_true', decide_eq_true_eq]
      rintro ⟨⟨⟨hnew, hclear⟩, hat⟩, hreset⟩
      rcases h with h | h | h | h
      · exact absurd (h.symm.trans hnew) Bool.noConfusion
      · exact absurd (h.symm.trans hclear) Bool.noConfusion
      · omega
      · exact absurd (h.symm.trans hreset) Bool.noConfusion
    · rw [if_pos (by rw [hnew, hclear, decide_eq_true hat, hreset]; rfl)]
      exact ⟨_, rfl, startActivation_shows _ _⟩
  · rw [activationResume_some ha, if_neg]
    rintro ⟨hst, hpf⟩
    rcases h with h | h
    · exact h hst
    · rw [Option.isNone_iff_eq_none.mp hpf] at h
      exact Bool.noConfusion h
  · rw [activationResume_some ha, if_pos ⟨hst, by rw [hpf]; rfl⟩]
    exact ⟨_, rfl, resumed_shows _ a⟩
  · rw [confirmWindow_some ht, if_neg]
    rintro ⟨-, -, hdue⟩
    omega
  · rw [confirmWindow_some ht, if_pos ⟨hst, by rw [hreq]; rfl, hdue⟩]

end Sys2Proof.Proofs.Activation

/-! Proofs of the statements of chapter 15 (faults): events, windows, grace, adoption and the status clear. -/

namespace Sys2Proof.Proofs.Faults

open Sys2Proof Sys2Proof.Machine

/-! ### Register pairs of the fault block -/

theorem rdq_eq {s t : State} {o n : Nat} (h : ∀ p, o ≤ p → p < o + 4 * n → t.get p = s.get p) : t.rdq o n = s.rdq o n :=
  State.rdq_congr n o (fun k hk => h _ (by omega) (by omega))

theorem testBit_orFlt (s : State) (o m : Nat) {i : Nat} (h : i < 64) :
    ((s.orFlt o m).rdq o 2).testBit i = ((s.rdq o 2).testBit i || m.testBit i) := by
  rw [State.orFlt, State.rdq_wrq, Nat.testBit_mod_two_pow, decide_eq_true h, Bool.true_and, Nat.testBit_or]

theorem rdq_lt (s : State) (o : Nat) : s.rdq o 2 < 2 ^ 64 := by
  have h0 := (s.get o).isLt
  have h4 := (s.get (o + 4)).isLt
  rw [State.rdq, State.rdq, State.rdq]
  omega

theorem rdq_orFlt (s : State) (o : Nat) {m : Nat} (h : m < 2 ^ 64) : (s.orFlt o m).rdq o 2 = s.rdq o 2 ||| m := by
  rw [State.orFlt, State.rdq_wrq]
  exact Nat.mod_eq_of_lt (Nat.or_lt_two_pow (rdq_lt s o) h)

theorem get_orFlt {o p : Nat} (h : p < o ∨ o + 8 ≤ p) (s : State) (m : Nat) : (s.orFlt o m).get p = s.get p :=
  State.get_wrq_ne 2 o _ s h

/-! ### An event that does not become severe (R341 to R343) -/

theorem exec_faultEvent (dt : Nat) (n : Fin 36) (banks : Nat) (s : State) : exec (.faultEvent dt n banks) s
    = .next (((s.start dt).countReadback n banks).fault n (eventBanks n banks)) := by
  rfl

/-- The event named first where the status was clear. -/
def firstNamed (s : State) (n : Nat) : State := if s.fltStatus = 0 || s.firstLower n then s.nameFirst n else s

/-- The status bit set. -/
def raised (s : State) (n : Nat) : State := (firstNamed s n).orFlt Reg.fltStatus (2 ^ n)

/-- The message of a new status bit that is not masked. -/
def told (s : State) (n : Nat) : State :=
  if !s.fltStatus.testBit n && !(raised s n).fltMask.testBit n then (raised s n).signal 0 else raised s n

theorem fault_eq (s : State) (n banks : Nat) : s.fault n banks = (told s n).countEvent n banks := by
  rfl

theorem get_signal_low {p : Nat} (h : p < 0x90000) (s : State) (k : Nat) : (s.signal k).get p = s.get p := by
  rw [State.signal]
  split
  · rfl
  · split
    · exact State.get_setBit_ne _ _ _ (show p ≠ 0x98000 + 4 * (k / 32) by omega)
    · split
      · rfl
      · rfl

theorem get_told_raised {p : Nat} (h : p < 0x90000) (s : State) (n : Nat) : (told s n).get p = (raised s n).get p := by
  rw [told]
  split
  · exact get_signal_low h _ 0
  · rfl

theorem get_nameFirst {p : Nat} (h : p < 0x20030 ∨ 0x20040 ≤ p) (s : State) (n : Nat) : (s.nameFirst n).get p = s.get p := by
  have hne : p ≠ Reg.fltFirst := by
    unfold Reg.fltFirst
    omega
  have hat : p < Reg.fltFirstAt ∨ Reg.fltFirstAt + 4 * 3 ≤ p := by
    unfold Reg.fltFirstAt
    omega
  rw [State.nameFirst, State.wrEpoch, State.get_wrq_ne _ _ _ _ hat, State.get_put_ne _ _ hne]

theorem get_firstNamed {p : Nat} (h : p < 0x20030 ∨ 0x20040 ≤ p) (s : State) (n : Nat) : (firstNamed s n).get p = s.get p := by
  rw [firstNamed]
  split
  · exact get_nameFirst h s n
  · rfl

/-- Words apart from the status and from the first event. -/
theorem get_told {p : Nat} (h : p < 0x90000) (hst : p < 0x20000 ∨ 0x20008 ≤ p) (hfirst : p < 0x20030 ∨ 0x20040 ≤ p) (s : State)
    (n : Nat) : (told s n).get p = s.get p := by
  rw [get_told_raised h, raised, get_orFlt (o := Reg.fltStatus) hst, get_firstNamed hfirst]

theorem fltStatus_told (s : State) (n : Fin 36) : (told s n).fltStatus = s.fltStatus ||| 2 ^ n.val := by
  have hword : (told s n).fltStatus = (raised s n).fltStatus := rdq_eq (fun p _ hlt => get_told_raised (by
    unfold Reg.fltStatus at hlt
    omega) s n)
  have hname : (firstNamed s n).fltStatus = s.fltStatus := rdq_eq (fun p _ hlt => get_firstNamed (by
    unfold Reg.fltStatus at hlt
    omega) s n)
  have hbit : 2 ^ n.val < 2 ^ 64 := Nat.pow_lt_pow_right (by decide) (by omega)
  rw [hword, raised, State.fltStatus, rdq_orFlt _ _ hbit, ← State.fltStatus, hname]

theorem fltSevere_told (s : State) (n : Nat) : (told s n).fltSevere = s.fltSevere :=
  rdq_eq (fun p hle hlt => by
    unfold Reg.fltSevere at hle hlt
    exact get_told (by omega) (by omega) (by omega) s n)

theorem fltFirst_told_raised (s : State) (n : Nat) : (told s n).get Reg.fltFirst = (firstNamed s n).get Reg.fltFirst := by
  rw [get_told_raised (by decide), raised, get_orFlt (by decide)]

theorem fltFirst_named (s : State) (n : Fin 36) (h : s.fltStatus = 0) : (told s n).rd Reg.fltFirst 6 0 = 64 + n.val := by
  have hn := n.isLt
  rw [State.rd, fltFirst_told_raised, firstNamed, if_pos (by rw [h]; rfl), State.nameFirst, State.wrEpoch,
    State.get_wrq_ne _ _ _ _ (by decide), State.get_put_self]
  rw [fld, bitsOf, BitVec.toNat_ofNat, Nat.shiftRight_zero,
    Nat.mod_eq_of_lt (show 64 + n.val < 2 ^ 32 by omega)]
  exact Nat.mod_eq_of_lt (show 64 + n.val < 128 by omega)

theorem fltFirst_kept (s : State) (n : Nat) (h : s.fltStatus ≠ 0) (hl : s.firstLower n = false) :
    (told s n).get Reg.fltFirst = s.get Reg.fltFirst := by
  rw [fltFirst_told_raised, firstNamed, if_neg]
  rw [hl, Bool.or_false, decide_eq_true_eq]
  exact h

/-- What counting an event reads apart from words. -/
def eventView (s : State) : Tbl Nat × Nat := (s.fltWin, s.now)

theorem blind_eventView : Frame.Blind eventView := ⟨fun _ _ _ => rfl, fun _ _ => rfl⟩

theorem eventView_told (s : State) (n : Nat) : eventView (told s n) = eventView s := by
  have hnamed : eventView (firstNamed s n) = eventView s := Frame.ite_keep
    ((Frame.wrEpoch_keep blind_eventView _ _ _).trans (blind_eventView.put _ _ _)) rfl
  have hraised : eventView (raised s n) = eventView s := (Frame.orFlt_keep blind_eventView _ _ _).trans hnamed
  exact Frame.ite_keep ((Frame.signal_keep blind_eventView _ 0).trans hraised) hraised

/-- The event counted in TOTAL. -/
def totalled (s : State) (n : Nat) : State := s.countFld (Reg.fltSrcCount n) 31 8 1

/-- The count toward severity, anew once its window has ended. -/
def countSoFar (s : State) (n : Nat) : Nat := if tget s.fltWin 0 n ≤ s.now then 0 else s.rd (Reg.fltSrcCount n) 7 0

/-- The window opened by a first event, and the banks of the source. -/
def windowed (s : State) (n banks : Nat) : State :=
  if countSoFar s n = 0 then { s with
    fltWin := tset s.fltWin 0 n (s.now + s.srcW n), fltBanks := tset s.fltBanks 0 n banks }
  else { s with fltBanks := tset s.fltBanks 0 n (tget s.fltBanks 0 n ||| banks) }

/-- The event counted toward severity. -/
def eventCounted (s : State) (n banks : Nat) : State := (windowed s n banks).wr (Reg.fltSrcCount n) 7 0 (countSoFar s n + 1)

/-- An event counted toward severity, once it stands in TOTAL. -/
def countOn (s : State) (n banks : Nat) : State :=
  if s.fltSevere.testBit n then s
  else if (eventCounted s n banks).srcN n ≤ countSoFar s n + 1 then (eventCounted s n banks).severe n
  else eventCounted s n banks

theorem countEvent_countOn (s : State) (n banks : Nat) : s.countEvent n banks
    = countOn (s.countFld (Reg.fltSrcCount n) 31 8 1) n banks := by
  unfold State.countEvent countOn eventCounted windowed countSoFar
  rfl

theorem countEvent_eq (s : State) (n banks : Nat) : s.countEvent n banks = countOn (totalled s n) n banks :=
  countEvent_countOn s n banks

theorem get_windowed (s : State) (n banks p : Nat) : (windowed s n banks).get p = s.get p := by
  have hmem : (windowed s n banks).mem = s.mem := by
    rw [windowed]
    split
    · rfl
    · rfl
  rw [State.get, hmem, ← State.get]

theorem get_eventCounted {n p : Nat} (h : p ≠ Reg.fltSrcCount n) (s : State) (banks : Nat) :
    (eventCounted (totalled s n) n banks).get p = s.get p := by
  rw [eventCounted, State.wr, State.get_put_ne _ _ h, get_windowed, totalled, State.countFld, State.wr, State.get_put_ne _ _ h]

theorem countSoFar_totalled (s : State) (n : Nat) : countSoFar (totalled s n) n = countSoFar s n := by
  rw [countSoFar, totalled, Words.rd_countFld_apart _ _ (by decide) (by decide) (by decide), State.countFld, State.wr,
    State.put_fltWin, State.put_now, ← countSoFar]

theorem rd_windowed (s : State) (n banks p hi lo : Nat) : (windowed s n banks).rd p hi lo = s.rd p hi lo := by
  rw [State.rd, get_windowed, ← State.rd]

theorem total_eventCounted (s : State) (n banks : Nat) : (eventCounted (totalled s n) n banks).rd (Reg.fltSrcCount n) 31 8
    = min (2 ^ 24 - 1) (s.rd (Reg.fltSrcCount n) 31 8 + 1) := by
  rw [eventCounted, State.rd_wr_apart _ (by decide) (by decide) (by decide), rd_windowed, totalled,
    Words.rd_countFld_self _ _ (by decide) (by decide)]

theorem count_eventCounted (s : State) (n banks : Nat) (h : countSoFar s n + 1 < 256) :
    (eventCounted (totalled s n) n banks).rd (Reg.fltSrcCount n) 7 0 = countSoFar s n + 1 := by
  rw [eventCounted, State.rd_wr_self _ (by decide) (by decide), countSoFar_totalled]
  exact Nat.mod_eq_of_lt h

theorem fltSevere_ne_fltSrcCount {p n : Nat} (h : p < 0x20010) : p ≠ Reg.fltSrcCount n := by
  unfold Reg.fltSrcCount
  omega

theorem srcN_eventCounted (s : State) (n : Fin 36) (banks : Nat) : (eventCounted (totalled s n) n banks).srcN n = s.srcN n := by
  have hn := n.isLt
  have hne : Reg.fltSrcCfg n ≠ Reg.fltSrcCount n := by
    unfold Reg.fltSrcCfg Reg.fltSrcCount
    omega
  rw [State.srcN, State.rd, get_eventCounted hne, ← State.rd, ← State.srcN]

theorem countEvent_below {s : State} {n : Fin 36} (banks : Nat) (hsev : s.fltSevere.testBit n = false)
    (h : countSoFar s n + 1 < s.srcN n) : s.countEvent n banks = eventCounted (totalled s n) n banks := by
  have hsame : (totalled s n).fltSevere = s.fltSevere := rdq_eq (fun p _ hlt => State.get_put_ne _ _
    (fltSevere_ne_fltSrcCount (by unfold Reg.fltSevere at hlt; omega)))
  rw [countEvent_eq, countOn, hsame, if_neg (ne_true_of_eq_false hsev), srcN_eventCounted, countSoFar_totalled, if_neg (by omega)]

/-- A word below the counts and the settings of the sources. -/
theorem get_countEvent_below {s : State} {n : Fin 36} (banks : Nat) (hsev : s.fltSevere.testBit n = false)
    (h : countSoFar s n + 1 < s.srcN n) {p : Nat} (hp : p < 0x20200) : (s.countEvent n banks).get p = s.get p := by
  have hne : p ≠ Reg.fltSrcCount n := by
    unfold Reg.fltSrcCount
    omega
  rw [countEvent_below banks hsev h, get_eventCounted hne]

theorem rd_told (s : State) (n : Fin 36) (i hi lo : Nat) (hi36 : i < 0x100) :
    (told s n).rd (0x20100 + 4 * i) hi lo = s.rd (0x20100 + 4 * i) hi lo := by
  rw [State.rd, get_told (by omega) (by omega) (by omega), ← State.rd]

theorem fltSrcCount_eq (n : Fin 36) : Reg.fltSrcCount n = 0x20100 + 4 * (64 + n.val) := by
  unfold Reg.fltSrcCount
  omega

theorem count_told (s : State) (n : Fin 36) (hi lo : Nat) :
    (told s n).rd (Reg.fltSrcCount n) hi lo = s.rd (Reg.fltSrcCount n) hi lo := by
  rw [fltSrcCount_eq, rd_told s n _ hi lo (by omega)]

theorem srcN_told (s : State) (n : Fin 36) : (told s n).srcN n = s.srcN n := by
  have hrd : (told s n).rd (Reg.fltSrcCfg n) 7 0 = s.rd (Reg.fltSrcCfg n) 7 0 := rd_told s n n 7 0 (by omega)
  rw [State.srcN, hrd, ← State.srcN]

theorem countSoFar_told (s : State) (n : Fin 36) : countSoFar (told s n) n = countSoFar s n := by
  have hview := eventView_told s n
  rw [eventView, eventView, Prod.mk.injEq] at hview
  obtain ⟨hwin, hnow⟩ := hview
  rw [countSoFar, hwin, hnow, count_told, ← countSoFar]

/-- An event that is neither severe yet nor the N-th of its window. -/
theorem fault_below {s : State} {n : Fin 36} (banks : Nat) (hsev : s.fltSevere.testBit n = false) (hlow : s.firstLower n = false)
    (hN : countSoFar s n + 1 < s.srcN n) (hc : countSoFar s n + 1 < 256) :
    (s.fault n banks).fltStatus = s.fltStatus ||| 2 ^ n.val
      ∧ (s.fault n banks).rd (Reg.fltSrcCount n) 7 0 = countSoFar s n + 1
      ∧ (s.fault n banks).rd (Reg.fltSrcCount n) 31 8 = min (2 ^ 24 - 1) (s.rd (Reg.fltSrcCount n) 31 8 + 1)
      ∧ (s.fltStatus = 0 → (s.fault n banks).rd Reg.fltFirst 6 0 = 64 + n.val)
      ∧ (s.fltStatus ≠ 0 → (s.fault n banks).get Reg.fltFirst = s.get Reg.fltFirst)
      ∧ (s.fault n banks).fltSevere = s.fltSevere := by
  have hsev' : (told s n).fltSevere.testBit n = false := by rw [fltSevere_told, hsev]
  have hN' : countSoFar (told s n) n + 1 < (told s n).srcN n := by rw [countSoFar_told, srcN_told]; exact hN
  have hget : ∀ p < 0x20200, ((told s n).countEvent n banks).get p = (told s n).get p :=
    fun p hp => get_countEvent_below banks hsev' hN' hp
  have hstatus : ((told s n).countEvent n banks).fltStatus = (told s n).fltStatus := rdq_eq (fun p _ hlt => hget p (by
    unfold Reg.fltStatus at hlt
    omega))
  have hsevere : ((told s n).countEvent n banks).fltSevere = (told s n).fltSevere := rdq_eq (fun p _ hlt => hget p (by
    unfold Reg.fltSevere at hlt
    omega))
  have hfirst := hget Reg.fltFirst (by decide)
  rw [fault_eq]
  refine ⟨hstatus.trans (fltStatus_told s n), ?_, ?_, fun hzero => ?_, fun hset => ?_, hsevere.trans (fltSevere_told s n)⟩
  · rw [countEvent_below banks hsev' hN', count_eventCounted _ _ _ (by rw [countSoFar_told]; exact hc), countSoFar_told]
  · rw [countEvent_below banks hsev' hN', total_eventCounted, count_told]
  · rw [State.rd, hfirst, ← State.rd, fltFirst_named s n hzero]
  · rw [hfirst, fltFirst_kept s n hset hlow]

theorem countReadback_other {n : Nat} (h : n ≠ 33) (s : State) (banks : Nat) : s.countReadback n banks = s :=
  if_neg h

/-! ### Windows and grace timers (R343, R344, R346) -/

/-- The count of a source forgotten with its window. -/
def windowEnded (s : State) (n : Nat) : State :=
  State.wr { s with fltWin := tdel s.fltWin n, fltBanks := tdel s.fltBanks n } (Reg.fltSrcCount n) 7 0 0

theorem exec_faultWindowExpiry (dt : Nat) (n : Fin 36) (s : State) : exec (.faultWindowExpiry dt n) s
    = if (s.start dt).rd (Reg.fltSrcCount n) 7 0 ≠ 0 ∧ !(s.start dt).fltSevere.testBit n
        ∧ tget (s.start dt).fltWin 0 n ≤ (s.start dt).now then .next (windowEnded (s.start dt) n) else .next (s.start dt) := by
  rfl

theorem windowEnded_shows (s : State) (n : Nat) : (windowEnded s n).rd (Reg.fltSrcCount n) 7 0 = 0
    ∧ OnlyRegs [Reg.fltSrcCount n] { s with fltWin := (windowEnded s n).fltWin, fltBanks := (windowEnded s n).fltBanks }
      (windowEnded s n) := by
  have hwin : (windowEnded s n).fltWin = tdel s.fltWin n := by rw [windowEnded, State.wr, State.put_fltWin]
  have hbanks : (windowEnded s n).fltBanks = tdel s.fltBanks n := by rw [windowEnded, State.wr, State.put_fltBanks]
  refine ⟨State.rd_wr_self _ (by decide) (by decide), ?_⟩
  rw [hwin, hbanks]
  exact (OnlyRegs.refl _ { s with fltWin := tdel s.fltWin n, fltBanks := tdel s.fltBanks n }).wr (by simp) 7 0 0

theorem exec_graceExpiry (dt : Nat) (n : Fin 36) (s : State) : exec (.graceExpiry dt n) s
    = if (s.start dt).graceRuns n ∧ (s.start dt).cycOf (tget (s.start dt).fltGrace 0 n) ≤ (s.start dt).cyc then
        .next ((s.start dt).escalate n) else .next (s.start dt) := by
  rfl

/-! ### Adoption (R345) -/

theorem exec_faultAdopt (dt : Nat) (rq : Requester) (value : Nat) (s : State) : exec (.faultAdopt dt rq value) s
    = (s.start dt).hostWrite rq Reg.fltAdopt (fun s => guardReserved (decide (2 ^ 36 ≤ value)) (s.doAdopt value)) := by
  rfl

/-- A source that can be adopted now. -/
abbrev adoptable (s : State) (n : Nat) : Bool :=
  s.fltSevere.testBit n && n != 11 && n != 14 && s.graceRuns n && decide (s.cyc < s.cycOf (tget s.fltGrace 0 n))

/-- One source adopted. -/
def adopted (s : State) (n : Nat) : State := { (s.orFlt Reg.fltAdopt (2 ^ n)) with fltGrace := tdel s.fltGrace n }

theorem doAdopt_eq (s : State) (v : Nat) : s.doAdopt v = s.forAll ((setBits 36 v).filter (adoptable s)) adopted := by
  rfl

/-- The grace timers in place of those that run. -/
def withGrace (g : Tbl Nat) (s : State) : State := { s with fltGrace := g }

theorem onlyRegs_withGrace (g : Tbl Nat) {os : List Nat} {s t : State} (h : OnlyRegs os s t) :
    OnlyRegs os (withGrace g s) (withGrace g t) :=
  Frame.onlyRegs_map (f := withGrace g) (fun _ _ => rfl) (fun _ => rfl) h

theorem adopted_onlyRegs (s : State) (n : Nat) :
    OnlyRegs [Reg.fltAdopt, Reg.fltAdopt + 4] (withGrace (tdel s.fltGrace n) s) (adopted s n) := by
  refine onlyRegs_withGrace (tdel s.fltGrace n) ((OnlyRegs.refl _ s).wrq 2 Reg.fltAdopt (s.rdq Reg.fltAdopt 2 ||| 2 ^ n) ?_)
  intro k hk
  interval_cases k
  · exact List.mem_cons_self
  · exact List.mem_cons_of_mem _ List.mem_cons_self

theorem fltGrace_adopted (s : State) (n : Nat) : (adopted s n).fltGrace = tdel s.fltGrace n := by
  rw [adopted]

theorem testBit_adopted (s : State) (n : Nat) {i : Nat} (h : i < 64) :
    ((adopted s n).rdq Reg.fltAdopt 2).testBit i = ((s.rdq Reg.fltAdopt 2).testBit i || decide (n = i)) := by
  have hsame : (adopted s n).rdq Reg.fltAdopt 2 = (s.orFlt Reg.fltAdopt (2 ^ n)).rdq Reg.fltAdopt 2 := by rw [adopted]; rfl
  rw [hsame, testBit_orFlt _ _ _ h, Nat.testBit_two_pow]

theorem onlyRegs_trans {os : List Nat} {s t u : State} (h : OnlyRegs os s t) (h' : OnlyRegs os t u) : OnlyRegs os s u := by
  obtain ⟨hwords, hget⟩ := h
  obtain ⟨hwords', hget'⟩ := h'
  refine ⟨?_, fun o ho => (hget' o ho).trans (hget o ho)⟩
  rw [OnlyWords] at *
  rw [hwords', hwords]

/-- The bits and the timers of the sources of a list that is adopted. -/
theorem adoptAll_shows (l : List Nat) (s : State) :
    OnlyRegs [Reg.fltAdopt, Reg.fltAdopt + 4] (withGrace (s.forAll l adopted).fltGrace s) (s.forAll l adopted)
    ∧ (∀ i < 64, ((s.forAll l adopted).rdq Reg.fltAdopt 2).testBit i = ((s.rdq Reg.fltAdopt 2).testBit i || decide (i ∈ l)))
    ∧ ∀ i, (i ∈ l → tget (s.forAll l adopted).fltGrace 0 i = 0)
      ∧ (tget s.fltGrace 0 i = 0 → tget (s.forAll l adopted).fltGrace 0 i = 0) := by
  induction l generalizing s with
  | nil => exact ⟨OnlyRegs.refl _ s, fun i _ => by simp [State.forAll], fun i => ⟨fun h => absurd h List.not_mem_nil, id⟩⟩
  | cons a l ih =>
    obtain ⟨honly, hbits, hgrace⟩ := ih (adopted s a)
    change OnlyRegs _ (withGrace ((adopted s a).forAll l adopted).fltGrace s) ((adopted s a).forAll l adopted)
      ∧ (∀ i < 64, (((adopted s a).forAll l adopted).rdq Reg.fltAdopt 2).testBit i = _)
      ∧ ∀ i, (i ∈ a :: l → tget ((adopted s a).forAll l adopted).fltGrace 0 i = 0)
        ∧ (_ → tget ((adopted s a).forAll l adopted).fltGrace 0 i = 0)
    refine ⟨?_, fun i hi => ?_, fun i => ⟨fun hmem => ?_, fun hzero => ?_⟩⟩
    · have hfirst := onlyRegs_withGrace ((adopted s a).forAll l adopted).fltGrace (adopted_onlyRegs s a)
      exact onlyRegs_trans hfirst honly
    · rw [hbits i hi, testBit_adopted s a hi, Bool.or_assoc, ← Bool.decide_or]
      exact congrArg _ (decide_eq_decide.mpr (by rw [List.mem_cons, eq_comm]))
    · rcases List.mem_cons.mp hmem with rfl | hmem
      · exact (hgrace i).2 (by rw [fltGrace_adopted, tget_tdel_self])
      · exact (hgrace i).1 hmem
    · refine (hgrace i).2 ?_
      rw [fltGrace_adopted]
      by_cases h : i = a
      · rw [h, tget_tdel_self]
      · rw [tget_tdel_ne _ _ h, hzero]

theorem mem_adoptable (s : State) (v n : Nat) :
    n ∈ (setBits 36 v).filter (adoptable s) ↔ (n < 36 ∧ v.testBit n = true) ∧ adoptable s n = true := by
  rw [List.mem_filter, setBits, List.mem_filter, List.mem_range]

/-! ### The status clear (R350) -/

theorem exec_faultStatusClear (dt : Nat) (rq : Requester) (value : Nat) (s : State) : exec (.faultStatusClear dt rq value) s
    = (s.start dt).hostWrite rq Reg.fltStatus (fun s => guardReserved (decide (2 ^ 36 ≤ value)) (s.doStatusClear value)) := by
  rfl

/-- The status bits that a write leaves. -/
def statusLeft (s : State) (v : Nat) : Nat := s.fltStatus - (s.fltStatus &&& (v &&& (2 ^ 36 - 1 - s.fltSevere)))

theorem doStatusClear_eq (s : State) (v : Nat) : s.doStatusClear v
    = if statusLeft s v = 0 then (s.wrq Reg.fltStatus 2 (statusLeft s v)).setBit Reg.fltFirst 6 false
      else s.wrq Reg.fltStatus 2 (statusLeft s v) := by
  rfl

theorem get_doStatusClear {p : Nat} (h : p ≠ Reg.fltFirst) (s : State) (v : Nat) :
    (s.doStatusClear v).get p = (s.wrq Reg.fltStatus 2 (statusLeft s v)).get p := by
  rw [doStatusClear_eq]
  split
  · exact State.get_setBit_ne _ _ _ h
  · rfl

theorem fltSevere_doStatusClear (s : State) (v : Nat) : (s.doStatusClear v).fltSevere = s.fltSevere := by
  refine rdq_eq (fun p hle hlt => ?_)
  unfold Reg.fltSevere at hle hlt
  have hfirst : p ≠ Reg.fltFirst := by
    unfold Reg.fltFirst
    omega
  rw [get_doStatusClear hfirst, State.get_wrq_ne _ _ _ _ (by unfold Reg.fltStatus; omega)]

theorem fltStatus_doStatusClear (s : State) (v : Nat) : (s.doStatusClear v).fltStatus = statusLeft s v := by
  have hsame : (s.doStatusClear v).fltStatus = (s.wrq Reg.fltStatus 2 (statusLeft s v)).fltStatus := rdq_eq (fun p _ hlt =>
    get_doStatusClear (by unfold Reg.fltStatus at hlt; unfold Reg.fltFirst; omega) s v)
  rw [hsame, State.fltStatus, State.rdq_wrq]
  exact Nat.mod_eq_of_lt (lt_of_le_of_lt (Nat.sub_le _ _) (rdq_lt s Reg.fltStatus))

theorem testBit_statusLeft (s : State) (v : Nat) (n : Fin 36) (h : s.fltSevere < 2 ^ 36) :
    (statusLeft s v).testBit n = (s.fltStatus.testBit n && !(v.testBit n && !s.fltSevere.testBit n)) := by
  have hrest : 2 ^ 36 - 1 - s.fltSevere = 2 ^ 36 - (s.fltSevere + 1) := by omega
  rw [statusLeft, Access.testBit_sub_and, Nat.testBit_and, hrest, Nat.testBit_two_pow_sub_succ h, decide_eq_true n.isLt,
    Bool.true_and]

theorem guardReserved_bad {v : Nat} (s : State) (h : 2 ^ 36 ≤ v) : guardReserved (decide (2 ^ 36 ≤ v)) s = .fault .reservedValue := by
  rw [guardReserved, decide_eq_true h, if_pos rfl]

theorem guardReserved_good {v : Nat} (s : State) (h : v < 2 ^ 36) : guardReserved (decide (2 ^ 36 ≤ v)) s = .next s := by
  rw [guardReserved, decide_eq_false (Nat.not_le.mpr h), if_neg Bool.noConfusion]

/-- Settles O49, by the branches of an event's count, of the windows and timers, and by the bits of the two writes. -/
theorem faultCommands : Obligations.FaultCommands := by
  rintro dt s v rfl
  refine ⟨fun n banks c hn hsev hlow hc hN hc256 => ?_, fun n banks => exec_faultEvent dt n banks s,
    fun n => ⟨fun h => ?_, fun h => ?_⟩, fun rq value what => ⟨fun h => ?_, fun h => ?_⟩,
    fun rq value hbig => ⟨fun h => ?_, fun h => ?_⟩, fun n => ⟨fun hcount hsev hwin => ?_, fun hruns hdue => ?_⟩,
    fun rq value w h hval hw => ?_, fun rq value h hval hsev => ?_⟩
  · subst hc
    have hn33 : n.val ≠ 33 := fun h => hn (Fin.ext h)
    rw [exec_faultEvent, countReadback_other hn33]
    exact ⟨_, rfl, fault_below _ hsev hlow hN hc256⟩
  · rw [exec_faultWindowExpiry, if_neg]
    rintro ⟨hcount, hsev, hwin⟩
    rcases h with h | h | h
    · exact hcount h
    · rw [h] at hsev
      exact Bool.noConfusion hsev
    · omega
  · rw [exec_graceExpiry, if_neg]
    rintro ⟨hruns, hdue⟩
    rcases h with h | h
    · exact absurd (h.symm.trans hruns) Bool.noConfusion
    · omega
  · rw [exec_faultAdopt, Frame.hostWrite_refused _ h]
  · rw [exec_faultStatusClear, Frame.hostWrite_refused _ h]
  · rw [exec_faultAdopt, Frame.hostWrite_allowed _ h, guardReserved_bad _ hbig]
  · rw [exec_faultStatusClear, Frame.hostWrite_allowed _ h, guardReserved_bad _ hbig]
  · rw [exec_faultWindowExpiry, if_pos ⟨hcount, by rw [hsev]; rfl, hwin⟩]
    exact ⟨_, rfl, windowEnded_shows _ _⟩
  · rw [exec_graceExpiry, if_pos ⟨hruns, hdue⟩]
  · subst hw
    rw [exec_faultAdopt, Frame.hostWrite_allowed _ h, guardReserved_good _ hval, doAdopt_eq]
    generalize (s.start dt).accessDemand rq = w
    obtain ⟨honly, hbits, hgrace⟩ := adoptAll_shows ((setBits 36 value).filter (adoptable w)) w
    refine ⟨_, rfl, honly, fun n => ⟨fun hbit hsev h11 h14 hruns hdue => ?_, fun hno => ?_⟩⟩
    · have h11 : (n.val != 11) = true := bne_iff_ne.mpr (fun h => h11 (Fin.ext h))
      have h14 : (n.val != 14) = true := bne_iff_ne.mpr (fun h => h14 (Fin.ext h))
      have hmem := (mem_adoptable w value n).mpr ⟨⟨n.isLt, hbit⟩, by
        rw [adoptable, hsev, h11, h14, hruns, decide_eq_true hdue]
        rfl⟩
      refine ⟨?_, ?_⟩
      · rw [hbits n (by omega), decide_eq_true hmem, Bool.or_true]
      · rw [State.graceRuns, (hgrace n).1 hmem]
        rfl
    · have hout : n.val ∉ (setBits 36 value).filter (adoptable w) := by
        rw [mem_adoptable, adoptable]
        simp only [Bool.and_eq_true]
        rintro ⟨⟨-, hbit⟩, ⟨⟨⟨hsev, -⟩, -⟩, -⟩, -⟩
        rcases hno with hno | hno
        · exact absurd (hno.symm.trans hbit) Bool.noConfusion
        · exact absurd (hno.symm.trans hsev) Bool.noConfusion
      rw [hbits n (by omega), decide_eq_false hout, Bool.or_false]
  · rw [exec_faultStatusClear, Frame.hostWrite_allowed _ h, guardReserved_good _ hval]
    refine ⟨_, rfl, fltSevere_doStatusClear _ _, fun n => ?_⟩
    rw [fltStatus_doStatusClear, testBit_statusLeft _ _ _ hsev]

end Sys2Proof.Proofs.Faults

/-! Proofs of the statements of chapter 14 (calibration): pending banks, deferral, runs and Season writes. -/

namespace Sys2Proof.Proofs.Calib

open Sys2Proof Sys2Proof.Machine

/-! ### Tile temperatures (R330) -/

/-- The last sixteen readings of a tile with a new one. -/
def readings (s : State) (tile : Nat) (raw : Int) : List Int :=
  (tget s.tileRaw [] tile ++ [raw]).drop ((tget s.tileRaw [] tile).length + 1 - 16)

/-- The mean of a tile's readings shown. -/
def tileShown (s : State) (tile : Nat) (l : List Int) : State :=
  State.wr { s with tileRaw := tset s.tileRaw [] tile l } (Reg.calTileTemp tile) 11 0
    (unsigned 12 (roundEven (l.foldl (· + ·) 0) l.length))

/-- The events of a reading that passes a limit. -/
def tileEvents (w : State) (raw was : Int) : State :=
  if 840 < raw ∧ was ≤ 840 then (if 800 < raw ∧ was ≤ 800 then w.fault 13 allBanks else w).fault 14 allBanks
  else if 800 < raw ∧ was ≤ 800 then w.fault 13 allBanks else w

theorem exec_tileTempSample (dt : Nat) (tile : Fin 4) (raw : Int) (s : State) : exec (.tileTempSample dt tile raw) s
    = .next ((tileEvents (tileShown (s.start dt) tile (readings (s.start dt) tile raw)) raw
        ((tget (s.start dt).tileRaw [] tile).getLastD 0)).driftCheck ((List.range 4).map (fun i => 4 * tile.val + i))) := by
  rfl

theorem tileShown_shows (s : State) (tile : Nat) (l : List Int) :
    (tileShown s tile l).rd (Reg.calTileTemp tile) 11 0 = unsigned 12 (roundEven (l.foldl (· + ·) 0) l.length)
    ∧ tget (tileShown s tile l).tileRaw [] tile = l
    ∧ OnlyRegs [Reg.calTileTemp tile] { s with tileRaw := (tileShown s tile l).tileRaw } (tileShown s tile l) := by
  have hraw : (tileShown s tile l).tileRaw = tset s.tileRaw [] tile l := by rw [tileShown, State.wr, State.put_tileRaw]
  refine ⟨?_, ?_, ?_⟩
  · rw [tileShown, State.rd_wr_self _ (by decide) (by decide)]
    exact Nat.mod_eq_of_lt (Stacks.unsigned_lt 12 _)
  · rw [hraw, tget_tset_self]
  · rw [hraw]
    exact (OnlyRegs.refl _ { s with tileRaw := tset s.tileRaw [] tile l }).wr (by simp) 11 0 _

theorem tileEvents_cool {raw was : Int} (w : State) (h : raw ≤ 800) : tileEvents w raw was = w := by
  rw [tileEvents, if_neg (by omega), if_neg (by omega)]

theorem tileEvents_stays {raw was : Int} (w : State) (h : raw ≤ 840) (hwas : 800 < was) : tileEvents w raw was = w := by
  rw [tileEvents, if_neg (by omega), if_neg (by omega)]

theorem tileEvents_hot {raw was : Int} (w : State) (hwas : 840 < was) : tileEvents w raw was = w := by
  rw [tileEvents, if_neg (by omega), if_neg (by omega)]

theorem tileEvents_warn {raw was : Int} (w : State) (h : 800 < raw) (h' : raw ≤ 840) (hwas : was ≤ 800) :
    tileEvents w raw was = w.fault 13 allBanks := by
  rw [tileEvents, if_neg (by omega), if_pos ⟨h, hwas⟩]

theorem tileEvents_crit {raw was : Int} (w : State) (h : 840 < raw) (hwas : 800 < was) (hwas' : was ≤ 840) :
    tileEvents w raw was = w.fault 14 allBanks := by
  rw [tileEvents, if_pos ⟨h, hwas'⟩, if_neg (by omega)]

theorem tileEvents_both {raw was : Int} (w : State) (h : 840 < raw) (hwas : was ≤ 800) :
    tileEvents w raw was = (w.fault 13 allBanks).fault 14 allBanks := by
  rw [tileEvents, if_pos ⟨h, by omega⟩, if_pos ⟨by omega, hwas⟩]

/-! ### Pending and deferred banks (R331, R333) -/

theorem exec_calRunRequest (dt : Nat) (rq : Requester) (value : Word) (s : State) : exec (.calRunRequest dt rq value) s
    = (s.start dt).hostWrite rq Reg.calRun (fun s => guardReserved (fld value 31 16 != 0) (s.doCalRun (fld value 15 0))) := by
  rfl

theorem exec_calDeferWrite (dt : Nat) (rq : Requester) (value : Word) (s : State) : exec (.calDeferWrite dt rq value) s
    = (s.start dt).hostWrite rq Reg.calDefer (fun s => guardReserved (fld value 31 16 != 0) (s.doCalDefer (fld value 15 0))) := by
  rfl

theorem guard_bad {n : Nat} (s : State) (h : n ≠ 0) : guardReserved (n != 0) s = .fault .reservedValue := by
  rw [guardReserved, bne_iff_ne.mpr h, if_pos rfl]

theorem guard_good {n : Nat} (s : State) (h : n = 0) : guardReserved (n != 0) s = .next s := by
  rw [h]
  rfl

theorem testBit_fld_low (value : Word) (b : Fin 16) : (fld value 15 0).testBit b = value.toNat.testBit b := by
  rw [fld, testBit_bitsOf, decide_eq_true (show b.val < 15 + 1 - 0 from b.isLt), Bool.true_and, Nat.zero_add]

theorem bankAt_setBank_self (s : State) (b : Nat) (x : BankSt) : (s.setBank b x).bankAt b = x :=
  tget_tset_self _ _ _ _

theorem bankAt_setBank_ne (s : State) {b j : Nat} (x : BankSt) (h : j ≠ b) : (s.setBank b x).bankAt j = s.bankAt j :=
  tget_tset_ne _ _ _ _ h

theorem bankAt_put (s : State) (o : Nat) (w : Word) (b : Nat) : (s.put o w).bankAt b = s.bankAt b := by
  rw [State.bankAt, State.put_banks, ← State.bankAt]

theorem bankAt_setBit (s : State) (o i : Nat) (x : Bool) (b : Nat) : (s.setBit o i x).bankAt b = s.bankAt b :=
  bankAt_put _ _ _ _

/-- A bank pending by CAL_RUN: never deferred. -/
structure ForcedPending (s : State) (b : Nat) : Prop where
  since : (s.bankAt b).calSince.isSome = true
  forced : (s.bankAt b).calForced = true
  pending : s.bit Reg.calPending b = true

theorem ForcedPending.not_deferred {s : State} {b : Nat} (h : ForcedPending s b) : s.deferred b = false := by
  rw [State.deferred, h.forced, Bool.not_true, Bool.and_false, Bool.false_and]

/-- The bank as it becomes pending. -/
def pendingBank (s : State) (b : Nat) : BankSt :=
  match (s.bankAt b).calSince with
  | some _ => s.bankAt b
  | none => { s.bankAt b with
      calSince := some s.now, deferSpent := false, deferFrom := if s.bit Reg.calDefer b then some s.now else none }

theorem becomePending_eq (s : State) (b : Nat) (forced : Bool) : s.becomePending b forced
    = (s.setBank b { pendingBank s b with calForced := (pendingBank s b).calForced || forced }).setBit Reg.calPending b true := by
  rfl

theorem calSince_pendingBank (s : State) (b : Nat) : (pendingBank s b).calSince.isSome = true := by
  rw [pendingBank]
  split
  · next h => rw [h]; rfl
  · rfl

theorem forcedPending_becomePending (s : State) {b : Nat} (h : b < 32) : ForcedPending (s.becomePending b true) b := by
  rw [becomePending_eq]
  refine ⟨?_, ?_, State.bit_setBit_self _ true h⟩
  · rw [bankAt_setBit, bankAt_setBank_self]
    exact calSince_pendingBank s b
  · rw [bankAt_setBit, bankAt_setBank_self]
    exact Bool.or_true _

/-- Another bank stays pending. -/
theorem ForcedPending.becomePending_ne {s : State} {b j : Nat} (h : ForcedPending s b) (hj : j < 32) (hne : b ≠ j) (f : Bool) :
    ForcedPending (s.becomePending j f) b := by
  have hbank : (s.becomePending j f).bankAt b = s.bankAt b := by
    rw [becomePending_eq, bankAt_setBit, bankAt_setBank_ne _ _ hne]
  refine ⟨by rw [hbank]; exact h.since, by rw [hbank]; exact h.forced, ?_⟩
  rw [becomePending_eq, State.bit_setBit_apart _ _ hj hne]
  exact h.pending

theorem ForcedPending.becomePending {s : State} {b j : Nat} (h : ForcedPending s b) (hj : j < 32) :
    ForcedPending (s.becomePending j true) b := by
  by_cases hne : b = j
  · rw [hne]
    exact forcedPending_becomePending s hj
  · exact h.becomePending_ne hj hne true

/-- One bank asked for by CAL_RUN. -/
def runAsked (s : State) (b : Nat) : State := ({ s with calAsked := addNew s.calAsked b } : State).becomePending b true

theorem doCalRun_eq (s : State) (banks : Nat) :
    s.doCalRun banks = s.forAll ((setBits 16 banks).filter (fun b => s.bankMode b != 3)) runAsked := by
  rfl

theorem ForcedPending.runAsked {s : State} {b j : Nat} (h : ForcedPending s b) (hj : j < 32) : ForcedPending (runAsked s j) b :=
  ForcedPending.becomePending (s := { s with calAsked := addNew s.calAsked j }) ⟨h.since, h.forced, h.pending⟩ hj

theorem ForcedPending.runAskedAll {b : Nat} (l : List Nat) (hl : ∀ j ∈ l, j < 32) {s : State} (h : ForcedPending s b) :
    ForcedPending (s.forAll l Calib.runAsked) b := by
  unfold State.forAll
  induction l generalizing s with
  | nil => exact h
  | cons a l ih => exact ih (fun j hj => hl j (List.mem_cons_of_mem a hj)) (h.runAsked (hl a List.mem_cons_self))

/-- Every bank of a list is pending once all were asked for. -/
theorem forcedPending_runAskedAll {b : Nat} (l : List Nat) (hl : ∀ j ∈ l, j < 32) (hb : b ∈ l) (s : State) :
    ForcedPending (s.forAll l runAsked) b := by
  induction l generalizing s with
  | nil => exact absurd hb List.not_mem_nil
  | cons a l ih =>
    have hrest : ∀ j ∈ l, j < 32 := fun j hj => hl j (List.mem_cons_of_mem a hj)
    change ForcedPending ((runAsked s a).forAll l runAsked) b
    by_cases h : b ∈ l
    · exact ih hrest h (runAsked s a)
    · obtain rfl := (List.mem_cons.mp hb).resolve_right h
      exact (forcedPending_becomePending _ (hl b List.mem_cons_self)).runAskedAll l hrest

theorem mem_calRunBanks {s : State} {value : Word} {b : Fin 16} (hbit : value.toNat.testBit b = true) (hmode : s.bankMode b ≠ 3) :
    b.val ∈ (setBits 16 (fld value 15 0)).filter (fun b => s.bankMode b != 3) :=
  List.mem_filter.mpr ⟨List.mem_filter.mpr ⟨List.mem_range.mpr b.isLt, (testBit_fld_low value b).trans hbit⟩, bne_iff_ne.mpr hmode⟩

theorem calRunBanks_lt {s : State} {v : Nat} : ∀ j ∈ (setBits 16 v).filter (fun b => s.bankMode b != 3), j < 32 := by
  intro j hj
  obtain ⟨hj, -⟩ := List.mem_filter.mp hj
  obtain ⟨hj, -⟩ := List.mem_filter.mp hj
  have := List.mem_range.mp hj
  omega

theorem not_deferred_of_bit {s : State} {b : Nat} (h : s.bit Reg.calDefer b = false) : s.deferred b = false := by
  rw [State.deferred, h, Bool.and_false, Bool.false_and, Bool.false_and]

/-- The deferrals of all banks, begun and ended by a write of CAL_DEFER. -/
def defersSet (s : State) (v : Nat) : State :=
  s.forAll (List.range 16) (fun t b =>
    if (t.bankAt b).calSince.isNone then t
    else if v.testBit b && !(s.rd Reg.calDefer 15 0).testBit b && (t.bankAt b).deferFrom.isNone then
      t.setBank b { (t.bankAt b) with deferFrom := some t.now }
    else if !v.testBit b && (s.rd Reg.calDefer 15 0).testBit b then t.setBank b { (t.bankAt b) with deferSpent := true }
    else t)

theorem doCalDefer_eq (s : State) (v : Nat) : s.doCalDefer v = (defersSet s v).wr Reg.calDefer 15 0 v := by
  rfl

theorem doCalDefer_shows (s : State) (value : Word) :
    (s.doCalDefer (fld value 15 0)).rd Reg.calDefer 15 0 = fld value 15 0
    ∧ ∀ b : Fin 16, value.toNat.testBit b = false → (s.doCalDefer (fld value 15 0)).deferred b = false := by
  have hlt : fld value 15 0 < 2 ^ 16 := bitsOf_lt _ 15 0
  have hrd : (s.doCalDefer (fld value 15 0)).rd Reg.calDefer 15 0 = fld value 15 0 := by
    rw [doCalDefer_eq, State.rd_wr_self _ (by decide) (by decide)]
    exact Nat.mod_eq_of_lt hlt
  refine ⟨hrd, fun b hb => not_deferred_of_bit ?_⟩
  have hbit : ((s.doCalDefer (fld value 15 0)).rd Reg.calDefer 15 0).testBit b
      = (s.doCalDefer (fld value 15 0)).bit Reg.calDefer b := testBit_fld_low _ b
  rw [← hbit, hrd, testBit_fld_low, hb]

theorem exec_calDeferExpiry (dt : Nat) (b : Fin 16) (s : State) : exec (.calDeferExpiry dt b) s = execCalDeferExpiry dt b s := by
  rfl

/-- The deferral of a bank that is spent: pending from now on. -/
def deferSpent (s : State) (b : Nat) : State := s.setBank b { (s.bankAt b) with deferSpent := true, calSince := some s.now }

theorem calDeferExpiry_none {dt : Nat} {b : Fin 16} {s : State} (h : ((s.start dt).bankAt b).deferFrom = none) :
    exec (.calDeferExpiry dt b) s = .next (s.start dt) := by
  rw [exec_calDeferExpiry]
  unfold execCalDeferExpiry
  dsimp only
  rw [h]

theorem calDeferExpiry_some {dt t : Nat} {b : Fin 16} {s : State} (h : ((s.start dt).bankAt b).deferFrom = some t) :
    exec (.calDeferExpiry dt b) s = if (s.start dt).deferred b ∧ t + (s.start dt).deferMax ≤ (s.start dt).now then
      .next (deferSpent (s.start dt) b) else .next (s.start dt) := by
  rw [exec_calDeferExpiry]
  unfold execCalDeferExpiry deferSpent
  dsimp only
  split
  · next t' ht =>
    obtain rfl := Option.some.inj (h.symm.trans ht)
    rfl
  · next hn => exact absurd (h.symm.trans hn) nofun

theorem deferSpent_shows (s : State) (b : Nat) : (deferSpent s b).deferred b = false
    ∧ ((deferSpent s b).bankAt b).calSince = some s.now ∧ (deferSpent s b).mem = s.mem := by
  have hbank : (deferSpent s b).bankAt b = { (s.bankAt b) with deferSpent := true, calSince := some s.now } :=
    bankAt_setBank_self _ _ _
  rw [State.deferred, hbank]
  exact ⟨Bool.and_false _, rfl, rfl⟩

/-! ### The start of a run (R332, R335) -/

/-- The last run lies 100 µs back. -/
def rested (s : State) : Bool := match s.calLast with | none => true | some t => decide (t + 100 * usec ≤ s.now)

/-- A run may start now. -/
abbrev runMayStart (s : State) : Bool :=
  s.calRun.isNone && rested s && !s.runBarred && decide (s.power ≤ 1) && s.move == .steady

theorem rested_iff (s : State) : rested s = true ↔ ∀ t, s.calLast = some t → t + 100 * usec ≤ s.now := by
  rw [rested]
  cases h : s.calLast with
  | none => exact ⟨fun _ _ => nofun, fun _ => rfl⟩
  | some t => exact ⟨fun hd t' ht => Option.some.inj ht ▸ of_decide_eq_true hd, fun hall => decide_eq_true (hall t rfl)⟩

theorem runMayStart_iff (s : State) : runMayStart s = true ↔ s.calRun = none
    ∧ (∀ t, s.calLast = some t → t + 100 * usec ≤ s.now) ∧ s.runBarred = false ∧ s.power ≤ 1 ∧ s.move = .steady := by
  rw [runMayStart, Bool.and_eq_true, Bool.and_eq_true, Bool.and_eq_true, Bool.and_eq_true, rested_iff, Option.isNone_iff_eq_none,
    Bool.not_eq_true', decide_eq_true_eq, beq_iff_eq, and_assoc, and_assoc, and_assoc]

/-- The bank taken out of the pending ones and its run begun. -/
def runBegun (s : State) (b : Nat) : State :=
  ((((({ s with calRun := some ⟨b, s.now, (s.bankAt b).calSince.getD s.now, (s.bankAt b).calForced⟩ } : State).setBank b
    { (s.bankAt b) with calibrating := true, calSince := none, calForced := false, deferFrom := none }).setBit
    Reg.calPending b false).setBit Reg.calStatus 5 true).wr Reg.calStatus 3 0 b)

theorem exec_calRunStart (dt : Nat) (s : State) : exec (.calRunStart dt) s = execCalRunStart dt s := by
  rfl

theorem calRunStart_waits {dt : Nat} {s : State} (h : runMayStart (s.start dt) = false) :
    exec (.calRunStart dt) s = .next (s.start dt) := by
  rw [exec_calRunStart]
  unfold execCalRunStart
  exact if_neg (ne_true_of_eq_false h)

theorem calRunStart_none {dt : Nat} {s : State} (h : (s.start dt).nextRun = none) :
    exec (.calRunStart dt) s = .next (s.start dt) := by
  rw [exec_calRunStart]
  unfold execCalRunStart
  dsimp only
  rw [h, ite_self]

theorem calRunStart_some {dt b : Nat} {s : State} (hmay : runMayStart (s.start dt) = true) (h : (s.start dt).nextRun = some b) :
    exec (.calRunStart dt) s = .next (((runBegun (s.start dt) b).resetUnits b).pauseAll
      (((runBegun (s.start dt) b).resetUnits b).groupsOf b) 3) := by
  rw [exec_calRunStart]
  unfold execCalRunStart
  refine (if_pos hmay).trans ?_
  rw [h]
  rfl

theorem runBegun_shows (s : State) (b : Nat) :
    (runBegun s b).calRun = some ⟨b, s.now, (s.bankAt b).calSince.getD s.now, (s.bankAt b).calForced⟩
    ∧ (runBegun s b).rd Reg.calStatus 3 0 = b % 16 ∧ (runBegun s b).bit Reg.calStatus 5 = true
    ∧ ((runBegun s b).bankAt b).calibrating = true := by
  refine ⟨?_, State.rd_wr_self _ (by decide) (by decide), ?_, ?_⟩
  · rw [runBegun, State.wr, State.put_calRun, State.setBit, State.wr, State.put_calRun, State.setBit, State.wr, State.put_calRun]
    rfl
  · rw [runBegun, State.bit_wr_apart _ (by decide) (by decide) (by decide), State.bit_setBit_self _ _ (by decide)]
  · rw [runBegun, State.wr, bankAt_put, bankAt_setBit, bankAt_setBit, bankAt_setBank_self]

/-! ### The end of a run (R335, R336) -/

/-- A measured trim, clamped to its field. -/
def measuredTrim (trims : List (List Int)) (k j : Nat) : Int := clampVal j ((trims.getD k []).getD j (nominalVal j))

/-- The trims and corrections of a run at work in its bank. -/
def trimsTaken (s : State) (b : Nat) (trims corr : List (List Int)) : State :=
  ((s.keepTrims b).forAll (List.range 128) (fun s k => s.putTrim b k (measuredTrim trims k 0) (measuredTrim trims k 1)
    (measuredTrim trims k 2) (measuredTrim trims k 3))).putCorr b
    ((List.range 128).map (fun i => (i, (corr.getD (i / 8) []).getD (i % 8) 0)))

/-- A run accepted. -/
def runAccepted (s : State) (b : Nat) (trims corr : List (List Int)) : State :=
  ((trimsTaken s b trims corr).wr (Reg.calBankStatus b) 11 7 17).countFld (Reg.calBankStatus b) 31 16 1

/-- A run rejected with its cause. -/
def runRejected (s : State) (b cause : Nat) : State :=
  (((s.setBit (Reg.calBankStatus b) 3 true).wr (Reg.calBankStatus b) 6 4 cause).inc Reg.calRejects).fault 18 (maskBit b)

/-- The temperature and the instant of a run. -/
def runStamped (s : State) (b : Nat) (temp : Int) (at_ : Nat) : State :=
  (s.wr (Reg.calBankRefTemp b) 11 0 (unsigned 12 temp)).wrEpoch (Reg.calBankLastAt b) at_

/-- A bank that no longer waits for a run asked for by CAL_RUN. -/
def askServed (s : State) (b : Nat) : State := { s with calAsked := s.calAsked.filter (fun x => x != b) }

theorem exec_calRunEnd (dt : Nat) (rcal tone : Bool) (trims corr : List (List Int)) (s : State) :
    exec (.calRunEnd dt rcal tone trims corr) s = execCalRunEnd dt rcal tone trims corr s := by
  rfl

theorem calRunEnd_none {dt : Nat} {s : State} (rcal tone : Bool) (trims corr : List (List Int)) (h : (s.start dt).calRun = none) :
    exec (.calRunEnd dt rcal tone trims corr) s = .next (s.start dt) := by
  rw [exec_calRunEnd]
  unfold execCalRunEnd
  dsimp only
  rw [h]

theorem calRunEnd_some {dt : Nat} {s : State} {r : CalRun} (rcal tone : Bool) (trims corr : List (List Int))
    (h : (s.start dt).calRun = some r) : exec (.calRunEnd dt rcal tone trims corr) s
      = if r.startAt + runTicks ((s.start dt).bankMode r.bank) ≤ (s.start dt).now then
          .next ((askServed (runStamped (if (s.start dt).rejectCause r.bank rcal tone trims = 0
            then runAccepted (s.start dt) r.bank trims corr
            else runRejected (s.start dt) r.bank ((s.start dt).rejectCause r.bank rcal tone trims))
            r.bank ((s.start dt).tileTemp r.bank) (s.start dt).ep) r.bank).closeRun r.bank).reloadDone
        else .next (s.start dt) := by
  rw [exec_calRunEnd]
  unfold execCalRunEnd
  dsimp only
  split
  · next hn => exact absurd (h.symm.trans hn) nofun
  · next r' hr =>
    obtain rfl := Option.some.inj (h.symm.trans hr)
    rfl

theorem get_putTrim {p : Nat} (h : p < 0x100000) (s : State) (b k : Nat) (off gain skew thr : Int) :
    (s.putTrim b k off gain skew thr).get p = s.get p := by
  have hA : p ≠ Reg.bnkTrimA b k := by
    unfold Reg.bnkTrimA
    omega
  have hB : p ≠ Reg.bnkTrimB b k := by
    unfold Reg.bnkTrimB
    omega
  rw [State.putTrim, State.get_put_ne _ _ hB, State.get_put_ne _ _ hA]

theorem get_trimsTaken {p : Nat} (h : p < 0x100000) (s : State) (b : Nat) (trims corr : List (List Int)) :
    (trimsTaken s b trims corr).get p = s.get p := by
  have hcorr : ∀ t l, (State.putCorr t b l).get p = t.get p := fun t l => by
    refine Frame.foldl_keep (p := fun s => s.get p) ?_ l t
    exact fun _ _ => rfl
  rw [trimsTaken, hcorr]
  exact Frame.forAll_keep (p := fun s => s.get p) (fun s k => get_putTrim h s b k _ _ _ _) _ _

theorem runAccepted_shows (s : State) {b : Nat} (h : b < 16) (trims corr : List (List Int)) :
    (runAccepted s b trims corr).rd (Reg.calBankStatus b) 31 16 = min (2 ^ 16 - 1) (s.rd (Reg.calBankStatus b) 31 16 + 1)
    ∧ (runAccepted s b trims corr).bit (Reg.calBankStatus b) 7 = true := by
  have hp : Reg.calBankStatus b < 0x100000 := by
    unfold Reg.calBankStatus
    omega
  refine ⟨?_, ?_⟩
  · rw [runAccepted, Words.rd_countFld_self _ _ (by decide) (by decide), State.rd_wr_apart _ (by decide) (by decide) (by decide),
      State.rd, get_trimsTaken hp, ← State.rd]
  · have h17 : ((runAccepted s b trims corr).rd (Reg.calBankStatus b) 11 7).testBit 0 = true := by
      rw [runAccepted, Words.rd_countFld_apart _ _ (by decide) (by decide) (by decide), State.rd_wr_self _ (by decide) (by decide)]
      rfl
    rwa [State.rd, fld, testBit_bitsOf, Bool.and_eq_true, and_iff_right (by decide)] at h17

theorem runStamped_shows (s : State) (b : Nat) (temp : Int) (at_ : Nat) :
    (runStamped s b temp at_).rd (Reg.calBankRefTemp b) 11 0 = unsigned 12 temp
    ∧ (runStamped s b temp at_).get (Reg.calBankStatus b) = s.get (Reg.calBankStatus b)
    ∧ (runStamped s b temp at_).rdq (Reg.calBankLastAt b) 3 = at_ % 2 ^ 72 := by
  have hne : Reg.calBankStatus b ≠ Reg.calBankRefTemp b := by
    unfold Reg.calBankStatus Reg.calBankRefTemp
    omega
  have href : Reg.calBankRefTemp b < Reg.calBankLastAt b := by
    unfold Reg.calBankRefTemp Reg.calBankLastAt
    omega
  have hst : Reg.calBankStatus b < Reg.calBankLastAt b := by
    unfold Reg.calBankStatus Reg.calBankLastAt
    omega
  refine ⟨?_, ?_, ?_⟩
  · rw [runStamped, State.wrEpoch, State.rd, State.get_wrq_ne _ _ _ _ (.inl href), ← State.rd,
      State.rd_wr_self _ (by decide) (by decide)]
    exact Nat.mod_eq_of_lt (Stacks.unsigned_lt 12 temp)
  · rw [runStamped, State.wrEpoch, State.get_wrq_ne _ _ _ _ (.inl hst), State.wr, State.get_put_ne _ _ hne]
  · rw [runStamped, State.wrEpoch, State.rdq_wrq]
    exact Nat.mod_eq_of_lt (lt_trans (Nat.mod_lt _ (by decide)) (by decide))

theorem get_askServed (s : State) (b p : Nat) : (askServed s b).get p = s.get p := rfl

theorem rdq_askServed (s : State) (b o n : Nat) : (askServed s b).rdq o n = s.rdq o n :=
  State.rdq_congr n o (fun _ _ => get_askServed s b _)

/-- What an accepted run leaves before the run is closed. -/
theorem accepted_shows (s : State) {b : Nat} (h : b < 16) (trims corr : List (List Int)) (temp : Int) (at_ : Nat) :
    (askServed (runStamped (runAccepted s b trims corr) b temp at_) b).rd (Reg.calBankRefTemp b) 11 0 = unsigned 12 temp
    ∧ (askServed (runStamped (runAccepted s b trims corr) b temp at_) b).rd (Reg.calBankStatus b) 31 16
      = min (2 ^ 16 - 1) (s.rd (Reg.calBankStatus b) 31 16 + 1)
    ∧ (askServed (runStamped (runAccepted s b trims corr) b temp at_) b).bit (Reg.calBankStatus b) 7 = true
    ∧ (askServed (runStamped (runAccepted s b trims corr) b temp at_) b).rdq (Reg.calBankLastAt b) 3 = at_ % 2 ^ 72 := by
  obtain ⟨href, hst, hat⟩ := runStamped_shows (runAccepted s b trims corr) b temp at_
  obtain ⟨hcount, hbit⟩ := runAccepted_shows s h trims corr
  refine ⟨?_, ?_, ?_, ?_⟩
  · rw [State.rd, get_askServed, ← State.rd, href]
  · rw [State.rd, get_askServed, hst, ← State.rd, hcount]
  · rw [State.bit, get_askServed, hst, ← State.bit, hbit]
  · rw [rdq_askServed, hat]

/-! ### Season writes (R340) -/

theorem exec_season (dt : Nat) (erase : Bool) (s : State) :
    exec (if erase then .seasonErase dt else .seasonSave dt) s = .next ((s.start dt).doSeason erase) := by
  cases erase with
  | true => rfl
  | false => rfl

/-- The tag of a SAVE: the mean of the reference temperatures of the enabled banks. -/
def seasonTag (s : State) : Int :=
  let temps := ((List.range 16).filter (fun b => s.bankMode b != 3)).map (fun b => signed 12 (s.rd (Reg.calBankRefTemp b) 11 0))
  if temps.isEmpty then 0 else roundEven (temps.foldl (· + ·) 0) temps.length

/-- A Season write begun. -/
def seasonBegun (s : State) (j : SeasonJob) : State := State.setBit { s with seasonJob := some j } Reg.calStatus 6 true

theorem doSeason_refused {s : State} {erase : Bool} (h : s.seasonRefused (s.rd Reg.calCtl 6 4) erase = true) :
    s.doSeason erase = s.setBit Reg.calStatus 7 true :=
  if_pos h

theorem doSeason_begins {s : State} {erase : Bool} (h : s.seasonRefused (s.rd Reg.calCtl 6 4) erase = false) :
    s.doSeason erase = seasonBegun s ⟨s.rd Reg.calCtl 6 4, erase, unsigned 12 (seasonTag s),
      if erase then [] else s.seasonVals (s.rd Reg.calCtl 6 4) (seasonTag s)⟩ :=
  if_neg (ne_true_of_eq_false h)

theorem seasonBegun_shows (s : State) (j : SeasonJob) : (seasonBegun s j).bit Reg.calStatus 6 = true
    ∧ (seasonBegun s j).seasonJob = some j
    ∧ OnlyRegs [Reg.calStatus] { s with seasonJob := (seasonBegun s j).seasonJob } (seasonBegun s j) := by
  have hjob : (seasonBegun s j).seasonJob = some j := by rw [seasonBegun, State.setBit, State.wr, State.put_seasonJob]
  refine ⟨State.bit_setBit_self _ true (by decide), hjob, ?_⟩
  rw [hjob]
  exact (OnlyRegs.refl _ { s with seasonJob := some j }).setBit (by simp) 6 true

theorem exec_seasonWriteComplete (dt : Nat) (x : Verdict) (s : State) :
    exec (.seasonWriteComplete dt x) s = execSeasonWriteComplete dt x s := by
  rfl

theorem seasonWriteComplete_none {dt : Nat} {s : State} (x : Verdict) (h : (s.start dt).seasonJob = none) :
    exec (.seasonWriteComplete dt x) s = .next (s.start dt) := by
  rw [exec_seasonWriteComplete]
  unfold execSeasonWriteComplete
  dsimp only
  rw [h]

/-- A Season write given up. -/
def seasonGivenUp (s : State) : State :=
  (State.setBit { s with seasonJob := none } Reg.calStatus 6 false).setBit Reg.calStatus 8 true

theorem seasonWriteComplete_fail {dt : Nat} {s : State} {j : SeasonJob} (h : (s.start dt).seasonJob = some j) :
    exec (.seasonWriteComplete dt .fail) s = .next (seasonGivenUp (s.start dt)) := by
  have hgive : (s.start dt).abandonSeason = seasonGivenUp (s.start dt) := if_pos (by rw [h]; rfl)
  rw [exec_seasonWriteComplete]
  unfold execSeasonWriteComplete
  dsimp only
  rw [h, ← hgive]

theorem seasonGivenUp_shows (s : State) : (seasonGivenUp s).seasonJob = none ∧ (seasonGivenUp s).bit Reg.calStatus 8 = true
    ∧ (seasonGivenUp s).bit Reg.calStatus 6 = false ∧ OnlyRegs [Reg.calStatus] { s with seasonJob := none } (seasonGivenUp s) := by
  refine ⟨?_, State.bit_setBit_self _ true (by decide), ?_,
    ((OnlyRegs.refl _ { s with seasonJob := none }).setBit (by simp) 6 false).setBit (by simp) 8 true⟩
  · rw [seasonGivenUp, State.setBit, State.wr, State.put_seasonJob, State.setBit, State.wr, State.put_seasonJob]
  · rw [seasonGivenUp, State.bit_setBit_apart _ _ (by decide) (by decide), State.bit_setBit_self _ false (by decide)]

/-- The values of a Season in its slot, their register words still to follow. -/
def seasonStored (s : State) (j : SeasonJob) : State := { s with seasonJob := none, seasons := tset s.seasons [] j.slot j.vals }

/-- The words of a slot whose write has ended. -/
def slotShown (s : State) (j : SeasonJob) : State :=
  ((if j.erase then (s.setBit Reg.calStatus 6 false).countFld (Reg.calSeason j.slot) 31 16 1
    else ((s.setBit Reg.calStatus 6 false).countFld (Reg.calSeason j.slot) 31 16 1).wr (Reg.calSeason j.slot) 15 4 j.tag).setBit
    (Reg.calSeason j.slot) 0 (!j.erase)).setBit Reg.calStatus (16 + j.slot) (!j.erase)

theorem seasonWriteComplete_pass {dt : Nat} {s : State} {j : SeasonJob} (h : (s.start dt).seasonJob = some j) :
    exec (.seasonWriteComplete dt .pass) s = .next (slotShown (seasonStored (s.start dt) j) j) := by
  rw [exec_seasonWriteComplete]
  unfold execSeasonWriteComplete
  dsimp only
  rw [h]
  rfl

theorem calSeason_ne (k : Nat) : Reg.calSeason k ≠ Reg.calStatus := by
  unfold Reg.calSeason Reg.calStatus
  omega

theorem onlyRegs_slotShown (s : State) (j : SeasonJob) : OnlyRegs [Reg.calStatus, Reg.calSeason j.slot] s (slotShown s j) := by
  have hcount := ((OnlyRegs.refl [Reg.calStatus, Reg.calSeason j.slot] s).setBit (o := Reg.calStatus) (by simp) 6 false).countFld
    (o := Reg.calSeason j.slot) (by simp) 31 16 1
  rw [slotShown]
  split
  · exact (hcount.setBit (by simp) 0 _).setBit (by simp) _ _
  · exact ((hcount.wr (by simp) 15 4 _).setBit (by simp) 0 _).setBit (by simp) _ _

theorem slotShown_status (s : State) {j : SeasonJob} (h : j.slot < 8) : (slotShown s j).bit Reg.calStatus 6 = false
    ∧ (slotShown s j).bit Reg.calStatus (16 + j.slot) = !j.erase := by
  refine ⟨?_, State.bit_setBit_self _ _ (by omega)⟩
  have hcount : ((s.setBit Reg.calStatus 6 false).countFld (Reg.calSeason j.slot) 31 16 1).bit Reg.calStatus 6 = false := by
    rw [State.countFld, State.bit_wr_ne _ _ _ _ _ (calSeason_ne _).symm, State.bit_setBit_self _ false (by decide)]
  rw [slotShown, State.bit_setBit_apart _ _ (by omega) (by omega), State.bit_setBit_ne _ _ _ _ (calSeason_ne _).symm]
  split
  · exact hcount
  · rw [State.bit_wr_ne _ _ _ _ _ (calSeason_ne _).symm, hcount]

theorem slotShown_slot (s : State) (j : SeasonJob) : (slotShown s j).bit (Reg.calSeason j.slot) 0 = (!j.erase)
    ∧ (j.erase = false → (slotShown s j).rd (Reg.calSeason j.slot) 15 4 = j.tag % 2 ^ 12) := by
  refine ⟨?_, fun hsave => ?_⟩
  · rw [slotShown, State.bit_setBit_ne _ _ _ _ (calSeason_ne _), State.bit_setBit_self _ _ (by decide)]
  · rw [slotShown, if_neg (ne_true_of_eq_false hsave), State.rd_setBit_ne _ _ _ _ _ (calSeason_ne _),
      State.rd_setBit_apart _ _ (by decide) (by decide), State.rd_wr_self _ (by decide) (by decide)]

theorem stored_slotShown (s : State) (j : SeasonJob) : (slotShown s j).seasonJob = s.seasonJob
    ∧ (slotShown s j).seasons = s.seasons := by
  have h := onlyRegs_slotShown s j
  exact ⟨Frame.onlyRegs_keep (p := State.seasonJob) (fun _ _ => rfl) h, Frame.onlyRegs_keep (p := State.seasons) (fun _ _ => rfl) h⟩

/-- Settles O48, by the readings of a tile, the banks that wait and the run or Season write in progress. -/
theorem calibration : Obligations.Calibration := by
  refine ⟨?_, ?_⟩
  · rintro dt s v rfl
    refine ⟨fun tile raw m l hl hm => ?_, fun rq value what => ⟨fun h => ?_, fun h => ?_⟩, fun rq value hbad => ⟨fun h => ?_, fun h => ?_⟩,
      fun rq value h hgood => ?_, fun rq value h hgood => ?_, fun b t0 hfrom hdef hdue => ?_, fun b h => ?_, fun h => ?_,
      fun b hrun hlast hbar hpower hmove hnext => ?_⟩
    · subst hl hm
      rw [exec_tileTempSample]
      refine ⟨tileShown (s.start dt) tile (readings (s.start dt) tile raw), fun h => ?_, fun h h' hwas => ?_, fun h h' hwas => ?_,
        fun h hwas hwas' => ?_, fun h hwas => ?_, fun h hwas => ?_, tileShown_shows _ _ _⟩
      · rw [tileEvents_cool _ h]
      · rw [tileEvents_warn _ h h' hwas]
      · rw [tileEvents_stays _ h' hwas]
      · rw [tileEvents_crit _ h hwas hwas']
      · rw [tileEvents_hot _ hwas]
      · rw [tileEvents_both _ h hwas]
    · rw [exec_calRunRequest, Frame.hostWrite_refused _ h]
    · rw [exec_calDeferWrite, Frame.hostWrite_refused _ h]
    · rw [exec_calRunRequest, Frame.hostWrite_allowed _ h, guard_bad _ hbad]
    · rw [exec_calDeferWrite, Frame.hostWrite_allowed _ h, guard_bad _ hbad]
    · rw [exec_calRunRequest, Frame.hostWrite_allowed _ h, guard_good _ hgood, doCalRun_eq]
      refine ⟨_, rfl, fun b hbit hmode => ?_⟩
      have hpend := forcedPending_runAskedAll _ calRunBanks_lt (mem_calRunBanks hbit hmode) ((s.start dt).accessDemand rq)
      exact ⟨hpend.since, hpend.forced, hpend.pending, hpend.not_deferred⟩
    · rw [exec_calDeferWrite, Frame.hostWrite_allowed _ h, guard_good _ hgood]
      exact ⟨_, rfl, doCalDefer_shows _ value⟩
    · rw [calDeferExpiry_some hfrom, if_pos ⟨hdef, hdue⟩]
      exact ⟨_, rfl, deferSpent_shows _ b⟩
    · cases hfrom : ((s.start dt).bankAt b).deferFrom with
      | none => exact calDeferExpiry_none hfrom
      | some t =>
        rw [calDeferExpiry_some hfrom, if_neg]
        rintro ⟨hdef, hdue⟩
        rcases h with h | h | ⟨t0, ht0, hlt⟩
        · exact absurd (h.symm.trans hfrom) nofun
        · exact absurd (h.symm.trans hdef) Bool.noConfusion
        · obtain rfl := Option.some.inj (ht0.symm.trans hfrom)
          omega
    · by_cases hmay : runMayStart (s.start dt) = true
      · obtain ⟨hrun, hlast, hbar, hpower, hmove⟩ := (runMayStart_iff _).mp hmay
        rcases h with h | ⟨t0, ht0, hlt⟩ | h | h | h | h
        · rw [hrun] at h
          exact absurd h Bool.noConfusion
        · exact absurd (hlast t0 ht0) (Nat.not_le.mpr hlt)
        · exact absurd (h.symm.trans hbar) Bool.noConfusion
        · omega
        · exact absurd hmove h
        · exact calRunStart_none h
      · exact calRunStart_waits (Bool.eq_false_iff.mpr hmay)
    · rw [calRunStart_some ((runMayStart_iff _).mpr ⟨hrun, hlast, hbar, hpower, hmove⟩) hnext]
      exact ⟨_, rfl, _, rfl, runBegun_shows _ b⟩
  · rintro dt s v rfl
    refine ⟨fun r rcal tone trims corr cause hr hb hdue hcause => ⟨fun hzero => ?_, fun hne w hw => ?_⟩,
      fun rcal tone trims corr h => ?_, fun slot hslot erase => ⟨fun h => ?_, fun h => ?_⟩, fun h x => seasonWriteComplete_none x h,
      fun j hj hslot => ⟨?_, ?_⟩⟩
    · rw [calRunEnd_some _ _ _ _ hr, if_pos hdue, ← hcause, if_pos hzero]
      exact ⟨_, rfl, accepted_shows _ hb trims corr _ _⟩
    · rw [calRunEnd_some _ _ _ _ hr, if_pos hdue, ← hcause, if_neg hne, hw]
      rfl
    · cases hr : (s.start dt).calRun with
      | none => exact calRunEnd_none _ _ _ _ hr
      | some r =>
        rw [calRunEnd_some _ _ _ _ hr, if_neg]
        intro hdue
        rcases h with h | ⟨r', hr', hlt⟩
        · exact absurd (h.symm.trans hr) nofun
        · obtain rfl := Option.some.inj (hr'.symm.trans hr)
          omega
    · subst hslot
      rw [exec_season, doSeason_refused h]
      exact ⟨_, rfl, (OnlyRegs.refl _ _).setBit (by simp) _ _, State.bit_setBit_self _ true (by decide)⟩
    · subst hslot
      rw [exec_season, doSeason_begins h]
      obtain ⟨hbit, hjob, honly⟩ := seasonBegun_shows (s.start dt) ⟨(s.start dt).rd Reg.calCtl 6 4, erase,
        unsigned 12 (seasonTag (s.start dt)),
        if erase then [] else (s.start dt).seasonVals ((s.start dt).rd Reg.calCtl 6 4) (seasonTag (s.start dt))⟩
      exact ⟨_, rfl, hbit, ⟨_, hjob, rfl, rfl⟩, honly⟩
    · rw [seasonWriteComplete_pass hj]
      generalize s.start dt = v at *
      obtain ⟨hjob, hvals⟩ := stored_slotShown (seasonStored v j) j
      obtain ⟨hbusy, hvalid⟩ := slotShown_status (seasonStored v j) hslot
      obtain ⟨hslotValid, htag⟩ := slotShown_slot (seasonStored v j) j
      have honly := onlyRegs_slotShown (seasonStored v j) j
      refine ⟨_, rfl, hjob, hvals, hbusy, hvalid, hslotValid, htag, ?_⟩
      rw [hvals]
      exact honly
    · rw [seasonWriteComplete_fail hj]
      exact ⟨_, rfl, seasonGivenUp_shows _⟩

end Sys2Proof.Proofs.Calib
